-- ==== Sys2Proof/Syntax.lean ====
section
/-! DEFINITION. The commands: one constructor per row of the operations table. -/

namespace Sys2Proof

/-- The four requesters of BAR0 (00 "Register conventions"), numbered as 03 Table XLT-14 numbers them. -/
inductive Req where
  | host
  | fec0
  | fec1
  | monitor
deriving DecidableEq, Repr

/-- Named fields of PCIe configuration space, whose offsets the spec does not fix (02 R29 to R32, R34): identification, BARs 0 to 5, the Device Serial Number,
Max Payload Size and Max Read Request Size by their codes, the ECRC enables of AER (bit 0 generation, bit 1 checking), the MSI-X control word (bit 1
Enable, bit 0 Function Mask), the power state. -/
inductive CfgField where
  | vendorId
  | deviceId
  | classCode
  | headerType
  | subVendorId
  | subId
  | bar (n : Nat)
  | serial
  | maxPayload
  | maxReadReq
  | ecrc
  | msix
  | power
deriving DecidableEq, Repr

/-- Accesses that the operations table has no row for (00 R9, R10, R15; 02 R29 to R34): a read of n bytes of BAR0 by the host or a control core, a write of
BAR0 in bytes by the host, configuration requests, and a change of the link's power management state. -/
inductive HostEvt where
  | read (req : Req) (off n : Nat)
  | write (off : Nat) (data : List (Option Byte))
  | cfgRead (f : CfgField)
  | cfgWrite (f : CfgField) (v : Nat)
  | linkPm (pm : BitVec 2)
deriving DecidableEq, Repr

/-- How a control core's firmware takes an exception (17 R438, R439): the size of the first push of its handler, if it makes one, and whether the handler of
the exception before has returned, which clears STATUS.EXC (notes/assumptions/45.md). -/
structure FecHandler where
  push : Option Nat := none
  back : Bool := false
deriving DecidableEq, Repr

/-- A requester's number. -/
def Req.num : Req → Nat
  | .host => 0
  | .fec0 => 1
  | .fec1 => 2
  | .monitor => 3

/-- A pod: the guard core's, or the one in a slot of a shader core. -/
inductive PodRef where
  | guard
  | slot (core slot : Nat)
deriving DecidableEq, Repr

/-- The fields of an instruction word but its opcode, and its extension word (09 Tables ISA-2, ISA-3). -/
structure Ins where
  dist : BitVec 4 := 0
  yield : Bool := false
  inc : BitVec 3 := 7
  wait : BitVec 6 := 0
  pe : Bool := false
  pn : Bool := false
  preg : BitVec 3 := 0
  mod : BitVec 5 := 0
  src2 : BitVec 8 := 0
  src1 : BitVec 8 := 0
  src0 : BitVec 8 := 0
  dst : BitVec 8 := 0
  ext : BitVec 64 := 0
deriving DecidableEq, Repr

/-- MOD, SRC0, SRC1, SRC2 and DST as naturals. -/
def Ins.m (i : Ins) : Nat := i.mod.toNat
def Ins.a (i : Ins) : Nat := i.src0.toNat
def Ins.b (i : Ins) : Nat := i.src1.toNat
def Ins.c (i : Ins) : Nat := i.src2.toNat
def Ins.d (i : Ins) : Nat := i.dst.toNat

/-- A command: one constructor per row of the operations table, named after its mnemonic; the rule that each comment names says what
the operands are. Those with operands come first: compiled code has room for few more of them. -/
inductive Instr where
  /-- REGISTER_WRITE (R5) -/
  | registerWrite (req : Req) (off : Nat) (val : W32) (full : Bool)
  /-- FLIT_RETRY (R19) -/
  | flitRetry (link : Nat) (again : Bool)
  /-- LINK_LOST (R19) -/
  | linkLost (link : Nat)
  /-- LINE_REQUEST_COMPLETE (R209) -/
  | lineRequestComplete (core id : Nat) (ev1 ev2 ue ce : List Nat)
  /-- D_STATE_CHANGE (R32): bits 1 and 0 of the power state that the host writes -/
  | dStateChange (hi lo : Bool)
  /-- LINK_UP (R504) -/
  | linkUp (speed width advH advD : Nat)
  /-- AP_ENABLE (R45) -/
  | apEnable (req : Req) (val : W32)
  /-- AP_CTRL_UPDATE (R46) -/
  | apCtrlUpdate (req : Req) (val : W32)
  /-- AP_DISABLE (R51) -/
  | apDisable (req : Req) (val : W32)
  /-- AP_WRITE (R47) -/
  | apWrite (off rid : Nat) (data : List (Option Byte))
  /-- BAR2_READ (R49) -/
  | bar2Read (off n : Nat)
  /-- AP_CONSUMED_WRITE (R53) -/
  | apConsumedWrite (req : Req) (val : W32)
  /-- AP_WM_WRITE (R51) -/
  | apWmWrite (req : Req) (val : W32)
  /-- MWIN_READ (R54) -/
  | mwinRead (w n : Nat)
  /-- MWIN_WRITE (R54) -/
  | mwinWrite (w : Nat) (data : List (Option Byte))
  /-- WALK_COMPLETE (R59) -/
  | walkComplete (k : Nat)
  /-- INV_GO (R88) -/
  | invGo (req : Req)
  /-- HOLDER_INV_ACK (R89) -/
  | holderInvAck (h : Nat)
  /-- BCAST_REQUEST (R91) -/
  | bcastRequest (req : Req) (val : W32)
  /-- CTX_LOST_CLEAR (R99) -/
  | ctxLostClear (req : Req) (ix : BitVec 3) (val : W32)
  /-- RING_PUSH (R104) -/
  | ringPush (req : Req) (val : W32)
  /-- ABORT_STOPPED (R111) -/
  | abortStopped (seq : Nat)
  /-- PACKET_FETCH (R122) -/
  | packetFetch (q : Nat)
  /-- NOP_PACKET (R124) -/
  | nopPacket (q : Nat)
  /-- DISPATCH (R200) -/
  | dispatch (q : Nat)
  /-- RENDER_PASS (R304) -/
  | renderPass (q : Nat)
  /-- COPY (R351) -/
  | copyPacket (q : Nat)
  /-- SEM_SIGNAL (R142) -/
  | semSignal (q : Nat)
  /-- SEM_WAIT (R124) -/
  | semWait (q : Nat)
  /-- FENCE_POLL (R124) -/
  | fencePoll (q : Nat)
  /-- PACKET_COMPLETE (R126) -/
  | packetComplete (q : Nat)
  /-- QUEUE_DOORBELL (R128) -/
  | queueDoorbell (req : Req) (q : BitVec 8) (tail : W32)
  /-- QUEUE_ENABLE (R131) -/
  | queueEnable (req : Req)
  /-- QUEUE_DISABLE (R132) -/
  | queueDisable (req : Req)
  /-- QUEUE_RESET (R133) -/
  | queueReset (req : Req) (en : Bool)
  /-- GRAPH_DOORBELL (R136) -/
  | graphDoorbell (req : Req) (ctx : BitVec 8) (val : W32)
  /-- PACKET_TIMEOUT (R148) -/
  | packetTimeout (id : Nat)
  /-- DRAIN_WINDOW_END (R147) -/
  | drainWindowEnd (timeout : Bool) (n : Nat)
  /-- BW_WINDOW_END (R155) -/
  | bwWindowEnd (mask : BitVec 8)
  /-- PARTITION_ENABLE (R156) -/
  | partitionEnable (req : Req) (val : W32)
  /-- PARTITION_DISABLE (R159) -/
  | partitionDisable (req : Req) (val : W32)
  /-- PARTITION_QUIESCE (R157) -/
  | partitionQuiesce (req : Req) (val : W32)
  /-- PARTITION_RESUME (R157) -/
  | partitionResume (req : Req) (val : W32)
  /-- PARTITION_RESIZE (R158) -/
  | partitionResize (req : Req) (ce : Bool) (val : W32)
  /-- PARTITION_FEC_SELECT (R158) -/
  | partitionFecSelect (req : Req) (val : W32)
  /-- RING_ENABLE (R160) -/
  | ringEnable (req : Req) (val : W32)
  /-- RING_DISABLE (R160) -/
  | ringDisable (req : Req) (val : W32)
  /-- ADMIT (R163) -/
  | admitCtx (req : Req) (ctx : BitVec 8)
  /-- EVICT (R164) -/
  | evict (req : Req) (ctx : BitVec 8)
  /-- SCHED_COMMIT (R167) -/
  | schedCommit (req : Req) (val : W32)
  /-- SCHED_RUN (R168) -/
  | schedRun (req : Req) (switch : Bool)
  /-- SCHED_STOP (R168) -/
  | schedStop (req : Req) (switch : Bool)
  /-- SCHED_SWITCH (R169) -/
  | schedSwitch (req : Req) (run : Bool)
  /-- FAV_WRITE (R169) -/
  | favWrite (req : Req) (val : W32)
  /-- SELFTEST_REQ (R171) -/
  | selftestReq (req : Req) (val : W32)
  /-- CE_SELFTEST_END (R172) -/
  | ceSelftestEnd (n : Nat) (pass : Bool)
  /-- CORE_SELFTEST (R173) -/
  | coreSelftest (req : Req) (core : BitVec 5)
  /-- CORE_SELFTEST_END (R173) -/
  | coreSelftestEnd (pass : Bool)
  /-- FENCE_CORE (R174) -/
  | fenceCore (req : Req) (core : BitVec 5)
  /-- UNFENCE_CORE (R174) -/
  | unfenceCore (req : Req) (core : BitVec 5)
  /-- GD_WAKE (R186) -/
  | gdWake (req : Req) (wake : Bool)
  /-- VERDICT (R264) -/
  | verdict (r : PodRef) (x : Ins)
  /-- GUARD_SELFTEST_END (R196) -/
  | guardSelftestEnd (pass : Bool)
  /-- WORKGROUP_LAUNCH (R202) -/
  | workgroupLaunch (pkt core : Nat) (slots : List Nat)
  /-- POD_RETIRE (R204) -/
  | podRetire (core slot : Nat)
  /-- TRAP_ENTRY (R216) -/
  | trapEntry (core slot : Nat)
  /-- NOP (R241) -/
  | nop (r : PodRef) (x : Ins)
  /-- EXIT (R211) -/
  | exit (r : PodRef) (x : Ins)
  /-- TRAP (R241) -/
  | trap (r : PodRef) (x : Ins)
  /-- TRET (R217) -/
  | tret (r : PodRef) (x : Ins)
  /-- BAR (R242) -/
  | bar (r : PodRef) (x : Ins)
  /-- FENCE (R255) -/
  | fence (r : PodRef) (x : Ins)
  /-- JMP (R243) -/
  | jmp (r : PodRef) (x : Ins)
  /-- JZ (R243) -/
  | jz (r : PodRef) (x : Ins)
  /-- JNZ (R243) -/
  | jnz (r : PodRef) (x : Ins)
  /-- CALL (R243) -/
  | call (r : PodRef) (x : Ins)
  /-- JMPR (R243) -/
  | jmpr (r : PodRef) (x : Ins)
  /-- SADD (R244) -/
  | sadd (r : PodRef) (x : Ins)
  /-- SSUB (R244) -/
  | ssub (r : PodRef) (x : Ins)
  /-- SMUL (R244) -/
  | smul (r : PodRef) (x : Ins)
  /-- SAND (R244) -/
  | sand (r : PodRef) (x : Ins)
  /-- SOR (R244) -/
  | sor (r : PodRef) (x : Ins)
  /-- SXOR (R244) -/
  | sxor (r : PodRef) (x : Ins)
  /-- SANDN (R244) -/
  | sandn (r : PodRef) (x : Ins)
  /-- SSHL (R244) -/
  | sshl (r : PodRef) (x : Ins)
  /-- SSHR (R244) -/
  | sshr (r : PodRef) (x : Ins)
  /-- SMIN (R244) -/
  | smin (r : PodRef) (x : Ins)
  /-- SMAX (R244) -/
  | smax (r : PodRef) (x : Ins)
  /-- SMOV (R244) -/
  | smov (r : PodRef) (x : Ins)
  /-- SPOPC (R244) -/
  | spopc (r : PodRef) (x : Ins)
  /-- SFFS (R244) -/
  | sffs (r : PodRef) (x : Ins)
  /-- SCMP (R245) -/
  | scmp (r : PodRef) (x : Ins)
  /-- SADD64 (R244) -/
  | sadd64 (r : PodRef) (x : Ins)
  /-- VIADD (R246) -/
  | viadd (r : PodRef) (x : Ins)
  /-- VISUB (R246) -/
  | visub (r : PodRef) (x : Ins)
  /-- VIMUL (R246) -/
  | vimul (r : PodRef) (x : Ins)
  /-- VIMULHI (R246) -/
  | vimulhi (r : PodRef) (x : Ins)
  /-- VIMAD (R246) -/
  | vimad (r : PodRef) (x : Ins)
  /-- VAND (R246) -/
  | vand (r : PodRef) (x : Ins)
  /-- VOR (R246) -/
  | vor (r : PodRef) (x : Ins)
  /-- VXOR (R246) -/
  | vxor (r : PodRef) (x : Ins)
  /-- VSHL (R246) -/
  | vshl (r : PodRef) (x : Ins)
  /-- VSHR (R246) -/
  | vshr (r : PodRef) (x : Ins)
  /-- VIMIN (R246) -/
  | vimin (r : PodRef) (x : Ins)
  /-- VIMAX (R246) -/
  | vimax (r : PodRef) (x : Ins)
  /-- VMOV (R246) -/
  | vmov (r : PodRef) (x : Ins)
  /-- VSEL (R246) -/
  | vsel (r : PodRef) (x : Ins)
  /-- VICMP (R246) -/
  | vicmp (r : PodRef) (x : Ins)
  /-- VSHFL (R246) -/
  | vshfl (r : PodRef) (x : Ins)
  /-- VFADD (R247) -/
  | vfadd (r : PodRef) (x : Ins)
  /-- VFMUL (R247) -/
  | vfmul (r : PodRef) (x : Ins)
  /-- VFFMA (R247) -/
  | vffma (r : PodRef) (x : Ins)
  /-- VFMIN (R278) -/
  | vfmin (r : PodRef) (x : Ins)
  /-- VFMAX (R278) -/
  | vfmax (r : PodRef) (x : Ins)
  /-- VFDIV (R247) -/
  | vfdiv (r : PodRef) (x : Ins)
  /-- VFSQRT (R247) -/
  | vfsqrt (r : PodRef) (x : Ins)
  /-- VFRCP (R278) -/
  | vfrcp (r : PodRef) (x : Ins)
  /-- VFRSQ (R278) -/
  | vfrsq (r : PodRef) (x : Ins)
  /-- VFCMP (R278) -/
  | vfcmp (r : PodRef) (x : Ins)
  /-- VFEXP2 (R278) -/
  | vfexp2 (r : PodRef) (x : Ins)
  /-- VFLOG2 (R278) -/
  | vflog2 (r : PodRef) (x : Ins)
  /-- VHFMA (R277) -/
  | vhfma (r : PodRef) (x : Ins)
  /-- VBFMA (R277) -/
  | vbfma (r : PodRef) (x : Ins)
  /-- VDADD (R247) -/
  | vdadd (r : PodRef) (x : Ins)
  /-- VDMUL (R247) -/
  | vdmul (r : PodRef) (x : Ins)
  /-- VDFMA (R247) -/
  | vdfma (r : PodRef) (x : Ins)
  /-- VDDIV (R247) -/
  | vddiv (r : PodRef) (x : Ins)
  /-- VDSQRT (R247) -/
  | vdsqrt (r : PodRef) (x : Ins)
  /-- VDCMP (R278) -/
  | vdcmp (r : PodRef) (x : Ins)
  /-- VCVT (R280) -/
  | vcvt (r : PodRef) (x : Ins)
  /-- VBFE (R248) -/
  | vbfe (r : PodRef) (x : Ins)
  /-- VBFI (R248) -/
  | vbfi (r : PodRef) (x : Ins)
  /-- VPOPC (R248) -/
  | vpopc (r : PodRef) (x : Ins)
  /-- LD (R250) -/
  | ld (r : PodRef) (x : Ins)
  /-- ST (R250) -/
  | st (r : PodRef) (x : Ins)
  /-- SLD (R251) -/
  | sld (r : PodRef) (x : Ins)
  /-- SST (R251) -/
  | sst (r : PodRef) (x : Ins)
  /-- LDT (R250) -/
  | ldt (r : PodRef) (x : Ins)
  /-- STT (R250) -/
  | stt (r : PodRef) (x : Ins)
  /-- ATOMT (R253) -/
  | atomt (r : PodRef) (x : Ins)
  /-- ATOM (R253) -/
  | atom (r : PodRef) (x : Ins)
  /-- LKWAIT (R213) -/
  | lkwait (r : PodRef) (x : Ins)
  /-- UNLK (R214) -/
  | unlk (r : PodRef) (x : Ins)
  /-- TMMA (R256) -/
  | tmma (r : PodRef) (x : Ins)
  /-- TCVT (R292) -/
  | tcvt (r : PodRef) (x : Ins)
  /-- TENSOR_START (R289) -/
  | tensorStart (core : Nat)
  /-- TENSOR_COMPLETE (R289) -/
  | tensorComplete (core : Nat)
  /-- PIXLOCK (R258) -/
  | pixlock (r : PodRef) (x : Ins)
  /-- PIXUNLK (R258) -/
  | pixunlk (r : PodRef) (x : Ins)
  /-- RAYQ (R259) -/
  | rayq (r : PodRef) (x : Ins)
  /-- BATCH_BEGIN (R300) -/
  | batchBegin (pkt : Nat)
  /-- BATCH_COMMIT (R301) -/
  | batchCommit (pkt : Nat)
  /-- TILE_DISPATCH (R311) -/
  | tileDispatch (cluster : Nat)
  /-- PIXEL_POD_LAUNCH (R318) -/
  | pixelPodLaunch (core set slot : Nat)
  /-- TILE_WRITE_OUT (R319) -/
  | tileWriteOut (core set : Nat)
  /-- NODE_READ_COMPLETE (R331) -/
  | nodeReadComplete (unit query : Nat)
  /-- NODE_LIMIT (R337) -/
  | nodeLimit (unit query : Nat)
  /-- COPY_DESCRIPTOR (R353) -/
  | copyDescriptor (pkt : Nat)
  /-- FILL_DESCRIPTOR (R353) -/
  | fillDescriptor (pkt : Nat)
  /-- DESCRIPTOR_COMPLETE (R352) -/
  | descriptorComplete (pkt k : Nat)
  /-- CLEAR_MAXE (R348) -/
  | clearMaxe (req : Req)
  /-- CRC_ENABLE (R368) -/
  | crcEnable (req : Req) (val : W32)
  /-- CRC_DISABLE (R368) -/
  | crcDisable (req : Req) (val : W32)
  /-- CRC_FRAME_COMPARE (R365) -/
  | crcFrameCompare (unit : Nat)
  /-- NODE_ID_WRITE (R373) -/
  | nodeIdWrite (req : Req) (val : W32)
  /-- ROUTE_COMMIT (R374) -/
  | routeCommit (req : Req) (val : W32)
  /-- NODE_LEAVE (R375) -/
  | nodeLeave (req : Req) (val : W32)
  /-- WINDOW_COMMIT (R383) -/
  | windowCommit (req : Req) (val : W32)
  /-- GROUP_COMMIT (R385) -/
  | groupCommit (req : Req) (val : W32)
  /-- PORT_ENABLE (R371) -/
  | portEnable (req : Req)
  /-- PORT_UP (R371) -/
  | portUp (port : Nat)
  /-- PORT_DOWN (R380) -/
  | portDown (port : Nat)
  /-- READ_REQ (R381) -/
  | fabReadReq (port src id addr n : Nat)
  /-- WRITE (R381) -/
  | fabWrite (port src id addr : Nat) (data : List (Option Byte))
  /-- ATOMIC (R378) -/
  | fabAtomic (port src id addr op : Nat) (wide ftz : Bool) (a : List (Nat × Nat)) (b : List Nat)
  /-- READ_RSP (R377) -/
  | fabReadRsp (port id : Nat) (data : List Byte)
  /-- WRITE_ACK (R377) -/
  | fabWriteAck (port id : Nat)
  /-- ATOMIC_RSP (R378) -/
  | fabAtomicRsp (port id : Nat) (data : List Byte)
  /-- REFUSE (R382) -/
  | fabRefuse (port id detail : Nat)
  /-- ABORT (R387) -/
  | fabAbort (port group cause origin seq : Nat)
  /-- RESPONSE_TIMEOUT (R380) -/
  | fabResponseTimeout (id : Nat)
  /-- PP_REQUEST (R394) -/
  | ppRequest (req : Req) (val : W32)
  /-- PMBUS_FAIL (R493) -/
  | pmbusFail (mode : Bool)
  /-- DOMAIN_TO_ON (R400) -/
  | domainToOn (req : Req) (domain : BitVec 5)
  /-- DOMAIN_TO_RET (R403) -/
  | domainToRet (req : Req) (domain : BitVec 5)
  /-- DOMAIN_TO_OFF (R404) -/
  | domainToOff (req : Req) (domain : BitVec 5)
  /-- DOMAIN_TRANSITION_DONE (R400) -/
  | domainTransitionDone (linkUp : Bool)
  /-- AOREG_LP (R408) -/
  | aoregLp (req : Req) (arm : Bool)
  /-- AOREG_NORMAL (R408) -/
  | aoregNormal (req : Req) (arm : Bool)
  /-- AOREG_LP_ARM (R409) -/
  | aoregLpArm (req : Req) (lp arm : Bool)
  /-- THERMAL_SAMPLE (R413) -/
  | thermalSample (raws : List (BitVec 16))
  /-- THERMAL_LEVEL_UP (R414) -/
  | thermalLevelUp (sensor thr : Nat)
  /-- THERMAL_LEVEL_DOWN (R414) -/
  | thermalLevelDown (sensor thr : Nat)
  /-- AO_POWER_ON (R421) -/
  | aoPowerOn (perst : Bool) (bad : List Nat)
  /-- PERST_RELEASE (R424) -/
  | perstRelease (bad : List Nat)
  /-- RST_CTRL_WARM (R422) -/
  | rstCtrlWarm (req : Req)
  /-- RST_CTRL_COLD (R421) -/
  | rstCtrlCold (req : Req) (bad : List Nat)
  /-- RESET_N_RELEASE (R427) -/
  | resetNRelease (bad : List Nat)
  /-- BOOT_IMAGE_LOADED (R430) -/
  | bootImageLoaded (n : Nat)
  /-- PARTITION_RESET (R425) -/
  | partitionReset (req : Req) (val : W32)
  /-- ENGINE_RESET (R426) -/
  | engineReset (req : Req) (target : BitVec 8)
  /-- FEC_LOAD (R436) -/
  | fecLoad (req : Req) (target : BitVec 8)
  /-- FEC_RESTART (R437) -/
  | fecRestart (n : Nat) (req : Option Req)
  /-- FEC_EXCEPTION (R438) -/
  | fecException (n pc status sp : Nat) (handler : FecHandler)
  /-- FEC_WATCHDOG_EXPIRY (R440) -/
  | fecWatchdogExpiry (n : Nat)
  /-- WATCHDOG_KICK (R440) -/
  | watchdogKick (req : Req)
  /-- FLASH_RELEASE (R432) -/
  | flashRelease (req : Req) (val : W32)
  /-- GET_VERSION (R434) -/
  | getVersion (msg : List Byte)
  /-- GET_CAPABILITIES (R434) -/
  | getCapabilities (msg : List Byte)
  /-- NEGOTIATE_ALGORITHMS (R434) -/
  | negotiateAlgorithms (msg : List Byte)
  /-- GET_DIGESTS (R434) -/
  | getDigests (msg : List Byte)
  /-- GET_CERTIFICATE (R434) -/
  | getCertificate (msg : List Byte)
  /-- CHALLENGE (R434) -/
  | challenge (msg : List Byte)
  /-- GET_MEASUREMENTS (R434) -/
  | getMeasurements (msg : List Byte)
  /-- PSD_POR (R441) -/
  | psdPor (straps : BitVec 4)
  /-- CONVERSION_CYCLE (R443) -/
  | conversionCycle (cells ntc : List Nat)
  /-- OV_LEVEL_CHANGE (R445) -/
  | ovLevelChange (cell : Nat)
  /-- UV_LEVEL_CHANGE (R445) -/
  | uvLevelChange (cell : Nat)
  /-- NTC_LEVEL_CHANGE (R446) -/
  | ntcLevelChange (m : Nat) (ut : Bool)
  /-- PBAL_MINUTE (R449) -/
  | pbalMinute (cells : BitVec 16)
  /-- REFCHK_END (R453) -/
  | refchkEnd (errs : List Int)
  /-- STATUS_FRAME (R459) -/
  | statusFrame (err : List Byte)
  /-- PSD_WRITE (R456) -/
  | psdWrite (err : List Byte)
  /-- CLEAR_FAULT (R447) -/
  | clearFault (err : List Byte)
  /-- REFCHK_NOW (R453) -/
  | refchkNow (err : List Byte)
  /-- CLEAR_POR (R441) -/
  | clearPor (err : List Byte)
  /-- KEEPALIVE (R457) -/
  | keepalive (err : List Byte)
  /-- BROWNOUT (R457) -/
  | brownout (err : List Byte)
  /-- PSD_CMD (R458) -/
  | psdCmd (req : Req) (val : W32)
  /-- ACK (R458) -/
  | psdAck (err : List Byte)
  /-- HOST_CREDIT_RETURN (R467) -/
  | hostCreditReturn (h d : Nat)
  /-- UART_CHAR (R479) -/
  | uartChar (ch : Byte) (framing : Bool)
  /-- MON_HOST_LOCK (R487) -/
  | monHostLock (req : Req)
  /-- PERF_RUN (R489) -/
  | perfRun (req : Req) (run : Bool)
  /-- PERF_CLEAR (R489) -/
  | perfClear (req : Req) (run : Bool)
  /-- DOE_DISCOVERY (R29) -/
  | doeDiscovery (index : Nat)
  /-- FUNCTION_LEVEL_RESET (R32) -/
  | functionLevelReset
  /-- L1_EXIT (R33) -/
  | l1Exit
  /-- LINK_DOWN (R419) -/
  | linkDown
  /-- HOT_RESET (R423) -/
  | hotReset
  /-- BCAST_SERVE (R91) -/
  | bcastServe
  /-- BCAST_DONE (R91) -/
  | bcastDone
  /-- LAUNCH_SLOT (R139) -/
  | launchSlot
  /-- STRAND_POST (R140) -/
  | strandPost
  /-- SCHED_ENTRY_START (R168) -/
  | schedEntryStart
  /-- GUARD_CLK_LOSS (R179) -/
  | guardClkLoss
  /-- GLOAD (R181) -/
  | gload
  /-- GSTORE (R181) -/
  | gstore
  /-- ARM (R182) -/
  | armPacket
  /-- DISARM (R181) -/
  | disarmPacket
  /-- SELFTEST (R195) -/
  | guardSelftest
  /-- ARM_COMPLETE (R183) -/
  | armComplete
  /-- BOUND_EXCEEDED (R187) -/
  | boundExceeded
  /-- STALE_EXPIRY (R191) -/
  | staleExpiry
  /-- RESTART_END (R194) -/
  | restartEnd
  /-- PRIMITIVE_BIN (R307) -/
  | primitiveBin
  /-- FLUSH_RESUME (R309) -/
  | flushResume
  /-- PASS_PAGE_RETURN (R310) -/
  | passPageReturn
  /-- ROOT_UNLOCK (R392) -/
  | rootUnlock
  /-- ROOT_RELOCK (R392) -/
  | rootRelock
  /-- PMBUS_WRITE_COMPLETE (R395) -/
  | pmbusWriteComplete
  /-- VSETTLE_EXPIRY (R395) -/
  | vsettleExpiry
  /-- TIER_SOURCE_LOST (R398) -/
  | tierSourceLost
  /-- AOREG_SWITCH_DONE (R408) -/
  | aoregSwitchDone
  /-- AOREG_BROWNOUT (R410) -/
  | aoregBrownout
  /-- WAKE_TIMER_EXPIRY (R411) -/
  | wakeTimerExpiry
  /-- CRIT_SHUTDOWN_DONE (R417) -/
  | critShutdownDone
  /-- PERST_ASSERT (R420) -/
  | perstAssert
  /-- RESET_N_PRESS (R427) -/
  | resetNPress
  /-- RESET_N_GLITCH (R427) -/
  | resetNGlitch
  /-- RESET_ESCALATE (R428) -/
  | resetEscalate
  /-- RESET_STUCK (R429) -/
  | resetStuck
  /-- SETTLING_END (R444) -/
  | settlingEnd
  /-- TIER_DECISION (R452) -/
  | tierDecision
  /-- REFCHK_START (R453) -/
  | refchkStart
  /-- HIO_SILENT (R457) -/
  | hioSilent
  /-- DOWN_LANE_IDLE (R457) -/
  | downLaneIdle
  /-- COMMAND_SEND (R458) -/
  | commandSend
  /-- ACK_TIMEOUT (R458) -/
  | psdAckTimeout
  /-- BREAK (R478) -/
  | uartBreak
  /-- BAUD_REVERT (R477) -/
  | baudRevert
  /-- CHALLENGE_EXPIRY (R485) -/
  | challengeExpiry
  /-- ID (R479) -/
  | monId
  /-- STAT (R479) -/
  | monStat
  /-- RD (R481) -/
  | monRd
  /-- WR (R481) -/
  | monWr
  /-- MRD (R483) -/
  | monMrd
  /-- MWR (R483) -/
  | monMwr
  /-- MEAS (R479) -/
  | monMeas
  /-- LOG (R479) -/
  | monLog
  /-- PLOG (R479) -/
  | monPlog
  /-- CNT (R481) -/
  | monCnt
  /-- CHAL (R485) -/
  | monChal
  /-- UNLOCK (R486) -/
  | monUnlock
  /-- LOCK (R487) -/
  | monLock
  /-- BAUD (R477) -/
  | monBaud
  /-- ECHO (R479) -/
  | monEcho
  /-- REFCLK_LOSS (R497) -/
  | refclkLoss
  /-- REFCLK_RETURN (R497) -/
  | refclkReturn
  /-- AO_SUPPLY_LOSS (R490) -/
  | aoSupplyLoss
  /-- PSD_VPACK_LOSS (R448) -/
  | psdVpackLoss
  /-- PROMPT_END (R480) -/
  | promptEnd
deriving DecidableEq, Repr

end Sys2Proof
end

