-- ==== Sys2Proof/Decode.lean ====
section
/-! DEFINITION. The operations table gives its rows no bits: commands reach the block from outside as operations, so no word spells one. -/

namespace Sys2Proof

/-- The command that a word spells by the bits of the operations table: the table gives no row any bits. -/
def decodeTableWord (_nbits _w : Nat) : Option Instr := none

end Sys2Proof
end

