-- ==== Sys2Proof/Config.lean ====
section
/-! DEFINITION. What the spec leaves open and the model leaves free: constants without a body, so that nothing in Lean can
evaluate them (notes/assumptions/4.md, 7.md). -/

namespace Sys2Proof

/-- The k-th free value drawn (an arbitrary natural number; the step that draws it narrows it to the width it needs). -/
opaque Config.freeValue : Nat → Nat

/-- The byte that address `a` of a memory reads as after its contents were lost for the k-th time (16 R403, R404). -/
opaque Config.lostByte : Nat → Nat → Byte

/-- What a class T operation (10 R278, Table NUM-8) returns for its operand bits where the spec bounds it only by an error. -/
opaque Config.approx : Nat → Nat → Nat

/-- CORE and SLOT of the guard pod's lock tags (08 Table COR-6 numbers shader cores and their slots only). -/
opaque Config.guardTag : Nat

/-- The signature that the device's fused key gives a message (17 R434). -/
opaque Config.spdmSign : List Byte → List Byte

/-- The certificate chain of slot 0 (17 R434). -/
opaque Config.certChain : List Byte

/-- What the host and the control cores ask in the n-th cycle of AO_CLK that the operations table has no row for (notes/assumptions/67.md). -/
opaque Config.outside : Nat → List HostEvt

/-- Tatrijan's PCI vendor identifier (02 R30). -/
opaque Config.vendorId : BitVec 16

/-- The Relaxed Ordering attribute of a general write to host memory (02 R38 fixes that of markers). -/
opaque Config.relaxedOrdering : Bool

/-- Cycles of CORE_CLK by which the k-th instruction of pod `uid` comes later than its issue distance lets it (08 R205, R206): what the other pods, and waits
for operations of variable latency, cost it (notes/assumptions/19.md). -/
opaque Config.issueDelay : Nat → Nat → Nat

/-- Granules of DRAM, and 64-bit words of guard SRAM, in which an uncorrectable or a correctable error comes up in the n-th cycle of AO_CLK (01 R20, R21; 07
R176). -/
opaque Config.dramErrors : Nat → List Nat
opaque Config.dramSingles : Nat → List Nat
opaque Config.sramErrors : Nat → List Nat
opaque Config.sramSingles : Nat → List Nat

/-- N, where -N is the VOUT_MODE exponent of the core regulator (21 R491, R492). -/
opaque Config.voutExponent : Nat

/-- The strap balls PMB_ADDR[2:0], fixed by the board (21 R492, R498). -/
opaque Config.pmbAddr : BitVec 3

/-- Does a signature verify for an unlock key over a challenge (20 R486)? -/
opaque Config.unlockVerify : Nat → List Byte → List Byte → Bool

end Sys2Proof
end

