-- ==== Sys2Proof/Machine/Bits.lean ====
section
/-! DEFINITION. Bit fields, byte order and list helpers (00 R1, R2). Addresses and counts are naturals; registers are words. -/

namespace Sys2Proof.Machine

/-- Bits hi down to lo of a natural (00 R2). -/
def bits (w hi lo : Nat) : Nat := (w >>> lo) % 2 ^ (hi + 1 - lo)

/-- Bits hi down to lo of a word. -/
def fld (w : BitVec n) (hi lo : Nat) : Nat := bits w.toNat hi lo

/-- One bit of a word. -/
def bitOf (w : BitVec n) (i : Nat) : Bool := w.toNat.testBit i

/-- Replace bits hi down to lo of a natural. -/
def putBits (w hi lo v : Nat) : Nat :=
  w - bits w hi lo * 2 ^ lo + v % 2 ^ (hi + 1 - lo) * 2 ^ lo

/-- Replace bits hi down to lo of a word. -/
def putFld (w : BitVec n) (hi lo v : Nat) : BitVec n := BitVec.ofNat n (putBits w.toNat hi lo v)

/-- A Bool as a bit. -/
def b2n (b : Bool) : Nat := if b then 1 else 0

/-- The low n bytes of a natural, least significant first (00 R1). -/
def leBytes : Nat → Nat → List Byte
  | 0, _ => []
  | n + 1, v => BitVec.ofNat 8 v :: leBytes n (v / 256)

/-- The natural that bytes spell, least significant first (00 R1). -/
def leNat : List Byte → Nat
  | [] => 0
  | b :: bs => b.toNat + 256 * leNat bs

/-- The little-endian field of `n` bytes at offset `o` of a structure. -/
def fieldAt (bs : List Byte) (o n : Nat) : Nat := leNat ((bs.drop o).take n)

/-- A w-bit natural read as a two's-complement integer. -/
def asInt (w v : Nat) : Int := if v % 2 ^ w < 2 ^ (w - 1) then (v % 2 ^ w : Nat) else (v % 2 ^ w : Nat) - (2 ^ w : Nat)

/-- The low w bits of an integer. -/
def ofInt (w : Nat) (i : Int) : Nat := (i % (2 ^ w : Nat)).toNat

/-- Modular sum of naturals of w bits. -/
def addMod (w a b : Nat) : Nat := (a + b) % 2 ^ w

/-- Modular difference of naturals of w bits. -/
def subMod (w a b : Nat) : Nat := (a + 2 ^ w - b % 2 ^ w) % 2 ^ w

/-- Is a a multiple of n (0 is a multiple of everything)? -/
def aligned (a n : Nat) : Bool := a % n == 0

/-- Number of one bits among the low n. -/
def popCount : Nat → Nat → Nat
  | 0, _ => 0
  | n + 1, w => w % 2 + popCount n (w / 2)

/-- The set bits among the low n, ascending. -/
def setBits (n w : Nat) : List Nat := (List.range n).filter w.testBit

/-- The mask of a list of bit numbers. -/
def maskOf (l : List Nat) : Nat := l.foldl (fun m i => m ||| 1 <<< i) 0

/-- Set or clear one bit of a natural. -/
def setBit (w i : Nat) (b : Bool) : Nat := if w.testBit i then (if b then w else w - 2 ^ i) else (if b then w + 2 ^ i else w)

/-- Element i of a list, or a default. -/
def at? (l : List α) (i : Nat) (d : α) : α := l.getD i d

/-- Change element i of a list. -/
def upd (l : List α) (i : Nat) (f : α → α) : List α := l.modify i f

/-- Ceiling division. -/
def ceilDiv (a b : Nat) : Nat := (a + b - 1) / b

/-- Least number of bits that hold n (0 for 0). -/
def bitLen (n : Nat) : Nat := if n = 0 then 0 else n.log2 + 1

/-- Do [a, a+n) and [b, b+m) meet? -/
def overlaps (a n b m : Nat) : Bool := a < b + m && b < a + n

/-- A sorted association list, read with a default for the keys that it does not list. -/
def storeGet (d : Nat → α) : List (Nat × α) → Nat → α
  | [], i => d i
  | (k, v) :: t, i => if i = k then v else storeGet d t i

/-- Write to a sorted association list in its canonical form: `rm i v` says that v at i is not listed. -/
def storePut (rm : Nat → α → Bool) (i : Nat) (v : α) : List (Nat × α) → List (Nat × α)
  | [] => if rm i v then [] else [(i, v)]
  | (k, w) :: t =>
    if i < k then (if rm i v then (k, w) :: t else (i, v) :: (k, w) :: t)
    else if i = k then (if rm i v then t else (i, v) :: t)
    else (k, w) :: storePut rm i v t

/-- The canonical form: keys strictly rising, and no entry that need not be listed. -/
def storeWf (rm : Nat → α → Bool) : List (Nat × α) → Bool
  | [] => true
  | (k, v) :: t => !rm k v && (match t with | [] => true | (k', _) :: _ => k < k') && storeWf rm t

end Sys2Proof.Machine
end

