-- ==== Sys2Proof/Machine/Mem.lean ====
section
/-! DEFINITION. A byte memory as plain data: the bytes that differ from what an unlisted address reads as, in one canonical form.
An unlisted address reads 0 (DESIGN CHOICE, notes/assumptions/7.md); after the contents of a range were lost it reads a free byte. -/

namespace Sys2Proof.Machine

/-- A range whose contents were lost, with the number of the loss. -/
structure Lost where
  lo : Nat
  len : Nat
  epoch : Nat
deriving DecidableEq, Repr

/-- A byte memory. -/
structure Mem where
  cells : List Host.Cell := []
  lost : List Lost := []
deriving DecidableEq, Repr

/-- The loss that an address's contents were last subject to. -/
def Mem.lossOf (m : Mem) (a : Nat) : Option Lost := m.lost.find? (fun l => l.lo ≤ a && a < l.lo + l.len)

/-- What an unlisted address reads as. -/
def Mem.unlisted (m : Mem) (a : Nat) : Byte :=
  match m.lossOf a with
  | some l => Config.lostByte l.epoch a
  | none => 0

/-- A byte that need not be listed: 0 at an address whose contents were never lost. -/
def Mem.plain (m : Mem) (a : Nat) (v : Byte) : Bool := v == 0 && (m.lossOf a).isNone

/-- The byte at an address. -/
def Mem.get (m : Mem) (a : Nat) : Byte := storeGet m.unlisted m.cells a

/-- Write one byte. -/
def Mem.put (m : Mem) (a : Nat) (v : Byte) : Mem := { m with cells := storePut m.plain a v m.cells }

/-- Read n bytes. -/
def Mem.read (m : Mem) (a n : Nat) : List Byte := (List.range n).map (fun i => m.get (a + i))

/-- Write bytes from an address upward. -/
def Mem.write (m : Mem) (a : Nat) : List Byte → Mem
  | [] => m
  | b :: bs => (m.put a b).write (a + 1) bs

/-- The contents of a range are lost. -/
def Mem.lose (m : Mem) (lo len epoch : Nat) : Mem :=
  { cells := m.cells.filter (fun c => !(lo ≤ c.1 && c.1 < lo + len)),
    lost := ⟨lo, len, epoch⟩ :: m.lost.filter (fun l => !(lo ≤ l.lo && l.lo + l.len ≤ lo + len)) }

/-- The parts of a lost range that lie outside [lo, lo+len). -/
def Lost.cut (l : Lost) (lo len : Nat) : List Lost :=
  if l.lo + l.len ≤ lo || lo + len ≤ l.lo then [l]
  else (if l.lo < lo then [⟨l.lo, lo - l.lo, l.epoch⟩] else []) ++
    (if lo + len < l.lo + l.len then [⟨lo + len, l.lo + l.len - (lo + len), l.epoch⟩] else [])

/-- Set a range to zero (a range that hardware clears). -/
def Mem.clear (m : Mem) (lo len : Nat) : Mem :=
  { cells := m.cells.filter (fun c => !(lo ≤ c.1 && c.1 < lo + len)), lost := m.lost.flatMap (·.cut lo len) }

/-- The canonical form of a memory. -/
def Mem.wf (m : Mem) : Bool := storeWf m.plain m.cells

end Sys2Proof.Machine
end

