-- ==== Sys2Proof/Machine/AoTypes.lean ====
section
/-! DEFINITION. Plain data of the AO island, the control cores, the pack sense die and the monitor (16, 17, 18, 20, 21). -/

namespace Sys2Proof.Machine

/-- A domain transition in progress (16 R400): domain, the state code it left, target, and the requester of the PWR_DCMD (none: Ruwen itself). -/
structure DomMove where
  dom : Nat
  left : Nat
  target : Nat
  req : Option Nat
deriving DecidableEq, Repr

/-- What a PMBus write belongs to (16 R395, 21 R492): the boot's first write, the lowering after a slowdown, or a raise. -/
inductive PpKind where
  | boot
  | lower
  | raise
deriving DecidableEq, Repr

/-- A voltage change in progress (16 R395, 21 R493): its performance point, whether it waits for CLK_VSETTLE, and whether its write is the repeat. -/
structure PpMove where
  kind : PpKind
  pp : Nat
  settling : Bool := false
  again : Bool := false
deriving DecidableEq, Repr

/-- A CRIT shutdown (16 R417): none, due when the transition in progress ends, or running. -/
inductive CritPhase where
  | none
  | due
  | running
deriving DecidableEq, Repr

/-- Power, clock and thermal control (16; 21 R492, R493) beside the PWR, CLK and THM registers: transition; domains that have left ON but still serve until it ends (R401, R417);
domains with saved link parameters; CRIT shutdown; whether HM is to return by itself after it, or after a wake; the bit of PWR_WAKE_EN of a wake whose HM has not returned; the best link speed and width since
the last training; voltage change, the performance point whose voltage the regulator holds, PMBus state (0 before the first write, 1 usable,
2 given up), the performance point whose write failed and is not tried again until the target changes; whether the loss of the tier's source has been
reported; consecutive samples per sensor * 4 + threshold that meet the condition of its next change; sensors
with a first sample; whether PERST_N was asserted in low-power mode with that wake enabled; whether REFCLK25 has stopped, and whether VIO_AO is absent; the
die-to-die links (0 to 3 stacks, 4 FIO) that will fail training at the next cold reset, which the dies decide. -/
structure Pwr where
  move : Option DomMove := none
  linger : List Nat := []
  links : List Nat := []
  crit : CritPhase := .none
  critOff : Bool := false
  wakeHm : Bool := false
  wakeBy : Option Nat := none
  best : Nat × Nat := (0, 0)
  pp : Option PpMove := none
  volt : Nat := 5
  pmbus : Nat := 0
  failed : Option Nat := none
  noTier : Bool := false
  dwell : List (Nat × Nat) := []
  seen : List Nat := []
  lpPerst : Bool := false
  refLost : Bool := false
  aoOff : Bool := false
  bad : List Nat := []
deriving DecidableEq, Repr

/-- A measurement slot (17 R433, Table BOT-7). -/
structure MeasSlot where
  valid : Bool := false
  count : Nat := 0
  digest : List Byte := List.replicate 48 0
deriving DecidableEq, Repr

/-- An entry of the reset log (17 Table BOT-9). -/
structure RstLog where
  time : Nat
  kind : Nat
  detail : Nat
  info : Nat
deriving DecidableEq, Repr

/-- A front-end control core (17 R430, R436 to R440) beside RST_FEC_STATUSn: what software of the core sees at an exception (SP, EPC, ESTATUS and
STATUS.EXC), its RAMs, entry, image source (local address and length in device memory, none: flash), the length of its image, the reason of the
restart in progress (0: none is counted), whether a reload waits for the flash pins, whether a boot loads it, whether the boot has read its
image, and the AO_CLK cycles of its watchdog. -/
structure Fec where
  sp : Nat := 0
  epc : Nat := 0
  estatus : Nat := 0
  exc : Bool := false
  iram : Mem := {}
  dram : Mem := {}
  entry : Nat := 0
  dev : Option (Nat × Nat × Nat) := none
  why : Nat := 0
  waitFlash : Bool := false
  boot : Bool := false
  imaged : Bool := false
  wd : Nat := 0
deriving DecidableEq, Repr

/-- SPDM and the DOE mailbox (17 R434, R435, 02 R29): the request held with Busy set (data object type, payload), data objects
answered, oldest first, and the transcripts that signatures cover. -/
structure Doe where
  held : Option (Nat × List Byte) := none
  out : List (List Byte) := []
  vca : List Byte := []
  certs : List Byte := []
  meas : List Byte := []
deriving DecidableEq, Repr

/-- Reset and boot (17) beside the RST registers: the class of the reset in progress (0 none, 2 cold, 3 warm) and what holds it, a RESET_N press with its AO_CLK cycles since its
first low edge, measurement slots, reset log (newest first), control cores, boot flash, DOE mailbox. -/
structure Rst where
  held : Nat := 2
  perst : Bool := true
  button : Bool := false
  hold : Nat := 0
  escalated : Bool := false
  stuckDone : Bool := false
  slots : List MeasSlot := List.replicate 8 {}
  log : List RstLog := [⟨0, 1, 1, 0⟩]
  fecs : List Fec := [{}, {}]
  flash : Mem := {}
  doe : Doe := {}
deriving DecidableEq, Repr

/-- Comparator state of a cell: levels and the consecutive conversions that meet the condition of the next change (18 R445); of an NTC input
likewise with OT and UT (18 R446). -/
structure PsdLevel where
  hi : Bool := false
  lo : Bool := false
  hiN : Nat := 0
  loN : Nat := 0
deriving DecidableEq, Repr

/-- An entry of the die's log (18 Table PCK-8). -/
structure PsdLog where
  kind : Nat := 0
  detail : Nat := 0
  time : Nat := 0
deriving DecidableEq, Repr

/-- The pack sense die (18): power, strap, cell count as read, configuration indices, POR, settling and its cycles left, codes, levels, REF_FAIL, tier, dwell counts per
TIER threshold and for a better tier, cycle count, log and head, CMD_NEXT, RXERR, fault conditions held (bits OV, UV, OT, UT, REF), PACK_FAULT_N low, reference check pending and running, commands it
holds, balancing switches closed and active transfer in this cycle, whether it was a reference check, the STATUS frame of the cycle, ACK frames on the way, and whether silence is logged. -/
structure PsdDie where
  powered : Bool := true
  strap : Nat := 15
  cells : Nat := 16
  cfg : List Nat := [16, 1, 175, 130, 0x11F, 0x3AC9, 0xE2BF, 150, 130, 110, 10, 0, 0, 10, 60, 0xF] ++ List.replicate 16 0
  por : Bool := true
  settling : Bool := true
  left : Nat := 13
  code : List Nat := List.replicate 16 0
  ntc : List Nat := List.replicate 4 0
  lv : List PsdLevel := List.replicate 16 {}
  nlv : List PsdLevel := List.replicate 4 {}
  refFail : Bool := false
  tier : Nat := 3
  worse : List Nat := [0, 0, 0]
  better : Nat := 0
  cycle : Nat := 0
  log : List PsdLog := (⟨1, 0, 0⟩ : PsdLog) :: List.replicate 15 {}
  head : Nat := 1
  next : Nat := 0
  rxerr : Nat := 0
  conds : Nat := 0
  pin : Bool := false
  refPend : Bool := false
  refRun : Bool := false
  held : List (List Byte) := []
  bal : Nat := 0
  active : Bool := false
  chk : Bool := false
  frame : Option (List Byte) := none
  acks : List (List Byte) := []
  quiet : Bool := false
deriving DecidableEq, Repr

/-- A PSD command that waits for its ACK (18 R458): the counter it carries, frames resent, whether it waits for a STATUS frame after CNT_ERR, and whether it
was sent again after that. -/
structure PsdSent where
  cnt : Nat
  tries : Nat := 0
  wait : Bool := false
  again : Bool := false
deriving DecidableEq, Repr

/-- The AO side of the isolated link (18 R457 to R461) beside the PSD registers: commands queued (index or action, data), command counter, whether it is to be set
from the next STATUS frame, the command sent, configuration indices mirrored, LOG_HEAD of the last frame, frames on the down lane. -/
structure PsdHio where
  queue : List (Nat × Nat) := []
  cnt : Nat := 0
  resync : Bool := false
  sent : Option PsdSent := none
  seen : List Nat := []
  head : Nat := 0
  down : List (List Byte) := []
deriving DecidableEq, Repr

/-- A monitor command line that passed its checks (20 Table MON-4). -/
inductive MonCmd where
  | id
  | stat
  | rd (off n : Nat)
  | wr (off val : Nat)
  | mrd (a n : Nat)
  | mwr (a val : Nat)
  | meas (slot : Option Nat)
  | log (n : Option Nat)
  | plog
  | cnt
  | chal (k : Nat)
  | unlock (sig : List Byte)
  | lock
  | baud (ix : Nat)
  | echo (on : Bool)
deriving DecidableEq, Repr

/-- The Stolelm monitor (20) beside DBG_MON_STATUS and its counters: the line being received, whether a character of it had a framing error, the command being served and whether
the monitor was locked when its line ended (20 "When the host relocks the monitor in the middle of a command"), whether a reply is being sent, characters sent, the rate index that follows the prompt, whether the rate reverts unless a line comes, and the pending challenge's nonce and key. -/
structure Mon where
  line : List Byte := []
  bad : Bool := false
  cmd : Option MonCmd := none
  locked : Bool := true
  busy : Bool := false
  tx : List Byte := []
  newBaud : Option Nat := none
  revert : Bool := false
  chal : Option (List Byte × Nat) := none
deriving DecidableEq, Repr

/-- The AO island, the control cores, the pack sense die and the monitor. -/
structure AoSide where
  pwr : Pwr := {}
  rst : Rst := {}
  die : PsdDie := {}
  psd : PsdHio := {}
  mon : Mon := {}
  perfRem : List Nat := List.replicate 8 0
deriving DecidableEq, Repr

end Sys2Proof.Machine
end

