-- ==== Sys2Proof/Machine/HostTypes.lean ====
section
/-! DEFINITION. Plain data of the package, the host attachment and translation (01, 02, 03, 19). -/

namespace Sys2Proof.Machine

/-- One-time fuses of the HIO (01 R22, Tables PKG-4, PKG-8; 02 R30; 17 R430; 20 R484, R486). `variant` is GLB_VARIANT.VARIANT, 1 to 4; `unlockKeys`
has a bit for each unlock key fuse that is not blank. -/
structure Fuses where
  variant : Nat := 4
  serial : Nat := 0
  romDigest : List Byte := List.replicate 48 0
  monOpen : Bool := false
  unlockKeys : Nat := 3
  subVendor : BitVec 16 := 0
  subId : BitVec 16 := 0
deriving DecidableEq, Repr

/-- Posted writes to host memory (02 R38, R504; 19 R467): a general write, a marker write, or the message of an MSI-X vector.
`tags` say what it is ordered with: a context's
number, 256 + an engine code (04 Table OBJ-10), 512 + a queue; a marker follows earlier writes that share a tag
(notes/assumptions/12.md). A write that was translated has the holder and virtual address of its access (holder 64: none); bit 0 of `inv`: the
running invalidation waits for it, bit 1: the broadcast being served does (03 R89, R91). `prod` is the producer of a marker (19 R466): queue 0 to 52,
53 GX, 54 GF, 55 onions, 56 MSI-X, 57 + n copy engine n; `line` the line request or copy descriptor that made it. `relaxed` and `noSnoop` are its PCIe
attributes (02 R38). -/
structure HostWrite where
  addr : Nat
  data : List Byte
  marker : Bool
  tags : List Nat
  holder : Nat := 64
  va : Nat := 0
  inv : Nat := 0
  prod : Nat := 53
  line : Option Nat := none
  relaxed : Bool := false
  noSnoop : Bool := false
deriving DecidableEq, Repr

/-- What waits in the lanes of ingress (19 R469, R470): a write to an aperture as accepted, with the context and virtual address it goes to; a
write to the memory window; a read of BAR2; a write and a read of registers that came later; a write to the aperture region that came behind a write of a
register and is judged after it, with its BAR2 offset and Requester ID. A byte that is not enabled is none. -/
inductive LaneOp where
  | ap (ap ctx va : Nat) (data : List (Option Byte))
  | window (w : Nat) (data : List (Option Byte))
  | read (off n : Nat)
  | reg (off : Nat) (val : BitVec 32) (full : Bool)
  | bar0 (off n : Nat)
  | raw (off rid : Nat) (data : List (Option Byte))
deriving DecidableEq, Repr

/-- What configuration space holds that software writes (02 R29, R34, R42; the values after a reset are PCIe's, PRESUMED, notes/assumptions/15.md): the addresses
of BAR0 and BAR2, the codes of Max Payload Size and Max Read Request Size, ECRC generation and checking, MSI-X Enable and Function Mask. -/
structure HostCfg where
  bar0 : Nat := 0
  bar2 : Nat := 0
  mps : Nat := 0
  mrrs : Nat := 2
  ecrcGen : Bool := false
  ecrcChk : Bool := false
  msixEn : Bool := false
  msixMask : Bool := false
deriving DecidableEq, Repr

/-- The PCIe side of the HIO (02, 19): function power state, configuration space, credits the host advertised and credits left, posted writes waiting
in issue order, ingress waiting (its first entry waits for a walk or for the answer to the remote requests in `asks`), the data of the latest read
completion, what each control core read last, the ordering tags of withheld MSI-X messages by vector, events that wait for HM to be back (vector and tags), accesses from outside that wait to be
taken up (notes/assumptions/67.md), and host memory, the outside agent that Ruwen reads and writes. -/
structure HostSide where
  d3hot : Bool := false
  cfg : HostCfg := {}
  advH : Nat := 0
  advD : Nat := 0
  credH : Nat := 0
  credD : Nat := 0
  waiting : List HostWrite := []
  lane : List LaneOp := []
  asks : List Nat := []
  cpl : List Byte := []
  fecRd : List (List Byte) := [[], []]
  withheld : List (Nat × List Nat) := []
  late : List (Nat × List Nat) := []
  outside : List HostEvt := []
  mem : Mem := {}
deriving DecidableEq, Repr

/-- Where a translated access goes (03 R75 to R77): local memory, host memory or another node. -/
inductive Dest where
  | loc
  | host
  | remote (node : Nat)
deriving DecidableEq, Repr

/-- Kinds of access and the right each needs (03 Table XLT-6). -/
inductive Acc where
  | rd
  | wr
  | atm
deriving DecidableEq, Repr

/-- A translated address (03 R75 to R77): destination, byte address (or backing block of a compressed page), offset in the
256-byte block when COMP is not 0, COMP and CACHE. -/
structure XAddr where
  dest : Dest
  addr : Nat
  off : Nat
  comp : Nat
  cache : Nat
deriving DecidableEq, Repr

/-- A checked leaf translation as a TLB entry (03 R78): context, page size in bytes, first virtual page address of its run, run
exponent, backing base of the run, footprint per page, destination, rights and attributes. -/
structure Tlb where
  ctx : Nat
  va : Nat
  size : Nat
  run : Nat
  base : Nat
  foot : Nat
  dest : Dest
  comp : Nat
  cache : Nat
  rd : Bool
  wr : Bool
  atm : Bool
deriving DecidableEq, Repr

/-- A page-walk cache entry (03 R59): a valid table pointer read at a level, for the span that holds `va`. -/
structure Pwc where
  ctx : Nat
  level : Nat
  va : Nat
  next : Nat
deriving DecidableEq, Repr

/-- VALID, ROOT and LOSSY_OK as read from a context descriptor (03 R93). -/
structure CtxRoot where
  valid : Bool
  root : Nat
  lossy : Bool
deriving DecidableEq, Repr

/-- A walk that a holder waits for (03 R59): holder, context, address. Bits of `redo`: 0 the running range invalidation discards its result, 1 that is
done and the access walks again after the acknowledgement (R89); 2 and 3 the same for the broadcast being served (R91). -/
structure Walk where
  holder : Nat
  ctx : Nat
  va : Nat
  redo : Nat := 0
deriving DecidableEq, Repr

/-- A register write of a requester that waits behind its held MMU_BCAST write (03 R92). -/
structure HeldWrite where
  req : Nat
  off : Nat
  val : BitVec 32
  full : Bool
deriving DecidableEq, Repr

/-- Translation state (03): TLBs by holder, page-walk cache, cached context roots, walks in flight, the range invalidation in
hand, the broadcast FIFO (a context, or 256 for ALL), the broadcast being served, and writes held at a full FIFO. -/
structure MmuState where
  tlbs : List (List Tlb) := List.replicate 64 []
  pwc : List Pwc := []
  roots : List (Nat × CtxRoot) := []
  walks : List Walk := []
  inv : Option (Nat × Nat × Nat) := none
  bcast : List Nat := []
  serving : Option Nat := none
  held : List HeldWrite := []
deriving DecidableEq, Repr

/-- A block of a compressed page as L2 holds it (14 R347, R348): COMP, whether it is dirty, its 256 bytes. -/
structure L2Block where
  comp : Nat
  dirty : Bool
  data : List Byte
deriving DecidableEq, Repr

/-- DRAM of the fitted stacks and L2 (01 R20 to R27, 08 R224): stack contents under the key `stack * 2^40 + offset`, granules (key / 32) with an
uncorrectable error and with one that the code corrects, dirty bytes that L2 holds by local physical address, the 32-byte units (address / 32) that it
has read, the blocks of compressed pages by backing address, the run of failed retries of each die-to-die link, the partition that the access being made
belongs to (255: none), and the bytes that each partition has moved to and from DRAM in the current window of the arbiter (06 R155). -/
structure MemSide where
  dram : Mem := {}
  ue : List Nat := []
  ce : List Nat := []
  l2 : List Host.Cell := []
  l2r : List Nat := []
  l2c : List (Nat × L2Block) := []
  retries : List Nat := List.replicate 6 0
  part : Nat := 255
  bw : List Nat := List.replicate 8 0
deriving DecidableEq, Repr

end Sys2Proof.Machine
end

