-- ==== Sys2Proof/Machine/QueueTypes.lean ====
section
/-! DEFINITION. Plain data of contexts, queues, packets, launches and partitions (04, 05, 06). -/

namespace Sys2Proof.Machine

/-- What the partition controller holds of an admitted context (04 R95, 06 R163): partition (8 for PG), resident index, and per
core the first KiB and size of its registers and tile store, its pod slots and their number; GEN is held for PG only (04 R118). -/
structure Adm where
  part : Nat := 0
  resIdx : Nat := 0
  regLo : Nat := 0
  regKib : Nat := 0
  tsLo : Nat := 0
  tsKib : Nat := 0
  pods : Nat := 0
  gen : Nat := 0
  slots : List Nat := []
deriving DecidableEq, Repr

/-- The fields of a packet (05 Table SUB-3). -/
structure Packet where
  op : Nat := 0
  irq : Bool := false
  wait : Bool := false
  signal : Bool := false
  barrier : Bool := false
  timeout : Nat := 0
  ctx : Nat := 0
  waitVA : Nat := 0
  waitTgt : Nat := 0
  sigVA : Nat := 0
  sigVal : Nat := 0
  a0 : Nat := 0
  a1 : Nat := 0
  a2 : Nat := 0
deriving DecidableEq, Repr

/-- Where a packet came from: its ring sequence number, or the launch slot, strand and index in the strand. -/
inductive PktSrc where
  | ring (seq : Nat)
  | strand (launch strand idx : Nat)
deriving DecidableEq, Repr

/-- An abort that a packet is subject to (04 R111): completion status, cause and sequence number that its fence will carry, engine
code and context of the work that faulted. -/
structure Abort where
  status : Nat
  cause : Nat
  seq : Nat
  eng : Nat
  ctx : Nat
deriving DecidableEq, Repr

/-- A fetched packet that has not completed (05 R120 to R127). `ready`: its waited fence was
ready at its latest reading; `fin`: its status once its work has finished; `timedOut`: its timer expired; `mism`: it was counted under 06 R152; `signalled`: its
fence was signalled, and it completes when a remote node has acknowledged that. -/
structure QPkt where
  id : Nat
  src : PktSrc
  ctx : Nat
  pkt : Packet
  ready : Bool := false
  started : Bool := false
  fin : Option Nat := none
  abort : Option Abort := none
  timedOut : Bool := false
  mism : Bool := false
  signalled : Bool := false
deriving DecidableEq, Repr

/-- What a queue will fetch, in the order in which doorbells and posts arrived (05 R140): ring packets, or a strand of a launch
from its next packet on. -/
inductive Feed where
  | ring (n : Nat)
  | strand (launch strand next : Nat)
deriving DecidableEq, Repr

/-- Queue states (05 Table SUB-16). -/
inductive QState where
  | disabled
  | enabled
  | guilty
deriving DecidableEq, Repr

/-- One queue (04 Table OBJ-4, 05 R128 to R133): state, a disable that waits for INFLIGHT 0, the 64-bit counts, the descriptor as
read at the enable, what it will fetch and the packets in flight in queue order. -/
structure Queue where
  st : QState := .disabled
  closing : Bool := false
  submit : Nat := 0
  fetch : Nat := 0
  done : Nat := 0
  ring : Nat := 0
  ringSys : Bool := false
  log2 : Nat := 0
  compl : Nat := 0
  lastErr : Nat := 0
  feed : List Feed := []
  pkts : List QPkt := []
deriving DecidableEq, Repr

/-- One strand of a launch (05 Table SUB-8). -/
structure Strand where
  pkt : Nat
  count : Nat
  eng : Nat
  prio : Nat
deriving DecidableEq, Repr

/-- One patch with the value read at launch (05 Table SUB-9, R139 step 2). -/
structure Patch where
  idx : Nat
  strand : Nat
  size : Nat
  off : Nat
  val : Nat
deriving DecidableEq, Repr

/-- A launch that waits in the GX FIFO (05 R138). -/
structure Launch where
  ctx : Nat
  handle : Nat
  param : Nat
  header : Nat
  count : Nat
deriving DecidableEq, Repr

/-- A launch in a slot (05 R139 to R143): its number, what it read, its semaphores, packets not yet completed, the status that its
record will carry, its abort, whether its strands are posted, whether it was counted as held (R140), and what an abort took from the queues of its strands
before it was fetched (R150): queue, strand, next index. -/
structure Slot where
  id : Nat
  l : Launch
  doneVA : Nat := 0
  irq : Bool := false
  record : Bool := true
  strands : List Strand := []
  patches : List Patch := []
  sems : List Nat := []
  left : Nat := 0
  status : Nat := 0
  abort : Option Abort := none
  posted : Bool := false
  held : Bool := false
  cut : List (Nat × Nat × Nat) := []
deriving DecidableEq, Repr

/-- Partition states (06 Table PRT-8). -/
inductive PState where
  | disabled
  | active
  | quiescing
  | quiesced
deriving DecidableEq, Repr

/-- A job (04 R111, 05 R145): a ring packet on its own, by packet number, or a launch, by its number. -/
inductive Job where
  | ring (id : Nat)
  | launch (id : Nat)
deriving DecidableEq, Repr

/-- The job of a packet. -/
def QPkt.job (p : QPkt) : Job :=
  match p.src with
  | .ring _ => .ring p.id
  | .strand l _ _ => .launch l

/-- Queue manager and graph dispatcher (04, 05): admitted contexts, the onion counter is the register pair QM_ONION_SEQ, the
53 queues, the launch FIFO and slots, the number of the next packet or launch, and per
context the onion sequence number and engine code of its latest loss. -/
structure QmState where
  adm : List (Nat × Adm) := []
  queues : List Queue := List.replicate 53 {}
  fifo : List Launch := []
  slots : List Slot := []
  nextId : Nat := 0
  losses : List (Nat × (Nat × Nat)) := []
deriving DecidableEq, Repr

end Sys2Proof.Machine
end

