-- ==== Sys2Proof/Machine/PartTypes.lean ====
section
/-! DEFINITION. Plain data of partitions and the cyclic schedule (06). -/

namespace Sys2Proof.Machine

/-- Partition controller (06): state of P0 to P7, the 2 x 256 schedule entries that are not all zero (key bank * 256 + entry, the
three data words), and base and LOG2 of each ring as of its last enable (R160). -/
structure PtState where
  parts : List PState := List.replicate 8 .disabled
  sched : List (Nat × (BitVec 32 × BitVec 32 × BitVec 32)) := []
  rings : List (Nat × Nat) := List.replicate 8 (0, 0)
deriving DecidableEq, Repr

end Sys2Proof.Machine
end

