-- ==== Sys2Proof/Machine/FabTypes.lean ====
section
/-! DEFINITION. Plain data of the fabric link and the CRC snoop units (14 R363 to R368, 15). -/

namespace Sys2Proof.Machine

/-- Packet kinds (15 Table FAB-3). -/
inductive FabKind where
  | readReq
  | readRsp
  | write
  | writeAck
  | atomic
  | atomicRsp
  | refuse
  | abort
deriving DecidableEq, Repr

/-- An atomic as an ATOMIC packet carries it (09 Table ISA-15): operation code, 64-bit or 32-bit, operand, compare value, FTZ. -/
structure AtomOp where
  op : Nat
  wide : Bool
  a : Nat
  b : Nat
  ftz : Bool
deriving DecidableEq, Repr

/-- What a remote request asks (15 R376): a read of n bytes, a write whose mask leaves out the bytes that are none, the atomics of its lanes in lane
order, each with its offset in the request. -/
inductive RemOp where
  | rd (n : Nat)
  | wr (bs : List (Option Byte))
  | atm (ops : List (Nat × AtomOp))
deriving DecidableEq, Repr

/-- A packet that left through a port (15 Table FAB-3). A request carries what it asks; `data` is the payload. -/
structure FabPkt where
  port : Nat
  dest : Nat
  kind : FabKind
  req : Nat
  addr : Nat
  data : List Byte
  asks : Option RemOp := none
deriving DecidableEq, Repr

/-- A remote request that has had no response (15 R376 to R380): number, target node, port, kind, who made it (holder, context,
packet number, line request), the virtual address of the access, the address at the target, of a read its length, and the engine code of the unit; `inv` as in `HostWrite`. -/
structure FabReq where
  id : Nat
  node : Nat
  port : Nat
  kind : FabKind
  holder : Nat
  ctx : Nat
  pkt : Option Nat
  line : Option Nat
  va : Nat
  inv : Nat := 0
  addr : Nat := 0
  n : Nat := 0
  eng : Nat := 0
deriving DecidableEq, Repr

/-- The answer to a remote read that its unit has not yet taken: data, or the cause and DETAIL of a fault. -/
structure FabGot where
  req : FabReq
  data : List Byte
  err : Option (Nat × Nat) := none
deriving DecidableEq, Repr

/-- A reading of a group's member array that is under way (15 R386, R375): the ABORTs of a loss, with its cause and onion, or the search for a departed
node; members i to n are still to be read. -/
inductive FabJob where
  | abort (ctx cause seq i n : Nat)
  | leave (ctx node i n : Nat)
deriving DecidableEq, Repr

/-- The context of a member array that is being read. -/
def FabJob.ctx : FabJob → Nat
  | .abort c _ _ _ _ => c
  | .leave c _ _ _ => c

/-- One inbound window entry (15 R381) or group entry (15 R385) as its four data words. -/
structure Quad where
  d0 : BitVec 32 := 0
  d1 : BitVec 32 := 0
  d2 : BitVec 32 := 0
  d3 : BitVec 32 := 0
deriving DecidableEq, Repr

/-- Fabric state (15): route entries that are not 0 by node, window and group entries by index, requests in flight, answers to reads that their
units have not yet taken, member arrays being read, packets sent, the number of the next request, and per port the packet bytes below a whole KiB sent and
received. -/
structure FabState where
  routes : List (Nat × BitVec 32) := []
  wins : List (Nat × Quad) := []
  grps : List (Nat × Quad) := []
  inflight : List FabReq := []
  got : List FabGot := []
  jobs : List FabJob := []
  sent : List FabPkt := []
  nextReq : Nat := 0
  txRem : List Nat := [0, 0, 0, 0]
  rxRem : List Nat := [0, 0, 0, 0]
deriving DecidableEq, Repr

/-- One CRC snoop unit (14 R364 to R366): payload of its stream not yet compared, and payload per descriptor in flight. -/
structure CrcUnit where
  buf : List Byte := []
  desc : List (Nat × List Byte) := []
deriving DecidableEq, Repr

end Sys2Proof.Machine
end

