-- ==== Sys2Proof/Machine/CoreTypes.lean ====
section
/-! DEFINITION. Plain data of pods, shader cores and the guard partition (07, 08, 09). -/

namespace Sys2Proof.Machine

/-- A raised trap that waits for entry (08 Table COR-7): cause, DETAIL, raising lanes, TRAP_PC, initial RESUME_PC, lane addresses, and the address of an
instruction that is misaligned as a whole. -/
structure Trap where
  cause : Nat
  detail : Nat
  lanes : Nat := 0
  pc : Nat
  resume : Nat
  addrs : List Nat := []
  va : Option Nat := none
deriving DecidableEq, Repr

/-- Cycle account of a pod (09 R232, R233, R262, R263): earliest next issue, completion cycles of the increments of each counter by instructions of fixed
latency (on the guard core: by all), cycles at which the registers that such instructions write become ready, earliest issue of the next F64 or F64L
instruction, the cycles at which the latest guard SRAM write and the latest FENCE complete, and how many instructions have issued. -/
structure Timing where
  nxt : Nat := 0
  sb : List (List Nat) := List.replicate 6 []
  pend : List (Nat × Nat) := []
  f64 : Nat := 0
  busy : Nat := 0
  fence : Nat := 0
  n : Nat := 0
deriving DecidableEq, Repr

/-- A pod (08 Tables COR-2, COR-5). `scal` lists the scalars that are not 0; `regBase` and `tsBase` are byte offsets in the register file and tile
store; `view` 0 workgroup, 1 context; `pend` the pending registers (vector n: n; scalar code c: 256 + c); `bar` the barrier at which
it waits; `fences` the fences not complete (scope, counter); `stalled` the counters that have counted a stall of its next instruction; `dead` whether a
fault ended its issue; `parkAddr` of each parked lane whether its lock is in tile store, and its address. Of a pixel pod (09 R257, R258): `tile` the tile it shades, `frag` pixel and fragment order per lane, and the lanes
that have released, that hold the interlock, that are parked on it, and for which PIXLOCK holds the pod's issue. -/
structure Pod where
  uid : Nat
  slot : Nat
  ctx : Nat
  pkt : Option Nat := none
  wg : Nat := 0
  pixel : Bool := false
  trapVA : Nat := 0
  pc : Nat
  live : Nat := 0xFFFFFFFF
  park : Nat := 0
  m : List Nat := [0xFFFFFFFF, 0, 0, 0]
  preds : Nat := 0
  sb : List Nat := [0, 0, 0, 0, 0, 0]
  fpstat : Nat := 0
  fpctrl : Nat := 0
  trapMode : Bool := false
  vregs : Nat := 255
  regBase : Nat := 0
  view : Nat := 0
  tsBase : Nat := 0
  tsLen : Nat := 0
  serial : Nat := 0
  scal : List (Nat × Nat) := []
  parkAddr : List (Nat × Bool × Nat) := []
  gens : List Nat := []
  pend : List Nat := []
  bar : Option Nat := none
  fences : List (Nat × Nat) := []
  trap : Option Trap := none
  lateTraps : List Trap := []
  stalled : List Nat := []
  dead : Bool := false
  tile : Nat := 0
  frag : List (Nat × Nat) := []
  pixRel : Nat := 0
  pixOwn : Nat := 0
  pixPark : Nat := 0
  pixWant : Nat := 0
  tm : Timing := {}
deriving DecidableEq, Repr

/-- What a line request asks at its line (08 R228): a load, a store of the bytes of the line that it writes, atomics in lane order. -/
inductive LineKind where
  | load
  | store (bs : List (Option Byte))
  | atom (ops : List AtomOp)
deriving DecidableEq, Repr

/-- A line request of a core (08 R209, R228): its operation, pod, packet, line address in the context, access size, the lanes that it serves with
their offsets in the line (a scalar access has lane 32), what it asks, its translation (none: it waits for a walk), the
fabric requests that ask a remote node, and the answers that have come, by request; `inv` as in `HostWrite`. -/
structure LineReq where
  id : Nat
  op : Nat
  uid : Nat
  ctx : Nat
  pkt : Option Nat
  va : Nat
  size : Nat
  lanes : List (Nat × Nat)
  kind : LineKind
  x : Option XAddr := none
  asks : List Nat := []
  ans : List (Nat × List Byte) := []
  inv : Nat := 0
deriving DecidableEq, Repr

/-- What an operation of a pod with variable latency will deliver (08 R207): a memory operation with its destination register, access
size, sign extension, whether it is a scalar access and whether it returns data; a tensor operation; a ray query. -/
inductive OpKind where
  | mem (dst size : Nat) (sext scalar ret : Bool)
  | tensor
  | ray (dst : Nat)
deriving DecidableEq, Repr

/-- An operation in flight: number, pod, slot, counter it will decrement, registers it keeps pending, line requests or queries left. -/
structure PodOp where
  id : Nat
  uid : Nat
  slot : Nat
  sb : Option Nat
  kind : OpKind
  pend : List Nat
  left : Nat
deriving DecidableEq, Repr

/-- A queued TMMA or TCVT (11 R289): operation, pod, slot and context, its address, byte offsets of D, A, B and C in the core's tile store (B is the
element count of a TCVT), extension word, FTZ and rounding mode, effective mask, the lanes' generators as its pod last had them (10 R273), of a pixel pod its packet
and tile, whether it has started, and words that pods wrote since it was issued with the values they held (R290). -/
structure TensorOp where
  op : Nat
  uid : Nat
  slot : Nat
  ctx : Nat
  pc : Nat
  lanes : Nat
  cvt : Bool
  d : Nat
  a : Nat
  b : Nat
  c : Nat
  ext : Nat
  ftz : Bool
  rmode : Nat
  gens : List Nat := []
  tile : Option (Nat × Nat) := none
  started : Bool := false
  raced : List (Nat × Nat) := []
deriving DecidableEq, Repr

/-- An L1 line (08 R224): context, translation of its first byte, data, dirty bytes, and whether it holds the whole line. -/
structure L1Line where
  ctx : Nat
  x : XAddr
  data : List Byte
  dirty : List Bool
  full : Bool
deriving DecidableEq, Repr

/-- A running workgroup (08 R202, R204): number, packet, slots, register ranges in KiB and the tile store range in KiB. -/
structure Workgroup where
  id : Nat
  pkt : Nat
  ctx : Nat
  slots : List Nat
  regs : List (Nat × Nat)
  ts : Nat × Nat
deriving DecidableEq, Repr

/-- A shader core (08 Table COR-2): pods, operations and line requests in flight, tensor queue, L1 and instruction cache lines (context,
line, bytes), running workgroups, register file, tile store, and the pod start counter. -/
structure Core where
  pods : List Pod := []
  ops : List PodOp := []
  lines : List LineReq := []
  tq : List TensorOp := []
  l1 : List L1Line := []
  icache : List (Nat × Nat × List Byte) := []
  wgs : List Workgroup := []
  vrf : Mem := {}
  ts : Mem := {}
  starts : Nat := 0
deriving DecidableEq, Repr

/-- A started DISPATCH packet (08 R200): packet, context, cluster, what its descriptor and argument block said, next linear workgroup
index, and the cores it has used. -/
structure Disp where
  pkt : Nat
  ctx : Nat
  cluster : Nat
  pods : Nat
  args : List Nat
  code : Nat
  trapVA : Nat
  vregs : Nat
  shared : Nat
  fp : Nat
  view : Nat
  nx : Nat
  ny : Nat
  nz : Nat
  argVA : Nat
  next : Nat := 0
  used : List Nat := []
deriving DecidableEq, Repr

/-- A verdict graph header as armed (07 Table GRD-3), with its offset in guard SRAM. -/
structure GHdr where
  off : Nat
  bound : Nat
  entry : Nat
  codeOff : Nat
  codeSize : Nat
  stateOff : Nat
  stateSize : Nat
  crc : Nat
  inAp : Nat
  consume : Nat
deriving DecidableEq, Repr

/-- Guard partition (07). GD_STATUS, GD_VERDICT and the rest stand in its registers; here: the run's pod, its vector registers, guard
SRAM and its 64-bit words with an uncorrectable error and with one that the code corrects, the armed header, the ARM in progress and its packet, an ARM (its header's offset and its packet), DISARM or SELFTEST that waits for the
run to end, the self-test's packet, whether a self-test delayed the run, the guard core's pod start counter, IN_ARRIVED of the run, whether the watchdog runs, and whether GUARD_CLK edges
are seen, and the level of GUARD_STOP_N. -/
structure Guard where
  pod : Option Pod := none
  vrf : Mem := {}
  sram : Mem := {}
  ue : List Nat := []
  ce : List Nat := []
  hdr : Option GHdr := none
  arming : Option Nat := none
  waitArm : Option (Nat × Nat) := none
  waitDisarm : Option Nat := none
  waitTest : Option Nat := none
  testPkt : Option Nat := none
  delayed : Bool := false
  starts : Nat := 0
  arrived : Nat := 0
  watchdog : Bool := false
  clkSeen : Bool := true
  pin : Bool := false
deriving DecidableEq, Repr

end Sys2Proof.Machine
end

