-- ==== Sys2Proof/Machine/RayTypes.lean ====
section
/-! DEFINITION. Plain data of the ray traversal units (13). -/

namespace Sys2Proof.Machine

/-- A record that a query has still to read (13 R331): virtual address, TYPE, depth, tnear and tfar, the axis that gave tnear (3: t_min), of a brick
its box in the parent (per axis ORIGIN, EXP, LO, HI), and the ray: origin, direction, instance above it. -/
structure RayRec where
  va : Nat
  typ : Nat
  depth : Nat := 0
  tnear : Nat
  tfar : Nat
  axis : Nat := 3
  box : List (Nat × Nat × Nat × Nat) := []
  o : List Nat
  d : List Nat
  inst : Option Nat := none
deriving DecidableEq, Repr

/-- The best hit of a query: the first three registers of its quad, and its STATUS (13 Tables RAY-8, RAY-9). -/
structure RayHit where
  t : Nat
  a : Nat
  b : Nat
  status : Nat
deriving DecidableEq, Repr

/-- A query in a slot of a unit (13 R323, R331): its RAYQ's operation, core, slot and lane, context, packet, kind, t_min, limit T, node reads so far and
RTU_NODE_LIMIT as it started, the stack, the record being read, its translation (none: it waits for a walk) or its bytes when the node cache
held it, and the best hit. `inv` as in `HostWrite`. -/
structure Query where
  id : Nat
  op : Nat
  core : Nat
  slot : Nat
  uid : Nat
  lane : Nat
  ctx : Nat
  pkt : Option Nat
  kind : Nat
  tmin : Nat
  tlim : Nat
  reads : Nat := 0
  limit : Nat
  stack : List RayRec := []
  cur : Option RayRec := none
  x : Option XAddr := none
  bytes : Option (List Byte) := none
  best : Option RayHit := none
  inv : Nat := 0
deriving DecidableEq, Repr

/-- A ray traversal unit: its queries, the lines of its node cache (context, line, bytes), and the core that it served last when both of the pair waited for
slots (13 R323). -/
structure Rtu where
  queries : List Query := []
  cache : List (Nat × Nat × List Byte) := []
  turn : Option Nat := none
deriving DecidableEq, Repr

end Sys2Proof.Machine
end

