-- ==== Sys2Proof/Machine/RasTypes.lean ====
section
/-! DEFINITION. Plain data of the tile raster pipeline (12) and of the copy engines (14). -/

namespace Sys2Proof.Machine

/-- What the pass holds of one shader table entry and its kernel descriptor (12 Table RAS-4, 08 Table COR-4). -/
structure Shader where
  earlyZ : Bool
  zWrite : Bool
  zFunc : Nat
  opq : Bool
  code : Nat
  trapVA : Nat
  vregs : Nat
  fp : Nat
  argVA : Nat
  args : List Nat
deriving DecidableEq, Repr

/-- A plane of a tile set (12 R312, Tables RAS-3, RAS-10): offset in the set, bytes per sample, attachment, resolve target, format (colour: Table RAS-7;
0x10 D16, 0x11 D32F, 0x12 stencil, 0x13 VIS), operations, layout, and the bytes of a cleared sample. -/
structure Plane where
  off : Nat
  bytes : Nat
  va : Nat
  resolve : Nat
  fmt : Nat
  load : Nat
  store : Nat
  linear : Bool
  pitch : Nat
  clear : List Byte
deriving DecidableEq, Repr

/-- A primitive (12 Table RAS-5): index, vertices (x and y in 24.8 fixed point, z), attribute index, shader. -/
structure Prim where
  ix : Nat
  vs : List (Int × Int × Nat)
  attr : Nat
  sh : Nat
deriving DecidableEq, Repr

/-- A fragment (12 R316 to R318): phase (0 Mode B; 2 or 3 of Mode V), tile pixel, coverage, primitive, attribute index, shader, λ1 and λ2 at the pixel
centre. -/
structure Frag where
  phase : Nat
  px : Nat
  cov : Nat
  prim : Nat
  attr : Nat
  sh : Nat
  l1 : Nat
  l2 : Nat
deriving DecidableEq, Repr

/-- A tile in work (12 R311): linear index, core, tile set, primitives still to form fragments with their phase, fragments that no pod carries yet,
pixel pods and fragments launched so far, running pods launched with EARLY_Z 0, and whether the raster unit waits for these (R316). -/
structure TileJob where
  lin : Nat
  core : Nat
  set : Nat
  todo : List (Nat × Prim)
  frags : List Frag := []
  podIx : Nat := 0
  fragIx : Nat := 0
  late : List Nat := []
  zwait : Bool := false
deriving DecidableEq, Repr

/-- The bin of a tile: first and last chunk, and entries (12 Tables RAS-8, RAS-9). -/
structure Bin where
  tile : Nat
  first : Nat
  last : Nat
  count : Nat
deriving DecidableEq, Repr

/-- What a pass is doing (12 Table RAS-15): binning, processing the tiles of a flush, or of the final segment. -/
inductive PassPhase where
  | binning
  | flushing
  | final
deriving DecidableEq, Repr

/-- The running RENDER_PASS packet (12 R303 to R310): packet, context, partition, descriptor, shaders, bin memory, next primitive, segment, bins that
are not empty, tiles that a flush wrote, growth pages taken, chunks carved since carving began, next tile, and tiles in work. -/
structure Pass where
  pkt : Nat
  ctx : Nat
  part : Nat
  modeV : Bool
  samples : Nat
  tx : Nat
  ty : Nat
  sets : Nat
  tbOff : Nat
  setBytes : Nat
  depth : Nat
  planes : List Plane
  shaders : List Shader
  primVA : Nat
  primCount : Nat
  maxGrow : Nat
  hdrVA : Nat
  poolVA : Nat
  poolChunks : Nat
  logVA : Nat
  phase : PassPhase := .binning
  prim : Nat := 0
  seg : Nat := 0
  bins : List Bin := []
  written : List Nat := []
  pages : List Nat := []
  carved : Nat := 0
  nextTile : Nat := 0
  tiles : List TileJob := []
deriving DecidableEq, Repr

/-- The fields of a copy or fill descriptor (14 Table MOV-3). -/
structure Desc where
  kind : Nat := 0
  flags : Nat := 0
  xform : Nat := 0
  pat : Nat := 0
  x : Nat := 0
  src : Nat := 0
  dst : Nat := 0
  y : Nat := 0
  z : Nat := 0
  sy : Int := 0
  sz : Int := 0
  dy : Int := 0
  dz : Int := 0
  rsv : Nat := 0
  report : Nat := 0
  limit : Nat := 0
deriving DecidableEq, Repr

/-- A descriptor in flight (14 R352 to R362, Table MOV-7): number and fields; rows moved so far, or of a stream the source offset of the record in hand, with
its header; source bytes read of the row or record; destination bytes not yet written, and their address; bytes that it replaced of its own source (R354);
whether every row or record has been taken, whether the request that waits found 512 lines outstanding (R350), whether all of its report but DONE is written.
Report record, expected CRCs of its read and write streams when their flags are set, whether it writes guard SRAM; RESULT, error class, blocks, bytes,
whether guard SRAM writes were lost, and how many bytes. -/
structure CopyDesc where
  id : Nat
  d : Desc := {}
  pos : Nat := 0
  hdr : List Byte := []
  inb : List Byte := []
  outAt : Nat := 0
  out : List Byte := []
  olds : List (Nat × Byte) := []
  taken : Bool := false
  full : Bool := false
  reported : Bool := false
  report : Option Nat := none
  crcR : Option Nat := none
  crcW : Option Nat := none
  gsram : Bool := false
  result : Nat := 0
  maxE : Nat := 0
  lossy : Nat := 0
  bad : Nat := 0
  outBytes : Nat := 0
  srcBytes : Nat := 0
  gLost : Bool := false
  lost : Nat := 0
deriving DecidableEq, Repr

/-- A started COPY packet (14 R351, R352): packet, context, engine, list address, descriptors, the next one, and those in flight. -/
structure CopyJob where
  pkt : Nat
  ctx : Nat
  eng : Nat
  list : Nat
  count : Nat
  next : Nat := 0
  busy : List CopyDesc := []
deriving DecidableEq, Repr

end Sys2Proof.Machine
end

