-- ==== Sys2Proof/Machine/RegMap.lean ====
section
/-! DEFINITION. The BAR0 register map (02 R35, Table HST-4, and the register summary of each chapter): the offset of every
register, its access masks (00 R5, Table SCP-4), the window or requester copy it has (00 R11, R14, R43), its place in a 64-bit pair and
its reset value. An array register is named by its first element. -/

namespace Sys2Proof.Machine

/-- Which copies of a register exist (00 R14, 02 Table HST-7): one for all, one per requester, or one per channel of a window
that the requester chooses by its own copy of the select register. -/
inductive Copies where
  | one
  | req
  | win (sel channels : Nat)
deriving DecidableEq, Repr

/-- The place of a writable register in a 64-bit pair (00 R11). -/
inductive PairHalf where
  | none
  | lo
  | hi
deriving DecidableEq, Repr

/-- One row of a register summary: offset, how many and how far apart, copies, access masks (a bit in none is RSV), pair half, reset value. -/
structure RegRow where
  off : Nat
  num : Nat
  stride : Nat
  cp : Copies
  rw : Nat
  w1c : Nat
  wo : Nat
  ro : Nat
  pair : PairHalf
  rst : Nat
deriving DecidableEq, Repr

abbrev R.GLB_ID : Nat := 0x0
abbrev R.GLB_VARIANT : Nat := 0x4
abbrev R.GLB_CAP0 : Nat := 0x8
abbrev R.GLB_CAP1 : Nat := 0xC
abbrev R.GLB_CAP2 : Nat := 0x10
abbrev R.GLB_SERIAL_LO : Nat := 0x18
abbrev R.GLB_SERIAL_HI : Nat := 0x1C
abbrev R.GLB_MEM_SIZE_LO : Nat := 0x20
abbrev R.GLB_MEM_SIZE_HI : Nat := 0x24
abbrev R.GLB_STACK_STATUS : Nat := 0x28
abbrev R.GLB_LINK_STATUS : Nat := 0x2C
abbrev R.GLB_STACK_CE_COUNT : Nat := 0x30
abbrev R.GLB_STACK_UE_COUNT : Nat := 0x40
abbrev R.GLB_D2D_RETRY_COUNT : Nat := 0x50
abbrev R.GLB_ACCESS_VIOL_COUNT : Nat := 0x70
abbrev R.GLB_NOC_REQ_YIELD_COUNT : Nat := 0x80
abbrev R.GLB_NOC_CTL_WAIT_COUNT : Nat := 0x84
abbrev R.HIF_LINK_STATUS : Nat := 0x10000
abbrev R.HIF_MWIN_BASE_LO : Nat := 0x10008
abbrev R.HIF_MWIN_BASE_HI : Nat := 0x1000C
abbrev R.HIF_EVT_PEND0 : Nat := 0x10010
abbrev R.HIF_EVT_PEND1 : Nat := 0x10014
abbrev R.HIF_BAR2_VIOL_COUNT : Nat := 0x10018
abbrev R.HIF_OUT_RESERVE : Nat := 0x10020
abbrev R.HIF_OUT_GEN_STALL_COUNT : Nat := 0x10024
abbrev R.HIF_OUT_MARK_STALL_COUNT : Nat := 0x10028
abbrev R.HIF_IN_STAGE_FULL_COUNT : Nat := 0x1002C
abbrev R.HIF_IN_CREDIT_HOLD_COUNT : Nat := 0x10030
abbrev R.HIF_APSEL : Nat := 0x10100
abbrev R.HIF_AP_CTRL : Nat := 0x10104
abbrev R.HIF_AP_BASE : Nat := 0x10108
abbrev R.HIF_AP_SIZE : Nat := 0x1010C
abbrev R.HIF_AP_VA_LO : Nat := 0x10110
abbrev R.HIF_AP_VA_HI : Nat := 0x10114
abbrev R.HIF_AP_RID : Nat := 0x10118
abbrev R.HIF_AP_STATUS : Nat := 0x1011C
abbrev R.HIF_AP_PARAM_LO : Nat := 0x10120
abbrev R.HIF_AP_PARAM_HI : Nat := 0x10124
abbrev R.HIF_AP_GRAPH : Nat := 0x10128
abbrev R.HIF_AP_WM_STAT : Nat := 0x1012C
abbrev R.HIF_AP_ARRIVED_LO : Nat := 0x10130
abbrev R.HIF_AP_ARRIVED_HI : Nat := 0x10134
abbrev R.HIF_AP_CONSUMED_LO : Nat := 0x10138
abbrev R.HIF_AP_CONSUMED_HI : Nat := 0x1013C
abbrev R.HIF_AP_WM_LO : Nat := 0x10140
abbrev R.HIF_AP_WM_HI : Nat := 0x10144
abbrev R.HIF_AP_XCOUNT : Nat := 0x10148
abbrev R.HIF_AP_DROP_COUNT : Nat := 0x1014C
abbrev R.HIF_MSIX_ADDR_LO : Nat := 0x18000
abbrev R.HIF_MSIX_ADDR_HI : Nat := 0x18004
abbrev R.HIF_MSIX_DATA : Nat := 0x18008
abbrev R.HIF_MSIX_CTRL : Nat := 0x1800C
abbrev R.HIF_MSIX_PBA : Nat := 0x19000
abbrev R.MMU_HOLDER_PRESENT_LO : Nat := 0x20000
abbrev R.MMU_HOLDER_PRESENT_HI : Nat := 0x20004
abbrev R.MMU_INV_CTX : Nat := 0x20010
abbrev R.MMU_INV_VA_LO : Nat := 0x20014
abbrev R.MMU_INV_VA_HI : Nat := 0x20018
abbrev R.MMU_INV_LEN_LO : Nat := 0x2001C
abbrev R.MMU_INV_LEN_HI : Nat := 0x20020
abbrev R.MMU_INV_CTRL : Nat := 0x20024
abbrev R.MMU_INV_STATUS : Nat := 0x20028
abbrev R.MMU_INV_ACK_LO : Nat := 0x20030
abbrev R.MMU_INV_ACK_HI : Nat := 0x20034
abbrev R.MMU_INV_DONE_COUNT : Nat := 0x20038
abbrev R.MMU_INV_REJECT_COUNT : Nat := 0x2003C
abbrev R.MMU_BCAST : Nat := 0x20040
abbrev R.MMU_BCAST_ISSUED : Nat := 0x20044
abbrev R.MMU_BCAST_DONE : Nat := 0x20048
abbrev R.MMU_BCAST_FULL_COUNT : Nat := 0x2004C
abbrev R.MMU_FAULT_COUNT : Nat := 0x20050
abbrev R.MMU_LAST_FAULT : Nat := 0x20054
abbrev R.MMU_LAST_FAULT_VA_LO : Nat := 0x20058
abbrev R.MMU_LAST_FAULT_VA_HI : Nat := 0x2005C
abbrev R.MMU_COLD_MISS_COUNT : Nat := 0x20060
abbrev R.MMU_RUN_CLAMP_COUNT : Nat := 0x20064
abbrev R.MMU_WALK_COUNT : Nat := 0x20100
abbrev R.QM_CTX_TABLE_LO : Nat := 0x30000
abbrev R.QM_CTX_TABLE_HI : Nat := 0x30004
abbrev R.QM_QDESC_TABLE_LO : Nat := 0x30008
abbrev R.QM_QDESC_TABLE_HI : Nat := 0x3000C
abbrev R.QM_ONION_BASE_LO : Nat := 0x30010
abbrev R.QM_ONION_BASE_HI : Nat := 0x30014
abbrev R.QM_ONION_CTRL : Nat := 0x30018
abbrev R.QM_ONION_SEQ_LO : Nat := 0x30020
abbrev R.QM_ONION_SEQ_HI : Nat := 0x30024
abbrev R.QM_ONION_CONS_LO : Nat := 0x30028
abbrev R.QM_ONION_CONS_HI : Nat := 0x3002C
abbrev R.QM_ONION_DROP_COUNT : Nat := 0x30030
abbrev R.QM_OBJ_REJECT_COUNT : Nat := 0x30034
abbrev R.QM_JOB_ABORT_COUNT : Nat := 0x30038
abbrev R.QM_FENCE_ERR_COUNT : Nat := 0x3003C
abbrev R.QM_CTX_LOST : Nat := 0x30040
abbrev R.QM_CTX_BUSY : Nat := 0x30060
abbrev R.QM_CHSEL : Nat := 0x30100
abbrev R.QM_Q_CTRL : Nat := 0x30104
abbrev R.QM_Q_STATUS : Nat := 0x30108
abbrev R.QM_Q_BASE_SEQ_LO : Nat := 0x3010C
abbrev R.QM_Q_BASE_SEQ_HI : Nat := 0x30110
abbrev R.QM_Q_SUBMIT_LO : Nat := 0x30114
abbrev R.QM_Q_SUBMIT_HI : Nat := 0x30118
abbrev R.QM_Q_FETCH_LO : Nat := 0x3011C
abbrev R.QM_Q_FETCH_HI : Nat := 0x30120
abbrev R.QM_Q_DONE_LO : Nat := 0x30124
abbrev R.QM_Q_DONE_HI : Nat := 0x30128
abbrev R.QM_Q_STRANDS : Nat := 0x3012C
abbrev R.QM_Q_DELAY_COUNT : Nat := 0x30130
abbrev R.QM_Q_REFUSE_COUNT : Nat := 0x30134
abbrev R.QM_Q_TIMEOUT_COUNT : Nat := 0x30138
abbrev R.QM_Q_KILL_COUNT : Nat := 0x3013C
abbrev R.QM_Q_ERR_COUNT : Nat := 0x30140
abbrev R.GX_GRAPH_TABLE_LO : Nat := 0x40000
abbrev R.GX_GRAPH_TABLE_HI : Nat := 0x40004
abbrev R.GX_CTRL : Nat := 0x40008
abbrev R.GX_STATUS : Nat := 0x4000C
abbrev R.GX_LAUNCH_COUNT : Nat := 0x40010
abbrev R.GX_DONE_COUNT : Nat := 0x40014
abbrev R.GX_REFUSE_COUNT : Nat := 0x40018
abbrev R.GX_LAST_REFUSE : Nat := 0x4001C
abbrev R.GX_HOLD_COUNT : Nat := 0x40020
abbrev R.PT_FENCED : Nat := 0x50000
abbrev R.PT_ADMIT : Nat := 0x50008
abbrev R.PT_ADMIT_RESULT : Nat := 0x5000C
abbrev R.PT_REPAIR : Nat := 0x50010
abbrev R.PT_REPAIR_STATUS : Nat := 0x50014
abbrev R.PT_SELFTEST_REQ : Nat := 0x50018
abbrev R.PT_ST_STATUS : Nat := 0x5001C
abbrev R.PT_ST_DELAY_COUNT : Nat := 0x50020
abbrev R.PT_ST_SKIP_COUNT : Nat := 0x50030
abbrev R.PT_SCHED_CTRL : Nat := 0x50040
abbrev R.PT_SCHED_LEN : Nat := 0x50044
abbrev R.PT_SCHED_POS : Nat := 0x50048
abbrev R.PT_SCHED_FRAME_COUNT : Nat := 0x5004C
abbrev R.PT_SCHED_WIDX : Nat := 0x50050
abbrev R.PT_SCHED_WDATA0 : Nat := 0x50054
abbrev R.PT_SCHED_WDATA1 : Nat := 0x50058
abbrev R.PT_SCHED_WDATA2 : Nat := 0x5005C
abbrev R.PT_CHSEL : Nat := 0x50100
abbrev R.PT_P_CTRL : Nat := 0x50104
abbrev R.PT_P_STATUS : Nat := 0x50108
abbrev R.PT_P_CLUSTERS : Nat := 0x5010C
abbrev R.PT_P_L2WAYS : Nat := 0x50110
abbrev R.PT_P_BW : Nat := 0x50114
abbrev R.PT_P_CE : Nat := 0x50118
abbrev R.PT_P_FAV : Nat := 0x5011C
abbrev R.PT_P_FREE : Nat := 0x50120
abbrev R.PT_P_RESIDENT : Nat := 0x50124
abbrev R.PT_P_RING_BASE_LO : Nat := 0x50128
abbrev R.PT_P_RING_BASE_HI : Nat := 0x5012C
abbrev R.PT_P_RING_CTRL : Nat := 0x50130
abbrev R.PT_P_RING_PUSH_LO : Nat := 0x50134
abbrev R.PT_P_RING_PUSH_HI : Nat := 0x50138
abbrev R.PT_P_RING_OCC : Nat := 0x5013C
abbrev R.PT_P_RING_OUT : Nat := 0x50140
abbrev R.PT_P_RING_POS : Nat := 0x50144
abbrev R.PT_P_RING_FULL_COUNT : Nat := 0x50148
abbrev R.PT_P_RING_EMPTY_COUNT : Nat := 0x5014C
abbrev R.PT_P_SLOT_OVERRUN_COUNT : Nat := 0x50150
abbrev R.PT_P_SHARE_OVERRUN_COUNT : Nat := 0x50154
abbrev R.PT_P_ADMIT_REFUSE_COUNT : Nat := 0x50158
abbrev R.PT_P_MISMATCH_COUNT : Nat := 0x5015C
abbrev R.GD_CTRL : Nat := 0x60000
abbrev R.GD_STATUS : Nat := 0x60004
abbrev R.GD_PERIOD : Nat := 0x60008
abbrev R.GD_STALE_LIMIT : Nat := 0x6000C
abbrev R.GD_HIST_LEN : Nat := 0x60010
abbrev R.GD_CONF_MIN : Nat := 0x60014
abbrev R.GD_VERDICT : Nat := 0x60018
abbrev R.GD_LAST_PAYLOAD : Nat := 0x6001C
abbrev R.GD_VSEQ_LO : Nat := 0x60020
abbrev R.GD_VSEQ_HI : Nat := 0x60024
abbrev R.GD_TIME_LO : Nat := 0x60028
abbrev R.GD_TIME_HI : Nat := 0x6002C
abbrev R.GD_RING_BASE_LO : Nat := 0x60030
abbrev R.GD_RING_BASE_HI : Nat := 0x60034
abbrev R.GD_RING_CTRL : Nat := 0x60038
abbrev R.GD_WAKE : Nat := 0x6003C
abbrev R.GD_ARM_STATUS : Nat := 0x60040
abbrev R.GD_ST_STATUS : Nat := 0x60044
abbrev R.GD_VERDICT_COUNT : Nat := 0x60050
abbrev R.GD_STALE_COUNT : Nat := 0x60054
abbrev R.GD_RESTART_COUNT : Nat := 0x60058
abbrev R.GD_WAKE_MERGE_COUNT : Nat := 0x6005C
abbrev R.GD_RING_DROP_COUNT : Nat := 0x60060
abbrev R.GD_ST_DELAY_COUNT : Nat := 0x60064
abbrev R.GD_ST_SKIP_COUNT : Nat := 0x60068
abbrev R.GD_ARM_REFUSE_COUNT : Nat := 0x6006C
abbrev R.GD_SRAM_CE_COUNT : Nat := 0x60070
abbrev R.GD_MAX_RUN_CYCLES : Nat := 0x60074
abbrev R.GD_SRAM_UE_COUNT : Nat := 0x60078
abbrev R.CORE_CHSEL : Nat := 0x70000
abbrev R.CORE_STATUS : Nat := 0x70004
abbrev R.CORE_SLOT_BUSY_LO : Nat := 0x70008
abbrev R.CORE_SLOT_BUSY_HI : Nat := 0x7000C
abbrev R.CORE_TRAP_MODE_LO : Nat := 0x70010
abbrev R.CORE_TRAP_MODE_HI : Nat := 0x70014
abbrev R.CORE_LAST_TRAP : Nat := 0x70018
abbrev R.CORE_ISSUE_COUNT_LO : Nat := 0x70020
abbrev R.CORE_ISSUE_COUNT_HI : Nat := 0x70024
abbrev R.CORE_HAZARD_COUNT : Nat := 0x70028
abbrev R.CORE_SB_FULL_COUNT : Nat := 0x7002C
abbrev R.CORE_MEMQ_FULL_COUNT : Nat := 0x70030
abbrev R.CORE_LINE_REQ_COUNT : Nat := 0x70034
abbrev R.CORE_L1_HIT_COUNT : Nat := 0x70038
abbrev R.CORE_L1_MISS_COUNT : Nat := 0x7003C
abbrev R.CORE_WB_LINE_COUNT : Nat := 0x70040
abbrev R.CORE_TS_REPLAY_COUNT : Nat := 0x70044
abbrev R.CORE_PARK_COUNT : Nat := 0x70048
abbrev R.CORE_UNLK_NOT_OWNER_COUNT : Nat := 0x7004C
abbrev R.CORE_TRAP_COUNT : Nat := 0x70050
abbrev R.CORE_FENCE_DEV_COUNT : Nat := 0x70054
abbrev R.CORE_WG_LAUNCH_COUNT : Nat := 0x70058
abbrev R.RAS_STATUS : Nat := 0x80000
abbrev R.RAS_PASS_COUNT : Nat := 0x80004
abbrev R.RAS_PRIM_COUNT : Nat := 0x80008
abbrev R.RAS_PRIM_REJECT_COUNT : Nat := 0x8000C
abbrev R.RAS_PRIM_DEGEN_COUNT : Nat := 0x80010
abbrev R.RAS_CHUNK_COUNT : Nat := 0x80014
abbrev R.RAS_GROW_COUNT : Nat := 0x80018
abbrev R.RAS_FLUSH_COUNT : Nat := 0x8001C
abbrev R.RAS_TILE_COUNT : Nat := 0x80020
abbrev R.RAS_FRAG_COUNT : Nat := 0x80024
abbrev R.RAS_PIXPOD_COUNT : Nat := 0x80028
abbrev R.RAS_EARLYZ_KILL_COUNT : Nat := 0x8002C
abbrev R.RAS_VIS_HIDDEN_COUNT : Nat := 0x80030
abbrev R.RAS_ZDRAIN_COUNT : Nat := 0x80034
abbrev R.RAS_LOAD_KIB : Nat := 0x80038
abbrev R.RAS_STORE_KIB : Nat := 0x8003C
abbrev R.RTU_CHSEL : Nat := 0x90000
abbrev R.RTU_STATUS : Nat := 0x90004
abbrev R.RTU_NODE_LIMIT : Nat := 0x90008
abbrev R.RTU_QUERY_COUNT : Nat := 0x9000C
abbrev R.RTU_HIT_COUNT : Nat := 0x90010
abbrev R.RTU_NODE_READ_COUNT : Nat := 0x90014
abbrev R.RTU_NODE_HIT_COUNT : Nat := 0x90018
abbrev R.RTU_NODE_MISS_COUNT : Nat := 0x9001C
abbrev R.RTU_VOXEL_COUNT : Nat := 0x90020
abbrev R.RTU_LIMIT_COUNT : Nat := 0x90024
abbrev R.RTU_BADRAY_COUNT : Nat := 0x90028
abbrev R.RTU_SLOT_FULL_COUNT : Nat := 0x9002C
abbrev R.RTU_MALFORMED_COUNT : Nat := 0x90030
abbrev R.CE_CODEC_ENC_COUNT : Nat := 0xA0000
abbrev R.CE_CODEC_LOSSY_COUNT : Nat := 0xA0004
abbrev R.CE_CODEC_BAD_COUNT : Nat := 0xA0008
abbrev R.CE_CODEC_MAXE : Nat := 0xA000C
abbrev R.CE_CODEC_CLEAR : Nat := 0xA0010
abbrev R.CE_GWIN_CTRL : Nat := 0xA0020
abbrev R.CE_GWIN_BASE : Nat := 0xA0024
abbrev R.CE_GWIN_SIZE : Nat := 0xA0028
abbrev R.CE_CHSEL : Nat := 0xA0100
abbrev R.CE_STATUS : Nat := 0xA0104
abbrev R.CE_READ_BYTES_LO : Nat := 0xA0108
abbrev R.CE_READ_BYTES_HI : Nat := 0xA010C
abbrev R.CE_WRITE_BYTES_LO : Nat := 0xA0110
abbrev R.CE_WRITE_BYTES_HI : Nat := 0xA0114
abbrev R.CE_DESC_COUNT : Nat := 0xA0118
abbrev R.CE_LINEQ_FULL_COUNT : Nat := 0xA011C
abbrev R.CE_OUTLIMIT_COUNT : Nat := 0xA0120
abbrev R.CE_STREAM_BAD_COUNT : Nat := 0xA0124
abbrev R.CE_LOSSY_BLOCK_COUNT : Nat := 0xA0128
abbrev R.CRC_CHSEL : Nat := 0xB0000
abbrev R.CRC_CTRL : Nat := 0xB0004
abbrev R.CRC_FRAME_BYTES : Nat := 0xB0008
abbrev R.CRC_STATUS : Nat := 0xB000C
abbrev R.CRC_EXPECT_LO : Nat := 0xB0010
abbrev R.CRC_EXPECT_HI : Nat := 0xB0014
abbrev R.CRC_LAST_LO : Nat := 0xB0018
abbrev R.CRC_LAST_HI : Nat := 0xB001C
abbrev R.CRC_FRAME_COUNT : Nat := 0xB0020
abbrev R.CRC_MISMATCH_COUNT : Nat := 0xB0024
abbrev R.CRC_LAST_EXP_LO : Nat := 0xB0028
abbrev R.CRC_LAST_EXP_HI : Nat := 0xB002C
abbrev R.FAB_NODE_ID : Nat := 0xC0000
abbrev R.FAB_RESP_TIMEOUT : Nat := 0xC0004
abbrev R.FAB_LEAVE : Nat := 0xC0008
abbrev R.FAB_CFG_STATUS : Nat := 0xC000C
abbrev R.FAB_ROUTE_IDX : Nat := 0xC0010
abbrev R.FAB_ROUTE_DATA : Nat := 0xC0014
abbrev R.FAB_WIN_IDX : Nat := 0xC0020
abbrev R.FAB_WIN_DATA0 : Nat := 0xC0024
abbrev R.FAB_WIN_DATA1 : Nat := 0xC0028
abbrev R.FAB_WIN_DATA2 : Nat := 0xC002C
abbrev R.FAB_WIN_DATA3 : Nat := 0xC0030
abbrev R.FAB_GRP_IDX : Nat := 0xC0040
abbrev R.FAB_GRP_DATA0 : Nat := 0xC0044
abbrev R.FAB_GRP_DATA1 : Nat := 0xC0048
abbrev R.FAB_GRP_DATA2 : Nat := 0xC004C
abbrev R.FAB_GRP_DATA3 : Nat := 0xC0050
abbrev R.FAB_REFUSE_COUNT : Nat := 0xC0060
abbrev R.FAB_TIMEOUT_COUNT : Nat := 0xC0064
abbrev R.FAB_LATE_RSP_COUNT : Nat := 0xC0068
abbrev R.FAB_ABORT_TX_COUNT : Nat := 0xC006C
abbrev R.FAB_ABORT_RX_COUNT : Nat := 0xC0070
abbrev R.FAB_ABORT_IGNORED_COUNT : Nat := 0xC0074
abbrev R.FAB_LOOPBACK_COUNT : Nat := 0xC0078
abbrev R.FAB_CHSEL : Nat := 0xC0100
abbrev R.FAB_P_CTRL : Nat := 0xC0104
abbrev R.FAB_P_STATUS : Nat := 0xC0108
abbrev R.FAB_P_TX_BYTES : Nat := 0xC010C
abbrev R.FAB_P_RX_BYTES : Nat := 0xC0110
abbrev R.FAB_P_RETRY_COUNT : Nat := 0xC0114
abbrev R.FAB_P_DOWN_COUNT : Nat := 0xC0118
abbrev R.PWR_DCMD : Nat := 0xD0000
abbrev R.PWR_DCMD_RESULT : Nat := 0xD0004
abbrev R.PWR_STATE_LO : Nat := 0xD0008
abbrev R.PWR_STATE_HI : Nat := 0xD000C
abbrev R.PWR_IMAGE_VALID : Nat := 0xD0010
abbrev R.PWR_RETMASK_GD : Nat := 0xD0014
abbrev R.PWR_AOREG : Nat := 0xD0018
abbrev R.PWR_TIER : Nat := 0xD001C
abbrev R.PWR_EVT : Nat := 0xD0020
abbrev R.PWR_WAKE_EN : Nat := 0xD0024
abbrev R.PWR_WAKE_TIMER : Nat := 0xD0028
abbrev R.PWR_WAKE_CAUSE : Nat := 0xD002C
abbrev R.PWR_REFUSE_COUNT : Nat := 0xD0030
abbrev R.PWR_TRANSITION_COUNT : Nat := 0xD0034
abbrev R.PWR_CRIT_OFF_COUNT : Nat := 0xD0038
abbrev R.PWR_TIER_CHANGE_COUNT : Nat := 0xD003C
abbrev R.PWR_RETMASK_CL : Nat := 0xD0040
abbrev R.CLK_PP_REQ : Nat := 0xE0000
abbrev R.CLK_PP_STATUS : Nat := 0xE0004
abbrev R.CLK_THROTTLE_PP : Nat := 0xE0008
abbrev R.CLK_VSETTLE : Nat := 0xE000C
abbrev R.CLK_PP_CHANGE_COUNT : Nat := 0xE0010
abbrev R.CLK_TIER_CAP_COUNT : Nat := 0xE0014
abbrev R.CLK_THERM_CAP_COUNT : Nat := 0xE0018
abbrev R.CLK_ROOT_UNLOCK_COUNT : Nat := 0xE001C
abbrev R.THM_SUMMARY : Nat := 0xF0000
abbrev R.THM_VALID : Nat := 0xF0004
abbrev R.THM_XCOUNT_WARN : Nat := 0xF0010
abbrev R.THM_XCOUNT_THROTTLE : Nat := 0xF0014
abbrev R.THM_XCOUNT_CRIT : Nat := 0xF0018
abbrev R.THM_XCOUNT_GDLIM : Nat := 0xF001C
abbrev R.THM_TEMP : Nat := 0xF0100
abbrev R.THM_STAT : Nat := 0xF0200
abbrev R.RST_CTRL : Nat := 0x100000
abbrev R.RST_CAUSE : Nat := 0x100004
abbrev R.RST_STATUS : Nat := 0x100008
abbrev R.RST_HOLD_MS : Nat := 0x10000C
abbrev R.RST_PRESET : Nat := 0x100010
abbrev R.RST_ERESET : Nat := 0x100014
abbrev R.RST_RESULT : Nat := 0x100018
abbrev R.RST_FEC_LOAD_ADDR_LO : Nat := 0x100020
abbrev R.RST_FEC_LOAD_ADDR_HI : Nat := 0x100024
abbrev R.RST_FEC_LOAD_LEN : Nat := 0x100028
abbrev R.RST_FEC_LOAD_ENTRY : Nat := 0x10002C
abbrev R.RST_FEC_STATUS : Nat := 0x100030
abbrev R.RST_FEC_RESTART_COUNT : Nat := 0x100038
abbrev R.RST_FEC_WDT : Nat := 0x100040
abbrev R.RST_FEC_KICK : Nat := 0x100048
abbrev R.RST_FLASH_CTRL : Nat := 0x100050
abbrev R.RST_MEAS_SEL : Nat := 0x100060
abbrev R.RST_MEAS_INFO : Nat := 0x100064
abbrev R.RST_MEAS_DATA : Nat := 0x100080
abbrev R.RST_GLITCH_COUNT : Nat := 0x1000B0
abbrev R.RST_STUCK_COUNT : Nat := 0x1000B4
abbrev R.RST_BOOT_DONE_COUNT : Nat := 0x1000B8
abbrev R.RST_LOG_IDX : Nat := 0x100100
abbrev R.RST_LOG_DATA : Nat := 0x100104
abbrev R.RST_LOG_COUNT : Nat := 0x100114
abbrev R.PSD_LINK_STATUS : Nat := 0x110000
abbrev R.PSD_STATUS : Nat := 0x110004
abbrev R.PSD_EVT : Nat := 0x110008
abbrev R.PSD_WAKE_MASK : Nat := 0x11000C
abbrev R.PSD_CMD : Nat := 0x110010
abbrev R.PSD_CMD_STATUS : Nat := 0x110014
abbrev R.PSD_NTC : Nat := 0x110020
abbrev R.PSD_RX_CRC_COUNT : Nat := 0x110040
abbrev R.PSD_CMD_RETRY_COUNT : Nat := 0x110044
abbrev R.PSD_CMD_FAIL_COUNT : Nat := 0x110048
abbrev R.PSD_PEER_RXERR : Nat := 0x11004C
abbrev R.PSD_FAULT_COUNT : Nat := 0x110050
abbrev R.PSD_REFCHK_COUNT : Nat := 0x110054
abbrev R.PSD_REFCHK_DELAY_COUNT : Nat := 0x110058
abbrev R.PSD_LOG_IDX : Nat := 0x110060
abbrev R.PSD_LOG_DATA : Nat := 0x110064
abbrev R.PSD_CELLSEL : Nat := 0x110100
abbrev R.PSD_C_VOLT : Nat := 0x110104
abbrev R.PSD_C_STAT : Nat := 0x110108
abbrev R.PSD_C_OV_XCOUNT : Nat := 0x11010C
abbrev R.PSD_C_UV_XCOUNT : Nat := 0x110110
abbrev R.PSD_CFG : Nat := 0x110200
abbrev R.DBG_MON_STATUS : Nat := 0x120000
abbrev R.DBG_MON_CTRL : Nat := 0x120004
abbrev R.DBG_MON_CMD_COUNT : Nat := 0x120008
abbrev R.DBG_MON_ERR_COUNT : Nat := 0x12000C
abbrev R.DBG_MON_RX_ERR_COUNT : Nat := 0x120010
abbrev R.DBG_UNLOCK_COUNT : Nat := 0x120014
abbrev R.DBG_UNLOCK_FAIL_COUNT : Nat := 0x120018
abbrev R.DBG_PCTRL : Nat := 0x120020
abbrev R.DBG_PSEL : Nat := 0x120040
abbrev R.DBG_PC_LO : Nat := 0x120080
abbrev R.DBG_PC_HI : Nat := 0x120084
abbrev R.QDB_TAIL : Nat := 0x1000000
abbrev R.QDB_DONE_LO : Nat := 0x1000008
abbrev R.QDB_DONE_HI : Nat := 0x100000C
abbrev R.QDB_STATUS : Nat := 0x1000010
abbrev R.GDB_LAUNCH_LO : Nat := 0x1100000
abbrev R.GDB_LAUNCH_HI : Nat := 0x1100004
abbrev R.GDB_ACCEPT_COUNT : Nat := 0x1100010
abbrev R.GDB_REFUSE_COUNT : Nat := 0x1100014
abbrev R.GDB_LAST_REFUSE : Nat := 0x1100018
abbrev R.GDB_DONE_COUNT : Nat := 0x110001C
abbrev R.GDB_STATUS : Nat := 0x1100020

/-- Rows of block GLB. -/
def regsGLB : List RegRow := [
  ⟨R.GLB_ID, 1, 0x4, .one, 0x0, 0x0, 0x0, 0xFFFFFF00, .none, 0x1011000⟩,
  ⟨R.GLB_VARIANT, 1, 0x4, .one, 0x0, 0x0, 0x0, 0xFF03FF, .none, 0x0⟩,
  ⟨R.GLB_CAP0, 1, 0x4, .one, 0x0, 0x0, 0x0, 0x1F1FFFFF, .none, 0x18104820⟩,
  ⟨R.GLB_CAP1, 1, 0x4, .one, 0x0, 0x0, 0x0, 0x3FFFF, .none, 0x3FFFF⟩,
  ⟨R.GLB_CAP2, 1, 0x4, .one, 0x0, 0x0, 0x0, 0x1FFFFFFF, .none, 0x10810035⟩,
  ⟨R.GLB_SERIAL_LO, 1, 0x4, .one, 0x0, 0x0, 0x0, 0xFFFFFFFF, .none, 0x0⟩,
  ⟨R.GLB_SERIAL_HI, 1, 0x4, .one, 0x0, 0x0, 0x0, 0xFFFFFFFF, .none, 0x0⟩,
  ⟨R.GLB_MEM_SIZE_LO, 1, 0x4, .one, 0x0, 0x0, 0x0, 0xFFFFFFFF, .none, 0x0⟩,
  ⟨R.GLB_MEM_SIZE_HI, 1, 0x4, .one, 0x0, 0x0, 0x0, 0xFFFFFFFF, .none, 0x0⟩,
  ⟨R.GLB_STACK_STATUS, 1, 0x4, .one, 0x0, 0x0, 0x0, 0xFFFF, .none, 0x0⟩,
  ⟨R.GLB_LINK_STATUS, 1, 0x4, .one, 0x0, 0x0, 0x0, 0xF, .none, 0x0⟩,
  ⟨R.GLB_STACK_CE_COUNT, 4, 0x4, .one, 0x0, 0x0, 0x0, 0xFFFFFFFF, .none, 0x0⟩,
  ⟨R.GLB_STACK_UE_COUNT, 4, 0x4, .one, 0x0, 0x0, 0x0, 0xFFFFFFFF, .none, 0x0⟩,
  ⟨R.GLB_D2D_RETRY_COUNT, 6, 0x4, .one, 0x0, 0x0, 0x0, 0xFFFFFFFF, .none, 0x0⟩,
  ⟨R.GLB_ACCESS_VIOL_COUNT, 1, 0x4, .one, 0x0, 0x0, 0x0, 0xFFFFFFFF, .none, 0x0⟩,
  ⟨R.GLB_NOC_REQ_YIELD_COUNT, 1, 0x4, .one, 0x0, 0x0, 0x0, 0xFFFFFFFF, .none, 0x0⟩,
  ⟨R.GLB_NOC_CTL_WAIT_COUNT, 1, 0x4, .one, 0x0, 0x0, 0x0, 0xFFFFFFFF, .none, 0x0⟩]

/-- Rows of block HIF. -/
def regsHIF0 : List RegRow := [
  ⟨R.HIF_LINK_STATUS, 1, 0x4, .one, 0x0, 0x0, 0x0, 0x77F, .none, 0x0⟩,
  ⟨R.HIF_MWIN_BASE_LO, 1, 0x4, .one, 0xF0000000, 0x0, 0x0, 0x0, .lo, 0x0⟩,
  ⟨R.HIF_MWIN_BASE_HI, 1, 0x4, .one, 0xFFFF, 0x0, 0x0, 0x0, .hi, 0x0⟩,
  ⟨R.HIF_EVT_PEND0, 1, 0x4, .one, 0x0, 0xFFFFFFFF, 0x0, 0x0, .none, 0x0⟩,
  ⟨R.HIF_EVT_PEND1, 1, 0x4, .one, 0x0, 0xFFFFFFFF, 0x0, 0x0, .none, 0x0⟩,
  ⟨R.HIF_BAR2_VIOL_COUNT, 1, 0x4, .one, 0x0, 0x0, 0x0, 0xFFFFFFFF, .none, 0x0⟩,
  ⟨R.HIF_OUT_RESERVE, 1, 0x4, .one, 0x0, 0x0, 0x0, 0xFFFF, .none, 0x2008⟩,
  ⟨R.HIF_OUT_GEN_STALL_COUNT, 1, 0x4, .one, 0x0, 0x0, 0x0, 0xFFFFFFFF, .none, 0x0⟩,
  ⟨R.HIF_OUT_MARK_STALL_COUNT, 1, 0x4, .one, 0x0, 0x0, 0x0, 0xFFFFFFFF, .none, 0x0⟩,
  ⟨R.HIF_IN_STAGE_FULL_COUNT, 1, 0x4, .one, 0x0, 0x0, 0x0, 0xFFFFFFFF, .none, 0x0⟩,
  ⟨R.HIF_IN_CREDIT_HOLD_COUNT, 1, 0x4, .one, 0x0, 0x0, 0x0, 0xFFFFFFFF, .none, 0x0⟩,
  ⟨R.HIF_APSEL, 1, 0x4, .req, 0xFF, 0x0, 0x0, 0x0, .none, 0x0⟩,
  ⟨R.HIF_AP_CTRL, 1, 0x4, .win R.HIF_APSEL 16, 0xFF3F, 0x0, 0x0, 0x0, .none, 0x0⟩,
  ⟨R.HIF_AP_BASE, 1, 0x4, .win R.HIF_APSEL 16, 0xFFFF0000, 0x0, 0x0, 0x0, .none, 0x0⟩,
  ⟨R.HIF_AP_SIZE, 1, 0x4, .win R.HIF_APSEL 16, 0x7FFF0000, 0x0, 0x0, 0x0, .none, 0x0⟩,
  ⟨R.HIF_AP_VA_LO, 1, 0x4, .win R.HIF_APSEL 16, 0xFFFFF000, 0x0, 0x0, 0x0, .lo, 0x0⟩,
  ⟨R.HIF_AP_VA_HI, 1, 0x4, .win R.HIF_APSEL 16, 0xFFFF, 0x0, 0x0, 0x0, .hi, 0x0⟩,
  ⟨R.HIF_AP_RID, 1, 0x4, .win R.HIF_APSEL 16, 0xFFFF, 0x0, 0x0, 0x0, .none, 0x0⟩,
  ⟨R.HIF_AP_STATUS, 1, 0x4, .win R.HIF_APSEL 16, 0x0, 0x3, 0x0, 0x0, .none, 0x0⟩,
  ⟨R.HIF_AP_PARAM_LO, 1, 0x4, .win R.HIF_APSEL 16, 0xFFFFFFFF, 0x0, 0x0, 0x0, .lo, 0x0⟩,
  ⟨R.HIF_AP_PARAM_HI, 1, 0x4, .win R.HIF_APSEL 16, 0xFFFFFFFF, 0x0, 0x0, 0x0, .hi, 0x0⟩,
  ⟨R.HIF_AP_GRAPH, 1, 0x4, .win R.HIF_APSEL 16, 0xFFFFFFFF, 0x0, 0x0, 0x0, .none, 0x0⟩,
  ⟨R.HIF_AP_WM_STAT, 1, 0x4, .win R.HIF_APSEL 16, 0x0, 0x6, 0x0, 0x1, .none, 0x0⟩,
  ⟨R.HIF_AP_ARRIVED_LO, 1, 0x4, .win R.HIF_APSEL 16, 0x0, 0x0, 0x0, 0xFFFFFFFF, .none, 0x0⟩]

/-- Rows of block HIF. -/
def regsHIF1 : List RegRow := [
  ⟨R.HIF_AP_ARRIVED_HI, 1, 0x4, .win R.HIF_APSEL 16, 0x0, 0x0, 0x0, 0xFFFFFFFF, .none, 0x0⟩,
  ⟨R.HIF_AP_CONSUMED_LO, 1, 0x4, .win R.HIF_APSEL 16, 0xFFFFFFFF, 0x0, 0x0, 0x0, .lo, 0x0⟩,
  ⟨R.HIF_AP_CONSUMED_HI, 1, 0x4, .win R.HIF_APSEL 16, 0xFFFFFFFF, 0x0, 0x0, 0x0, .hi, 0x0⟩,
  ⟨R.HIF_AP_WM_LO, 1, 0x4, .win R.HIF_APSEL 16, 0xFFFFFFFF, 0x0, 0x0, 0x0, .lo, 0x0⟩,
  ⟨R.HIF_AP_WM_HI, 1, 0x4, .win R.HIF_APSEL 16, 0xFFFFFFFF, 0x0, 0x0, 0x0, .hi, 0x0⟩,
  ⟨R.HIF_AP_XCOUNT, 1, 0x4, .win R.HIF_APSEL 16, 0x0, 0x0, 0x0, 0xFFFFFFFF, .none, 0x0⟩,
  ⟨R.HIF_AP_DROP_COUNT, 1, 0x4, .win R.HIF_APSEL 16, 0x0, 0x0, 0x0, 0xFFFFFFFF, .none, 0x0⟩,
  ⟨R.HIF_MSIX_ADDR_LO, 64, 0x10, .one, 0xFFFFFFFC, 0x0, 0x0, 0x0, .none, 0x0⟩,
  ⟨R.HIF_MSIX_ADDR_HI, 64, 0x10, .one, 0xFFFFFFFF, 0x0, 0x0, 0x0, .none, 0x0⟩,
  ⟨R.HIF_MSIX_DATA, 64, 0x10, .one, 0xFFFFFFFF, 0x0, 0x0, 0x0, .none, 0x0⟩,
  ⟨R.HIF_MSIX_CTRL, 64, 0x10, .one, 0x1, 0x0, 0x0, 0x0, .none, 0x1⟩,
  ⟨R.HIF_MSIX_PBA, 2, 0x4, .one, 0x0, 0x0, 0x0, 0xFFFFFFFF, .none, 0x0⟩]

/-- Rows of block HIF. -/
def regsHIF : List RegRow := regsHIF0 ++ regsHIF1

/-- Rows of block MMU. -/
def regsMMU : List RegRow := [
  ⟨R.MMU_HOLDER_PRESENT_LO, 1, 0x4, .one, 0x0, 0x0, 0x0, 0xFFFFFFFF, .none, 0xFFFFFFFF⟩,
  ⟨R.MMU_HOLDER_PRESENT_HI, 1, 0x4, .one, 0x0, 0x0, 0x0, 0xFFFFFFFF, .none, 0x0⟩,
  ⟨R.MMU_INV_CTX, 1, 0x4, .req, 0xFF, 0x0, 0x0, 0x0, .none, 0x0⟩,
  ⟨R.MMU_INV_VA_LO, 1, 0x4, .req, 0xFFFFF000, 0x0, 0x0, 0x0, .lo, 0x0⟩,
  ⟨R.MMU_INV_VA_HI, 1, 0x4, .req, 0xFFFF, 0x0, 0x0, 0x0, .hi, 0x0⟩,
  ⟨R.MMU_INV_LEN_LO, 1, 0x4, .req, 0xFFFFF000, 0x0, 0x0, 0x0, .lo, 0x0⟩,
  ⟨R.MMU_INV_LEN_HI, 1, 0x4, .req, 0x1FFFF, 0x0, 0x0, 0x0, .hi, 0x0⟩,
  ⟨R.MMU_INV_CTRL, 1, 0x4, .one, 0x0, 0x0, 0x1, 0x0, .none, 0x0⟩,
  ⟨R.MMU_INV_STATUS, 1, 0x4, .req, 0x0, 0xE, 0x0, 0xC1, .none, 0x0⟩,
  ⟨R.MMU_INV_ACK_LO, 1, 0x4, .one, 0x0, 0x0, 0x0, 0xFFFFFFFF, .none, 0x0⟩,
  ⟨R.MMU_INV_ACK_HI, 1, 0x4, .one, 0x0, 0x0, 0x0, 0xFFFFFFFF, .none, 0x0⟩,
  ⟨R.MMU_INV_DONE_COUNT, 1, 0x4, .one, 0x0, 0x0, 0x0, 0xFFFFFFFF, .none, 0x0⟩,
  ⟨R.MMU_INV_REJECT_COUNT, 1, 0x4, .one, 0x0, 0x0, 0x0, 0xFFFFFFFF, .none, 0x0⟩,
  ⟨R.MMU_BCAST, 1, 0x4, .one, 0x0, 0x0, 0x1FF, 0x0, .none, 0x0⟩,
  ⟨R.MMU_BCAST_ISSUED, 1, 0x4, .one, 0x0, 0x0, 0x0, 0xFFFFFFFF, .none, 0x0⟩,
  ⟨R.MMU_BCAST_DONE, 1, 0x4, .one, 0x0, 0x0, 0x0, 0xFFFFFFFF, .none, 0x0⟩,
  ⟨R.MMU_BCAST_FULL_COUNT, 1, 0x4, .one, 0x0, 0x0, 0x0, 0xFFFFFFFF, .none, 0x0⟩,
  ⟨R.MMU_FAULT_COUNT, 1, 0x4, .one, 0x0, 0x0, 0x0, 0xFFFFFFFF, .none, 0x0⟩,
  ⟨R.MMU_LAST_FAULT, 1, 0x4, .one, 0x0, 0x0, 0x0, 0xFF033FFF, .none, 0x0⟩,
  ⟨R.MMU_LAST_FAULT_VA_LO, 1, 0x4, .one, 0x0, 0x0, 0x0, 0xFFFFFFFF, .none, 0x0⟩,
  ⟨R.MMU_LAST_FAULT_VA_HI, 1, 0x4, .one, 0x0, 0x0, 0x0, 0xFFFFFFFF, .none, 0x0⟩,
  ⟨R.MMU_COLD_MISS_COUNT, 1, 0x4, .one, 0x0, 0x0, 0x0, 0xFFFFFFFF, .none, 0x0⟩,
  ⟨R.MMU_RUN_CLAMP_COUNT, 1, 0x4, .one, 0x0, 0x0, 0x0, 0xFFFFFFFF, .none, 0x0⟩,
  ⟨R.MMU_WALK_COUNT, 64, 0x4, .one, 0x0, 0x0, 0x0, 0xFFFFFFFF, .none, 0x0⟩]

/-- Rows of block QM. -/
def regsQM0 : List RegRow := [
  ⟨R.QM_CTX_TABLE_LO, 1, 0x4, .one, 0xFFFFC000, 0x0, 0x0, 0x0, .lo, 0x0⟩,
  ⟨R.QM_CTX_TABLE_HI, 1, 0x4, .one, 0xFFFF, 0x0, 0x0, 0x0, .hi, 0x0⟩,
  ⟨R.QM_QDESC_TABLE_LO, 1, 0x4, .one, 0xFFFFF000, 0x0, 0x0, 0x0, .lo, 0x0⟩,
  ⟨R.QM_QDESC_TABLE_HI, 1, 0x4, .one, 0xFFFF, 0x0, 0x0, 0x0, .hi, 0x0⟩,
  ⟨R.QM_ONION_BASE_LO, 1, 0x4, .one, 0xFFFFF000, 0x0, 0x0, 0x0, .lo, 0x0⟩,
  ⟨R.QM_ONION_BASE_HI, 1, 0x4, .one, 0xFFFF, 0x0, 0x0, 0x0, .hi, 0x0⟩,
  ⟨R.QM_ONION_CTRL, 1, 0x4, .one, 0xF01, 0x0, 0x0, 0x0, .none, 0x0⟩,
  ⟨R.QM_ONION_SEQ_LO, 1, 0x4, .one, 0x0, 0x0, 0x0, 0xFFFFFFFF, .none, 0x0⟩,
  ⟨R.QM_ONION_SEQ_HI, 1, 0x4, .one, 0x0, 0x0, 0x0, 0xFFFFFFFF, .none, 0x0⟩,
  ⟨R.QM_ONION_CONS_LO, 1, 0x4, .one, 0xFFFFFFFF, 0x0, 0x0, 0x0, .lo, 0x0⟩,
  ⟨R.QM_ONION_CONS_HI, 1, 0x4, .one, 0xFFFFFFFF, 0x0, 0x0, 0x0, .hi, 0x0⟩,
  ⟨R.QM_ONION_DROP_COUNT, 1, 0x4, .one, 0x0, 0x0, 0x0, 0xFFFFFFFF, .none, 0x0⟩,
  ⟨R.QM_OBJ_REJECT_COUNT, 1, 0x4, .one, 0x0, 0x0, 0x0, 0xFFFFFFFF, .none, 0x0⟩,
  ⟨R.QM_JOB_ABORT_COUNT, 1, 0x4, .one, 0x0, 0x0, 0x0, 0xFFFFFFFF, .none, 0x0⟩,
  ⟨R.QM_FENCE_ERR_COUNT, 1, 0x4, .one, 0x0, 0x0, 0x0, 0xFFFFFFFF, .none, 0x0⟩,
  ⟨R.QM_CTX_LOST, 8, 0x4, .one, 0x0, 0xFFFFFFFF, 0x0, 0x0, .none, 0x0⟩,
  ⟨R.QM_CTX_BUSY, 8, 0x4, .one, 0x0, 0x0, 0x0, 0xFFFFFFFF, .none, 0x0⟩,
  ⟨R.QM_CHSEL, 1, 0x4, .req, 0xFF, 0x0, 0x0, 0x0, .none, 0x0⟩,
  ⟨R.QM_Q_CTRL, 1, 0x4, .win R.QM_CHSEL 53, 0x1, 0x0, 0x2, 0x0, .none, 0x0⟩,
  ⟨R.QM_Q_STATUS, 1, 0x4, .win R.QM_CHSEL 53, 0x0, 0xB0, 0x0, 0xFF03, .none, 0x0⟩,
  ⟨R.QM_Q_BASE_SEQ_LO, 1, 0x4, .win R.QM_CHSEL 53, 0xFFFFFFFF, 0x0, 0x0, 0x0, .lo, 0x0⟩,
  ⟨R.QM_Q_BASE_SEQ_HI, 1, 0x4, .win R.QM_CHSEL 53, 0xFFFFFFFF, 0x0, 0x0, 0x0, .hi, 0x0⟩,
  ⟨R.QM_Q_SUBMIT_LO, 1, 0x4, .win R.QM_CHSEL 53, 0x0, 0x0, 0x0, 0xFFFFFFFF, .none, 0x0⟩,
  ⟨R.QM_Q_SUBMIT_HI, 1, 0x4, .win R.QM_CHSEL 53, 0x0, 0x0, 0x0, 0xFFFFFFFF, .none, 0x0⟩]

/-- Rows of block QM. -/
def regsQM1 : List RegRow := [
  ⟨R.QM_Q_FETCH_LO, 1, 0x4, .win R.QM_CHSEL 53, 0x0, 0x0, 0x0, 0xFFFFFFFF, .none, 0x0⟩,
  ⟨R.QM_Q_FETCH_HI, 1, 0x4, .win R.QM_CHSEL 53, 0x0, 0x0, 0x0, 0xFFFFFFFF, .none, 0x0⟩,
  ⟨R.QM_Q_DONE_LO, 1, 0x4, .win R.QM_CHSEL 53, 0x0, 0x0, 0x0, 0xFFFFFFFF, .none, 0x0⟩,
  ⟨R.QM_Q_DONE_HI, 1, 0x4, .win R.QM_CHSEL 53, 0x0, 0x0, 0x0, 0xFFFFFFFF, .none, 0x0⟩,
  ⟨R.QM_Q_STRANDS, 1, 0x4, .win R.QM_CHSEL 53, 0x0, 0x0, 0x0, 0x3F, .none, 0x0⟩,
  ⟨R.QM_Q_DELAY_COUNT, 1, 0x4, .win R.QM_CHSEL 53, 0x0, 0x0, 0x0, 0xFFFFFFFF, .none, 0x0⟩,
  ⟨R.QM_Q_REFUSE_COUNT, 1, 0x4, .win R.QM_CHSEL 53, 0x0, 0x0, 0x0, 0xFFFFFFFF, .none, 0x0⟩,
  ⟨R.QM_Q_TIMEOUT_COUNT, 1, 0x4, .win R.QM_CHSEL 53, 0x0, 0x0, 0x0, 0xFFFFFFFF, .none, 0x0⟩,
  ⟨R.QM_Q_KILL_COUNT, 1, 0x4, .win R.QM_CHSEL 53, 0x0, 0x0, 0x0, 0xFFFFFFFF, .none, 0x0⟩,
  ⟨R.QM_Q_ERR_COUNT, 1, 0x4, .win R.QM_CHSEL 53, 0x0, 0x0, 0x0, 0xFFFFFFFF, .none, 0x0⟩]

/-- Rows of block QM. -/
def regsQM : List RegRow := regsQM0 ++ regsQM1

/-- Rows of block GX. -/
def regsGX : List RegRow := [
  ⟨R.GX_GRAPH_TABLE_LO, 1, 0x4, .one, 0xFFFE0000, 0x0, 0x0, 0x0, .lo, 0x0⟩,
  ⟨R.GX_GRAPH_TABLE_HI, 1, 0x4, .one, 0xFFFF, 0x0, 0x0, 0x0, .hi, 0x0⟩,
  ⟨R.GX_CTRL, 1, 0x4, .one, 0x1, 0x0, 0x0, 0x0, .none, 0x0⟩,
  ⟨R.GX_STATUS, 1, 0x4, .one, 0x0, 0x0, 0x0, 0x1FF007F, .none, 0x0⟩,
  ⟨R.GX_LAUNCH_COUNT, 1, 0x4, .one, 0x0, 0x0, 0x0, 0xFFFFFFFF, .none, 0x0⟩,
  ⟨R.GX_DONE_COUNT, 1, 0x4, .one, 0x0, 0x0, 0x0, 0xFFFFFFFF, .none, 0x0⟩,
  ⟨R.GX_REFUSE_COUNT, 1, 0x4, .one, 0x0, 0x0, 0x0, 0xFFFFFFFF, .none, 0x0⟩,
  ⟨R.GX_LAST_REFUSE, 1, 0x4, .one, 0x0, 0x0, 0x0, 0xFFFFFFFF, .none, 0x0⟩,
  ⟨R.GX_HOLD_COUNT, 1, 0x4, .one, 0x0, 0x0, 0x0, 0xFFFFFFFF, .none, 0x0⟩]

/-- Rows of block PT. -/
def regsPT0 : List RegRow := [
  ⟨R.PT_FENCED, 1, 0x4, .one, 0x0, 0x0, 0x0, 0xFFFFFFFF, .none, 0x0⟩,
  ⟨R.PT_ADMIT, 1, 0x4, .one, 0x0, 0x0, 0x3FF, 0x0, .none, 0x0⟩,
  ⟨R.PT_ADMIT_RESULT, 1, 0x4, .req, 0x0, 0x0, 0x0, 0xFFF, .none, 0x0⟩,
  ⟨R.PT_REPAIR, 1, 0x4, .one, 0x0, 0x0, 0x31F, 0x0, .none, 0x0⟩,
  ⟨R.PT_REPAIR_STATUS, 1, 0x4, .one, 0x0, 0x0, 0x0, 0xDF, .none, 0x0⟩,
  ⟨R.PT_SELFTEST_REQ, 1, 0x4, .one, 0x0, 0x0, 0xF, 0x0, .none, 0x0⟩,
  ⟨R.PT_ST_STATUS, 1, 0x4, .one, 0x0, 0xFF0, 0x0, 0xF, .none, 0x0⟩,
  ⟨R.PT_ST_DELAY_COUNT, 4, 0x4, .one, 0x0, 0x0, 0x0, 0xFFFFFFFF, .none, 0x0⟩,
  ⟨R.PT_ST_SKIP_COUNT, 1, 0x4, .one, 0x0, 0x0, 0x0, 0xFFFFFFFF, .none, 0x0⟩,
  ⟨R.PT_SCHED_CTRL, 1, 0x4, .one, 0x1, 0x0, 0x2, 0xC, .none, 0x0⟩,
  ⟨R.PT_SCHED_LEN, 1, 0x4, .one, 0x1FF01FF, 0x0, 0x0, 0x0, .none, 0x0⟩,
  ⟨R.PT_SCHED_POS, 1, 0x4, .one, 0x0, 0x0, 0x0, 0x1FF, .none, 0x0⟩,
  ⟨R.PT_SCHED_FRAME_COUNT, 1, 0x4, .one, 0x0, 0x0, 0x0, 0xFFFFFFFF, .none, 0x0⟩,
  ⟨R.PT_SCHED_WIDX, 1, 0x4, .one, 0x1FF, 0x0, 0x0, 0x0, .none, 0x0⟩,
  ⟨R.PT_SCHED_WDATA0, 1, 0x4, .one, 0xFFFFF, 0x0, 0x0, 0x0, .none, 0x0⟩,
  ⟨R.PT_SCHED_WDATA1, 1, 0x4, .one, 0xFFFFFFFF, 0x0, 0x0, 0x0, .none, 0x0⟩,
  ⟨R.PT_SCHED_WDATA2, 1, 0x4, .one, 0xFFFFFFFF, 0x0, 0x0, 0x0, .none, 0x0⟩,
  ⟨R.PT_CHSEL, 1, 0x4, .req, 0xFF, 0x0, 0x0, 0x0, .none, 0x0⟩,
  ⟨R.PT_P_CTRL, 1, 0x4, .win R.PT_CHSEL 8, 0x7, 0x0, 0x0, 0x0, .none, 0x0⟩,
  ⟨R.PT_P_STATUS, 1, 0x4, .win R.PT_CHSEL 8, 0x0, 0x4, 0x0, 0x3F03, .none, 0x0⟩,
  ⟨R.PT_P_CLUSTERS, 1, 0x4, .win R.PT_CHSEL 8, 0xFF, 0x0, 0x0, 0x0, .none, 0x0⟩,
  ⟨R.PT_P_L2WAYS, 1, 0x4, .win R.PT_CHSEL 8, 0xFFFF, 0x0, 0x0, 0x0, .none, 0x0⟩,
  ⟨R.PT_P_BW, 1, 0x4, .win R.PT_CHSEL 8, 0x7F, 0x0, 0x0, 0x0, .none, 0x0⟩,
  ⟨R.PT_P_CE, 1, 0x4, .win R.PT_CHSEL 8, 0xF, 0x0, 0x0, 0x0, .none, 0x0⟩]

/-- Rows of block PT. -/
def regsPT1 : List RegRow := [
  ⟨R.PT_P_FAV, 1, 0x4, .win R.PT_CHSEL 8, 0xFF, 0x0, 0x0, 0x0, .none, 0xFF⟩,
  ⟨R.PT_P_FREE, 1, 0x4, .win R.PT_CHSEL 8, 0x0, 0x0, 0x0, 0xFFFFFF, .none, 0x0⟩,
  ⟨R.PT_P_RESIDENT, 1, 0x4, .win R.PT_CHSEL 8, 0x0, 0x0, 0x0, 0xFFFFFFFF, .none, 0x0⟩,
  ⟨R.PT_P_RING_BASE_LO, 1, 0x4, .win R.PT_CHSEL 8, 0xFFFFF000, 0x0, 0x0, 0x0, .lo, 0x0⟩,
  ⟨R.PT_P_RING_BASE_HI, 1, 0x4, .win R.PT_CHSEL 8, 0xFFFF, 0x0, 0x0, 0x0, .hi, 0x0⟩,
  ⟨R.PT_P_RING_CTRL, 1, 0x4, .win R.PT_CHSEL 8, 0xF01, 0x0, 0x0, 0x0, .none, 0x0⟩,
  ⟨R.PT_P_RING_PUSH_LO, 1, 0x4, .win R.PT_CHSEL 8, 0x0, 0x0, 0xFFFF0000, 0x0, .lo, 0x0⟩,
  ⟨R.PT_P_RING_PUSH_HI, 1, 0x4, .win R.PT_CHSEL 8, 0x0, 0x0, 0xFFFF, 0x0, .hi, 0x0⟩,
  ⟨R.PT_P_RING_OCC, 1, 0x4, .win R.PT_CHSEL 8, 0x0, 0x0, 0x0, 0x1FFFF, .none, 0x0⟩,
  ⟨R.PT_P_RING_OUT, 1, 0x4, .win R.PT_CHSEL 8, 0x0, 0x0, 0x0, 0x1FFFF, .none, 0x0⟩,
  ⟨R.PT_P_RING_POS, 1, 0x4, .win R.PT_CHSEL 8, 0x0, 0x0, 0x0, 0xFFFFFFFF, .none, 0x0⟩,
  ⟨R.PT_P_RING_FULL_COUNT, 1, 0x4, .win R.PT_CHSEL 8, 0x0, 0x0, 0x0, 0xFFFFFFFF, .none, 0x0⟩,
  ⟨R.PT_P_RING_EMPTY_COUNT, 1, 0x4, .win R.PT_CHSEL 8, 0x0, 0x0, 0x0, 0xFFFFFFFF, .none, 0x0⟩,
  ⟨R.PT_P_SLOT_OVERRUN_COUNT, 1, 0x4, .win R.PT_CHSEL 8, 0x0, 0x0, 0x0, 0xFFFFFFFF, .none, 0x0⟩,
  ⟨R.PT_P_SHARE_OVERRUN_COUNT, 1, 0x4, .win R.PT_CHSEL 8, 0x0, 0x0, 0x0, 0xFFFFFFFF, .none, 0x0⟩,
  ⟨R.PT_P_ADMIT_REFUSE_COUNT, 1, 0x4, .win R.PT_CHSEL 8, 0x0, 0x0, 0x0, 0xFFFFFFFF, .none, 0x0⟩,
  ⟨R.PT_P_MISMATCH_COUNT, 1, 0x4, .win R.PT_CHSEL 8, 0x0, 0x0, 0x0, 0xFFFFFFFF, .none, 0x0⟩]

/-- Rows of block PT. -/
def regsPT : List RegRow := regsPT0 ++ regsPT1

/-- Rows of block GD. -/
def regsGD0 : List RegRow := [
  ⟨R.GD_CTRL, 1, 0x4, .one, 0x3, 0x0, 0x0, 0x0, .none, 0x0⟩,
  ⟨R.GD_STATUS, 1, 0x4, .one, 0x0, 0x0, 0x0, 0xFF77, .none, 0x0⟩,
  ⟨R.GD_PERIOD, 1, 0x4, .one, 0xFFFFFF, 0x0, 0x0, 0x0, .none, 0x3C0⟩,
  ⟨R.GD_STALE_LIMIT, 1, 0x4, .one, 0xFF, 0x0, 0x0, 0x0, .none, 0x4⟩,
  ⟨R.GD_HIST_LEN, 1, 0x4, .one, 0xFF, 0x0, 0x0, 0x0, .none, 0x10⟩,
  ⟨R.GD_CONF_MIN, 1, 0x4, .one, 0xFF, 0x0, 0x0, 0x0, .none, 0x0⟩,
  ⟨R.GD_VERDICT, 1, 0x4, .one, 0x0, 0x0, 0x0, 0xFFFFFFFF, .none, 0xE⟩,
  ⟨R.GD_LAST_PAYLOAD, 1, 0x4, .one, 0x0, 0x0, 0x0, 0xFFFFFFFF, .none, 0x0⟩,
  ⟨R.GD_VSEQ_LO, 1, 0x4, .one, 0x0, 0x0, 0x0, 0xFFFFFFFF, .none, 0x0⟩,
  ⟨R.GD_VSEQ_HI, 1, 0x4, .one, 0x0, 0x0, 0x0, 0xFFFFFFFF, .none, 0x0⟩,
  ⟨R.GD_TIME_LO, 1, 0x4, .one, 0x0, 0x0, 0x0, 0xFFFFFFFF, .none, 0x0⟩,
  ⟨R.GD_TIME_HI, 1, 0x4, .one, 0x0, 0x0, 0x0, 0xFFFFFFFF, .none, 0x0⟩,
  ⟨R.GD_RING_BASE_LO, 1, 0x4, .one, 0xFFFFFFE0, 0x0, 0x0, 0x0, .lo, 0x0⟩,
  ⟨R.GD_RING_BASE_HI, 1, 0x4, .one, 0xFFFF, 0x0, 0x0, 0x0, .hi, 0x0⟩,
  ⟨R.GD_RING_CTRL, 1, 0x4, .one, 0xF01, 0x0, 0x0, 0x0, .none, 0x0⟩,
  ⟨R.GD_WAKE, 1, 0x4, .one, 0x0, 0x0, 0x1, 0x0, .none, 0x0⟩,
  ⟨R.GD_ARM_STATUS, 1, 0x4, .one, 0x0, 0x0, 0x0, 0xFF, .none, 0x0⟩,
  ⟨R.GD_ST_STATUS, 1, 0x4, .one, 0x0, 0xE, 0x0, 0x11, .none, 0x0⟩,
  ⟨R.GD_VERDICT_COUNT, 1, 0x4, .one, 0x0, 0x0, 0x0, 0xFFFFFFFF, .none, 0x0⟩,
  ⟨R.GD_STALE_COUNT, 1, 0x4, .one, 0x0, 0x0, 0x0, 0xFFFFFFFF, .none, 0x0⟩,
  ⟨R.GD_RESTART_COUNT, 1, 0x4, .one, 0x0, 0x0, 0x0, 0xFFFFFFFF, .none, 0x0⟩,
  ⟨R.GD_WAKE_MERGE_COUNT, 1, 0x4, .one, 0x0, 0x0, 0x0, 0xFFFFFFFF, .none, 0x0⟩,
  ⟨R.GD_RING_DROP_COUNT, 1, 0x4, .one, 0x0, 0x0, 0x0, 0xFFFFFFFF, .none, 0x0⟩,
  ⟨R.GD_ST_DELAY_COUNT, 1, 0x4, .one, 0x0, 0x0, 0x0, 0xFFFFFFFF, .none, 0x0⟩]

/-- Rows of block GD. -/
def regsGD1 : List RegRow := [
  ⟨R.GD_ST_SKIP_COUNT, 1, 0x4, .one, 0x0, 0x0, 0x0, 0xFFFFFFFF, .none, 0x0⟩,
  ⟨R.GD_ARM_REFUSE_COUNT, 1, 0x4, .one, 0x0, 0x0, 0x0, 0xFFFFFFFF, .none, 0x0⟩,
  ⟨R.GD_SRAM_CE_COUNT, 1, 0x4, .one, 0x0, 0x0, 0x0, 0xFFFFFFFF, .none, 0x0⟩,
  ⟨R.GD_MAX_RUN_CYCLES, 1, 0x4, .one, 0x0, 0x0, 0x0, 0xFFFFFFFF, .none, 0x0⟩,
  ⟨R.GD_SRAM_UE_COUNT, 1, 0x4, .one, 0x0, 0x0, 0x0, 0xFFFFFFFF, .none, 0x0⟩]

/-- Rows of block GD. -/
def regsGD : List RegRow := regsGD0 ++ regsGD1

/-- Rows of block CORE. -/
def regsCORE : List RegRow := [
  ⟨R.CORE_CHSEL, 1, 0x4, .req, 0xFF, 0x0, 0x0, 0x0, .none, 0x0⟩,
  ⟨R.CORE_STATUS, 1, 0x4, .win R.CORE_CHSEL 32, 0x0, 0x0, 0x0, 0x3F3FF7, .none, 0xF0⟩,
  ⟨R.CORE_SLOT_BUSY_LO, 1, 0x4, .win R.CORE_CHSEL 32, 0x0, 0x0, 0x0, 0xFFFFFFFF, .none, 0x0⟩,
  ⟨R.CORE_SLOT_BUSY_HI, 1, 0x4, .win R.CORE_CHSEL 32, 0x0, 0x0, 0x0, 0xFFFF, .none, 0x0⟩,
  ⟨R.CORE_TRAP_MODE_LO, 1, 0x4, .win R.CORE_CHSEL 32, 0x0, 0x0, 0x0, 0xFFFFFFFF, .none, 0x0⟩,
  ⟨R.CORE_TRAP_MODE_HI, 1, 0x4, .win R.CORE_CHSEL 32, 0x0, 0x0, 0x0, 0xFFFF, .none, 0x0⟩,
  ⟨R.CORE_LAST_TRAP, 1, 0x4, .win R.CORE_CHSEL 32, 0x0, 0x0, 0x0, 0xFFFF3FFF, .none, 0x0⟩,
  ⟨R.CORE_ISSUE_COUNT_LO, 1, 0x4, .win R.CORE_CHSEL 32, 0x0, 0x0, 0x0, 0xFFFFFFFF, .none, 0x0⟩,
  ⟨R.CORE_ISSUE_COUNT_HI, 1, 0x4, .win R.CORE_CHSEL 32, 0x0, 0x0, 0x0, 0xFFFFFFFF, .none, 0x0⟩,
  ⟨R.CORE_HAZARD_COUNT, 1, 0x4, .win R.CORE_CHSEL 32, 0x0, 0x0, 0x0, 0xFFFFFFFF, .none, 0x0⟩,
  ⟨R.CORE_SB_FULL_COUNT, 1, 0x4, .win R.CORE_CHSEL 32, 0x0, 0x0, 0x0, 0xFFFFFFFF, .none, 0x0⟩,
  ⟨R.CORE_MEMQ_FULL_COUNT, 1, 0x4, .win R.CORE_CHSEL 32, 0x0, 0x0, 0x0, 0xFFFFFFFF, .none, 0x0⟩,
  ⟨R.CORE_LINE_REQ_COUNT, 1, 0x4, .win R.CORE_CHSEL 32, 0x0, 0x0, 0x0, 0xFFFFFFFF, .none, 0x0⟩,
  ⟨R.CORE_L1_HIT_COUNT, 1, 0x4, .win R.CORE_CHSEL 32, 0x0, 0x0, 0x0, 0xFFFFFFFF, .none, 0x0⟩,
  ⟨R.CORE_L1_MISS_COUNT, 1, 0x4, .win R.CORE_CHSEL 32, 0x0, 0x0, 0x0, 0xFFFFFFFF, .none, 0x0⟩,
  ⟨R.CORE_WB_LINE_COUNT, 1, 0x4, .win R.CORE_CHSEL 32, 0x0, 0x0, 0x0, 0xFFFFFFFF, .none, 0x0⟩,
  ⟨R.CORE_TS_REPLAY_COUNT, 1, 0x4, .win R.CORE_CHSEL 32, 0x0, 0x0, 0x0, 0xFFFFFFFF, .none, 0x0⟩,
  ⟨R.CORE_PARK_COUNT, 1, 0x4, .win R.CORE_CHSEL 32, 0x0, 0x0, 0x0, 0xFFFFFFFF, .none, 0x0⟩,
  ⟨R.CORE_UNLK_NOT_OWNER_COUNT, 1, 0x4, .win R.CORE_CHSEL 32, 0x0, 0x0, 0x0, 0xFFFFFFFF, .none, 0x0⟩,
  ⟨R.CORE_TRAP_COUNT, 1, 0x4, .win R.CORE_CHSEL 32, 0x0, 0x0, 0x0, 0xFFFFFFFF, .none, 0x0⟩,
  ⟨R.CORE_FENCE_DEV_COUNT, 1, 0x4, .win R.CORE_CHSEL 32, 0x0, 0x0, 0x0, 0xFFFFFFFF, .none, 0x0⟩,
  ⟨R.CORE_WG_LAUNCH_COUNT, 1, 0x4, .win R.CORE_CHSEL 32, 0x0, 0x0, 0x0, 0xFFFFFFFF, .none, 0x0⟩]

/-- Rows of block RAS. -/
def regsRAS : List RegRow := [
  ⟨R.RAS_STATUS, 1, 0x4, .one, 0x0, 0x0, 0x0, 0xFFFFFF07, .none, 0x0⟩,
  ⟨R.RAS_PASS_COUNT, 1, 0x4, .one, 0x0, 0x0, 0x0, 0xFFFFFFFF, .none, 0x0⟩,
  ⟨R.RAS_PRIM_COUNT, 1, 0x4, .one, 0x0, 0x0, 0x0, 0xFFFFFFFF, .none, 0x0⟩,
  ⟨R.RAS_PRIM_REJECT_COUNT, 1, 0x4, .one, 0x0, 0x0, 0x0, 0xFFFFFFFF, .none, 0x0⟩,
  ⟨R.RAS_PRIM_DEGEN_COUNT, 1, 0x4, .one, 0x0, 0x0, 0x0, 0xFFFFFFFF, .none, 0x0⟩,
  ⟨R.RAS_CHUNK_COUNT, 1, 0x4, .one, 0x0, 0x0, 0x0, 0xFFFFFFFF, .none, 0x0⟩,
  ⟨R.RAS_GROW_COUNT, 1, 0x4, .one, 0x0, 0x0, 0x0, 0xFFFFFFFF, .none, 0x0⟩,
  ⟨R.RAS_FLUSH_COUNT, 1, 0x4, .one, 0x0, 0x0, 0x0, 0xFFFFFFFF, .none, 0x0⟩,
  ⟨R.RAS_TILE_COUNT, 1, 0x4, .one, 0x0, 0x0, 0x0, 0xFFFFFFFF, .none, 0x0⟩,
  ⟨R.RAS_FRAG_COUNT, 1, 0x4, .one, 0x0, 0x0, 0x0, 0xFFFFFFFF, .none, 0x0⟩,
  ⟨R.RAS_PIXPOD_COUNT, 1, 0x4, .one, 0x0, 0x0, 0x0, 0xFFFFFFFF, .none, 0x0⟩,
  ⟨R.RAS_EARLYZ_KILL_COUNT, 1, 0x4, .one, 0x0, 0x0, 0x0, 0xFFFFFFFF, .none, 0x0⟩,
  ⟨R.RAS_VIS_HIDDEN_COUNT, 1, 0x4, .one, 0x0, 0x0, 0x0, 0xFFFFFFFF, .none, 0x0⟩,
  ⟨R.RAS_ZDRAIN_COUNT, 1, 0x4, .one, 0x0, 0x0, 0x0, 0xFFFFFFFF, .none, 0x0⟩,
  ⟨R.RAS_LOAD_KIB, 1, 0x4, .one, 0x0, 0x0, 0x0, 0xFFFFFFFF, .none, 0x0⟩,
  ⟨R.RAS_STORE_KIB, 1, 0x4, .one, 0x0, 0x0, 0x0, 0xFFFFFFFF, .none, 0x0⟩]

/-- Rows of block RTU. -/
def regsRTU : List RegRow := [
  ⟨R.RTU_CHSEL, 1, 0x4, .req, 0xFF, 0x0, 0x0, 0x0, .none, 0x0⟩,
  ⟨R.RTU_STATUS, 1, 0x4, .win R.RTU_CHSEL 16, 0x0, 0x0, 0x0, 0xFF, .none, 0x0⟩,
  ⟨R.RTU_NODE_LIMIT, 1, 0x4, .win R.RTU_CHSEL 16, 0xFFFF, 0x0, 0x0, 0x0, .none, 0x4000⟩,
  ⟨R.RTU_QUERY_COUNT, 1, 0x4, .win R.RTU_CHSEL 16, 0x0, 0x0, 0x0, 0xFFFFFFFF, .none, 0x0⟩,
  ⟨R.RTU_HIT_COUNT, 1, 0x4, .win R.RTU_CHSEL 16, 0x0, 0x0, 0x0, 0xFFFFFFFF, .none, 0x0⟩,
  ⟨R.RTU_NODE_READ_COUNT, 1, 0x4, .win R.RTU_CHSEL 16, 0x0, 0x0, 0x0, 0xFFFFFFFF, .none, 0x0⟩,
  ⟨R.RTU_NODE_HIT_COUNT, 1, 0x4, .win R.RTU_CHSEL 16, 0x0, 0x0, 0x0, 0xFFFFFFFF, .none, 0x0⟩,
  ⟨R.RTU_NODE_MISS_COUNT, 1, 0x4, .win R.RTU_CHSEL 16, 0x0, 0x0, 0x0, 0xFFFFFFFF, .none, 0x0⟩,
  ⟨R.RTU_VOXEL_COUNT, 1, 0x4, .win R.RTU_CHSEL 16, 0x0, 0x0, 0x0, 0xFFFFFFFF, .none, 0x0⟩,
  ⟨R.RTU_LIMIT_COUNT, 1, 0x4, .win R.RTU_CHSEL 16, 0x0, 0x0, 0x0, 0xFFFFFFFF, .none, 0x0⟩,
  ⟨R.RTU_BADRAY_COUNT, 1, 0x4, .win R.RTU_CHSEL 16, 0x0, 0x0, 0x0, 0xFFFFFFFF, .none, 0x0⟩,
  ⟨R.RTU_SLOT_FULL_COUNT, 1, 0x4, .win R.RTU_CHSEL 16, 0x0, 0x0, 0x0, 0xFFFFFFFF, .none, 0x0⟩,
  ⟨R.RTU_MALFORMED_COUNT, 1, 0x4, .win R.RTU_CHSEL 16, 0x0, 0x0, 0x0, 0xFFFFFFFF, .none, 0x0⟩]

/-- Rows of block CE. -/
def regsCE : List RegRow := [
  ⟨R.CE_CODEC_ENC_COUNT, 1, 0x4, .one, 0x0, 0x0, 0x0, 0xFFFFFFFF, .none, 0x0⟩,
  ⟨R.CE_CODEC_LOSSY_COUNT, 1, 0x4, .one, 0x0, 0x0, 0x0, 0xFFFFFFFF, .none, 0x0⟩,
  ⟨R.CE_CODEC_BAD_COUNT, 1, 0x4, .one, 0x0, 0x0, 0x0, 0xFFFFFFFF, .none, 0x0⟩,
  ⟨R.CE_CODEC_MAXE, 1, 0x4, .one, 0x0, 0x0, 0x0, 0xF, .none, 0x0⟩,
  ⟨R.CE_CODEC_CLEAR, 1, 0x4, .one, 0x0, 0x0, 0x1, 0x0, .none, 0x0⟩,
  ⟨R.CE_GWIN_CTRL, 1, 0x4, .one, 0xFF01, 0x0, 0x0, 0x0, .none, 0x0⟩,
  ⟨R.CE_GWIN_BASE, 1, 0x4, .one, 0x1FFFC0, 0x0, 0x0, 0x0, .none, 0x0⟩,
  ⟨R.CE_GWIN_SIZE, 1, 0x4, .one, 0x3FFFC0, 0x0, 0x0, 0x0, .none, 0x0⟩,
  ⟨R.CE_CHSEL, 1, 0x4, .req, 0xFF, 0x0, 0x0, 0x0, .none, 0x0⟩,
  ⟨R.CE_STATUS, 1, 0x4, .win R.CE_CHSEL 4, 0x0, 0x0, 0x0, 0x3FF03, .none, 0x0⟩,
  ⟨R.CE_READ_BYTES_LO, 1, 0x4, .win R.CE_CHSEL 4, 0x0, 0x0, 0x0, 0xFFFFFFFF, .none, 0x0⟩,
  ⟨R.CE_READ_BYTES_HI, 1, 0x4, .win R.CE_CHSEL 4, 0x0, 0x0, 0x0, 0xFFFFFFFF, .none, 0x0⟩,
  ⟨R.CE_WRITE_BYTES_LO, 1, 0x4, .win R.CE_CHSEL 4, 0x0, 0x0, 0x0, 0xFFFFFFFF, .none, 0x0⟩,
  ⟨R.CE_WRITE_BYTES_HI, 1, 0x4, .win R.CE_CHSEL 4, 0x0, 0x0, 0x0, 0xFFFFFFFF, .none, 0x0⟩,
  ⟨R.CE_DESC_COUNT, 1, 0x4, .win R.CE_CHSEL 4, 0x0, 0x0, 0x0, 0xFFFFFFFF, .none, 0x0⟩,
  ⟨R.CE_LINEQ_FULL_COUNT, 1, 0x4, .win R.CE_CHSEL 4, 0x0, 0x0, 0x0, 0xFFFFFFFF, .none, 0x0⟩,
  ⟨R.CE_OUTLIMIT_COUNT, 1, 0x4, .win R.CE_CHSEL 4, 0x0, 0x0, 0x0, 0xFFFFFFFF, .none, 0x0⟩,
  ⟨R.CE_STREAM_BAD_COUNT, 1, 0x4, .win R.CE_CHSEL 4, 0x0, 0x0, 0x0, 0xFFFFFFFF, .none, 0x0⟩,
  ⟨R.CE_LOSSY_BLOCK_COUNT, 1, 0x4, .win R.CE_CHSEL 4, 0x0, 0x0, 0x0, 0xFFFFFFFF, .none, 0x0⟩]

/-- Rows of block CRC. -/
def regsCRC : List RegRow := [
  ⟨R.CRC_CHSEL, 1, 0x4, .req, 0xFF, 0x0, 0x0, 0x0, .none, 0x0⟩,
  ⟨R.CRC_CTRL, 1, 0x4, .win R.CRC_CHSEL 8, 0x3F1F, 0x0, 0x0, 0x0, .none, 0x0⟩,
  ⟨R.CRC_FRAME_BYTES, 1, 0x4, .win R.CRC_CHSEL 8, 0xFFFFFFFF, 0x0, 0x0, 0x0, .none, 0x0⟩,
  ⟨R.CRC_STATUS, 1, 0x4, .win R.CRC_CHSEL 8, 0x0, 0x3, 0x0, 0x0, .none, 0x0⟩,
  ⟨R.CRC_EXPECT_LO, 1, 0x4, .win R.CRC_CHSEL 8, 0xFFFFFFFF, 0x0, 0x0, 0x0, .lo, 0x0⟩,
  ⟨R.CRC_EXPECT_HI, 1, 0x4, .win R.CRC_CHSEL 8, 0xFFFFFFFF, 0x0, 0x0, 0x0, .hi, 0x0⟩,
  ⟨R.CRC_LAST_LO, 1, 0x4, .win R.CRC_CHSEL 8, 0x0, 0x0, 0x0, 0xFFFFFFFF, .none, 0x0⟩,
  ⟨R.CRC_LAST_HI, 1, 0x4, .win R.CRC_CHSEL 8, 0x0, 0x0, 0x0, 0xFFFFFFFF, .none, 0x0⟩,
  ⟨R.CRC_FRAME_COUNT, 1, 0x4, .win R.CRC_CHSEL 8, 0x0, 0x0, 0x0, 0xFFFFFFFF, .none, 0x0⟩,
  ⟨R.CRC_MISMATCH_COUNT, 1, 0x4, .win R.CRC_CHSEL 8, 0x0, 0x0, 0x0, 0xFFFFFFFF, .none, 0x0⟩,
  ⟨R.CRC_LAST_EXP_LO, 1, 0x4, .win R.CRC_CHSEL 8, 0x0, 0x0, 0x0, 0xFFFFFFFF, .none, 0x0⟩,
  ⟨R.CRC_LAST_EXP_HI, 1, 0x4, .win R.CRC_CHSEL 8, 0x0, 0x0, 0x0, 0xFFFFFFFF, .none, 0x0⟩]

/-- Rows of block FAB. -/
def regsFAB0 : List RegRow := [
  ⟨R.FAB_NODE_ID, 1, 0x4, .one, 0x800007FF, 0x0, 0x0, 0x0, .none, 0x0⟩,
  ⟨R.FAB_RESP_TIMEOUT, 1, 0x4, .one, 0xFFFF, 0x0, 0x0, 0x0, .none, 0x3E8⟩,
  ⟨R.FAB_LEAVE, 1, 0x4, .one, 0x0, 0x0, 0x7FF, 0x0, .none, 0x0⟩,
  ⟨R.FAB_CFG_STATUS, 1, 0x4, .one, 0x0, 0x6, 0x0, 0x0, .none, 0x0⟩,
  ⟨R.FAB_ROUTE_IDX, 1, 0x4, .one, 0x7FF, 0x0, 0x0, 0x0, .none, 0x0⟩,
  ⟨R.FAB_ROUTE_DATA, 1, 0x4, .one, 0xF, 0x0, 0x0, 0x0, .none, 0x0⟩,
  ⟨R.FAB_WIN_IDX, 1, 0x4, .one, 0x3F, 0x0, 0x0, 0x0, .none, 0x0⟩,
  ⟨R.FAB_WIN_DATA0, 1, 0x4, .one, 0xFFFFFFFF, 0x0, 0x0, 0x0, .none, 0x0⟩,
  ⟨R.FAB_WIN_DATA1, 1, 0x4, .one, 0xFFFFFFFF, 0x0, 0x0, 0x0, .none, 0x0⟩,
  ⟨R.FAB_WIN_DATA2, 1, 0x4, .one, 0x7FF07FF, 0x0, 0x0, 0x0, .none, 0x0⟩,
  ⟨R.FAB_WIN_DATA3, 1, 0x4, .one, 0xF, 0x0, 0x0, 0x0, .none, 0x0⟩,
  ⟨R.FAB_GRP_IDX, 1, 0x4, .one, 0x3F, 0x0, 0x0, 0x0, .none, 0x0⟩,
  ⟨R.FAB_GRP_DATA0, 1, 0x4, .one, 0x80FFFFFF, 0x0, 0x0, 0x0, .none, 0x0⟩,
  ⟨R.FAB_GRP_DATA1, 1, 0x4, .one, 0xFFF, 0x0, 0x0, 0x0, .none, 0x0⟩,
  ⟨R.FAB_GRP_DATA2, 1, 0x4, .one, 0xFFFFFFF8, 0x0, 0x0, 0x0, .none, 0x0⟩,
  ⟨R.FAB_GRP_DATA3, 1, 0x4, .one, 0xFFFF, 0x0, 0x0, 0x0, .none, 0x0⟩,
  ⟨R.FAB_REFUSE_COUNT, 1, 0x4, .one, 0x0, 0x0, 0x0, 0xFFFFFFFF, .none, 0x0⟩,
  ⟨R.FAB_TIMEOUT_COUNT, 1, 0x4, .one, 0x0, 0x0, 0x0, 0xFFFFFFFF, .none, 0x0⟩,
  ⟨R.FAB_LATE_RSP_COUNT, 1, 0x4, .one, 0x0, 0x0, 0x0, 0xFFFFFFFF, .none, 0x0⟩,
  ⟨R.FAB_ABORT_TX_COUNT, 1, 0x4, .one, 0x0, 0x0, 0x0, 0xFFFFFFFF, .none, 0x0⟩,
  ⟨R.FAB_ABORT_RX_COUNT, 1, 0x4, .one, 0x0, 0x0, 0x0, 0xFFFFFFFF, .none, 0x0⟩,
  ⟨R.FAB_ABORT_IGNORED_COUNT, 1, 0x4, .one, 0x0, 0x0, 0x0, 0xFFFFFFFF, .none, 0x0⟩,
  ⟨R.FAB_LOOPBACK_COUNT, 1, 0x4, .one, 0x0, 0x0, 0x0, 0xFFFFFFFF, .none, 0x0⟩,
  ⟨R.FAB_CHSEL, 1, 0x4, .req, 0xFF, 0x0, 0x0, 0x0, .none, 0x0⟩]

/-- Rows of block FAB. -/
def regsFAB1 : List RegRow := [
  ⟨R.FAB_P_CTRL, 1, 0x4, .win R.FAB_CHSEL 4, 0x1, 0x0, 0x0, 0x0, .none, 0x0⟩,
  ⟨R.FAB_P_STATUS, 1, 0x4, .win R.FAB_CHSEL 4, 0x0, 0x0, 0x0, 0x3, .none, 0x0⟩,
  ⟨R.FAB_P_TX_BYTES, 1, 0x4, .win R.FAB_CHSEL 4, 0x0, 0x0, 0x0, 0xFFFFFFFF, .none, 0x0⟩,
  ⟨R.FAB_P_RX_BYTES, 1, 0x4, .win R.FAB_CHSEL 4, 0x0, 0x0, 0x0, 0xFFFFFFFF, .none, 0x0⟩,
  ⟨R.FAB_P_RETRY_COUNT, 1, 0x4, .win R.FAB_CHSEL 4, 0x0, 0x0, 0x0, 0xFFFFFFFF, .none, 0x0⟩,
  ⟨R.FAB_P_DOWN_COUNT, 1, 0x4, .win R.FAB_CHSEL 4, 0x0, 0x0, 0x0, 0xFFFFFFFF, .none, 0x0⟩]

/-- Rows of block FAB. -/
def regsFAB : List RegRow := regsFAB0 ++ regsFAB1

/-- Rows of block PWR. -/
def regsPWR : List RegRow := [
  ⟨R.PWR_DCMD, 1, 0x4, .one, 0x0, 0x0, 0x31F, 0x0, .none, 0x0⟩,
  ⟨R.PWR_DCMD_RESULT, 1, 0x4, .req, 0x0, 0x0, 0x0, 0x10F1F, .none, 0x0⟩,
  ⟨R.PWR_STATE_LO, 1, 0x4, .one, 0x0, 0x0, 0x0, 0x3, .none, 0x0⟩,
  ⟨R.PWR_STATE_HI, 1, 0x4, .one, 0x0, 0x0, 0x0, 0x80000000, .none, 0x0⟩,
  ⟨R.PWR_IMAGE_VALID, 1, 0x4, .one, 0x0, 0x0, 0x0, 0xFFFFFFFF, .none, 0x0⟩,
  ⟨R.PWR_RETMASK_GD, 1, 0x4, .one, 0xFF, 0x0, 0x0, 0x0, .none, 0xFF⟩,
  ⟨R.PWR_AOREG, 1, 0x4, .one, 0x3, 0x0, 0x0, 0x300, .none, 0x0⟩,
  ⟨R.PWR_TIER, 1, 0x4, .one, 0x0, 0x0, 0x0, 0x13, .none, 0x13⟩,
  ⟨R.PWR_EVT, 1, 0x4, .one, 0x0, 0x3FF, 0x0, 0x0, .none, 0x0⟩,
  ⟨R.PWR_WAKE_EN, 1, 0x4, .one, 0x7, 0x0, 0x0, 0x0, .none, 0x1⟩,
  ⟨R.PWR_WAKE_TIMER, 1, 0x4, .one, 0xFFFFFF, 0x0, 0x0, 0x0, .none, 0x0⟩,
  ⟨R.PWR_WAKE_CAUSE, 1, 0x4, .one, 0x0, 0x0, 0x0, 0x7, .none, 0x0⟩,
  ⟨R.PWR_REFUSE_COUNT, 1, 0x4, .one, 0x0, 0x0, 0x0, 0xFFFFFFFF, .none, 0x0⟩,
  ⟨R.PWR_TRANSITION_COUNT, 1, 0x4, .one, 0x0, 0x0, 0x0, 0xFFFFFFFF, .none, 0x0⟩,
  ⟨R.PWR_CRIT_OFF_COUNT, 1, 0x4, .one, 0x0, 0x0, 0x0, 0xFFFFFFFF, .none, 0x0⟩,
  ⟨R.PWR_TIER_CHANGE_COUNT, 1, 0x4, .one, 0x0, 0x0, 0x0, 0xFFFFFFFF, .none, 0x0⟩,
  ⟨R.PWR_RETMASK_CL, 8, 0x4, .one, 0xFFFF, 0x0, 0x0, 0x0, .none, 0xFFFF⟩]

/-- Rows of block CLK. -/
def regsCLK : List RegRow := [
  ⟨R.CLK_PP_REQ, 1, 0x4, .one, 0x7, 0x0, 0x0, 0x0, .none, 0x5⟩,
  ⟨R.CLK_PP_STATUS, 1, 0x4, .one, 0x0, 0x0, 0x0, 0x37777, .none, 0x555⟩,
  ⟨R.CLK_THROTTLE_PP, 1, 0x4, .one, 0x7, 0x0, 0x0, 0x0, .none, 0x3⟩,
  ⟨R.CLK_VSETTLE, 1, 0x4, .one, 0x3FF, 0x0, 0x0, 0x0, .none, 0x3C⟩,
  ⟨R.CLK_PP_CHANGE_COUNT, 1, 0x4, .one, 0x0, 0x0, 0x0, 0xFFFFFFFF, .none, 0x0⟩,
  ⟨R.CLK_TIER_CAP_COUNT, 1, 0x4, .one, 0x0, 0x0, 0x0, 0xFFFFFFFF, .none, 0x0⟩,
  ⟨R.CLK_THERM_CAP_COUNT, 1, 0x4, .one, 0x0, 0x0, 0x0, 0xFFFFFFFF, .none, 0x0⟩,
  ⟨R.CLK_ROOT_UNLOCK_COUNT, 1, 0x4, .one, 0x0, 0x0, 0x0, 0xFFFFFFFF, .none, 0x0⟩]

/-- Rows of block THM. -/
def regsTHM : List RegRow := [
  ⟨R.THM_SUMMARY, 1, 0x4, .one, 0x0, 0xF0F00, 0x0, 0xF, .none, 0x0⟩,
  ⟨R.THM_VALID, 1, 0x4, .one, 0x0, 0x0, 0x0, 0xFFFFFF, .none, 0x0⟩,
  ⟨R.THM_XCOUNT_WARN, 1, 0x4, .one, 0x0, 0x0, 0x0, 0xFFFFFFFF, .none, 0x0⟩,
  ⟨R.THM_XCOUNT_THROTTLE, 1, 0x4, .one, 0x0, 0x0, 0x0, 0xFFFFFFFF, .none, 0x0⟩,
  ⟨R.THM_XCOUNT_CRIT, 1, 0x4, .one, 0x0, 0x0, 0x0, 0xFFFFFFFF, .none, 0x0⟩,
  ⟨R.THM_XCOUNT_GDLIM, 1, 0x4, .one, 0x0, 0x0, 0x0, 0xFFFFFFFF, .none, 0x0⟩,
  ⟨R.THM_TEMP, 24, 0x4, .one, 0x0, 0x0, 0x0, 0xFFFFFFFF, .none, 0x0⟩,
  ⟨R.THM_STAT, 15, 0x4, .one, 0x0, 0x70700, 0x0, 0x7, .none, 0x0⟩,
  ⟨R.THM_STAT + 60, 1, 0x4, .one, 0x0, 0xF0F00, 0x0, 0xF, .none, 0x0⟩,
  ⟨R.THM_STAT + 64, 8, 0x4, .one, 0x0, 0x70700, 0x0, 0x7, .none, 0x0⟩]

/-- Rows of block RST. -/
def regsRST0 : List RegRow := [
  ⟨R.RST_CTRL, 1, 0x4, .one, 0x0, 0x0, 0x3, 0x0, .none, 0x0⟩,
  ⟨R.RST_CAUSE, 1, 0x4, .one, 0x0, 0x0, 0x0, 0x10F0F, .none, 0x101⟩,
  ⟨R.RST_STATUS, 1, 0x4, .one, 0x0, 0x2, 0x0, 0x1, .none, 0x0⟩,
  ⟨R.RST_HOLD_MS, 1, 0x4, .one, 0x0, 0x0, 0x0, 0xFFFFFFFF, .none, 0x0⟩,
  ⟨R.RST_PRESET, 1, 0x4, .one, 0x0, 0x0, 0x7, 0x0, .none, 0x0⟩,
  ⟨R.RST_ERESET, 1, 0x4, .one, 0x0, 0x0, 0x1FF, 0x0, .none, 0x0⟩,
  ⟨R.RST_RESULT, 1, 0x4, .req, 0x0, 0x0, 0x0, 0xFFF, .none, 0x0⟩,
  ⟨R.RST_FEC_LOAD_ADDR_LO, 1, 0x4, .one, 0xFFFFF000, 0x0, 0x0, 0x0, .lo, 0x0⟩,
  ⟨R.RST_FEC_LOAD_ADDR_HI, 1, 0x4, .one, 0xFFFF, 0x0, 0x0, 0x0, .hi, 0x0⟩,
  ⟨R.RST_FEC_LOAD_LEN, 1, 0x4, .one, 0x7FFFF, 0x0, 0x0, 0x0, .none, 0x0⟩,
  ⟨R.RST_FEC_LOAD_ENTRY, 1, 0x4, .one, 0x3FFFF, 0x0, 0x0, 0x0, .none, 0x0⟩,
  ⟨R.RST_FEC_STATUS, 2, 0x4, .one, 0x0, 0x0, 0x0, 0xF37, .none, 0x0⟩,
  ⟨R.RST_FEC_RESTART_COUNT, 2, 0x4, .one, 0x0, 0x0, 0x0, 0xFFFFFFFF, .none, 0x0⟩,
  ⟨R.RST_FEC_WDT, 2, 0x4, .one, 0x3FFF, 0x0, 0x0, 0x0, .none, 0x3E8⟩,
  ⟨R.RST_FEC_KICK, 1, 0x4, .one, 0x0, 0x0, 0x1, 0x0, .none, 0x0⟩,
  ⟨R.RST_FLASH_CTRL, 1, 0x4, .one, 0x1, 0x0, 0x0, 0x0, .none, 0x0⟩,
  ⟨R.RST_MEAS_SEL, 1, 0x4, .req, 0x7, 0x0, 0x0, 0x0, .none, 0x0⟩,
  ⟨R.RST_MEAS_INFO, 1, 0x4, .one, 0x0, 0x0, 0x0, 0xFF01, .none, 0x0⟩,
  ⟨R.RST_MEAS_DATA, 12, 0x4, .one, 0x0, 0x0, 0x0, 0xFFFFFFFF, .none, 0x0⟩,
  ⟨R.RST_GLITCH_COUNT, 1, 0x4, .one, 0x0, 0x0, 0x0, 0xFFFFFFFF, .none, 0x0⟩,
  ⟨R.RST_STUCK_COUNT, 1, 0x4, .one, 0x0, 0x0, 0x0, 0xFFFFFFFF, .none, 0x0⟩,
  ⟨R.RST_BOOT_DONE_COUNT, 1, 0x4, .one, 0x0, 0x0, 0x0, 0xFFFFFFFF, .none, 0x0⟩,
  ⟨R.RST_LOG_IDX, 1, 0x4, .req, 0x3F, 0x0, 0x0, 0x0, .none, 0x0⟩,
  ⟨R.RST_LOG_DATA, 4, 0x4, .one, 0x0, 0x0, 0x0, 0xFFFFFFFF, .none, 0x0⟩]

/-- Rows of block RST. -/
def regsRST1 : List RegRow := [
  ⟨R.RST_LOG_COUNT, 1, 0x4, .one, 0x0, 0x0, 0x0, 0xFFFFFFFF, .none, 0x0⟩]

/-- Rows of block RST. -/
def regsRST : List RegRow := regsRST0 ++ regsRST1

/-- Rows of block PSD. -/
def regsPSD : List RegRow := [
  ⟨R.PSD_LINK_STATUS, 1, 0x4, .one, 0x0, 0x0, 0x0, 0xFFFF03, .none, 0x0⟩,
  ⟨R.PSD_STATUS, 1, 0x4, .one, 0x0, 0x0, 0x0, 0xFFFF0F7F, .none, 0x3⟩,
  ⟨R.PSD_EVT, 1, 0x4, .one, 0x0, 0x7FF, 0x0, 0x0, .none, 0x0⟩,
  ⟨R.PSD_WAKE_MASK, 1, 0x4, .one, 0x7FF, 0x0, 0x0, 0x0, .none, 0x11⟩,
  ⟨R.PSD_CMD, 1, 0x4, .one, 0x0, 0x0, 0xFFFF00FF, 0x0, .none, 0x0⟩,
  ⟨R.PSD_CMD_STATUS, 1, 0x4, .one, 0x0, 0xF00, 0x0, 0xFF003F, .none, 0x0⟩,
  ⟨R.PSD_NTC, 4, 0x4, .one, 0x0, 0x0, 0x0, 0xFFFFF, .none, 0x0⟩,
  ⟨R.PSD_RX_CRC_COUNT, 1, 0x4, .one, 0x0, 0x0, 0x0, 0xFFFFFFFF, .none, 0x0⟩,
  ⟨R.PSD_CMD_RETRY_COUNT, 1, 0x4, .one, 0x0, 0x0, 0x0, 0xFFFFFFFF, .none, 0x0⟩,
  ⟨R.PSD_CMD_FAIL_COUNT, 1, 0x4, .one, 0x0, 0x0, 0x0, 0xFFFFFFFF, .none, 0x0⟩,
  ⟨R.PSD_PEER_RXERR, 1, 0x4, .one, 0x0, 0x0, 0x0, 0xFF, .none, 0x0⟩,
  ⟨R.PSD_FAULT_COUNT, 1, 0x4, .one, 0x0, 0x0, 0x0, 0xFFFFFFFF, .none, 0x0⟩,
  ⟨R.PSD_REFCHK_COUNT, 1, 0x4, .one, 0x0, 0x0, 0x0, 0xFFFFFFFF, .none, 0x0⟩,
  ⟨R.PSD_REFCHK_DELAY_COUNT, 1, 0x4, .one, 0x0, 0x0, 0x0, 0xFFFFFFFF, .none, 0x0⟩,
  ⟨R.PSD_LOG_IDX, 1, 0x4, .req, 0xF, 0x0, 0x0, 0x0, .none, 0x0⟩,
  ⟨R.PSD_LOG_DATA, 1, 0x4, .one, 0x0, 0x0, 0x0, 0x80FFFFFF, .none, 0x0⟩,
  ⟨R.PSD_CELLSEL, 1, 0x4, .req, 0xFF, 0x0, 0x0, 0x0, .none, 0x0⟩,
  ⟨R.PSD_C_VOLT, 1, 0x4, .win R.PSD_CELLSEL 16, 0x0, 0x0, 0x0, 0xFFFFFFFF, .none, 0x0⟩,
  ⟨R.PSD_C_STAT, 1, 0x4, .win R.PSD_CELLSEL 16, 0x0, 0xF00, 0x0, 0x3F, .none, 0x0⟩,
  ⟨R.PSD_C_OV_XCOUNT, 1, 0x4, .win R.PSD_CELLSEL 16, 0x0, 0x0, 0x0, 0xFFFFFFFF, .none, 0x0⟩,
  ⟨R.PSD_C_UV_XCOUNT, 1, 0x4, .win R.PSD_CELLSEL 16, 0x0, 0x0, 0x0, 0xFFFFFFFF, .none, 0x0⟩,
  ⟨R.PSD_CFG + 0, 1, 0x4, .one, 0x0, 0x0, 0x0, 0xFFFF, .none, 0x10⟩,
  ⟨R.PSD_CFG + 4, 1, 0x4, .one, 0x0, 0x0, 0x0, 0xFFFF, .none, 0x1⟩,
  ⟨R.PSD_CFG + 8, 1, 0x4, .one, 0x0, 0x0, 0x0, 0xFFFF, .none, 0xAF⟩,
  ⟨R.PSD_CFG + 12, 1, 0x4, .one, 0x0, 0x0, 0x0, 0xFFFF, .none, 0x82⟩,
  ⟨R.PSD_CFG + 16, 1, 0x4, .one, 0x0, 0x0, 0x0, 0xFFFF, .none, 0x11F⟩,
  ⟨R.PSD_CFG + 20, 1, 0x4, .one, 0x0, 0x0, 0x0, 0xFFFF, .none, 0x3AC9⟩,
  ⟨R.PSD_CFG + 24, 1, 0x4, .one, 0x0, 0x0, 0x0, 0xFFFF, .none, 0xE2BF⟩,
  ⟨R.PSD_CFG + 28, 1, 0x4, .one, 0x0, 0x0, 0x0, 0xFFFF, .none, 0x96⟩,
  ⟨R.PSD_CFG + 32, 1, 0x4, .one, 0x0, 0x0, 0x0, 0xFFFF, .none, 0x82⟩,
  ⟨R.PSD_CFG + 36, 1, 0x4, .one, 0x0, 0x0, 0x0, 0xFFFF, .none, 0x6E⟩,
  ⟨R.PSD_CFG + 40, 1, 0x4, .one, 0x0, 0x0, 0x0, 0xFFFF, .none, 0xA⟩,
  ⟨R.PSD_CFG + 52, 1, 0x4, .one, 0x0, 0x0, 0x0, 0xFFFF, .none, 0xA⟩,
  ⟨R.PSD_CFG + 56, 1, 0x4, .one, 0x0, 0x0, 0x0, 0xFFFF, .none, 0x3C⟩,
  ⟨R.PSD_CFG + 60, 1, 0x4, .one, 0x0, 0x0, 0x0, 0xFFFF, .none, 0xF⟩,
  ⟨R.PSD_CFG, 32, 0x4, .one, 0x0, 0x0, 0x0, 0xFFFF, .none, 0x0⟩]

/-- Rows of block DBG. -/
def regsDBG : List RegRow := [
  ⟨R.DBG_MON_STATUS, 1, 0x4, .one, 0x0, 0x0, 0x0, 0x377, .none, 0x101⟩,
  ⟨R.DBG_MON_CTRL, 1, 0x4, .one, 0x0, 0x0, 0x1, 0x0, .none, 0x0⟩,
  ⟨R.DBG_MON_CMD_COUNT, 1, 0x4, .one, 0x0, 0x0, 0x0, 0xFFFFFFFF, .none, 0x0⟩,
  ⟨R.DBG_MON_ERR_COUNT, 1, 0x4, .one, 0x0, 0x0, 0x0, 0xFFFFFFFF, .none, 0x0⟩,
  ⟨R.DBG_MON_RX_ERR_COUNT, 1, 0x4, .one, 0x0, 0x0, 0x0, 0xFFFFFFFF, .none, 0x0⟩,
  ⟨R.DBG_UNLOCK_COUNT, 1, 0x4, .one, 0x0, 0x0, 0x0, 0xFFFFFFFF, .none, 0x0⟩,
  ⟨R.DBG_UNLOCK_FAIL_COUNT, 1, 0x4, .one, 0x0, 0x0, 0x0, 0xFFFFFFFF, .none, 0x0⟩,
  ⟨R.DBG_PCTRL, 1, 0x4, .one, 0x1, 0x0, 0x2, 0x0, .none, 0x0⟩,
  ⟨R.DBG_PSEL, 8, 0x4, .one, 0xFFF, 0x0, 0x0, 0x0, .none, 0xF00⟩,
  ⟨R.DBG_PC_LO, 8, 0x8, .one, 0x0, 0x0, 0x0, 0xFFFFFFFF, .none, 0x0⟩,
  ⟨R.DBG_PC_HI, 8, 0x8, .one, 0x0, 0x0, 0x0, 0xFFFFFFFF, .none, 0x0⟩]

/-- Rows of block QDB. -/
def regsQDB : List RegRow := [
  ⟨R.QDB_TAIL, 53, 0x1000, .one, 0x0, 0x0, 0xFFFFFFFF, 0x0, .none, 0x0⟩,
  ⟨R.QDB_DONE_LO, 53, 0x1000, .one, 0x0, 0x0, 0x0, 0xFFFFFFFF, .none, 0x0⟩,
  ⟨R.QDB_DONE_HI, 53, 0x1000, .one, 0x0, 0x0, 0x0, 0xFFFFFFFF, .none, 0x0⟩,
  ⟨R.QDB_STATUS, 53, 0x1000, .one, 0x0, 0x1, 0x0, 0x6, .none, 0x0⟩]

/-- Rows of block GDB. -/
def regsGDB : List RegRow := [
  ⟨R.GDB_LAUNCH_LO, 256, 0x1000, .one, 0x0, 0x0, 0xFFFFFFC0, 0x0, .lo, 0x0⟩,
  ⟨R.GDB_LAUNCH_HI, 256, 0x1000, .one, 0x0, 0x0, 0xFFFFFFFF, 0x0, .hi, 0x0⟩,
  ⟨R.GDB_ACCEPT_COUNT, 256, 0x1000, .one, 0x0, 0x0, 0x0, 0xFFFFFFFF, .none, 0x0⟩,
  ⟨R.GDB_REFUSE_COUNT, 256, 0x1000, .one, 0x0, 0x0, 0x0, 0xFFFFFFFF, .none, 0x0⟩,
  ⟨R.GDB_LAST_REFUSE, 256, 0x1000, .one, 0x0, 0x0, 0x0, 0xFFFF00FF, .none, 0x0⟩,
  ⟨R.GDB_DONE_COUNT, 256, 0x1000, .one, 0x0, 0x0, 0x0, 0xFFFFFFFF, .none, 0x0⟩,
  ⟨R.GDB_STATUS, 256, 0x1000, .one, 0x0, 0x1, 0x0, 0x0, .none, 0x0⟩]

/-- The rows of the block that holds a BAR0 offset (02 Table HST-4); a reserved range has none. -/
def blockRows (off : Nat) : List RegRow :=
  if off < 0x1000000 then
    match off / 0x10000 with
    | 0 => regsGLB
    | 1 => regsHIF
    | 2 => regsMMU
    | 3 => regsQM
    | 4 => regsGX
    | 5 => regsPT
    | 6 => regsGD
    | 7 => regsCORE
    | 8 => regsRAS
    | 9 => regsRTU
    | 10 => regsCE
    | 11 => regsCRC
    | 12 => regsFAB
    | 13 => regsPWR
    | 14 => regsCLK
    | 15 => regsTHM
    | 16 => regsRST
    | 17 => regsPSD
    | 18 => regsDBG
    | _ => []
  else if off < 0x1100000 then regsQDB else if off < 0x1200000 then regsGDB else []

/-- Does a row name the register at an offset? -/
def RegRow.hits (r : RegRow) (off : Nat) : Bool :=
  r.off ≤ off && (off - r.off) % r.stride == 0 && (off - r.off) / r.stride < r.num

/-- The row of the register at a BAR0 offset; none at a reserved offset (00 R8). -/
def regRow? (off : Nat) : Option RegRow := (blockRows off).find? (·.hits off)

/-- Copies of one register are held under keys that differ by this stride (BAR0 is 64 MiB, 00 R5). -/
abbrev copyStride : Nat := 0x4000000

/-- The reset value of a register under its key (the register summaries' Reset column). -/
def regReset (key : Nat) : BitVec 32 :=
  match regRow? (key % copyStride) with
  | some r => BitVec.ofNat 32 r.rst
  | none => 0

end Sys2Proof.Machine
end

