-- ==== Sys2Proof/Machine/State.lean ====
section
/-! DEFINITION. The state of Ruwen, the reasons why a command can stop, and the machine right after reset. -/

namespace Sys2Proof.Machine

/-- Why the model stops on a command. -/
inductive Fault where
  /-- Raised by an event command that cannot come about in the state it is put to (no such walk, packet, pod, transition ...).
  It is no behaviour of Ruwen's. Safe: nothing is claimed of what follows. -/
  | cannotOccur (event : String)
deriving DecidableEq, Repr

/-- Why the model gives a command no meaning. -/
inductive Refusal where
  /-- Raised by an arm of `exec` whose command has no meaning yet. Safe: nothing is claimed of what follows. -/
  | notModelled (mnemonic : String)
deriving DecidableEq, Repr

/-- The machine's state. -/
structure State where
  /-- Every BAR0 register that holds a value, by key (offset + copy * copyStride); an unlisted one holds its reset value. -/
  regs : List (Nat × BitVec 32) := []
  /-- Staged low halves of writable pairs by key (00 R11), the copy being the requester's number. -/
  stage : List (Nat × BitVec 32) := []
  fuses : Fuses := {}
  hs : HostSide := {}
  ms : MemSide := {}
  mmu : MmuState := {}
  qm : QmState := {}
  pt : PtState := {}
  fab : FabState := {}
  crc : List CrcUnit := List.replicate 8 {}
  cores : List Core := List.replicate 32 {}
  disps : List Disp := []
  rtus : List Rtu := List.replicate 16 {}
  pass : Option Pass := none
  copies : List CopyJob := []
  gd : Guard := {}
  ao : AoSide := {}
  /-- How many free values have been drawn (notes/assumptions/4.md). -/
  free : Nat := 0
  /-- AO_CLK cycles that `step` has made on an empty queue. -/
  ticks : Nat := 0
  /-- The commands that are waiting, first in, first out. -/
  pending : List Instr := []
deriving DecidableEq, Repr

/-- The machine at the end of an AO power-on reset, the cold reset still held (17 R421). The reset log holds its entry. -/
def State.reset : State := { regs := [(R.RST_LOG_COUNT, 1)] }

end Sys2Proof.Machine
end

