-- ==== Sys2Proof/Machine/Regs.lean ====
section
/-! DEFINITION. The register file: reading and writing one copy of one register, counters, 64-bit pairs, staging and channel
selects (00 R5 to R16), domain states (16 R399). -/

namespace Sys2Proof.Machine

/-- The key of copy c (a channel or a requester's number) of the register at an offset. -/
def rk (off c : Nat) : Nat := off + c * copyStride

/-- A register's value need not be listed when it is the reset value. -/
def regPlain (k : Nat) (v : BitVec 32) : Bool := v == regReset k

/-- The register under a key. -/
def State.reg (s : State) (k : Nat) : BitVec 32 := storeGet regReset s.regs k

/-- Set the register under a key. -/
def State.setReg (s : State) (k : Nat) (v : BitVec 32) : State := { s with regs := storePut regPlain k v s.regs }

/-- Set the register under a key to the low 32 bits of a natural. -/
def State.setRegN (s : State) (k v : Nat) : State := s.setReg k (BitVec.ofNat 32 v)

/-- Change the register under a key. -/
def State.modReg (s : State) (k : Nat) (f : BitVec 32 → BitVec 32) : State := s.setReg k (f (s.reg k))

/-- A counter advances by n modulo 2^32 (00 R16). -/
def State.bump (s : State) (k n : Nat) : State := s.modReg k (· + BitVec.ofNat 32 n)

/-- A counter advances by one. -/
def State.inc (s : State) (k : Nat) : State := s.bump k 1

/-- Set bits of a register. -/
def State.setBits (s : State) (k m : Nat) : State := s.modReg k (· ||| BitVec.ofNat 32 m)

/-- Clear bits of a register. -/
def State.clrBits (s : State) (k m : Nat) : State := s.modReg k (fun v => v &&& ~~~ BitVec.ofNat 32 m)

/-- Write a field of a register. -/
def State.setField (s : State) (k hi lo v : Nat) : State := s.modReg k (putFld · hi lo v)

/-- Read a field of a register. -/
def State.field (s : State) (k hi lo : Nat) : Nat := fld (s.reg k) hi lo

/-- One bit of a register. -/
def State.bit (s : State) (k i : Nat) : Bool := bitOf (s.reg k) i

/-- The value of the 64-bit pair whose low half is under a key (00 R11, R12). -/
def State.pair (s : State) (k : Nat) : Nat := (s.reg k).toNat + (s.reg (k + 4)).toNat * 2 ^ 32

/-- Set a pair in one step (00 R13). -/
def State.setPair (s : State) (k v : Nat) : State := (s.setRegN k v).setRegN (k + 4) (v / 2 ^ 32)

/-- A 64-bit counter advances (00 R16). -/
def State.bumpPair (s : State) (k n : Nat) : State := s.setPair k (s.pair k + n)

/-- One access violation is counted (00 R10). -/
def State.viol (s : State) : State := s.inc R.GLB_ACCESS_VIOL_COUNT

/-- The channel that a requester's copy of a select register names (00 R14). -/
def State.chan (s : State) (sel : Nat) (req : Req) : Nat := s.field (rk sel req.num) 7 0

/-- Stage the low half of a pair (00 R11). -/
def State.stageLo (s : State) (req : Req) (key : Nat) (v : BitVec 32) : State :=
  { s with stage := storePut (fun _ _ => false) (rk key (req.num * 512)) v s.stage }

/-- The staged low half of a pair, else the pair's current low half (00 R11). -/
def State.staged (s : State) (req : Req) (key : Nat) : BitVec 32 :=
  storeGet (fun _ => s.reg key) s.stage (rk key (req.num * 512))

/-- A commit uses up the staged half (00 R11). -/
def State.unstage (s : State) (req : Req) (key : Nat) : State :=
  { s with stage := s.stage.filter (fun c => c.1 ≠ rk key (req.num * 512)) }

/-- Power domains (16 Table PWR-6). -/
abbrev D.AO : Nat := 0
abbrev D.GD : Nat := 1
abbrev D.CL : Nat := 2
abbrev D.BN : Nat := 10
abbrev D.RT : Nat := 11
abbrev D.L2N : Nat := 12
abbrev D.MEM : Nat := 13
abbrev D.CE : Nat := 17
abbrev D.FEC : Nat := 18
abbrev D.HM : Nat := 19
abbrev D.FAB : Nat := 20

/-- The PWR_STATE code of a domain: 0 OFF, 1 RET, 2 ON, 3 in transition (16 Table PWR-11). AO always reads 2. -/
def State.dom (s : State) (d : Nat) : Nat :=
  if d = 0 then 2
  else if d < 16 then s.field R.PWR_STATE_LO (2 * d + 1) (2 * d)
  else s.field R.PWR_STATE_HI (2 * (d - 16) + 1) (2 * (d - 16))

/-- Is a domain ON? L2N, the stacks and HM serve until a transition that takes them out of ON ends (16 R401, R417). -/
def State.on (s : State) (d : Nat) : Bool := s.dom d == 2 || s.ao.pwr.linger.contains d

/-- Set the PWR_STATE code of a domain. -/
def State.setDom (s : State) (d c : Nat) : State :=
  if d = 0 then s
  else if d < 16 then s.setField R.PWR_STATE_LO (2 * d + 1) (2 * d) c
  else s.setField R.PWR_STATE_HI (2 * (d - 16) + 1) (2 * (d - 16)) c

/-- Draw a free value (notes/assumptions/4.md). -/
def State.draw (s : State) : Nat × State := (Config.freeValue s.free, { s with free := s.free + 1 })

/-- Number of fitted stacks (01 Table PKG-4). -/
def Fuses.stacks (f : Fuses) : Nat := if f.variant = 1 then 1 else if f.variant = 4 then 4 else 2

/-- Is an FIO fitted (01 Table PKG-4)? -/
def Fuses.fio (f : Fuses) : Bool := f.variant == 3 || f.variant == 4

/-- Maximum board power in watts (01 Table PKG-4). -/
def Fuses.watts (f : Fuses) : Nat := if f.variant = 1 then 14 else if f.variant = 2 then 18 else if f.variant = 3 then 20 else 25

/-- Installed device memory in bytes (01 Tables PKG-4, PKG-15). -/
def Fuses.memSize (f : Fuses) : Nat := f.stacks * 2 ^ 34

/-- Is a domain present in the variant (01 R23, R24; 16 R399)? -/
def State.present (s : State) (d : Nat) : Bool :=
  if d = D.FAB then s.fuses.fio else if D.MEM ≤ d && d < D.MEM + 4 then d - D.MEM < s.fuses.stacks else d ≤ 20

/-- Does the PART filter apply to a performance event (20 Table MON-6)? -/
def perfFiltered (code : Nat) : Bool := 2 ≤ code && code ≤ 0xE

/-- What a performance counter counts as one of an event's units (20 Table MON-6); CORE_CLK cycles come as MHz per AO_CLK cycle of 40 ns. -/
def perfUnit (code : Nat) : Nat := if code = 2 then 25 else if code = 9 then 1024 else if [7, 8, 0xC, 0xF, 0x10].contains code then 64 else 1

/-- Does performance counter k count an event of a partition? -/
def State.perfHears (s : State) (k code part : Nat) : Bool :=
  let w := s.reg (R.DBG_PSEL + 4 * k)
  fld w 7 0 == code && (!perfFiltered code || 8 ≤ fld w 11 8 || fld w 11 8 == part)

/-- n units of a performance event come about in a partition's work (20 R489): what a counter's unit leaves over is kept. -/
def State.perf (s : State) (code part n : Nat) : State :=
  if !s.bit R.DBG_PCTRL 0 || !s.on D.HM then s
  else (List.range 8).foldl (fun s k =>
    if s.perfHears k code part then
      let t := s.ao.perfRem.getD k 0 + n
      { s.bumpPair (R.DBG_PC_LO + 8 * k) (t / perfUnit code) with ao := { s.ao with perfRem := s.ao.perfRem.set k (t % perfUnit code) } }
    else s) s

end Sys2Proof.Machine
end

