-- ==== Sys2Proof/Machine/CrcUnits.lean ====
section
/-! DEFINITION. CRC computation and the streams of the CRC snoop units (14 R363 to R369). -/

namespace Sys2Proof.Machine

/-- Parameters of a polynomial (14 Table MOV-8): width, polynomial, initial value, reflected, XOR out. -/
structure CrcPoly where
  width : Nat
  poly : Nat
  init : Nat
  refl : Bool
  xout : Nat
deriving DecidableEq, Repr

/-- The polynomials by POLY code. -/
def crcPoly (p : Nat) : CrcPoly :=
  match p with
  | 0 => ⟨32, 0x1EDC6F41, 0xFFFFFFFF, true, 0xFFFFFFFF⟩
  | 1 => ⟨32, 0x04C11DB7, 0xFFFFFFFF, true, 0xFFFFFFFF⟩
  | 2 => ⟨16, 0x1021, 0xFFFF, false, 0⟩
  | _ => ⟨64, 0x42F0E1EBA9EA3693, 0, false, 0⟩

/-- Reverse the low n bits of a natural. -/
def revBits : Nat → Nat → Nat
  | 0, _ => 0
  | n + 1, v => v % 2 * 2 ^ n + revBits n (v / 2)

/-- Shift n bits of an accumulator through a polynomial, most significant bit first. -/
def crcShift (p : CrcPoly) : Nat → Nat → Nat
  | 0, c => c
  | n + 1, c => crcShift p n (if c.testBit (p.width - 1) then (c * 2 % 2 ^ p.width) ^^^ p.poly else c * 2 % 2 ^ p.width)

/-- The CRC of a list of bytes (14 R363). -/
def crcOf (p : CrcPoly) (bs : List Byte) : Nat :=
  let c := bs.foldl (fun c b =>
    let v := if p.refl then revBits 8 b.toNat else b.toNat
    crcShift p 8 (c ^^^ v * 2 ^ (p.width - 8))) p.init
  (if p.refl then revBits p.width c else c) ^^^ p.xout

/-- Fields of a unit's CRC_CTRL (14 Table MOV-12). -/
def State.crcOn (s : State) (u : Nat) : Bool := s.bit (rk R.CRC_CTRL u) 0 && s.on D.CE
def State.crcDesc (s : State) (u : Nat) : Bool := s.bit (rk R.CRC_CTRL u) 1
def State.crcSel (s : State) (u : Nat) : CrcPoly := crcPoly (s.field (rk R.CRC_CTRL u) 3 2)
def State.crcAttach (s : State) (u : Nat) : Nat := s.field (rk R.CRC_CTRL u) 13 8

/-- Payload bytes pass on a stream: every unit in FRAME mode that is attached observes them (14 R364, R365, R369). -/
def State.crcFeed (s : State) (attach : Nat) (bs : List Byte) : State :=
  { s with crc := (s.crc.zipIdx).map (fun (c, u) =>
      if s.crcOn u && !s.crcDesc u && s.crcAttach u == attach then { c with buf := c.buf ++ bs } else c) }

/-- Payload bytes of a descriptor pass on a copy engine's stream (14 R366). -/
def State.crcFeedDesc (s : State) (attach desc : Nat) (bs : List Byte) : State :=
  { s with crc := (s.crc.zipIdx).map (fun (c, u) =>
      if s.crcOn u && s.crcDesc u && s.crcAttach u == attach then
        match c.desc.find? (·.1 == desc) with
        | some _ => { c with desc := c.desc.map (fun d => if d.1 = desc then (d.1, d.2 ++ bs) else d) }
        | none => { c with desc := c.desc ++ [(desc, bs)] }
      else c) }

/-- A compare of a unit (14 R365, R367): CRC_LAST, CRC_LAST_EXP, counts and MISMATCH. -/
def State.crcCompare (s : State) (u crc expect : Nat) : State :=
  let s := (((s.setPair (rk R.CRC_LAST_LO u) crc).setPair (rk R.CRC_LAST_EXP_LO u) expect)).inc (rk R.CRC_FRAME_COUNT u)
  if crc = expect then s else (s.setBits (rk R.CRC_STATUS u) 1).inc (rk R.CRC_MISMATCH_COUNT u)

end Sys2Proof.Machine
end

