-- ==== Sys2Proof/Machine/Float.lean ====
section
/-! DEFINITION. Number formats and arithmetic (10 R265 to R283): exact values, rounding, flags, conversions. Flags are a mask:
IV 1, DZ 2, OF 4, UF 8, NX 16, ST 32 (Table NUM-5). -/

namespace Sys2Proof.Machine

/-- A floating-point format (10 Table NUM-2): exponent and mantissa bits, bias, has infinity, has NaN (0 none, 1 S.1111.111 only, 2
all-ones exponent), has signalling NaNs, treatment of subnormals (0 never, 1 unless FTZ, 2 always), container shift. -/
structure Fmt where
  eb : Nat
  mb : Nat
  bias : Nat
  inf : Bool
  nan : Nat
  snan : Bool
  sub : Nat
  sh : Nat := 0
deriving DecidableEq, Repr

/-- The floating-point formats by code (MX codes name their element format). -/
def fmtOf (c : Nat) : Option Fmt :=
  match c with
  | 0x00 => some ⟨8, 23, 127, true, 2, true, 1, 0⟩
  | 0x01 => some ⟨5, 10, 15, true, 2, true, 1, 0⟩
  | 0x02 => some ⟨8, 7, 127, true, 2, true, 1, 0⟩
  | 0x03 => some ⟨8, 10, 127, true, 2, true, 0, 13⟩
  | 0x04 | 0x09 => some ⟨4, 3, 7, false, 1, false, 1, 0⟩
  | 0x05 => some ⟨5, 2, 15, true, 2, false, 1, 0⟩
  | 0x06 => some ⟨3, 2, 3, false, 0, false, 2, 0⟩
  | 0x07 | 0x0A => some ⟨2, 3, 1, false, 0, false, 2, 0⟩
  | 0x08 | 0x0B => some ⟨2, 1, 1, false, 0, false, 2, 0⟩
  | 0x11 => some ⟨11, 52, 1023, true, 2, true, 1, 0⟩
  | _ => none

def fp32 : Fmt := ⟨8, 23, 127, true, 2, true, 1, 0⟩
def fp64 : Fmt := ⟨11, 52, 1023, true, 2, true, 1, 0⟩
def fp16 : Fmt := ⟨5, 10, 15, true, 2, true, 1, 0⟩
def bf16 : Fmt := ⟨8, 7, 127, true, 2, true, 1, 0⟩

/-- The integer formats: width and signed (10 Table NUM-2). -/
def intFmt (c : Nat) : Option (Nat × Bool) :=
  match c with
  | 0x0C => some (32, true)
  | 0x0D => some (16, true)
  | 0x0E => some (8, true)
  | 0x0F => some (8, false)
  | 0x10 => some (4, true)
  | _ => none

/-- Width in bits of a value of a format (an MX code: of its element). -/
def fmtWidth (c : Nat) : Nat :=
  match intFmt c with
  | some (w, _) => w
  | none => match fmtOf c with
    | some f => if c = 0x03 then 32 else 1 + f.eb + f.mb
    | none => 0

/-- An exact value: NaN (signalling or not), infinity, or m * 2^e with a sign (m = 0: a signed zero). -/
inductive FV where
  | nan (sig : Bool)
  | inf (neg : Bool)
  | fin (neg : Bool) (m : Nat) (e : Int)
deriving DecidableEq, Repr

/-- Largest exponent field. -/
def Fmt.eMax (f : Fmt) : Nat := 2 ^ f.eb - 1

/-- The value of an encoding, subnormals flushed under FTZ (10 R266, R268, R275). -/
def Fmt.decode (f : Fmt) (ftz : Bool) (w : Nat) : FV :=
  let v := w >>> f.sh
  let neg := v.testBit (f.eb + f.mb)
  let e := bits v (f.eb + f.mb - 1) f.mb
  let m := v % 2 ^ f.mb
  if f.nan = 2 && e == f.eMax then
    if f.inf && m == 0 then .inf neg else .nan (f.snan && !m.testBit (f.mb - 1))
  else if f.nan = 1 && e == f.eMax && m == 2 ^ f.mb - 1 then .nan false
  else if e = 0 then
    if f.sub = 0 || (f.sub = 1 && ftz) then .fin neg 0 0 else .fin neg m (1 - (f.bias : Int) - f.mb)
  else .fin neg (2 ^ f.mb + m) ((e : Int) - f.bias - f.mb)

/-- The sign bit of an encoding. -/
def Fmt.sign (f : Fmt) (neg : Bool) : Nat := b2n neg * 2 ^ (f.eb + f.mb + f.sh)

/-- Canonical NaN (10 Table NUM-3); the formats without one give +0 (Table NUM-7). -/
def Fmt.qnan (f : Fmt) : Nat :=
  if f.nan = 1 then 2 ^ (f.eb + f.mb) - 1 else if f.nan = 2 then (f.eMax * 2 ^ f.mb + 2 ^ (f.mb - 1)) <<< f.sh else 0

/-- Infinity. -/
def Fmt.infinity (f : Fmt) (neg : Bool) : Nat := f.sign neg + (f.eMax * 2 ^ f.mb) <<< f.sh

/-- Code of the largest finite magnitude, container shift apart. -/
def Fmt.maxCode (f : Fmt) : Nat :=
  if f.nan = 2 then f.eMax * 2 ^ f.mb - 1 else if f.nan = 1 then 2 ^ (f.eb + f.mb) - 2 else 2 ^ (f.eb + f.mb) - 1

/-- Largest finite value of a sign. -/
def Fmt.large (f : Fmt) (neg : Bool) : Nat := f.sign neg + f.maxCode <<< f.sh

/-- Shift left by an integer; dropped bits are lost. -/
def shiftInt (m : Nat) (k : Int) : Nat := if 0 ≤ k then m <<< k.toNat else m >>> (-k).toNat

/-- Does a magnitude round up: mode, sign, truncated value odd, remainder r out of 2^k (k bits dropped), generator bits R (10 R271, R272)? -/
def roundUp (mode : Nat) (neg odd : Bool) (r k R : Nat) : Bool :=
  if r = 0 then false
  else match mode with
    | 1 => false
    | 2 => !neg
    | 3 => neg
    | 4 => (r <<< 16) >>> k > R
    | _ => 2 * r > 2 ^ k || (2 * r = 2 ^ k && odd)

/-- Round m * 2^e to a multiple of 2^q: the multiple, and whether it was inexact. -/
def roundAt (mode : Nat) (neg : Bool) (m : Nat) (e q : Int) (R : Nat) : Nat × Bool :=
  if q ≤ e then (m <<< (e - q).toNat, false)
  else
    let k := (q - e).toNat
    let y := m >>> k
    let r := m % 2 ^ k
    (y + b2n (roundUp mode neg (y.testBit 0) r k R), r ≠ 0)

/-- Is m1 * 2^e1 < m2 * 2^e2? -/
def magLt (m1 : Nat) (e1 : Int) (m2 : Nat) (e2 : Int) : Bool :=
  let e := min e1 e2
  m1 <<< (e1 - e).toNat < m2 <<< (e2 - e).toNat

/-- The code of y * 2^q, q at least the quantum of the subnormals. -/
def Fmt.encode (f : Fmt) (neg : Bool) (y : Nat) (q : Int) : Nat :=
  f.sign neg + (if y = 0 then 0 else (((q + f.mb + f.bias).toNat - 1) * 2 ^ f.mb + y)) <<< f.sh

/-- A result: bits, flags raised, and whether the generator advances. -/
structure FR where
  w : Nat
  fl : Nat := 0
  adv : Bool := false
deriving DecidableEq, Repr

/-- Does a destination take stochastic rounding (10 R271)? -/
def stochasticDst (c : Nat) : Bool :=
  c == 0x04 || c == 0x05 || c == 0x06 || c == 0x07 || c == 0x08 || c == 0x0E || c == 0x0F || c == 0x10

/-- The result of a finite magnitude that overflows (10 Table NUM-7). -/
def Fmt.overflow (f : Fmt) (mode : Nat) (sat neg : Bool) : FR :=
  if f.nan = 0 then ⟨f.large neg, 0x30, false⟩
  else if sat then ⟨f.large neg, 0x30, false⟩
  else if f.nan = 1 then ⟨f.qnan, 0x14, false⟩
  else if mode = 1 || (mode = 2 && neg) || (mode = 3 && !neg) then ⟨f.large neg, 0x14, false⟩
  else ⟨f.infinity neg, 0x14, false⟩

/-- Round a nonzero exact value to a format (10 R271 to R275, Table NUM-7). `mode` 4 is stochastic with generator bits R. -/
def Fmt.round (f : Fmt) (mode : Nat) (ftz sat : Bool) (R : Nat) (neg : Bool) (m : Nat) (e : Int) : FR :=
  let E : Int := (bitLen m : Int) - 1 + e
  let emin : Int := 1 - (f.bias : Int)
  let maxM := if f.nan = 1 then 2 ^ (f.mb + 1) - 2 else 2 ^ (f.mb + 1) - 1
  let maxE : Int := (if f.nan = 2 then (f.eMax : Int) - 1 else f.eMax) - f.bias - f.mb
  let mode := if mode = 4 && magLt maxM maxE m e then 0 else mode
  let qu := E - f.mb
  let (yu, _) := roundAt mode neg m e qu R
  if magLt maxM maxE yu qu then f.overflow mode sat neg
  else
    let tiny := magLt yu qu 1 emin
    let (y, nx) := roundAt mode neg m e (max qu (emin - f.mb)) R
    let adv := mode == 4 && nx
    if tiny && (f.sub == 0 || (f.sub == 1 && ftz)) then ⟨f.sign neg, 0x18, adv⟩
    else ⟨f.encode neg y (max qu (emin - f.mb)), b2n nx * 0x10 + b2n (nx && tiny) * 0x8, adv⟩

/-- A signed zero, or a rounded value. -/
def Fmt.deliver (f : Fmt) (mode : Nat) (ftz : Bool) (neg : Bool) (m : Nat) (e : Int) : FR :=
  if m = 0 then ⟨f.sign neg, 0, false⟩ else f.round mode ftz false 0 neg m e

/-- Invalid: the canonical NaN. -/
def Fmt.invalid (f : Fmt) : FR := ⟨f.qnan, 1, false⟩

/-- A NaN operand: the canonical NaN, IV if any operand is signalling (10 R268). -/
def Fmt.nanOut (f : Fmt) (sig : Bool) : FR := ⟨f.qnan, b2n sig, false⟩

/-- Is a value a NaN, a signalling one? -/
def FV.isNan : FV → Bool | .nan _ => true | _ => false
def FV.isSig : FV → Bool | .nan s => s | _ => false
def FV.neg : FV → Bool | .nan _ => false | .inf n => n | .fin n _ _ => n
def FV.isZero : FV → Bool | .fin _ 0 _ => true | _ => false

/-- Signed integer of a finite value at exponent e ≤ its own. -/
def signedAt (neg : Bool) (m : Nat) (e e0 : Int) : Int :=
  let x : Int := (m <<< (e - e0).toNat : Nat)
  if neg then -x else x

/-- Exact sum of two finite values with the sign rules of 10 R269, then rounded. -/
def Fmt.sum (f : Fmt) (mode : Nat) (ftz : Bool) (n1 : Bool) (m1 : Nat) (e1 : Int) (n2 : Bool) (m2 : Nat) (e2 : Int) : FR :=
  if m1 = 0 && m2 = 0 then ⟨f.sign (if n1 = n2 then n1 else mode == 3), 0, false⟩
  else
    let e0 := if m1 = 0 then e2 else if m2 = 0 then e1 else min e1 e2
    let t := (if m1 = 0 then 0 else signedAt n1 m1 e1 e0) + (if m2 = 0 then 0 else signedAt n2 m2 e2 e0)
    if t = 0 then ⟨f.sign (mode == 3), 0, false⟩ else f.deliver mode ftz (t < 0) t.natAbs e0

/-- Addition (10 R268, R269, R277). -/
def Fmt.add (f : Fmt) (mode : Nat) (ftz : Bool) (a b : Nat) : FR :=
  match f.decode ftz a, f.decode ftz b with
  | .nan s, y => f.nanOut (s || y.isSig)
  | _, .nan s => f.nanOut s
  | .inf n, .inf n' => if n = n' then ⟨f.infinity n, 0, false⟩ else f.invalid
  | .inf n, _ => ⟨f.infinity n, 0, false⟩
  | _, .inf n => ⟨f.infinity n, 0, false⟩
  | .fin n1 m1 e1, .fin n2 m2 e2 => f.sum mode ftz n1 m1 e1 n2 m2 e2

/-- Multiplication. -/
def Fmt.mul (f : Fmt) (mode : Nat) (ftz : Bool) (a b : Nat) : FR :=
  match f.decode ftz a, f.decode ftz b with
  | .nan s, y => f.nanOut (s || y.isSig)
  | _, .nan s => f.nanOut s
  | .inf n, y => if y.isZero then f.invalid else ⟨f.infinity (n != y.neg), 0, false⟩
  | x, .inf n => if x.isZero then f.invalid else ⟨f.infinity (n != x.neg), 0, false⟩
  | .fin n1 m1 e1, .fin n2 m2 e2 => f.deliver mode ftz (n1 != n2) (m1 * m2) (e1 + e2)

/-- Fused multiply-add, rounded once (10 R277; 0 times infinity is invalid whatever the addend, Table NUM-5). -/
def Fmt.fma (f : Fmt) (mode : Nat) (ftz : Bool) (a b c : Nat) : FR :=
  let x := f.decode ftz a
  let y := f.decode ftz b
  let z := f.decode ftz c
  let infZero := match x, y with
    | .inf _, w => w.isZero
    | w, .inf _ => w.isZero
    | _, _ => false
  if x.isNan || y.isNan || z.isNan then f.nanOut (x.isSig || y.isSig || z.isSig || infZero)
  else if infZero then f.invalid
  else match x, y, z with
    | .fin n1 m1 e1, .fin n2 m2 e2, .fin n3 m3 e3 => f.sum mode ftz (n1 != n2) (m1 * m2) (e1 + e2) n3 m3 e3
    | .fin _ _ _, .fin _ _ _, w => ⟨f.infinity w.neg, 0, false⟩
    | u, v, .inf n => if (u.neg != v.neg) = n then ⟨f.infinity n, 0, false⟩ else f.invalid
    | u, v, _ => ⟨f.infinity (u.neg != v.neg), 0, false⟩

/-- A quotient of naturals as a mantissa with a sticky low bit: enough bits for any rounding to at most 53. -/
def quotient (m1 : Nat) (e1 : Int) (m2 : Nat) (e2 : Int) : Nat × Int :=
  let k := bitLen m2 + 64
  let n := m1 <<< k
  (n / m2 * 2 + b2n (n % m2 ≠ 0), e1 - e2 - k - 1)

/-- Division. -/
def Fmt.div (f : Fmt) (mode : Nat) (ftz : Bool) (a b : Nat) : FR :=
  match f.decode ftz a, f.decode ftz b with
  | .nan s, y => f.nanOut (s || y.isSig)
  | _, .nan s => f.nanOut s
  | .inf n, y => match y with
    | .inf _ => f.invalid
    | _ => ⟨f.infinity (n != y.neg), 0, false⟩
  | x, .inf n => ⟨f.sign (n != x.neg), 0, false⟩
  | .fin n1 m1 e1, .fin n2 m2 e2 =>
    if m2 = 0 then (if m1 = 0 then f.invalid else ⟨f.infinity (n1 != n2), 2, false⟩)
    else if m1 = 0 then ⟨f.sign (n1 != n2), 0, false⟩
    else let (m, e) := quotient m1 e1 m2 e2; f.deliver mode ftz (n1 != n2) m e

/-- Integer square root by bits: the largest r below 2^k with r * r ≤ n, from a root r found so far. -/
def isqrtGo : Nat → Nat → Nat → Nat
  | 0, _, r => r
  | k + 1, n, r => isqrtGo k n (if (r + 2 ^ k) * (r + 2 ^ k) ≤ n then r + 2 ^ k else r)

/-- Integer square root. -/
def isqrt (n : Nat) : Nat := isqrtGo (bitLen n / 2 + 1) n 0

/-- Square root of m * 2^e as a mantissa with a sticky low bit. -/
def rootOf (m : Nat) (e : Int) : Nat × Int :=
  let (m, e) := if e % 2 = 0 then (m, e) else (2 * m, e - 1)
  let n := m <<< 128
  let r := isqrt n
  (r * 2 + b2n (r * r ≠ n), e / 2 - 65)

/-- Square root (10 Table NUM-5: invalid below -0). -/
def Fmt.sqrt (f : Fmt) (mode : Nat) (ftz : Bool) (a : Nat) : FR :=
  match f.decode ftz a with
  | .nan s => f.nanOut s
  | .inf n => if n then f.invalid else ⟨f.infinity false, 0, false⟩
  | .fin n m e =>
    if m = 0 then ⟨f.sign n, 0, false⟩ else if n then f.invalid
    else let (r, q) := rootOf m e; f.deliver mode ftz false r q

/-- Numeric order of two values that are not NaN: less, equal. -/
def FV.ltB : FV → FV → Bool
  | .inf n, y => n && (match y with | .inf n' => !n' | _ => true)
  | .fin _ _ _, .inf n => !n
  | .fin n1 m1 e1, .fin n2 m2 e2 =>
    if m1 = 0 then m2 ≠ 0 && !n2 else if m2 = 0 then n1
    else let e0 := min e1 e2; signedAt n1 m1 e1 e0 < signedAt n2 m2 e2 e0
  | _, _ => false

/-- Numeric equality. -/
def FV.eqB (x y : FV) : Bool := !x.isNan && !y.isNan && !x.ltB y && !y.ltB x

/-- Re-encode an operand of the format: zeros, infinities and finite values are exact. -/
def Fmt.reencode (f : Fmt) : FV → Nat
  | .nan _ => f.qnan
  | .inf n => f.infinity n
  | .fin n m e => (f.deliver 0 false n m e).w

/-- minimumNumber and maximumNumber (10 R278). -/
def Fmt.minMax (f : Fmt) (ftz isMax : Bool) (a b : Nat) : FR :=
  let x := f.decode ftz a
  let y := f.decode ftz b
  let fl := b2n (x.isSig || y.isSig)
  if x.isNan && y.isNan then ⟨f.qnan, fl, false⟩
  else if x.isNan then ⟨f.reencode y, fl, false⟩
  else if y.isNan then ⟨f.reencode x, fl, false⟩
  else
    let less := x.ltB y || (x.eqB y && x.neg && !y.neg)
    ⟨f.reencode (if less != isMax then x else y), 0, false⟩

/-- Compare (09 Table ISA-10 codes 0 EQ, 1 NE, 2 LT, 3 LE, 4 GT, 5 GE): outcome and flags (10 R278). -/
def Fmt.cmp (f : Fmt) (ftz : Bool) (op a b : Nat) : Bool × Nat :=
  let x := f.decode ftz a
  let y := f.decode ftz b
  if x.isNan || y.isNan then (op == 1, b2n (x.isSig || y.isSig || 2 ≤ op))
  else (match op with
    | 0 => x.eqB y
    | 1 => !x.eqB y
    | 2 => x.ltB y
    | 3 => !y.ltB x
    | 4 => y.ltB x
    | _ => !x.ltB y, 0)

/-- Limits of an integer format. -/
def intLo (w : Nat) (sg : Bool) : Int := if sg then -(2 ^ (w - 1) : Nat) else 0
def intHi (w : Nat) (sg : Bool) : Int := if sg then (2 ^ (w - 1) : Nat) - 1 else (2 ^ w : Nat) - 1

/-- A finite value to an integer (10 R280, Table NUM-7). -/
def toIntFmt (w : Nat) (sg : Bool) (mode : Nat) (sat : Bool) (R : Nat) (neg : Bool) (m : Nat) (e : Int) : FR :=
  let lim := if neg then (intLo w sg).natAbs else (intHi w sg).natAbs
  let mode := if mode = 4 && magLt lim 0 m e then 0 else mode
  let (y, nx) := roundAt mode neg m e 0 R
  let v : Int := if neg then -(y : Int) else y
  if v < intLo w sg then ⟨ofInt w (intLo w sg), if sat then 0x20 else 1, false⟩
  else if intHi w sg < v then ⟨ofInt w (intHi w sg), if sat then 0x20 else 1, false⟩
  else ⟨ofInt w v, b2n nx * 0x10, mode == 4 && nx⟩

/-- Conversion of one value between formats (10 R280, Tables NUM-7, NUM-9). -/
def convert (src dst mode : Nat) (ftz sat : Bool) (R w : Nat) : FR :=
  let mode := if mode = 4 && !stochasticDst dst then 0 else mode
  match intFmt src, fmtOf src, intFmt dst, fmtOf dst with
  | some (sw, ssg), _, some (dw, dsg), _ =>
    let v : Int := if ssg then asInt sw w else (w % 2 ^ sw : Nat)
    if sat && v < intLo dw dsg then ⟨ofInt dw (intLo dw dsg), 0x20, false⟩
    else if sat && intHi dw dsg < v then ⟨ofInt dw (intHi dw dsg), 0x20, false⟩
    else ⟨ofInt dw v, 0, false⟩
  | some (sw, ssg), _, _, some f =>
    let v : Int := if ssg then asInt sw w else (w % 2 ^ sw : Nat)
    if v = 0 then ⟨0, 0, false⟩ else f.round mode ftz sat R (v < 0) v.natAbs 0
  | _, some g, some (dw, dsg), _ =>
    match g.decode ftz w with
    | .nan _ => ⟨0, 1, false⟩
    | .inf n => ⟨ofInt dw (if n then intLo dw dsg else intHi dw dsg), if sat then 0x20 else 1, false⟩
    | .fin n m e => if m = 0 then ⟨0, 0, false⟩ else toIntFmt dw dsg mode sat R n m e
  | _, some g, _, some f =>
    match g.decode ftz w with
    | .nan s => if f.nan = 0 then ⟨0, 1, false⟩ else f.nanOut s
    | .inf n =>
      if src = dst then ⟨f.infinity n, 0, false⟩
      else if f.nan = 0 || sat then ⟨f.large n, 0x20, false⟩
      else if f.nan = 1 then ⟨f.qnan, 1, false⟩
      else ⟨f.infinity n, 0, false⟩
    | .fin n m e => if m = 0 then ⟨f.sign n, 0, false⟩ else f.round mode ftz sat R n m e
  | _, _, _, _ => ⟨0, 0, false⟩

/-- One advance of a lane's generator (10 R273). -/
def genAdvance (x : Nat) : Nat :=
  let x := (x ^^^ x <<< 13) % 2 ^ 32
  let x := x ^^^ x >>> 17
  (x ^^^ x <<< 5) % 2 ^ 32

/-- The seed of generator g (10 R273). -/
def genSeed (g : Nat) : Nat := 0x9E3779B9 * (2 * g + 1) % 2 ^ 32

/-- An FP32 code as an integer in numeric order, and back. -/
def ordOf (c : Nat) : Int := if c.testBit 31 then -((c % 2 ^ 31 : Nat) : Int) else c
def ordTo (i : Int) : Nat := if i < 0 then 2 ^ 31 + i.natAbs else i.toNat

/-- A free choice among the FP32 codes from lo to hi in numeric order (10 R278). -/
def pickCode (op arg : Nat) (lo hi : Int) : Nat := ordTo (lo + (Config.approx op arg % ((hi - lo).toNat + 1) : Nat))

/-- Deliver a class T result of a nonzero exact value: FTZ, and the flags of 10 R278. `nx`: the value differs from the exact one. -/
def classT (ftz : Bool) (w : Nat) (nx : Bool) : FR :=
  let mag := w % 2 ^ 31
  if mag = 0x7F800000 then ⟨w, 0x14, false⟩
  else if mag < 0x800000 then
    if mag = 0 then ⟨w, 0x18, false⟩
    else if ftz then ⟨w - mag, 0x18, false⟩ else ⟨w, 0x8 + b2n nx * 0x10, false⟩
  else ⟨w, b2n nx * 0x10, false⟩

/-- A class T result of the sign of the exact m * 2^e, m not 0, within n units in the last place of it; infinity where values at that distance lie beyond
M. A unit above M's binade is that of M's. -/
def withinUlp (op arg n : Nat) (ftz neg : Bool) (m : Nat) (e : Int) : FR :=
  let q : Int := max (-149) (min 104 ((bitLen m : Int) - 24 + e))
  let b := min e q
  let v := m <<< (e - b).toNat
  let d := n <<< (q - b).toNat
  let code := fun (mode x : Nat) => if x = 0 then 0 else (fp32.round mode false false 0 false x b).w
  let w := pickCode op arg (code 2 (v - d) : Nat) (if magLt (v + d) b 1 128 then code 3 (v + d) else 0x7F800000 : Nat)
  classT ftz (w + b2n neg * 2 ^ 31) (code 2 v ≠ code 3 v || w ≠ code 3 v)

/-- VFRCP (10 R278, Table NUM-8). -/
def vfrcp (ftz : Bool) (a : Nat) : FR :=
  match fp32.decode ftz a with
  | .nan s => fp32.nanOut s
  | .inf n => ⟨fp32.sign n, 0, false⟩
  | .fin n m e =>
    if m = 0 then ⟨fp32.infinity n, 2, false⟩
    else if a % 2 ^ 31 = 1 then ⟨fp32.infinity n, 0x14, false⟩
    else if a % 2 ^ 31 = 0x7F7FFFFF then classT ftz (fp32.sign n + 0x200000) true
    else let (q, k) := quotient 1 0 m e; withinUlp 0 a 1 ftz n q k

/-- VFRSQ. -/
def vfrsq (ftz : Bool) (a : Nat) : FR :=
  match fp32.decode ftz a with
  | .nan s => fp32.nanOut s
  | .inf n => if n then fp32.invalid else ⟨0, 0, false⟩
  | .fin n m e =>
    if m = 0 then ⟨fp32.infinity n, 2, false⟩
    else if n then fp32.invalid
    else if a = 1 then ⟨0x64B504F3, 0x10, false⟩
    else if a = 0x7F7FFFFF then ⟨0x1F800000, 0x10, false⟩
    else
      let (m, e) := if e % 2 = 0 then (m, e) else (2 * m, e - 1)
      let n2 := 2 ^ 192 / m
      let r := isqrt n2
      withinUlp 1 a 1 ftz false (2 * r + b2n (r * r * m ≠ 2 ^ 192)) (-(e / 2) - 97)

/-- 2^f for f in [0, 1) given by its n leading fraction bits, with 96 fraction bits; `root` is 2^(1/2) and so on. -/
def exp2Frac : Nat → Nat → Nat → Nat → Nat
  | 0, _, _, acc => acc
  | n + 1, f, root, acc =>
    let r := isqrt (root <<< 96)
    exp2Frac n f r (if f.testBit n then acc * r >>> 96 else acc)

/-- VFEXP2. -/
def vfexp2 (ftz : Bool) (a : Nat) : FR :=
  match fp32.decode ftz a with
  | .nan s => fp32.nanOut s
  | .inf n => ⟨if n then 0 else fp32.infinity false, 0, false⟩
  | .fin n m e =>
    if m = 0 then ⟨0x3F800000, 0, false⟩
    else if a % 2 ^ 31 = 1 then ⟨0x3F800000, 0x10, false⟩
    else
      let fx : Int := signedAt n m (max e (-96)) (-96)
      let fx := if e < -96 then (if n then -((m >>> (-96 - e).toNat : Nat) : Int) - 1 else (m >>> (-96 - e).toNat : Nat)) else fx
      let k : Int := fx / (2 ^ 96 : Nat)
      let fr := (fx % (2 ^ 96 : Nat)).toNat
      if 129 ≤ k then ⟨fp32.infinity false, 0x14, false⟩
      else if a = 0xFF7FFFFF then ⟨0, 0x18, false⟩
      else if fr = 0 && -96 ≤ e && -149 ≤ k && k < 128 then classT ftz (fp32.deliver 0 false false 1 k).w false
      else if fr = 0 && -96 ≤ e then withinUlp 2 a 2 ftz false 1 (max k (-400))
      else withinUlp 2 a 2 ftz false (2 * exp2Frac 96 fr (2 ^ 97) (2 ^ 96) + 1) (max k (-400) - 97)

/-- n fraction bits of log2 of x (96 fraction bits, in [1, 2)). -/
def log2Frac : Nat → Nat → Nat → Nat
  | 0, _, acc => acc
  | n + 1, x, acc =>
    let y := x * x >>> 96
    if y < 2 ^ 97 then log2Frac n y (2 * acc) else log2Frac n (y / 2) (2 * acc + 1)

/-- VFLOG2. -/
def vflog2 (ftz : Bool) (a : Nat) : FR :=
  match fp32.decode ftz a with
  | .nan s => fp32.nanOut s
  | .inf n => if n then fp32.invalid else ⟨fp32.infinity false, 0, false⟩
  | .fin n m e =>
    if m = 0 then ⟨fp32.infinity true, 2, false⟩
    else if n then fp32.invalid
    else
      let k : Int := (bitLen m : Int) - 1 + e
      if m = 2 ^ (bitLen m - 1) then (if k = 0 then ⟨0, 0, false⟩ else ⟨(fp32.deliver 0 false (k < 0) k.natAbs 0).w, 0, false⟩)
      else if a = 0x7F7FFFFF then ⟨0x43000000, 0x10, false⟩
      else
        let L : Int := k * (2 ^ 64 : Nat) + log2Frac 64 (m <<< (97 - bitLen m)) 0
        if 0x3F000000 ≤ a && a ≤ 0x40000000 then
          let cd := fun (mode : Nat) (x : Int) => if x = 0 then 0 else (fp32.deliver mode false (x < 0) x.natAbs (-64)).w
          classT ftz (pickCode 3 a (ordOf (cd 2 (L - (2 ^ 43 : Nat)))) (ordOf (cd 3 (L + (2 ^ 43 : Nat))))) true
        else withinUlp 3 a 2 ftz (L < 0) (2 * L.natAbs + 1) (-65)

/-- An atomic operation at L2 or in tile store on the old value (09 Table ISA-15, 10 R279): w bits, operand a, compare b. -/
def atomApply (op w : Nat) (ftz : Bool) (old a b : Nat) : Nat :=
  let o := old % 2 ^ w
  let a := a % 2 ^ w
  match op with
  | 0 => (o + a) % 2 ^ w
  | 1 => if asInt w a < asInt w o then a else o
  | 2 => if asInt w o < asInt w a then a else o
  | 3 => min o a
  | 4 => max o a
  | 5 => o &&& a
  | 6 => o ||| a
  | 7 => o ^^^ a
  | 8 => a
  | 9 => if o = b % 2 ^ w then a else o
  | _ => ((if w = 64 then fp64 else fp32).add 0 ftz o a).w

end Sys2Proof.Machine
end

