-- ==== Sys2Proof/Machine/Codec.lean ====
section
/-! DEFINITION. The fixed-ratio block codec (14 R342 to R346): 256 bytes to 128 or 64 coded bytes and back. -/

namespace Sys2Proof.Machine

/-- The 64 bytes of plane p of a block. -/
def plane (blk : List Nat) (p : Nat) : List Nat := (List.range 64).map (fun i => blk.getD (4 * i + p) 0)

/-- Least and greatest element of a list of bytes. -/
def minByte (l : List Nat) : Nat := l.foldl min 255
def maxByte (l : List Nat) : Nat := l.foldl max 0

/-- Index of the largest width, the lowest index on a tie. -/
def widest (w : List Nat) : Nat := w.findIdx (· == w.foldl max 0)

/-- Take bits from the widest plane until the widths fit (R343). -/
def shrink : Nat → Nat → List Nat → List Nat → List Nat × List Nat
  | 0, _, w, d => (w, d)
  | n + 1, kmax, w, d =>
    if w.sum > kmax then shrink n kmax (w.modify (widest w) (· - 1)) (d.modify (widest w) (· + 1)) else (w, d)

/-- Place values of given widths one after another in a little-endian integer (R342). -/
def packBits : List (Nat × Nat) → Nat
  | [] => 0
  | (w, v) :: t => v % 2 ^ w + 2 ^ w * packBits t

/-- Encode a block of 256 bytes to S bytes (R343): the coded bytes, CTL and the error class. -/
def codecEncode (S : Nat) (blk : List Byte) : List Byte × Nat × Nat :=
  let b := blk.map (·.toNat)
  let ps := (List.range 4).map (plane b)
  let base := ps.map minByte
  let k := ps.map (fun q => bitLen (maxByte q - minByte q))
  let (w, d) := shrink 32 (if S = 128 then 14 else 6) k [0, 0, 0, 0]
  let E := d.foldl max 0
  let ctl := if E = 0 then 1 else 2
  let vals := (List.range 4).flatMap (fun p =>
    (ps.getD p []).map (fun x => (w.getD p 0, (x - base.getD p 0) >>> d.getD p 0)))
  (BitVec.ofNat 8 ctl :: base.map (BitVec.ofNat 8) ++
    (List.range 4).map (fun p => BitVec.ofNat 8 (w.getD p 0 + 16 * d.getD p 0)) ++ leBytes (S - 9) (packBits vals), ctl, E)

/-- Is a coded block valid (R345)? -/
def codecValid (S : Nat) (c : List Byte) : Bool :=
  let n := c.map (·.toNat)
  let ctl := n.getD 0 0
  let w := (List.range 4).map (fun p => n.getD (5 + p) 0 % 16)
  let d := (List.range 4).map (fun p => n.getD (5 + p) 0 / 16)
  (ctl == 1 || ctl == 2) && w.all (· ≤ 8) && d.all (· ≤ 8) &&
    (List.range 4).all (fun p => w.getD p 0 + d.getD p 0 ≤ 8) && w.sum ≤ (if S = 128 then 14 else 6) &&
    ((ctl == 1) == d.all (· == 0))

/-- Decode S coded bytes to 256 bytes (R344); an invalid block decodes as zeros and is reported (R345). -/
def codecDecode (S : Nat) (c : List Byte) : List Byte × Bool :=
  if codecValid S c then
    let n := c.map (·.toNat)
    let w := (List.range 4).map (fun p => n.getD (5 + p) 0 % 16)
    let d := (List.range 4).map (fun p => n.getD (5 + p) 0 / 16)
    let pay := leNat (c.drop 9)
    let val := fun p i =>
      let off := 64 * (w.take p).sum + w.getD p 0 * i
      let q := (pay >>> off) % 2 ^ w.getD p 0
      let h := if d.getD p 0 > 0 then 2 ^ (d.getD p 0 - 1) else 0
      min 255 (n.getD (1 + p) 0 + q * 2 ^ d.getD p 0 + h)
    ((List.range 256).map (fun j => BitVec.ofNat 8 (val (j % 4) (j / 4))), false)
  else (List.replicate 256 0, true)

/-- Coded size of a block of a page with a COMP value (03 R65). -/
def codedSize (comp : Nat) : Nat := if comp = 1 then 128 else 64

end Sys2Proof.Machine
end

