-- ==== Sys2Proof/Machine/Memory.lean ====
section
/-! DEFINITION. Local device memory through L2 (01 R20 to R27, R503; 03 R71; 08 R224; 14 R347, R348). L2 holds the bytes that it has dirty and
the 32-byte parts that it has read, which hold what DRAM held (notes/assumptions/8.md). -/

namespace Sys2Proof.Machine

/-- A fault of an access: onion cause (04 Table OBJ-9), DETAIL, and the table level for MMU_LAST_FAULT. -/
structure MErr where
  cause : Nat
  detail : Nat
  level : Nat := 0
deriving DecidableEq, Repr

abbrev C.PA_ABSENT : Nat := 0x01
abbrev C.MEM_UNCORRECTABLE : Nat := 0x02
abbrev C.CTX_LOST : Nat := 0x03
abbrev C.STRUCT_ALIGN : Nat := 0x05
abbrev C.FENCE_ERRORED : Nat := 0x06
abbrev C.XLT_VA_RANGE : Nat := 0x10
abbrev C.XLT_CTX_INVALID : Nat := 0x11
abbrev C.XLT_WALK_OFF : Nat := 0x12
abbrev C.XLT_NOT_PRESENT : Nat := 0x13
abbrev C.XLT_BAD_FORMAT : Nat := 0x14
abbrev C.XLT_COMP_NOT_ALLOWED : Nat := 0x15
abbrev C.XLT_REMOTE_ABSENT : Nat := 0x16
abbrev C.XLT_NO_READ : Nat := 0x17
abbrev C.XLT_NO_WRITE : Nat := 0x18
abbrev C.XLT_NO_ATOMIC : Nat := 0x19
abbrev C.TIMEOUT_KILLED : Nat := 0x20
abbrev C.PKT_INVALID : Nat := 0x21
abbrev C.GRAPH_INVALID : Nat := 0x22
abbrev C.SHADER_TRAP : Nat := 0x30
abbrev C.ILLEGAL_INSTR : Nat := 0x31
abbrev C.TILE_STORE_RANGE : Nat := 0x32
abbrev C.RAY_MALFORMED : Nat := 0x40
abbrev C.COPY_DESC_INVALID : Nat := 0x48
abbrev C.REMOTE_REFUSED : Nat := 0x50
abbrev C.REMOTE_FAULT : Nat := 0x51
abbrev C.NODE_LEFT : Nat := 0x52
abbrev C.GUARD_FAULT : Nat := 0x60
abbrev C.DOMAIN_OFF : Nat := 0x70

/-- Stack and offset of a local physical address (01 R26). -/
def State.stackOf (s : State) (a : Nat) : Nat := (a >>> 12) % s.fuses.stacks
def State.stackOff (s : State) (a : Nat) : Nat := (a >>> 12) / s.fuses.stacks * 4096 + a % 4096

/-- The key of a local physical address in the DRAM store. -/
def State.dkey (s : State) (a : Nat) : Nat := s.stackOf a * 2 ^ 40 + s.stackOff a

/-- Stack status bits (01 Table PKG-16). -/
def State.stackFailed (s : State) (k : Nat) : Bool := s.bit R.GLB_STACK_STATUS (8 + k)
def State.stackLost (s : State) (k : Nat) : Bool := s.bit R.GLB_STACK_STATUS (12 + k)

/-- Why an access to a local physical address does not complete (01 R27 and the lost-link corner case). L2N not ON reads as a stack
that is not ON (05 R508; DEDUCED for other accesses, notes/assumptions/8.md). -/
def State.locErr (s : State) (a : Nat) : Option MErr :=
  if s.fuses.memSize ≤ a then some ⟨C.PA_ABSENT, 0x11, 0⟩
  else if s.stackFailed (s.stackOf a) then some ⟨C.PA_ABSENT, 0x12, 0⟩
  else if !s.on (D.MEM + s.stackOf a) || !s.on D.L2N then some ⟨C.PA_ABSENT, 0x13, 0⟩
  else if s.stackLost (s.stackOf a) then some ⟨C.MEM_UNCORRECTABLE, 0, 0⟩
  else none

/-- First fault of a range of local addresses, 4 KiB units being whole on one stack. -/
def State.rangeErr (s : State) (a n : Nat) : Option MErr :=
  (List.range ((a + n - 1) / 4096 + 1 - a / 4096)).findSome? (fun i => s.locErr (max a ((a / 4096 + i) * 4096)))

/-- Does L2 hold the byte dirty? -/
def State.l2Byte (s : State) (a : Nat) : Option Byte := (s.ms.l2.find? (fun c => c.1 == a)).map (·.2)

/-- The byte at a local address as a reader at L2 sees it. -/
def State.locByte (s : State) (a : Nat) : Byte := (s.l2Byte a).getD (s.ms.dram.get (s.dkey a))

/-- The number of a local address's 32-byte granule in the DRAM store. -/
def State.granule (s : State) (a : Nat) : Nat := s.dkey a / 32

/-- The 32-byte units of [a, a+n) that a read takes from DRAM: those of which it needs a byte that L2 holds neither dirty nor read. -/
def State.dramUnits (s : State) (a n : Nat) : List Nat :=
  ((List.range ((a + n - 1) / 32 + 1 - a / 32)).map (a / 32 + ·)).filter (fun g => !s.ms.l2r.contains g &&
    (List.range 32).any (fun j => a ≤ g * 32 + j && g * 32 + j < a + n && (s.l2Byte (g * 32 + j)).isNone))

/-- Count one uncorrectable error of a stack (01 R21). -/
def State.incUe (s : State) (g : Nat) : State := s.inc (R.GLB_STACK_UE_COUNT + 4 * (g / 2 ^ 35))

/-- Count one corrected error of a stack (01 R20). -/
def State.incCe (s : State) (g : Nat) : State := s.inc (R.GLB_STACK_CE_COUNT + 4 * (g / 2 ^ 35))

/-- DRAM reads a granule: an error that the code corrects, or can only detect, is counted (01 R20, R21). -/
def State.eccRead (s : State) (g : Nat) : State :=
  if s.ms.ue.contains g then s.incUe g else if s.ms.ce.contains g then s.incCe g else s

/-- Uncorrectable and correctable errors of DRAM come up in granules (01 R20, R21). -/
def State.spoil (s : State) (ue ce : List Nat) : State :=
  { s with ms := { s.ms with ue := s.ms.ue ++ ue.filter (fun g => !s.ms.ue.contains g), ce := s.ms.ce ++ ce.filter (fun g => !s.ms.ce.contains g) } }

/-- DRAM moves bytes to (`rd`) or from L2: what the arbiter measures, and two performance events (06 R155; 20 Table MON-6). -/
def State.dramMoved (s : State) (rd wr : Nat) : State :=
  if rd = 0 ∧ wr = 0 then s
  else
    let s := { s with ms := { s.ms with bw := s.ms.bw.modify s.ms.part (· + rd + wr) } }
    (s.perf 7 s.ms.part rd).perf 8 s.ms.part wr

/-- L2 serves an access of a line: a hit, or a miss (20 Table MON-6). -/
def State.l2Count (s : State) (hit : Bool) : State := s.perf (if hit then 5 else 6) s.ms.part 1

/-- Make an access to memory that belongs to a partition (06 R155). -/
def State.within {α : Type} (s : State) (p : Nat) (f : State → α × State) : α × State :=
  let (a, t) := f { s with ms := { s.ms with part := p } }
  (a, { t with ms := { t.ms with part := 255 } })

/-- The bytes of a write: address and value pairs in rising order. -/
def numbered (a : Nat) : List Byte → List (Nat × Byte)
  | [] => []
  | b :: bs => (a, b) :: numbered (a + 1) bs

/-- Write bytes of one granule to DRAM (01 R503): a whole granule clears its error; a partial write merges with what the granule holds, an error that
the code corrects being counted and gone; into a granule with any other error it writes nothing and counts. Answers whether it was written. -/
def State.putGranule (s : State) (cs : List (Nat × Byte)) : Bool × State :=
  match cs with
  | [] => (true, s)
  | (a, _) :: _ =>
    let g := s.granule a
    let s := if cs.length < 32 then (s.eccRead g).dramMoved 32 0 else s
    if cs.length < 32 && s.ms.ue.contains g then (false, s)
    else (true, { s.dramMoved 0 32 with ms := { (s.dramMoved 0 32).ms with
      dram := cs.foldl (fun m c => m.put (s.dkey c.1) c.2) s.ms.dram,
      ue := s.ms.ue.filter (· ≠ g), ce := s.ms.ce.filter (· ≠ g) } })

/-- The groups of one granule each of a list of address and value pairs, for granules g, g+1, ... -/
def granuleGroups (cs : List (Nat × Byte)) (g n : Nat) : List (List (Nat × Byte)) :=
  (List.range n).map (fun i => cs.filter (fun c => c.1 / 32 == g + i))

/-- Write bytes of [a, a+n) to DRAM granule by granule; answers whether every granule was written. -/
def State.putDram (s : State) (cs : List (Nat × Byte)) (a n : Nat) : Bool × State :=
  (granuleGroups cs (a / 32) ((a + n - 1) / 32 + 1 - a / 32)).foldl
    (fun (ok, s) grp => let (o, s') := s.putGranule grp; (ok && o, s')) (true, s)

/-- Count an encoding of the L2 codec (14 R348). -/
def State.countEnc (s : State) (ctl E : Nat) : State :=
  let s := s.inc R.CE_CODEC_ENC_COUNT
  if ctl = 2 then
    let s := s.inc R.CE_CODEC_LOSSY_COUNT
    if E > (s.reg R.CE_CODEC_MAXE).toNat then s.setRegN R.CE_CODEC_MAXE E else s
  else s

/-! ### What L2 holds -/

/-- Does L2 hold a line of 128 bytes, in any part? -/
def State.l2Has (s : State) (a : Nat) : Bool := s.ms.l2.any (fun c => c.1 / 128 == a / 128) || s.ms.l2r.any (fun g => g / 4 == a / 128)

/-- A line leaves L2: its dirty bytes go to DRAM. Nothing awaits them (01 R503): to a stack that is absent or lost nothing is written. -/
def State.writeBack (s : State) (a : Nat) : State :=
  let cs := s.ms.l2.filter (fun c => c.1 / 128 == a / 128)
  let s := { s with ms := { s.ms with l2 := s.ms.l2.filter (fun c => c.1 / 128 ≠ a / 128), l2r := s.ms.l2r.filter (fun g => g / 4 ≠ a / 128) } }
  if cs.isEmpty || (s.locErr (a / 128 * 128)).isSome then s else (s.putDram cs (a / 128 * 128) 128).2

/-- A block of a compressed page leaves L2: if it is dirty it is encoded and goes to DRAM (14 R348). -/
def State.writeBackC (s : State) (blk : Nat) : State :=
  match s.ms.l2c.find? (·.1 == blk) with
  | none => s
  | some (_, b) =>
    let s := { s with ms := { s.ms with l2c := s.ms.l2c.filter (·.1 ≠ blk) } }
    if !b.dirty then s
    else
      let (code, ctl, E) := codecEncode (codedSize b.comp) b.data
      let s := s.countEnc ctl E
      if (s.locErr blk).isSome then s else (s.putDram (numbered blk code) blk code.length).2

/-- The lines that L2 holds: of plain pages by address / 128, and two for each block of a compressed page. -/
def State.l2Lines (s : State) : List Nat := ((s.ms.l2.map (fun (c : Host.Cell) => c.1 / 128) : List Nat) ++ (s.ms.l2r.map (fun (g : Nat) => g / 4) : List Nat)).eraseDups

/-- L2 has 65,536 lines of 128 bytes (01 R25, 8 MiB): room for n more is made by lines that leave, of free choice. -/
def State.l2Room : Nat → State → State
  | 0, s => s
  | n + 1, s =>
    if s.ms.l2.length + s.ms.l2r.length + 2 * s.ms.l2c.length < 65536 then s
    else
      let ls := s.l2Lines
      if ls.length + 2 * s.ms.l2c.length ≤ 65534 then s
      else
        let (v, s) := s.draw
        let v := v % (ls.length + s.ms.l2c.length)
        State.l2Room n (if v < ls.length then s.writeBack (ls.getD v 0 * 128) else s.writeBackC ((s.ms.l2c.getD (v - ls.length) (0, ⟨0, false, []⟩)).1))

/-- L2 takes up 32-byte units that it has read. -/
def State.l2Fill (s : State) (gs : List Nat) : State :=
  if gs.isEmpty then s
  else
    let s := s.l2Room 3
    { s with ms := { s.ms with l2r := gs ++ s.ms.l2r } }

/-- Hold bytes dirty in L2. -/
def State.putL2 (s : State) (cs : List (Nat × Byte)) : State :=
  if cs.isEmpty then s
  else
    let s := s.l2Room 3
    { s with ms := { s.ms with l2 := cs.foldl (fun m c => storePut (fun _ _ => false) c.1 c.2 m) s.ms.l2 } }

/-- Read local memory for work (01 R20, R21, R27): the bytes, or the fault; every DRAM access with an error counts. `alloc`: L2 keeps what it reads
(03 Table XLT-7, 06 R154). -/
def State.readLoc (s : State) (a n : Nat) (alloc : Bool := false) : Except MErr (List Byte) × State :=
  match s.rangeErr a n with
  | some e => (.error e, s)
  | none =>
    let us := s.dramUnits a n
    let gs := us.map (fun u => s.granule (u * 32))
    let t := (gs.foldl State.eccRead (s.l2Count us.isEmpty)).dramMoved (32 * us.length) 0
    if gs.any s.ms.ue.contains then (.error ⟨C.MEM_UNCORRECTABLE, 0, 0⟩, t)
    else (.ok ((List.range n).map (fun i => s.locByte (a + i))), if alloc then t.l2Fill us else t)

/-- Write bytes of [a, a+n) of local memory for work. `alloc`: the policy allocates in L2 (03 Table XLT-7, 06 R154); else a line already present is used
and otherwise the bytes go to DRAM. -/
def State.writeCells (s : State) (cs : List (Nat × Byte)) (a n : Nat) (alloc : Bool) : Except MErr Unit × State :=
  match s.rangeErr a n with
  | some e => (.error e, s)
  | none =>
    let inL2 := cs.filter (fun c => alloc || s.l2Has c.1)
    let out := cs.filter (fun c => !(alloc || s.l2Has c.1))
    let (ok, t) := (s.l2Count (s.l2Has a)).putDram out a n
    (if ok then .ok () else .error ⟨C.MEM_UNCORRECTABLE, 0, 0⟩, t.putL2 inL2)

/-- Write bytes to consecutive local addresses for work. -/
def State.writeLoc (s : State) (a : Nat) (bs : List Byte) (alloc : Bool) : Except MErr Unit × State := s.writeCells (numbered a bs) a bs.length alloc

/-- The enabled bytes of a masked write (none: masked out). -/
def maskedCells (a : Nat) : List (Option Byte) → List (Nat × Byte)
  | [] => []
  | none :: t => maskedCells (a + 1) t
  | some b :: t => (a, b) :: maskedCells (a + 1) t

/-- Write enabled bytes at consecutive local addresses: one write, each granule of which is merged once (01 R503). -/
def State.writeMasked (s : State) (a : Nat) (bs : List (Option Byte)) (alloc : Bool) : Except MErr Unit × State :=
  s.writeCells (maskedCells a bs) a bs.length alloc

/-- Hold a block of a compressed page in L2, two lines of it. -/
def State.putL2c (s : State) (blk : Nat) (b : L2Block) : State :=
  let s := s.l2Room 4
  { s with ms := { s.ms with l2c := storePut (fun _ _ => false) blk b s.ms.l2c } }

/-- The decoded block of a compressed page at a backing address (14 R347): one access decodes it, and where the policy allocates its two lines stay. -/
def State.blockC (s : State) (blk comp : Nat) (alloc : Bool := false) : Except MErr (List Byte) × State :=
  match s.rangeErr blk (codedSize comp), s.ms.l2c.find? (·.1 == blk) with
  | some e, _ => (.error e, s)
  | none, some (_, b) => (.ok b.data, s.l2Count true)
  | none, none =>
    match s.readLoc blk (codedSize comp) with
    | (.error e, s) => (.error e, s)
    | (.ok c, s) =>
      let (d, bad) := codecDecode (codedSize comp) c
      let s := if bad then s.inc R.CE_CODEC_BAD_COUNT else s
      (.ok d, if alloc then s.putL2c blk ⟨comp, false, d⟩ else s)

/-- Replace part of a list of bytes. -/
def splice (l : List Byte) (o : Nat) (bs : List Byte) : List Byte := l.take o ++ bs ++ l.drop (o + bs.length)

/-- Write bytes of one block of a compressed page (11 R296, 14 R348). Without allocation and with no line of it in L2 the block is encoded and written at
once. -/
def State.putBlockC (s : State) (blk comp o : Nat) (bs : List Byte) (alloc : Bool) : Except MErr Unit × State :=
  match s.rangeErr blk (codedSize comp) with
  | some e => (.error e, s)
  | none =>
    let here := s.ms.l2c.any (·.1 == blk)
    match (if bs.length = 256 then (.ok bs, s) else s.blockC blk comp) with
    | (.error e, s) => (.error e, s)
    | (.ok d, s) =>
      let s := s.putL2c blk ⟨comp, true, splice d o bs⟩
      (.ok (), if alloc || here then s else s.writeBackC blk)

/-- L2 writes back everything that it holds dirty, and keeps nothing (16 R402, 17 R422). -/
def State.flushL2 (s : State) : State :=
  let s := s.l2Lines.foldl (fun s l => s.writeBack (l * 128)) s
  (s.ms.l2c.map (·.1)).foldl (fun s b => s.writeBackC b) s

/-- The lines of one stack leave L2 (16 R402). -/
def State.flushStack (s : State) (k : Nat) : State :=
  let s := (s.l2Lines.filter (fun l => s.stackOf (l * 128) == k)).foldl (fun s l => s.writeBack (l * 128)) s
  ((s.ms.l2c.map (·.1)).filter (fun b => s.stackOf b == k)).foldl (fun s b => s.writeBackC b) s

end Sys2Proof.Machine
end

