-- ==== Sys2Proof/Machine/HostOut.lean ====
section
/-! DEFINITION. What Ruwen sends to the host: posted writes in order under the host's credits (02 R38, R504; 19 R467), events and
MSI-X messages (02 R40 to R42). -/

namespace Sys2Proof.Machine

/-- DL_UP (02 Table HST-9). -/
def State.dlUp (s : State) : Bool := s.bit R.HIF_LINK_STATUS 10

/-- Can a posted write leave: link up and in L0, function in D0, HIO link not lost (02 R32, R33, R504; 01 R19)? -/
def State.canSend (s : State) : Bool := s.dlUp && !s.bit R.GLB_LINK_STATUS 1 && s.field R.HIF_LINK_STATUS 9 8 == 0 && !s.hs.d3hot

/-- Posted-data credits of a write: units of 16 bytes (19 R467). -/
def HostWrite.credits (w : HostWrite) : Nat := ceilDiv w.data.length 16

/-- The marker reserve in headers and data credits, as HIF_OUT_RESERVE shows it (19 R467, Table FLO-6). -/
def State.reserveH (s : State) : Nat := s.field R.HIF_OUT_RESERVE 7 0
def State.reserveD (s : State) : Nat := s.field R.HIF_OUT_RESERVE 15 8

/-- Do the credits in hand let a write leave? A general write must leave the reserve whole. -/
def State.creditsFor (s : State) (w : HostWrite) : Bool :=
  if w.marker then 1 ≤ s.hs.credH && w.credits ≤ s.hs.credD
  else 1 + s.reserveH ≤ s.hs.credH && w.credits + s.reserveD ≤ s.hs.credD

/-- Send a write: it takes its credits and lands in host memory. -/
def State.transmit (s : State) (w : HostWrite) : State :=
  { s with hs := { s.hs with
    credH := s.hs.credH - 1, credD := s.hs.credD - w.credits, mem := s.hs.mem.write w.addr w.data } }

/-- Do two writes share a tag? -/
def HostWrite.shares (a b : HostWrite) : Bool := a.tags.any b.tags.contains

/-- The oldest waiting marker that no earlier waiting write with one of its tags precedes (02 R38). -/
def freeMarker : List HostWrite → List HostWrite → Option (HostWrite × List HostWrite)
  | _, [] => none
  | before, w :: rest =>
    if w.marker && before.all (fun b => !b.shares w) then some (w, before ++ rest)
    else freeMarker (before ++ [w]) rest

/-- The oldest waiting general write. -/
def firstGeneral : List HostWrite → List HostWrite → Option (HostWrite × List HostWrite)
  | _, [] => none
  | before, w :: rest => if !w.marker then some (w, before ++ rest) else firstGeneral (before ++ [w]) rest

/-- The write that leaves next: waiting markers first, then general writes in order (19 R467). -/
def State.nextOut (s : State) : Option (HostWrite × List HostWrite) :=
  if s.canSend then
    match freeMarker [] s.hs.waiting with
    | some (w, r) => if s.creditsFor w then some (w, r) else
        match firstGeneral [] s.hs.waiting with
        | some (g, r') => if s.creditsFor g then some (g, r') else none
        | none => none
    | none =>
      match firstGeneral [] s.hs.waiting with
      | some (g, r') => if s.creditsFor g then some (g, r') else none
      | none => none
  else none

/-- Send waiting writes while any can leave. -/
def State.pump : Nat → State → State
  | 0, s => s
  | n + 1, s =>
    match s.nextOut with
    | some (w, r) => State.pump n ({ s with hs := { s.hs with waiting := r } }.transmit w)
    | none => s

/-- Send whatever can leave. -/
def State.drain (s : State) : State := s.pump s.hs.waiting.length

/-- Entries of the HIO marker buffer that a producer has of its own (19 R466). -/
def prodReserve (p : Nat) : Nat := if p < 53 then 1 else [8, 4, 4, 8, 2, 2, 2, 2].getD (p - 53) 0

/-- Markers of a producer that wait. -/
def markersOf (ws : List HostWrite) (p : Nat) : Nat := (ws.filter (fun w => w.marker && w.prod == p)).length

/-- Shared entries of the marker buffer that waiting markers need. -/
def sharedNeed (ws : List HostWrite) : Nat := ((List.range 61).map (fun p => markersOf ws p - prodReserve p)).sum

/-- A marker of a producer is due: when neither its own entries nor one of the 43 shared ones is free, it waits, and is counted (19 R466). With fewer
than 44 writes waiting some entry is free. -/
def State.ctlWait (s : State) (p : Nat) : State :=
  if s.hs.waiting.length < 44 then s
  else if prodReserve p ≤ markersOf s.hs.waiting p ∧ 43 ≤ sharedNeed s.hs.waiting then s.inc R.GLB_NOC_CTL_WAIT_COUNT else s

/-- Issue a posted write: it is counted, waits in issue order and leaves as soon as it can (02 R504). -/
def State.issueWrite (s : State) (w : HostWrite) : State :=
  let s := (if w.marker then s.ctlWait w.prod else s).perf 0xF 0 w.data.length
  { s with hs := { s.hs with waiting := s.hs.waiting ++ [w] } }.drain

/-- A marker write to host memory by a producer (19 R466, R467). -/
def State.hostMarker (s : State) (prod addr : Nat) (data : List Byte) (tags : List Nat) : State :=
  s.issueWrite { addr := addr, data := data, marker := true, tags := tags, prod := prod }

/-- A posted write of a translated access. -/
def State.hostWriteVa (s : State) (addr : Nat) (data : List Byte) (marker : Bool) (prod holder ctx va : Nat) (line : Option Nat := none) : State :=
  s.issueWrite { addr := addr, data := data, marker := marker, tags := [ctx], holder := holder, va := va, prod := prod, line := line
                 relaxed := !marker && Config.relaxedOrdering }

/-- The message of an MSI-X vector: a marker write of the entry's data (02 R40, 19 R467). -/
def State.msixSend (s : State) (v : Nat) (tags : List Nat) : State :=
  s.hostMarker 56 (s.pair (R.HIF_MSIX_ADDR_LO + 16 * v)) (leBytes 4 (s.reg (R.HIF_MSIX_DATA + 16 * v)).toNat) tags

/-- Is a vector's message held back: MSI-X is not enabled, or the function or the vector is masked (PCIe, 02 R40; notes/assumptions/15.md)? -/
def State.msixMasked (s : State) (v : Nat) : Bool := !s.hs.cfg.msixEn || s.hs.cfg.msixMask || s.bit (R.HIF_MSIX_CTRL + 16 * v) 0

/-- A message is due: sent, or withheld with its pending bit set (02 R42) and with what it is ordered with. -/
def State.msix (s : State) (v : Nat) (tags : List Nat) : State :=
  if s.msixMasked v then
    { s.setBits (R.HIF_MSIX_PBA + 4 * (v / 32)) (1 <<< (v % 32)) with hs := { s.hs with
      withheld := storePut (fun _ t => t.isEmpty) v ((storeGet (fun _ => []) s.hs.withheld v) ++ tags) s.hs.withheld } }
  else s.msixSend v tags

/-- An event on vector v (02 R42): its pending bit sets; a message is due when the bit goes from 0 to 1.
While HM returns to ON the event waits (R504); while HM is otherwise not ON the HIF block holds no event (DEDUCED, notes/assumptions/9.md). -/
def State.event (s : State) (v : Nat) (tags : List Nat) : State :=
  let k := R.HIF_EVT_PEND0 + 4 * (v / 32)
  if !s.on D.HM then
    if s.ao.pwr.move.any (fun m => m.dom == D.HM && m.target == 2) then { s with hs := { s.hs with late := s.hs.late ++ [(v, tags)] } } else s
  else if s.bit k (v % 32) then s else (s.setBits k (1 <<< (v % 32))).msix v tags

/-- HM is back: the events that waited for it (02 R504). -/
def State.lateEvents (s : State) : State :=
  s.hs.late.foldl (fun s e => s.event e.1 e.2) { s with hs := { s.hs with late := [] } }

/-- The withheld message of a vector that is held back no more is sent, in its place behind the writes that it follows (PCIe, 02 R38, R42). -/
def State.msixRelease (s : State) (v : Nat) : State :=
  let k := R.HIF_MSIX_PBA + 4 * (v / 32)
  if s.msixMasked v || !s.bit k (v % 32) then s
  else
    let tags := storeGet (fun _ => []) s.hs.withheld v
    ({ s.clrBits k (1 <<< (v % 32)) with hs := { s.hs with withheld := s.hs.withheld.filter (·.1 ≠ v) } }).msixSend v tags

/-- A write of a vector's control word: unmasking sends the withheld message (PCIe, 02 R42). -/
def State.msixCtrl (s : State) (v : Nat) (val : BitVec 32) : State := (s.setReg (R.HIF_MSIX_CTRL + 16 * v) (val &&& 1)).msixRelease v

/-- MSI-X Enable or Function Mask changes: the messages that are held back no more are sent (PCIe, 02 R42). -/
def State.msixConfig (s : State) (en mask : Bool) : State :=
  (List.range 64).foldl (fun s v => s.msixRelease v) { s with hs := { s.hs with cfg := { s.hs.cfg with msixEn := en, msixMask := mask } } }

/-- Is host memory readable now (02 R504)? A read issued otherwise waits. -/
def State.canReadHost (s : State) : Bool := s.canSend && s.on D.HM

end Sys2Proof.Machine
end

