-- ==== Sys2Proof/Machine/Xlat.lean ====
section
/-! DEFINITION. Address translation (03 R57 to R83, R93): TLBs, page-walk cache, the walk, the leaf checks and the translation
fault registers. -/

namespace Sys2Proof.Machine

/-- TLB entries of a holder (03 Table XLT-9). -/
def tlbSize (h : Nat) : Nat :=
  if h < 32 then 1024 else if h = 32 then 64 else if h = 33 then 256 else if h < 38 then 128 else if h < 55 then 64
  else if h = 55 then 128 else if h = 56 then 32 else 128

/-- Power domain of a holder (03 Table XLT-9). -/
def holderDom (h : Nat) : Nat :=
  if h < 32 then D.CL + h / 4 else if h = 32 then D.GD else if h = 33 then D.BN else if h < 38 then D.CE else if h < 54 then D.RT
  else if h = 54 then D.HM else if h = 55 then D.FAB else if h = 56 then D.FEC else D.HM

/-- What the partition controller holds of a context (04 R95). -/
def State.adm? (s : State) (c : Nat) : Option Adm := (s.qm.adm.find? (·.1 == c)).map (·.2)

/-- PART of a context as held from its admission (04 Table OBJ-8). -/
def State.ctxPart (s : State) (c : Nat) : Nat := match s.adm? c with | some a => a.part | none => 0xFF

/-- A performance event in the work of a context (20 R489). -/
def State.perfCtx (s : State) (code c n : Nat) : State := s.perf code (s.ctxPart c) n

/-- The lost bit of a context (04 R96). -/
def State.lost (s : State) (c : Nat) : Bool := s.bit (R.QM_CTX_LOST + 4 * (c / 32)) (c % 32)

/-- Why a table entry or context descriptor at a local address cannot be read at a level (03 R81). Where several of these hold of one entry the spec gives no
order: a failed stack is reported before one that is not ON, that before a lost link (DESIGN CHOICE, notes/assumptions/68.md). -/
def State.walkErr (s : State) (a lvl : Nat) : Option MErr :=
  if !s.on D.L2N then some ⟨C.XLT_WALK_OFF, 3, 3⟩
  else if s.fuses.memSize ≤ a then some ⟨C.PA_ABSENT, lvl, lvl⟩
  else if s.stackFailed (s.stackOf a) then some ⟨C.PA_ABSENT, lvl, lvl⟩
  else if !s.on (D.MEM + s.stackOf a) then some ⟨C.XLT_WALK_OFF, lvl, lvl⟩
  else if s.stackLost (s.stackOf a) then some ⟨C.MEM_UNCORRECTABLE, lvl, lvl⟩
  else none

/-- Read n bytes of a table or descriptor through L2 (03 R58, R81). -/
def State.walkRead (s : State) (a n lvl : Nat) : Except MErr (List Byte) × State :=
  match s.walkErr a lvl with
  | some e => (.error e, s)
  | none =>
    match s.readLoc a n with
    | (.error e, s) => (.error { e with detail := lvl, level := lvl }, s)
    | r => r

/-- The address of a context's descriptor (04 R94). -/
def State.ctxDesc (s : State) (c : Nat) : Nat := s.pair R.QM_CTX_TABLE_LO + 64 * c

/-- VALID, ROOT and LOSSY_OK of a context, cached or read from its descriptor (03 R93). The descriptor is read as its whole 64 bytes: an uncorrectable error
in any of them faults the walk (DESIGN CHOICE, notes/assumptions/68.md). -/
def State.ctxRoot (s : State) (c : Nat) : Except MErr CtxRoot × State :=
  match s.mmu.roots.find? (·.1 == c) with
  | some (_, r) => (.ok r, s)
  | none =>
    match s.walkRead (s.ctxDesc c) 64 3 with
    | (.error e, s) => (.error e, s)
    | (.ok b, s) =>
      let r : CtxRoot := ⟨(fieldAt b 0 1).testBit 0, bits (fieldAt b 8 8) 47 12 * 4096, (fieldAt b 0 1).testBit 1⟩
      (.ok r, { s with mmu := { s.mmu with roots := (c, r) :: s.mmu.roots } })

/-- Bytes that one entry of a level spans (03 Table XLT-2). -/
def span (lvl : Nat) : Nat := 2 ^ (12 + 9 * lvl)

/-- Replace the oldest, or when full a free choice of, entries of a cache (notes/assumptions/10.md). -/
def insertFree (s : State) (cap : Nat) (l : List α) (e : α) : List α × State :=
  if l.length < cap then (e :: l, s)
  else let (v, s) := s.draw; (e :: l.eraseIdx (v % l.length), s)

/-- A walk from level `lvl` (plus one) down with the table at `base`: the leaf entry, its level and the 128-byte line of an L0 entry
(03 R59). -/
def walkFrom : Nat → State → Nat → Nat → Nat → Except MErr (Nat × Nat × List Byte) × State
  | 0, s, _, _, _ => (.error ⟨C.XLT_BAD_FORMAT, 0, 0⟩, s)
  | lvl + 1, s, c, va, base =>
    let idx := va / span lvl % 512
    let (lo, n) := if lvl = 0 then (base + 8 * (idx / 16 * 16), 128) else (base + 8 * idx, 8)
    match s.walkRead lo n lvl with
    | (.error e, s) => (.error e, s)
    | (.ok b, s) =>
      let pte := fieldAt b (if lvl = 0 then 8 * (idx % 16) else 0) 8
      if !pte.testBit 0 then (.error ⟨C.XLT_NOT_PRESENT, lvl, lvl⟩, s)
      else if lvl = 0 || (lvl = 1 && pte.testBit 1) then (.ok (pte, lvl, b), s)
      else if pte.testBit 1 then (.error ⟨C.XLT_BAD_FORMAT, lvl, lvl⟩, s)
      else
        let next := bits pte 47 12 * 4096
        let (p, s) := insertFree s 256 s.mmu.pwc ⟨c, lvl, va / span lvl * span lvl, next⟩
        walkFrom lvl { s with mmu := { s.mmu with pwc := p } } c va next

/-- The deepest page-walk cache pointer for an address: the level to read next (plus one) and its table (03 R59). -/
def State.pwcStart (s : State) (c va root : Nat) : Nat × Nat :=
  match [1, 2, 3].findSome? (fun l => (s.mmu.pwc.find? (fun p => p.ctx == c && p.level == l && p.va == va / span l * span l)).map
      (fun p => (l, p.next))) with
  | some r => r
  | none => (4, root)

/-- The page size of a leaf: huge at L1, medium or small at L0 (03 R61 to R63). -/
def leafSize (pte lvl : Nat) : Nat := if lvl = 1 then 2 ^ 21 else if pte.testBit 5 then 2 ^ 16 else 2 ^ 12

/-- Does a leaf break R62, R64 or R66? `line` is the 128-byte line of an L0 leaf. -/
def badLeaf (pte lvl : Nat) (line : List Byte) : Bool :=
  let comp := bits pte 9 8
  let cache := bits pte 7 6
  let rem := pte.testBit 63
  let node := bits pte 62 52
  let sys := pte.testBit 10
  let size := leafSize pte lvl
  let foot := size >>> comp
  (lvl == 0 && pte.testBit 5 && !(List.range 16).all (fun i => fieldAt line (8 * i) 8 == pte)) ||
    cache == 3 || comp == 3 || (comp ≠ 0 && size == 2 ^ 12) || !aligned (bits pte 47 12 * 4096) foot ||
    (!rem && node ≠ 0) || (comp ≠ 0 && pte.testBit 4) || ((rem || sys) && (cache ≠ 2 || comp ≠ 0)) ||
    (sys && (pte.testBit 4 || rem || node ≠ 0))

/-- The largest exponent r' ≤ r for which backing and virtual page numbers agree in their low bits (03 R68). -/
def clampRun : Nat → Nat → Nat → Nat
  | 0, _, _ => 0
  | r + 1, p, v => if p % 2 ^ (r + 1) == v % 2 ^ (r + 1) then r + 1 else clampRun r p v

/-- The TLB entry of a checked leaf, and whether its run was reduced (03 R68, R69, R78). -/
def leafTlb (c va pte lvl : Nat) : Tlb × Bool :=
  let size := leafSize pte lvl
  let comp := bits pte 9 8
  let foot := size >>> comp
  let addr := bits pte 47 12 * 4096
  let r := bits pte 51 48
  let r' := clampRun r (addr / foot) (va / size)
  let i := va / size % 2 ^ r'
  (⟨c, (va / size - i) * size, size, r', addr - i * foot, foot,
    if pte.testBit 63 then .remote (bits pte 62 52) else if pte.testBit 10 then .host else .loc,
    comp, bits pte 7 6, pte.testBit 2, pte.testBit 3, pte.testBit 4⟩, r' < r)

/-- Does a TLB entry translate an address of a context (03 R69, R78)? -/
def Tlb.hits (t : Tlb) (c va : Nat) : Bool := t.ctx == c && t.va ≤ va && va < t.va + t.size * 2 ^ t.run

/-- The address that an entry gives (03 R65, R69, R75, R77). -/
def Tlb.apply (t : Tlb) (va : Nat) : XAddr :=
  let i := (va - t.va) / t.size
  let o := (va - t.va) % t.size
  if t.comp = 0 then ⟨t.dest, t.base + i * t.foot + o, 0, 0, t.cache⟩
  else ⟨t.dest, t.base + i * t.foot + o / 256 * (256 >>> t.comp), o % 256, t.comp, t.cache⟩

/-- The level of a translation's leaf. -/
def Tlb.level (t : Tlb) : Nat := if t.size = 2 ^ 21 then 1 else 0

/-- The right of Table XLT-6 that an access of a kind lacks, with the cause it faults with. -/
def Tlb.lacks (t : Tlb) : Acc → Option Nat
  | .rd => if t.rd then none else some C.XLT_NO_READ
  | .wr => if t.wr then none else some C.XLT_NO_WRITE
  | .atm => if t.atm then none else some C.XLT_NO_ATOMIC

/-- Rights and remote presence of a translation for an access (03 R70, R76, R82 items 7 and 8); the level reported is the leaf's (Table XLT-16). -/
def State.useErr (s : State) (t : Tlb) (k : Acc) : Option MErr :=
  let rights := (t.lacks k).map (fun c => (⟨c, t.level, t.level⟩ : MErr))
  match t.dest with
  | .remote _ => if s.fuses.fio && s.on D.FAB && !s.bit R.GLB_LINK_STATUS 3 then rights else some ⟨C.XLT_REMOTE_ABSENT, t.level, t.level⟩
  | _ => rights

/-- Record a translation fault (03 R83, Table XLT-16). -/
def State.xltFault (s : State) (h c va : Nat) (e : MErr) : State :=
  ((s.inc R.MMU_FAULT_COUNT).setRegN R.MMU_LAST_FAULT (e.cause * 2 ^ 24 + e.level * 2 ^ 16 + h * 2 ^ 8 + c)).setPair
    R.MMU_LAST_FAULT_VA_LO va

/-- A walk of a context for a page (03 R59, R82 items 2 to 6): the checked leaf as a TLB entry. A run that is reduced counts here, also when the access then
faults on its rights or on an absent node and caches nothing (DESIGN CHOICE, notes/assumptions/68.md). -/
def State.walk (s : State) (c va : Nat) : Except MErr Tlb × State :=
  match s.adm? c with
  | none => (.error ⟨C.XLT_CTX_INVALID, 0, 0⟩, s)
  | some _ =>
    match s.ctxRoot c with
    | (.error e, s) => (.error e, s)
    | (.ok r, s) =>
      if !r.valid then (.error ⟨C.XLT_CTX_INVALID, 0, 0⟩, s)
      else
        let (lvl, base) := s.pwcStart c va r.root
        match walkFrom lvl s c va base with
        | (.error e, s) => (.error e, s)
        | (.ok (pte, lvl, line), s) =>
          if badLeaf pte lvl line then (.error ⟨C.XLT_BAD_FORMAT, lvl, lvl⟩, s)
          else if bits pte 9 8 = 2 && !r.lossy then (.error ⟨C.XLT_COMP_NOT_ALLOWED, lvl, lvl⟩, s)
          else
            let (t, clamped) := leafTlb c va pte lvl
            (.ok t, if clamped then s.inc R.MMU_RUN_CLAMP_COUNT else s)

/-- Is a leaf fit to be cached: does it pass every check of the chapter for this access (03 R60)? -/
def State.cacheTlb (s : State) (h : Nat) (t : Tlb) : State :=
  let (l, s) := insertFree s (tlbSize h) (s.mmu.tlbs.getD h []) t
  { s with mmu := { s.mmu with tlbs := s.mmu.tlbs.set h l } }

/-- Look an address up in a holder's TLB. -/
def State.tlbFind (s : State) (h c va : Nat) : Option Tlb := (s.mmu.tlbs.getD h []).find? (·.hits c va)

/-- Count the walk that a miss of a holder requests (03 R80). -/
def State.countWalk (s : State) (h c : Nat) : State :=
  let s := (s.inc (R.MMU_WALK_COUNT + 4 * h)).perfCtx 0xD c 1
  if (s.mmu.tlbs.getD h []).any (·.ctx == c) then s else s.inc R.MMU_COLD_MISS_COUNT

/-- Finish a walk for an access: cache the leaf, or the fault (03 R59, R60, R82, R83). -/
def State.walkFor (s : State) (h c va : Nat) (k : Dest → Acc) : Except MErr Tlb × State :=
  match s.walk c va with
  | (.error e, s) => (.error e, s.xltFault h c va e)
  | (.ok t, s) =>
    match s.useErr t (k t.dest) with
    | some e => (.error e, s.xltFault h c va e)
    | none => (.ok t, s.cacheTlb h t)

/-- Is a walk in flight, not only waiting to walk again? -/
def Walk.active (w : Walk) : Bool := w.redo == 0 || w.redo.testBit 0 || w.redo.testBit 2

/-- Is one of the 16 walkers free (03 R59)? -/
def State.walkerFree (s : State) : Bool := (s.mmu.walks.filter Walk.active).length < 16

/-- Why an access cannot be made yet: a host read waits for the link (02 R504), a remote read for its data (15 R377), a walk for one of the 16 walkers (03
R59). The work that meets it is done over when it can go on (notes/assumptions/65.md). -/
abbrev C.HOST_WAIT : Nat := 0

/-- Translate an access of a unit that waits for its walk within its step (03 R57 to R83); the right it needs may depend on where it goes. `now`: the
access is part of an effect that does not wait, and takes a walker whatever the others do (notes/assumptions/65.md). -/
def State.xlateBy (s : State) (h c va : Nat) (k : Dest → Acc) (now : Bool := true) : Except MErr XAddr × State :=
  if 2 ^ 48 ≤ va then (.error ⟨C.XLT_VA_RANGE, 0, 0⟩, s.xltFault h c va ⟨C.XLT_VA_RANGE, 0, 0⟩)
  else
    match s.tlbFind h c va with
    | some t =>
      match s.useErr t (k t.dest) with
      | some e => (.error e, s.xltFault h c va e)
      | none => (.ok (t.apply va), s)
    | none =>
      if !now && !s.walkerFree then (.error ⟨C.HOST_WAIT, 0, 0⟩, s)
      else match (s.countWalk h c).walkFor h c va k with
        | (.error e, s) => (.error e, s)
        | (.ok t, s) => (.ok (t.apply va), s)

/-- Translate an access of a kind. -/
def State.xlate (s : State) (h c va : Nat) (k : Acc) (now : Bool := false) : Except MErr XAddr × State := s.xlateBy h c va (fun _ => k) now

/-- Empty the TLB of a holder (03 R79). -/
def State.emptyTlb (s : State) (h : Nat) : State := { s with mmu := { s.mmu with tlbs := s.mmu.tlbs.set h [] } }

end Sys2Proof.Machine
end

