-- ==== Sys2Proof/Machine/Onion.lean ====
section
/-! DEFINITION. The onion error record (04 R113 to R115, Table OBJ-8) and the marker records that Ruwen writes to host memory. -/

namespace Sys2Proof.Machine

/-- The fields of an onion (04 Table OBJ-8) but its sequence number and node; `tags` order its write (02 R38, 04 R117). -/
structure Onion where
  part : Nat := 0xFF
  ctx : Nat := 0
  queue : Nat := 0xFF
  eng : Nat := 0xFF
  gen : Nat := 0
  cause : Nat := 0
  detail : Nat := 0
  first : Bool := false
  va : Option Nat := none
  rawVa : Nat := 0
  cmd : Option Nat := none
  graph : Option (Nat × Nat) := none
  fence : Option (Nat × Nat) := none
  remote : Bool := false
  tags : List Nat := [330]
deriving DecidableEq, Repr

/-- Own node ID: 0 without an FIO or without a valid identity (15 R373). -/
def State.nodeId (s : State) : Nat := if s.fuses.fio && s.bit R.FAB_NODE_ID 31 then s.field R.FAB_NODE_ID 10 0 else 0

/-- The 64 bytes of an onion. -/
def State.onionBytes (s : State) (seq : Nat) (o : Onion) : List Byte :=
  leBytes 8 seq ++ leBytes 4 (s.nodeId + s.fuses.variant * 2 ^ 16) ++
  leBytes 4 (o.part + o.ctx * 2 ^ 8 + o.queue * 2 ^ 16 + o.eng * 2 ^ 24) ++ leBytes 4 o.gen ++
  leBytes 4 (o.cause + o.detail % 256 * 2 ^ 8 + b2n o.first * 2 ^ 16 + b2n o.va.isSome * 2 ^ 17 + b2n o.cmd.isSome * 2 ^ 18 +
    b2n o.graph.isSome * 2 ^ 19 + b2n o.fence.isSome * 2 ^ 20 + b2n o.remote * 2 ^ 21) ++
  leBytes 8 (o.va.getD o.rawVa) ++ leBytes 8 (o.cmd.getD 0) ++ leBytes 4 (o.graph.getD (0, 0)).1 ++
  leBytes 4 (o.graph.getD (0, 0)).2 ++ leBytes 8 (o.fence.getD (0, 0)).1 ++ leBytes 8 (o.fence.getD (0, 0)).2

/-- Is the onion ring written (04 Table OBJ-12), and does onion k fit (04 R115)? -/
def State.onionFits (s : State) (k : Nat) : Bool :=
  let n := s.field R.QM_ONION_CTRL 11 8
  s.bit R.QM_ONION_CTRL 0 && 6 ≤ n && n ≤ 15 && asInt 64 (subMod 64 k (s.pair R.QM_ONION_CONS_LO)) ≤ (2 ^ n : Nat)

/-- Write an onion (04 R113 to R115): it takes the next sequence number, is written or dropped and counted, and posts vector 0. -/
def State.onion (s : State) (o : Onion) : Nat × State :=
  let k := addMod 64 (s.pair R.QM_ONION_SEQ_LO) 1
  let s := s.setPair R.QM_ONION_SEQ_LO k
  let s := if s.onionFits k then
      s.hostMarker 55 (s.pair R.QM_ONION_BASE_LO + 64 * (k % 2 ^ s.field R.QM_ONION_CTRL 11 8)) (s.onionBytes k o) o.tags
    else s.inc R.QM_ONION_DROP_COUNT
  (k, s.event 0 o.tags)

/-- GEN of a context at a fault (04 R95, R118): held for a context bound to PG, else read from its descriptor, 0 when that fails. -/
def State.ctxGen (s : State) (c : Nat) : Nat × State :=
  match s.adm? c with
  | some a => if a.part = 8 then (a.gen, s) else go s
  | none => go s
where
  go (s : State) : Nat × State :=
    match s.readLoc (s.ctxDesc c) 8 with
    | (.ok b, s) => (fieldAt b 4 4, s)
    | (.error _, s) => (0, s)

end Sys2Proof.Machine
end

