-- ==== Sys2Proof/Machine/Ops.lean ====
section
/-! DEFINITION. How a meaning answers. -/

namespace Sys2Proof.Machine

/-- What a command comes to. -/
abbrev Out := Host.Outcome State Fault Refusal

/-- An event that cannot come about in the state it is put to (notes/assumptions/6.md). -/
def never (event : String) : Out := .fault (.cannotOccur event)

/-- The next state, if there is one; else the event cannot come about. -/
def orNever (event : String) : Option State → Out
  | some s => .next s
  | none => never event

/-- The event happens when its condition holds. -/
def when' (event : String) (c : Bool) (s : State) : Out := if c then .next s else never event

/-- Is the root PLL in lock (16 R392, Table PWR-10)? -/
def State.rootLock (s : State) : Bool := s.bit R.CLK_PP_STATUS 17

/-- An event of logic on a clock derived from ROOT (16 R390, R392): that logic stands still while the root PLL is out of lock. -/
def State.rooted (s : State) (event : String) (out : Out) : Out := if s.rootLock then out else never event

end Sys2Proof.Machine
end

