-- ==== Sys2Proof/Machine/FabCore.lean ====
section
/-! DEFINITION. The fabric: routes, sending and serving remote requests, refusals, loopback (15 R373 to R384). -/

namespace Sys2Proof.Machine

/-- Own FAB_NODE_ID.VALID (15 R373). -/
def State.nodeValid (s : State) : Bool := s.bit R.FAB_NODE_ID 31

/-- Route entry of a node (15 R374): [3] DEPARTED, [2:1] PORT, [0] VALID. -/
def State.route (s : State) (n : Nat) : BitVec 32 := storeGet (fun _ => 0) s.fab.routes n

/-- FAB_P_STATUS.UP of a port. -/
def State.portUp (s : State) (p : Nat) : Bool := s.bit (rk R.FAB_P_STATUS p) 0

/-- The way to a node (15 R373 to R376, R380, Table FAB-2): its port, none for a loopback, or why there is none. -/
def State.fabPath (s : State) (n : Nat) : Except MErr (Option Nat) :=
  let r := s.route n
  if !s.nodeValid then .error ⟨C.REMOTE_REFUSED, 2, 0⟩
  else if bitOf r 3 then .error ⟨C.NODE_LEFT, 1, 0⟩
  else if n = s.nodeId then .ok none
  else if !bitOf r 0 then .error ⟨C.REMOTE_REFUSED, 2, 0⟩
  else if !s.portUp (fld r 2 1) then .error ⟨C.NODE_LEFT, 3, 0⟩
  else .ok (some (fld r 2 1))

/-- Is a packet kind data-carrying (15 Table FAB-3)? -/
def FabKind.carries : FabKind → Bool
  | .readRsp | .write | .atomic | .atomicRsp => true
  | _ => false

/-- Add packet bytes to a port's KiB counter (15 Table FAB-4): 16 bytes of header and the payload (notes/assumptions/11.md). -/
def kibCount (rem n : Nat) : Nat × Nat := ((rem + n) / 1024, (rem + n) % 1024)

/-- A packet leaves through a port (15 R384). -/
def State.fabSend (s : State) (p : FabPkt) : State :=
  let n := 16 + if p.kind.carries then p.data.length else 0
  let (k, r) := kibCount (s.fab.txRem.getD p.port 0) n
  let s := s.bump (rk R.FAB_P_TX_BYTES p.port) k
  let s := { s with fab := { s.fab with txRem := s.fab.txRem.set p.port r, sent := s.fab.sent ++ [p] } }
  if p.kind.carries then s.crcFeed (0x24 + p.port) p.data else s

/-- A packet arrives at a port. -/
def State.fabArrive (s : State) (port : Nat) (kind : FabKind) (data : List Byte) : State :=
  let n := 16 + if kind.carries then data.length else 0
  let (k, r) := kibCount (s.fab.rxRem.getD port 0) n
  let s := s.bump (rk R.FAB_P_RX_BYTES port) k
  let s := { s with fab := { s.fab with rxRem := s.fab.rxRem.set port r } }
  if kind.carries then s.crcFeed (0x20 + port) data else s

/-- Does a window entry let a request through (15 R381)? -/
def Quad.admits (w : Quad) (src addr n : Nat) (k : Acc) : Bool :=
  let base := w.d0.toNat * 2 ^ 16
  let size := w.d1.toNat * 2 ^ 16
  let mask := fld w.d2 26 16
  bitOf w.d3 0 && (src &&& mask) == (fld w.d2 10 0 &&& mask) && base ≤ addr && addr + n ≤ base + size &&
    (match k with | .rd => bitOf w.d3 1 | .wr => bitOf w.d3 2 | .atm => bitOf w.d3 3)

/-- The bytes of an atomic's operands in its packet (15 Table FAB-3). -/
def AtomOp.bytes (o : AtomOp) : List Byte :=
  let n := if o.wide then 8 else 4
  leBytes n o.a ++ if o.op = 9 then leBytes n o.b else []

/-- Width of an atomic in bytes. -/
def AtomOp.size (o : AtomOp) : Nat := if o.wide then 8 else 4

/-- Refuse an arriving request (15 R382). -/
def State.fabRefuse (s : State) (addr detail : Nat) : State :=
  ((s.inc R.FAB_REFUSE_COUNT).onion
    { ctx := 0xFF, eng := 55, cause := C.REMOTE_REFUSED, detail := detail, va := some addr, remote := true }).2

/-- Is an arriving request admitted (15 R373, R381)? The DETAIL of the refusal otherwise. -/
def State.fabAdmit (s : State) (src addr n : Nat) (k : Acc) : Option Nat :=
  if !s.nodeValid then some 2
  else if !s.fab.wins.any (fun w => w.2.admits src addr n k) then some 1
  else if (s.rangeErr addr n).isSome then some 3
  else none

/-- Serve a read at the target (15 R377, R379, R381, R382). -/
def State.serveRead (s : State) (src addr n : Nat) : Except Nat (List Byte) × State :=
  match s.fabAdmit src addr n .rd with
  | some d => (.error d, s.fabRefuse addr d)
  | none =>
    match s.readLoc addr n with
    | (.ok b, s) => (.ok b, s)
    | (.error _, s) => (.error 4, s.fabRefuse addr 4)

/-- The granules with an uncorrectable error that a write of these bytes would have to merge with in DRAM (01 R503). -/
def State.badMerges (s : State) (cs : List (Nat × Byte)) : List Nat :=
  ((cs.filter (fun c => !s.l2Has c.1 && s.ms.ue.contains (s.granule c.1) && decide ((cs.filter (fun d => d.1 / 32 == c.1 / 32)).length < 32))).map
    (fun c => s.granule c.1)).eraseDups

/-- Serve a write at the target: a refused one writes nothing (15 R382). -/
def State.serveWrite (s : State) (src addr : Nat) (bs : List (Option Byte)) : Except Nat Unit × State :=
  match s.fabAdmit src addr bs.length .wr with
  | some d => (.error d, s.fabRefuse addr d)
  | none =>
    let cs := maskedCells addr bs
    if !(s.badMerges cs).isEmpty then (.error 4, ((s.badMerges cs).foldl State.incUe s).fabRefuse addr 4)
    else
      match s.writeMasked addr bs false with
      | (.ok _, s) => (.ok (), s)
      | (.error _, s) => (.error 4, s.fabRefuse addr 4)

/-- An atomic at L2 on local memory (08 R226, 09 R252): the old value. -/
def State.atomLoc (s : State) (addr : Nat) (o : AtomOp) (alloc : Bool) : Except MErr Nat × State :=
  match s.readLoc addr o.size alloc with
  | (.error e, s) => (.error e, s)
  | (.ok b, s) =>
    match s.writeLoc addr (leBytes o.size (atomApply o.op (8 * o.size) o.ftz (leNat b) o.a o.b)) alloc with
    | (.error e, s) => (.error e, s)
    | (.ok _, s) => (.ok (leNat b), s)

/-- Atomics on local memory one after another, in lane order: the old values (15 R378, 09 R253). -/
def State.atomsLoc (s : State) (addr : Nat) : List (Nat × AtomOp) → Except MErr (List Byte) × State
  | [] => (.ok [], s)
  | (off, o) :: t =>
    match s.atomLoc (addr + off) o false with
    | (.error e, s) => (.error e, s)
    | (.ok v, s) =>
      match s.atomsLoc addr t with
      | (.error e, s) => (.error e, s)
      | (.ok l, s) => (.ok (leBytes o.size v ++ l), s)

/-- The bytes that the atomics of a request span: those from its address up. -/
def atomSpan (ops : List (Nat × AtomOp)) : Nat := (ops.map (fun x => x.1 + x.2.size)).foldl max 0

/-- Serve the atomics of a request at the target (15 R378); a refused request changes nothing (R382). -/
def State.serveAtom (s : State) (src addr : Nat) (ops : List (Nat × AtomOp)) : Except Nat (List Byte) × State :=
  match s.fabAdmit src addr (atomSpan ops) .atm with
  | some d => (.error d, s.fabRefuse addr d)
  | none =>
    match s.atomsLoc addr ops with
    | (.ok b, s) => (.ok b, s)
    | (.error _, t) => (.error 4, { t with ms := s.ms }.fabRefuse addr 4)

/-- Its packet kind. -/
def RemOp.kind : RemOp → FabKind
  | .rd _ => .readReq
  | .wr _ => .write
  | .atm _ => .atomic

/-- Its payload. -/
def RemOp.payload : RemOp → List Byte
  | .rd _ => []
  | .wr bs => bs.filterMap id
  | .atm ops => ops.flatMap (fun x => x.2.bytes)

/-- The length of a read. -/
def RemOp.len : RemOp → Nat
  | .rd n => n
  | _ => 0

/-- Who makes an access: holder, engine code (04 Table OBJ-10), context, packet number, line request. -/
structure RemWho where
  holder : Nat
  eng : Nat
  ctx : Nat
  pkt : Option Nat := none
  line : Option Nat := none
deriving DecidableEq, Repr

/-- Serve a loopback request at the node's own window table (15 R376): the bytes answered, or the refusal's DETAIL. -/
def State.loopback (s : State) (addr : Nat) (o : RemOp) : Except Nat (List Byte) × State :=
  let s := s.inc R.FAB_LOOPBACK_COUNT
  match o with
  | .rd n => s.serveRead s.nodeId addr n
  | .wr bs => match s.serveWrite s.nodeId addr bs with
    | (.ok _, s) => (.ok [], s)
    | (.error d, s) => (.error d, s)
  | .atm ops => s.serveAtom s.nodeId addr ops

/-- Make a remote request (15 R374 to R380): the answer of a loopback, or `none` when a packet was sent and the answer is awaited. A refusal is recorded as
a translation fault is (15 R382, 03 R83). -/
def State.remote (s : State) (w : RemWho) (va node addr : Nat) (o : RemOp) : Except MErr (Option (List Byte)) × State :=
  match s.fabPath node with
  | .error e => (.error e, s)
  | .ok none =>
    match s.loopback addr o with
    | (.ok b, s) => (.ok (some b), s)
    | (.error d, s) => (.error ⟨C.REMOTE_REFUSED, d, 0⟩, s.xltFault w.holder w.ctx va ⟨C.REMOTE_REFUSED, d, 0⟩)
  | .ok (some port) =>
    let id := s.fab.nextReq
    let s := { s with fab := { s.fab with
      nextReq := id + 1,
      inflight := s.fab.inflight ++ [FabReq.mk id node port o.kind w.holder w.ctx w.pkt w.line va 0 addr o.len w.eng] } }
    (.ok none, s.fabSend ⟨port, node, o.kind, id, addr, o.payload, some o⟩)

/-- Is it the answer that a unit waits for? -/
def FabReq.isFor (r : FabReq) (w : RemWho) (va node addr n : Nat) : Bool :=
  r.kind == .readReq && r.holder == w.holder && r.ctx == w.ctx && r.pkt == w.pkt && r.line == w.line && r.va == va && r.node == node && r.addr == addr && r.n == n

/-- Is it on its way? -/
def State.fabAsked (s : State) (w : RemWho) (va node addr n : Nat) : Bool := s.fab.inflight.any (·.isFor w va node addr n)

/-- Take the answer to a remote read that has come (15 R377). -/
def State.fabTake (s : State) (w : RemWho) (va node addr n : Nat) : Option (FabGot × State) :=
  (s.fab.got.find? (fun g => g.req.isFor w va node addr n)).map (fun g =>
    (g, { s with fab := { s.fab with got := s.fab.got.filter (fun k => k.req.id ≠ g.req.id) } }))

/-- Read from a remote node: an answer that came is taken, else it is asked for. -/
def State.remRead (s : State) (w : RemWho) (va node addr n : Nat) : Except MErr (List Byte) × State :=
  match s.fabTake w va node addr n with
  | some (g, s) => (match g.err with | some (c, d) => .error ⟨c, d, 0⟩ | none => .ok g.data, s)
  | none =>
    if s.fabAsked w va node addr n then (.error ⟨C.HOST_WAIT, 0, 0⟩, s)
    else match s.remote w va node addr (.rd n) with
      | (.error e, s) => (.error e, s)
      | (.ok (some b), s) => (.ok b, s)
      | (.ok none, s) => (.error ⟨C.HOST_WAIT, 0, 0⟩, s)

/-- Work on `s` got as far as `t` and must wait: nothing of it has happened but the remote read that it now waits for, if that is new. -/
def State.waits (s t : State) : Option State :=
  match t.fab.inflight.getLast? with
  | some r =>
    if s.fab.nextReq ≤ r.id && r.kind == .readReq && r.line.isNone then
      some (s.remote ⟨r.holder, r.eng, r.ctx, r.pkt, none⟩ r.va r.node r.addr (.rd r.n)).2
    else none
  | none => none

/-- The outcome of such work. -/
def State.waitOr (s t : State) (event : String) : Out :=
  match s.waits t with
  | some u => .next u
  | none => never event

end Sys2Proof.Machine
end

