-- ==== Sys2Proof/Machine/Access.lean ====
section
/-! DEFINITION. Reads, writes and atomics in a context's virtual memory by a unit that waits within its step: split into 128-byte line
requests, translated, and made in local, host or remote memory (03 R57, R65, R71 to R77; 15 R376). -/

namespace Sys2Proof.Machine

/-- A fault with the virtual address that met it. -/
structure VErr where
  e : MErr
  va : Nat
deriving DecidableEq, Repr

/-- Does a context's partition allocate L2 lines (06 R154)? PG has no way mask. -/
def State.l2Ways (s : State) (c : Nat) : Bool :=
  match s.adm? c with
  | some a => a.part = 8 || s.field (rk R.PT_P_L2WAYS a.part) 15 0 ≠ 0
  | none => true

/-- Does an access under a cache policy allocate in L2 (03 Table XLT-7, 06 R154)? -/
def State.allocs (s : State) (c cache : Nat) : Bool := cache ≠ 2 && s.l2Ways c

/-- The pieces of [va, va+n) in 128-byte lines. -/
def linePieces (va n : Nat) : List (Nat × Nat) :=
  (List.range ((va + n + 127) / 128 - va / 128)).map (fun i =>
    let a := max va ((va / 128 + i) * 128)
    (a, min (va + n) ((va / 128 + i + 1) * 128) - a))

/-- Read one piece at a translated address. -/
def State.readAt (s : State) (w : RemWho) (va n : Nat) (x : XAddr) : Except MErr (List Byte) × State :=
  match x.dest with
  | .loc =>
    s.within (s.ctxPart w.ctx) (fun s =>
      if x.comp = 0 then s.readLoc x.addr n (s.allocs w.ctx x.cache)
      else match s.blockC x.addr x.comp (s.allocs w.ctx x.cache) with
        | (.ok d, s) => (.ok ((d.drop x.off).take n), s)
        | (.error e, s) => (.error e, s))
  | .host => if s.canReadHost then (.ok (s.hs.mem.read x.addr n), s.perf 0x10 0 n) else (.error ⟨C.HOST_WAIT, 0, 0⟩, s)
  | .remote node => s.remRead w va node x.addr n

/-- Read n bytes of a context's memory. -/
def State.vread (s : State) (w : RemWho) (va n : Nat) : Except VErr (List Byte) × State :=
  go s (linePieces va n) []
where
  go (s : State) : List (Nat × Nat) → List Byte → Except VErr (List Byte) × State
    | [], acc => (.ok acc, s)
    | (a, k) :: t, acc =>
      match s.xlate w.holder w.ctx a .rd with
      | (.error e, s) => (.error ⟨e, a⟩, s)
      | (.ok x, s) =>
        match s.readAt w a k x with
        | (.error e, s) => (.error ⟨e, a⟩, s)
        | (.ok b, s) => go s t (acc ++ b)

/-- The producer of the marker writes that an engine makes: a copy engine, or GX for launch records (19 R466). -/
def RemWho.writer (w : RemWho) : Nat := if 34 ≤ w.eng && w.eng ≤ 37 then w.eng + 23 else 53

/-- Maximal runs of enabled bytes. -/
def runs (a : Nat) : List (Option Byte) → List (Nat × List Byte)
  | [] => []
  | none :: t => runs (a + 1) t
  | some b :: t =>
    match runs (a + 1) t with
    | (a', bs) :: r => if a' = a + 1 then (a, b :: bs) :: r else (a, [b]) :: (a', bs) :: r
    | [] => [(a, [b])]

/-- Write enabled bytes of one piece at a translated address. `marker`: a marker write when it goes to the host (19 R467). -/
def State.writeAt (s : State) (w : RemWho) (va : Nat) (bs : List (Option Byte)) (marker : Bool) (x : XAddr) : Except MErr Unit × State :=
  let alloc := s.allocs w.ctx x.cache
  match x.dest with
  | .loc =>
    s.within (s.ctxPart w.ctx) (fun s =>
      if x.comp = 0 then s.writeMasked x.addr bs alloc
      else if bs.all Option.isSome then s.putBlockC x.addr x.comp x.off (bs.filterMap id) alloc
      else match s.blockC x.addr x.comp with
        | (.error e, s) => (.error e, s)
        | (.ok d, s) => s.putBlockC x.addr x.comp 0 (splice d x.off (merge (d.drop x.off) bs)) alloc)
  | .host => (.ok (), hostRuns s x.addr bs)
  | .remote node =>
    match s.remote w va node x.addr (.wr bs) with
    | (.error e, s) => (.error e, s)
    | (.ok _, s) => (.ok (), s)
where
  merge : List Byte → List (Option Byte) → List Byte
    | o :: os, b :: bs => b.getD o :: merge os bs
    | _, [] => []
    | [], bs => bs.map (·.getD 0)
  hostRuns (s : State) (a : Nat) (bs : List (Option Byte)) : State :=
    (runs a bs).foldl (fun s r => s.hostWriteVa r.1 r.2 marker w.writer w.holder w.ctx (va + (r.1 - a)) w.line) s

/-- The pieces of [va, va+n) in 256-byte blocks. -/
def blockPieces (va n : Nat) : List (Nat × Nat) :=
  (List.range ((va + n + 255) / 256 - va / 256)).map (fun i =>
    let a := max va ((va / 256 + i) * 256)
    (a, min (va + n) ((va / 256 + i + 1) * 256) - a))

/-- Write the 128-byte lines of one block that a translation reaches, until one faults. -/
def State.writeLines (s : State) (w : RemWho) (marker : Bool) (x : XAddr) (a0 : Nat) : List (Nat × Nat) → List (Option Byte) → Except VErr Unit × State
  | [], _ => (.ok (), s)
  | (a, k) :: t, bs =>
    match s.writeAt w a (bs.take k) marker { x with addr := x.addr + (a - a0) } with
    | (.error e, s) => (.error ⟨e, a⟩, s)
    | (.ok _, s) => s.writeLines w marker x a0 t (bs.drop k)

/-- Write enabled bytes to a context's memory, a block of a compressed page at once (14 R348). -/
def State.vwriteM (s : State) (w : RemWho) (va : Nat) (bs : List (Option Byte)) (marker : Bool) (now : Bool := false) : Except VErr Unit × State :=
  go s (blockPieces va bs.length) bs
where
  go (s : State) : List (Nat × Nat) → List (Option Byte) → Except VErr Unit × State
    | [], _ => (.ok (), s)
    | (a, k) :: t, bs =>
      match s.xlate w.holder w.ctx a .wr now with
      | (.error e, s) => (.error ⟨e, a⟩, s)
      | (.ok x, s) =>
        match (if x.comp = 0 then s.writeLines w marker x a (linePieces a k) (bs.take k)
            else match s.writeAt w a (bs.take k) marker x with
              | (.error e, s) => (.error ⟨e, a⟩, s)
              | (.ok _, s) => (.ok (), s)) with
        | (.error e, s) => (.error e, s)
        | (.ok _, s) => go s t (bs.drop k)

/-- Write bytes to a context's memory. -/
def State.vwrite (s : State) (w : RemWho) (va : Nat) (bs : List Byte) (marker : Bool) (now : Bool := false) : Except VErr Unit × State :=
  s.vwriteM w va (bs.map some) marker now

/-- An atomic at a translated address: the old value (free when a packet must bring it). -/
def State.atomAt (s : State) (w : RemWho) (va : Nat) (o : AtomOp) (x : XAddr) : Except MErr Nat × State :=
  let alloc := s.allocs w.ctx x.cache
  match x.dest with
  | .loc => s.within (s.ctxPart w.ctx) (fun s => s.atomLoc x.addr o alloc)
  | .host => (.error ⟨C.XLT_NO_ATOMIC, 0, 0⟩, s)
  | .remote node =>
    match s.remote w va node x.addr (.atm [(0, o)]) with
    | (.error e, s) => (.error e, s)
    | (.ok (some b), s) => (.ok (leNat b), s)
    | (.ok none, s) => let (v, s) := s.draw; (.ok (v % 2 ^ (8 * o.size)), s)

/-- An atomic on a context's memory. -/
def State.vatomic (s : State) (w : RemWho) (va : Nat) (o : AtomOp) : Except VErr Nat × State :=
  match s.xlate w.holder w.ctx va .atm with
  | (.error e, s) => (.error ⟨e, va⟩, s)
  | (.ok x, s) =>
    match s.atomAt w va o x with
    | (.error e, s) => (.error ⟨e, va⟩, s)
    | (.ok v, s) => (.ok v, s)

end Sys2Proof.Machine
end

