-- ==== Sys2Proof/Machine/Fault.lean ====
section
/-! DEFINITION. A fault in work of a job and the abort (04 R96, R111, R112, R116, R118; 05 R149; 15 R386). -/

namespace Sys2Proof.Machine

/-- Engine code of a queue's engine (04 Table OBJ-10, 02 Table HST-5). -/
def qEng (q : Nat) : Nat := if q < 32 then 64 + q / 4 else if q < 36 then 33 else if q < 52 then 34 + (q - 36) / 4 else 73

/-- Engine code in the onion of a faulting access made for a queue's packets: the holder, or for holder 57 the unit that it serves (03 R83, R506). -/
def accEng (q : Nat) : Nat := if q = 52 then 32 else qEng q

/-- Holder of the fence accesses and descriptor reads of a queue's packets (03 R506). -/
def qHolder (q : Nat) : Nat := if q < 32 then 57 else if q < 36 then 33 else if q < 52 then 34 + (q - 36) / 4 else 32

/-- A queue's state. -/
def State.queue (s : State) (q : Nat) : Queue := s.qm.queues.getD q {}

/-- Change a queue. -/
def State.modQueue (s : State) (q : Nat) (f : Queue → Queue) : State := { s with qm := { s.qm with queues := s.qm.queues.modify q f } }

/-- A packet in flight by number, with its queue. -/
def State.findPkt (s : State) (id : Nat) : Option (Nat × QPkt) :=
  (List.range 53).findSome? (fun q => ((s.queue q).pkts.find? (·.id == id)).map (fun p => (q, p)))

/-- Change every packet in flight. -/
def State.mapPkts (s : State) (f : Nat → QPkt → QPkt) : State :=
  { s with qm := { s.qm with queues := s.qm.queues.zipIdx.map (fun (u, q) => { u with pkts := u.pkts.map (f q) }) } }

/-- Change one packet in flight. -/
def State.modPkt (s : State) (id : Nat) (f : QPkt → QPkt) : State := s.mapPkts (fun _ p => if p.id = id then f p else p)

/-- A launch in a slot by number. -/
def State.slot? (s : State) (id : Nat) : Option Slot := s.qm.slots.find? (·.id == id)

/-- Change a launch in a slot. -/
def State.modSlot (s : State) (id : Nat) (f : Slot → Slot) : State :=
  { s with qm := { s.qm with slots := s.qm.slots.map (fun l => if l.id = id then f l else l) } }

/-- Every packet in flight. -/
def State.allPkts (s : State) : List (Nat × QPkt) := (List.range 53).flatMap (fun q => (s.queue q).pkts.map (fun p => (q, p)))

/-- Can a packet still be aborted: it has no abort, and its status is not yet an error? -/
def QPkt.open (p : QPkt) : Bool := p.abort.isNone && (p.fin.isNone || p.fin == some 0)

/-- The jobs of a context in flight that no abort has reached (04 R111 step 4): those with a packet fetched, and launches whose strands
are posted. Queue 52 is left alone (05 R121). -/
def State.openJobs (s : State) (c : Nat) : List Job :=
  ((s.allPkts.filter (fun x => x.1 < 52 && x.2.ctx == c && x.2.open)).map (fun x => x.2.job) ++
    (s.qm.slots.filter (fun l => l.l.ctx == c && l.posted && l.abort.isNone)).map (fun (l : Slot) => Job.launch l.id)).eraseDups

/-- Is it a strand of a launch? -/
def Feed.of (f : Feed) (l : Nat) : Bool := match f with | .strand l' _ _ => l' == l | .ring _ => false

/-- What queues still hold of the strands of a launch: queue, strand, next index. -/
def State.heldStrands (s : State) (l : Nat) : List (Nat × Nat × Nat) :=
  (List.range 53).flatMap (fun q => (s.queue q).feed.filterMap (fun f => match f with
    | .strand l' st i => if l' = l then some (q, st, i) else none
    | .ring _ => none))

/-- The queues stop fetching the strands of a launch that is aborted (04 R111 step 4, 05 R150): its slot keeps what they had not fetched. -/
def State.cutStrands (s : State) (l : Nat) : State :=
  let held := s.heldStrands l
  let s := s.modSlot l (fun sl => { sl with cut := sl.cut ++ held })
  { s with qm := { s.qm with queues := s.qm.queues.map (fun (u : Queue) => { u with feed := u.feed.filter (fun f => !f.of l) }) } }

/-- Abort one job (04 R111 step 4): its packets carry the status each will complete with, the cause and onion of their fences; its strands are fetched no
more. -/
def State.abortJob (s : State) (j : Job) (a : Abort) (statusOf : QPkt → Nat) : State :=
  let s := s.mapPkts (fun q p => if q < 52 && p.job == j && p.open then { p with abort := some { a with status := statusOf p } } else p)
  let s := match j with
    | .launch l => (s.modSlot l (fun sl => if sl.abort.isNone then { sl with abort := some a, status := a.status } else sl)).cutStrands l
    | .ring _ => s
  s.inc R.QM_JOB_ABORT_COUNT

/-- Abort every open job of a context with CTX_LOST fences and status ABORTED. -/
def State.abortOthers (s : State) (c seq eng : Nat) : State :=
  (s.openJobs c).foldl (fun s j => s.abortJob j ⟨0x81, C.CTX_LOST, seq, eng, c⟩ (fun _ => 0x81)) s

/-- Set a context's lost bit (04 R96). -/
def State.setLost (s : State) (c : Nat) : State := s.setBits (R.QM_CTX_LOST + 4 * (c / 32)) (1 <<< (c % 32))

/-- Note which onion explains the loss of a context. -/
def State.noteLoss (s : State) (c seq eng : Nat) : State :=
  { s with qm := { s.qm with losses := (c, (seq, eng)) :: s.qm.losses.filter (·.1 ≠ c) } }

/-- The valid group entry of a context (15 R385). -/
def State.groupOf (s : State) (c : Nat) : Option Quad :=
  (s.fab.grps.find? (fun g => bitOf g.2.d0 31 && fld g.2.d0 23 16 == c)).map (·.2)

/-- Members array address of a group entry. -/
def Quad.members (g : Quad) : Nat := fld g.d3 15 0 * 2 ^ 32 + g.d2.toNat / 8 * 8

/-- An onion that names a context and an engine. -/
def State.ctxOnion (s : State) (c eng gen : Nat) : Onion := { part := s.ctxPart c, ctx := c, eng := eng, gen := gen, tags := [c] }

/-- What an onion of a context bound to PG says (04 R118): cause GUARD_FAULT, with the fault's cause as its detail. -/
def State.pgOnion (s : State) (o : Onion) : Onion :=
  if s.ctxPart o.ctx == 8 && o.cause ≠ C.GUARD_FAULT then { o with cause := C.GUARD_FAULT, detail := o.cause } else o

/-- Can an ABORT leave the node: the FIO is there, ON and linked? -/
def State.fioOn (s : State) : Bool := s.fuses.fio && s.on D.FAB && !s.bit R.GLB_LINK_STATUS 3

/-- Send an ABORT to one member of a context's group, unless it is this node or cannot be reached (15 R386). -/
def State.abortTo (s : State) (g : Quad) (n cause seq : Nat) : State :=
  let r := s.route n
  if s.fioOn && n ≠ s.nodeId && bitOf r 0 && !bitOf r 3 then
    (s.fabSend ⟨fld r 2 1, n, .abort, 0, fld g.d0 15 0 + cause * 2 ^ 16 + s.nodeId * 2 ^ 24 + seq * 2 ^ 40, [], none⟩).inc R.FAB_ABORT_TX_COUNT
  else s

/-- Read member i of a context's group (15 R385, R386). -/
def State.memberRead (s : State) (c : Nat) (g : Quad) (i : Nat) : Except VErr Nat × State :=
  match s.vread ⟨55, 55, c, none, none⟩ (g.members + 2 * i) 2 with
  | (.error v, s) => (.error v, s)
  | (.ok b, s) => (.ok (leNat b % 2 ^ 11), s)

/-- Send the ABORTs of a lost context to members i to n of its group, in member-array order (15 R386). A member that cannot be read yet leaves the rest to
be sent later; a fault of the read writes an onion with FIRST = 0, and the rest is not sent. -/
def State.abortRun (s : State) (c cause seq n : Nat) : Nat → State
  | 0 => s
  | k + 1 =>
    match s.groupOf c with
    | none => s
    | some g =>
      match s.memberRead c g (n - (k + 1)) with
      | (.error v, t) =>
        if v.e.cause = C.HOST_WAIT then
          let u := (s.waits t).getD s
          { u with fab := { u.fab with jobs := u.fab.jobs ++ [.abort c cause seq (n - (k + 1)) n] } }
        else
          let (gen, t) := t.ctxGen c
          (t.onion (t.pgOnion { t.ctxOnion c 55 gen with cause := v.e.cause, detail := v.e.detail, va := some v.va })).2
      | (.ok m, t) => (t.abortTo g m cause seq).abortRun c cause seq n k

/-- Send an ABORT to every reachable member of a context's group (15 R386). -/
def State.abortSend (s : State) (c cause seq : Nat) : State :=
  match s.groupOf c with
  | none => s
  | some g => if s.fioOn then s.abortRun c cause seq (fld g.d1 11 0) (fld g.d1 11 0) else s

/-- A fault as its onion tells it: engine code, cause, DETAIL, virtual address. -/
structure JobFault where
  eng : Nat
  cause : Nat
  detail : Nat
  va : Option Nat := none
deriving DecidableEq, Repr

/-- The fault of a translated access by an engine. -/
def VErr.at (v : VErr) (eng : Nat) : JobFault := ⟨eng, v.e.cause, v.e.detail, some v.va⟩

/-- Steps 2 to 4 of an abort that a fault starts (04 R111, R112), the job's onion being `o`: `own` is the faulting job when this is its
first fault, with the status that its packets will carry. -/
def State.abortFrom (s : State) (c : Nat) (o : Onion) (own : Option (Job × Nat × (QPkt → Nat))) : State :=
  let o := s.pgOnion o
  let fe := o.cause == C.FENCE_ERRORED || s.ctxPart c == 8
  let newly := !fe && !s.lost c
  let s := if newly then s.setLost c else s
  let (seq, s) := s.onion o
  let s := if newly then s.noteLoss c seq o.eng else s
  let s := match own with
    | some (j, st, f) => s.abortJob j ⟨st, o.cause, seq, o.eng, c⟩ f
    | none => s
  let s := if fe then s else s.abortOthers c seq o.eng
  if newly then s.abortSend c o.cause seq else s

/-- What the onion of a packet's fault says of the command and its job (05 R149): QUEUE, CMD_SEQ, GRAPH, LAUNCH, fence. -/
def State.pktOnion (s : State) (q : Nat) (p : QPkt) (gen : Nat) (f : JobFault) : Onion :=
  let pg := s.ctxPart p.ctx == 8
  { s.ctxOnion p.ctx f.eng gen with
    queue := q, first := p.abort.isNone, va := f.va
    cause := if pg then C.GUARD_FAULT else f.cause
    detail := if pg then f.cause else f.detail
    cmd := (match p.src with | .ring k => some k | .strand _ _ _ => none)
    graph := (match p.src with
      | .ring _ => none
      | .strand l _ _ => (s.slot? l).map (fun sl => (sl.l.handle, sl.l.count % 2 ^ 32)))
    fence := if p.pkt.signal then some (p.pkt.sigVA, p.pkt.sigVal) else none }

/-- A fault of the graph dispatcher for a launch in a slot (05 R139, R143, R507). -/
def State.launchFault (s : State) (id : Nat) (f : JobFault) (st : Nat) : State :=
  match s.slot? id with
  | none => s
  | some sl =>
    let c := sl.l.ctx
    let (gen, s) := s.ctxGen c
    s.abortFrom c
      { s.ctxOnion c f.eng gen with
        cause := f.cause, detail := f.detail, first := sl.abort.isNone, va := f.va
        graph := some (sl.l.handle, sl.l.count % 2 ^ 32) }
      (if sl.abort.isNone then some (.launch id, st, fun _ => 0x81) else none)

end Sys2Proof.Machine
end

