-- ==== Sys2Proof/Machine/Fence.lean ====
section
/-! DEFINITION. Fences: reading, signalling and erroring (04 R107 to R110). -/

namespace Sys2Proof.Machine

/-- The right that a fence access needs: a host fence is written, any other is changed by atomics (04 R108 to R110). -/
def fenceRight : Dest → Acc
  | .host => .wr
  | _ => .atm

/-- Largest fence value plus one. -/
abbrev fenceErrBit : Nat := 2 ^ 63

/-- Translate a fence for a signal or an error write; a misaligned fence is a fault (00 R3, 04 Table OBJ-9 detail 3). -/
def State.fenceAddr (s : State) (w : RemWho) (va : Nat) : Except VErr XAddr × State :=
  if va % 16 ≠ 0 then (.error ⟨⟨C.STRUCT_ALIGN, 3, 0⟩, va⟩, s)
  else match s.xlateBy w.holder w.ctx va fenceRight with
    | (.error e, s) => (.error ⟨e, va⟩, s)
    | (.ok x, s) => (.ok x, s)

/-- Run atomics one after another on a fence. -/
def State.fenceAtoms (s : State) (w : RemWho) (va : Nat) (x : XAddr) : List (Nat × Nat × Nat) → Except VErr Unit × State
  | [] => (.ok (), s)
  | (off, op, a) :: t =>
    match s.atomAt w (va + off) ⟨op, true, a, 0, false⟩ { x with addr := x.addr + off } with
    | (.error e, s) => (.error ⟨e, va⟩, s)
    | (.ok _, s) => s.fenceAtoms w va x t

/-- The producer of a fence write: the queue of its packet, or GX (19 R466). -/
def State.fenceProd (s : State) (w : RemWho) : Nat :=
  match w.pkt.bind s.findPkt with
  | some (q, _) => q
  | none => 53

/-- Signal a fence with a value (04 R107 to R109): in memory an atomic unsigned maximum, which an errored fence (ERR is the top bit)
keeps; in host memory a plain posted write. -/
def State.fenceSignal (s : State) (w : RemWho) (va val : Nat) : Except VErr Unit × State :=
  let v := val % fenceErrBit
  match s.fenceAddr w va with
  | (.error e, s) => (.error e, s)
  | (.ok x, s) =>
    match x.dest with
    | .host => (.ok (), s.hostWriteVa x.addr (leBytes 8 v) true (s.fenceProd w) w.holder w.ctx va)
    | _ => s.fenceAtoms w va x [(0, 4, v)]

/-- The STATUS word of an errored fence (04 Table OBJ-7). -/
def fenceStatus (cause eng ctx : Nat) : Nat := cause + eng * 2 ^ 8 + ctx * 2 ^ 16

/-- Error a fence that names target t (04 R110): STATUS and ERR_SEQ first, then ERR and the larger value. -/
def State.fenceError (s : State) (w : RemWho) (va t status seq : Nat) : Except VErr Unit × State :=
  let v := t % fenceErrBit
  let word := status + seq % 2 ^ 32 * 2 ^ 32
  match s.fenceAddr w va with
  | (.error e, s) => (.error e, s)
  | (.ok x, s) =>
    match (match x.dest with
      | .host => (.ok (), (s.hostWriteVa (x.addr + 8) (leBytes 8 word) true (s.fenceProd w) w.holder w.ctx (va + 8)).hostWriteVa x.addr
          (leBytes 8 (fenceErrBit + v)) true (s.fenceProd w) w.holder w.ctx va)
      | _ => s.fenceAtoms w va x [(8, 8, word), (0, 6, fenceErrBit), (0, 4, fenceErrBit + v)] : Except VErr Unit × State) with
    | (.error e, s) => (.error e, s)
    | (.ok _, s) => (.ok (), s.inc R.QM_FENCE_ERR_COUNT)

/-- Read a fence's value word. -/
def State.fenceRead (s : State) (w : RemWho) (va : Nat) : Except VErr Nat × State :=
  if va % 16 ≠ 0 then (.error ⟨⟨C.STRUCT_ALIGN, 3, 0⟩, va⟩, s)
  else match s.vread w va 8 with
    | (.error e, s) => (.error e, s)
    | (.ok b, s) => (.ok (leNat b), s)

/-- Who makes the fence accesses of a packet (03 R506). -/
def fenceWho (q : Nat) (p : QPkt) : RemWho := ⟨qHolder q, accEng q, p.ctx, some p.id, none⟩

/-- Error the fence that a packet would signal (04 R110, "When the fence to be errored cannot itself be written"). -/
def State.errPktFence (s : State) (q : Nat) (p : QPkt) (cause eng ctx seq : Nat) : State :=
  if !p.pkt.signal then s
  else match s.fenceError (fenceWho q p) p.pkt.sigVA p.pkt.sigVal (fenceStatus cause eng ctx) seq with
    | (.ok _, s) => s
    | (.error v, s) =>
      let (gen, s) := s.ctxGen p.ctx
      s.abortFrom p.ctx { s.pktOnion q p gen (v.at (accEng q)) with first := false } none

/-- A fault in work of a packet (04 R111, R112, 05 R149). `st`: the status with which the packet itself completes. On queue 52 no job is
aborted (05 R121, 07 R181): the packet alone fails, and its fence is errored at once. -/
def State.pktFault (s : State) (id : Nat) (f : JobFault) (st : Nat) : State :=
  match s.findPkt id with
  | none => s
  | some (q, p) =>
    let (gen, s) := s.ctxGen p.ctx
    let o := s.pktOnion q p gen f
    if q = 52 then
      let seq := addMod 64 (s.pair R.QM_ONION_SEQ_LO) 1
      let s := (s.abortFrom p.ctx o none).modPkt id (fun p => { p with fin := some st })
      s.errPktFence q p o.cause (if s.ctxPart p.ctx = 8 then 73 else f.eng) p.ctx seq
    else s.abortFrom p.ctx o (if p.open then some (p.job, st, fun p' => if p'.id = id then st else 0x81) else none)

end Sys2Proof.Machine
end

