-- ==== Sys2Proof/Machine/Queue.lean ====
section
/-! DEFINITION. Queues (05 R120 to R133, R140, R141, R143, R508; 06 R152, R153, R157): fetching, starting and completing packets. -/

namespace Sys2Proof.Machine

/-- The fields of a packet's 64 bytes (05 Table SUB-3). -/
def parsePacket (b : List Byte) : Packet :=
  let h := fieldAt b 0 8
  { op := bits h 7 0, irq := h.testBit 8, wait := h.testBit 9, signal := h.testBit 10, barrier := h.testBit 11
    timeout := bits h 15 12, ctx := bits h 23 16, waitVA := fieldAt b 8 8, waitTgt := fieldAt b 16 8, sigVA := fieldAt b 24 8
    sigVal := fieldAt b 32 8 % 2 ^ 63, a0 := fieldAt b 40 8, a1 := fieldAt b 48 8, a2 := fieldAt b 56 8 }

/-- Apply the patches of a launch to a packet of a strand, in patch-table order (05 R141). -/
def Slot.patched (sl : Slot) (strand idx : Nat) (b : List Byte) : List Byte :=
  (sl.patches.filter (fun p => p.strand == strand && p.idx == idx)).foldl
    (fun b p => splice b (4 * p.off) (leBytes p.size p.val)) b

/-- First queue and number of queues of the engine that serves a queue. -/
def qBase (q : Nat) : Nat := if q = 52 then 52 else q / 4 * 4
def qPeers (q : Nat) : List Nat := if q = 52 then [52] else (List.range 4).map (qBase q + ·)

/-- Packets that the engine of a queue executes at once (05 Table SUB-2). -/
def qRoom (q : Nat) : Nat := if q < 32 then 8 else if q < 36 then 1 else if q < 52 then 2 else 1

/-- Is an opcode in Table SUB-4? -/
def opKnown (op : Nat) : Bool := op ≤ 5 || (0x40 ≤ op && op ≤ 0x4F)

/-- Does a queue's engine accept an opcode (05 Tables SUB-2, SUB-4)? -/
def opAccepted (q op : Nat) : Bool :=
  if q = 52 then op == 0 || 0x40 ≤ op
  else op == 0 || op == 4 || op == 5 || (if q < 32 then op == 1 else if q < 36 then op == 2 else op == 3)

/-- The PKT_INVALID detail of a packet (05 Table SUB-5; on queue 52 a context other than that resident in PG comes first, 07 R181); `sems` is SEM_COUNT of a strand packet's graph. -/
def State.subErr (s : State) (q : Nat) (p : Packet) (sems : Option Nat) : Option Nat :=
  if q = 52 && sems.isNone && s.ctxPart p.ctx ≠ 8 then some 3
  else if !opKnown p.op then some 1
  else if !opAccepted q p.op then some 2
  else if q = 52 && 0x44 < p.op then some 2
  else if sems.isNone && (s.adm? p.ctx).isNone then some 3
  else if (p.op = 4 || p.op = 5) && sems.isNone then some 4
  else if (p.op = 4 || p.op = 5) && sems.getD 0 ≤ p.a0 % 32 then some 5
  else none

/-- Partition that owns a cluster: enabled, with the bit in its CLUSTERS (06 Table PRT-2). -/
def State.clusterOwner (s : State) (n : Nat) : Option Nat :=
  (List.range 8).find? (fun p => s.pt.parts.getD p .disabled ≠ .disabled && s.bit (rk R.PT_P_CLUSTERS p) n)

/-- Partition that owns a copy engine. -/
def State.ceOwner (s : State) (n : Nat) : Option Nat :=
  (List.range 8).find? (fun p => s.pt.parts.getD p .disabled ≠ .disabled && s.bit (rk R.PT_P_CE p) n)

/-- Is a packet on the scheduler of a cluster that its context's partition does not own (06 R152)? -/
def State.foreign (s : State) (q : Nat) (c : Nat) : Bool := q < 32 && s.clusterOwner (q / 4) ≠ some (s.ctxPart c)

/-- Count a packet on a foreign cluster scheduler, once (06 R152). -/
def State.countForeign (s : State) (id : Nat) : State :=
  match s.findPkt id with
  | some (q, p) =>
    if s.foreign q p.ctx && !p.mism && p.fin.isNone && p.abort.isNone then
      let s := s.modPkt id (fun p => { p with mism := true })
      if s.ctxPart p.ctx < 8 then s.inc (rk R.PT_P_MISMATCH_COUNT (s.ctxPart p.ctx)) else s
    else s
  | none => s

/-- A fetched packet enters its queue and is tested (04 R97, 05 R123, 00 R3): lost context, Table SUB-5, fence alignment. The fence of a packet of a lost
context carries the onion and the engine of the loss, not that of the queue that fetched it (DESIGN CHOICE: the spec does not say, notes/assumptions/66.md). -/
def State.enter (s : State) (q : Nat) (src : PktSrc) (c : Nat) (p : Packet) (sems : Option Nat) : State :=
  let id := s.qm.nextId
  let k : QPkt := { id := id, src := src, ctx := c, pkt := p }
  let s := { s with qm := { s.qm with nextId := id + 1 } }.modQueue q (fun u => { u with pkts := u.pkts ++ [k] })
  if s.lost c then
    let (seq, eng) := ((s.qm.losses.find? (·.1 == c)).map (·.2)).getD (0, 0xFF)
    (s.modPkt id (fun k => { k with fin := some 3 })).errPktFence q k C.CTX_LOST eng c seq
  else match s.subErr q p sems with
    | some d => s.pktFault id ⟨qEng q, C.PKT_INVALID, d, none⟩ 0x21
    | none =>
      if p.wait && p.waitVA % 16 ≠ 0 then s.pktFault id ⟨qEng q, C.STRUCT_ALIGN, 3, some p.waitVA⟩ 0x80
      else if p.signal && p.sigVA % 16 ≠ 0 then s.pktFault id ⟨qEng q, C.STRUCT_ALIGN, 3, some p.sigVA⟩ 0x80
      else s.countForeign id

/-- Packets of a queue that are fetched and not started, those without work that wait for queue order among them (05 R120). -/
def Queue.waiting (u : Queue) : List QPkt := u.pkts.filter (fun p => !p.started)

/-- Can a queue fetch (05 R120, R132, R133, R147)? -/
def Queue.canFetch (u : Queue) : Bool :=
  u.st == .enabled && !u.closing && u.waiting.length < 4 && !u.pkts.any (·.timedOut)

/-- The bytes of ring packet k (05 R129, R508). -/
def State.ringRead (s : State) (u : Queue) (k : Nat) : Except MErr (List Byte) × State :=
  let a := u.ring + (k - 1) % 2 ^ u.log2 * 64
  if u.ringSys then
    if s.canReadHost then (.ok (s.hs.mem.read a 64), s) else (.error ⟨C.HOST_WAIT, 0, 0⟩, s)
  else s.readLoc a 64

/-- A strand packet's bytes, patched (05 R141). -/
def State.strandRead (s : State) (sl : Slot) (strand idx : Nat) : Except VErr (List Byte) × State :=
  match s.vread ⟨57, 74, sl.l.ctx, none, none⟩ ((sl.strands.getD strand ⟨0, 0, 0, 0⟩).pkt + 64 * idx) 64 with
  | (.error v, s) => (.error v, s)
  | (.ok b, s) => (.ok (sl.patched strand idx b), s)

/-- A strand packet that could not be fetched: a packet with no work whose job is aborted (05 R141). -/
def State.enterBad (s : State) (q : Nat) (src : PktSrc) (c : Nat) (v : VErr) : State :=
  let id := s.qm.nextId
  let s := { s with qm := { s.qm with nextId := id + 1 } }.modQueue q (fun u =>
    { u with pkts := u.pkts ++ [({ id := id, src := src, ctx := c, pkt := {} } : QPkt)] })
  s.pktFault id (v.at 74) 0x80

/-- Take one packet off the front of a queue's feed. -/
def popFeed : List Feed → List Feed
  | .ring n :: t => if n ≤ 1 then t else .ring (n - 1) :: t
  | .strand l st i :: t => .strand l st (i + 1) :: t
  | [] => []

/-- Drop a strand that has been fetched whole. -/
def State.trimFeed (s : State) (q : Nat) : State :=
  s.modQueue q (fun u => match u.feed with
    | .strand l st i :: t =>
      match s.slot? l with
      | some sl => if (sl.strands.getD st ⟨0, 0, 0, 0⟩).count ≤ i then { u with feed := t } else u
      | none => { u with feed := t }
    | _ => u)

/-- Fetch the next ring packet of a queue (05 R122, R508). `none`: its read waits for the link. -/
def State.fetchRing (s : State) (q : Nat) : Option State :=
  let u := s.queue q
  let k := addMod 64 u.fetch 1
  match s.ringRead u k with
  | (.error e, s) =>
    if e.cause = C.HOST_WAIT then none
    else
      let s := s.modQueue q (fun u => { u with fetch := k, feed := popFeed u.feed })
      let (_, s) := s.onion { queue := q, eng := 74, cause := e.cause, detail := e.detail, first := true, cmd := some k }
      let id := s.qm.nextId
      some ({ s with qm := { s.qm with nextId := id + 1 } }.modQueue q (fun u =>
        { u with pkts := u.pkts ++ [({ id := id, src := .ring k, ctx := 0x100, pkt := {}, fin := some 0x80 } : QPkt)] }))
  | (.ok b, s) =>
    let s := s.modQueue q (fun u => { u with fetch := k, feed := popFeed u.feed })
    let p := parsePacket b
    some (s.enter q (.ring k) p.ctx p none)

/-- Fetch the next packet of a posted strand (05 R141). -/
def State.fetchStrand (s0 : State) (q l st i : Nat) : Option State :=
  match s0.slot? l with
  | none => none
  | some sl =>
    match s0.strandRead sl st i with
    | (.error v, s) =>
      if v.e.cause = C.HOST_WAIT then s0.waits s
      else
        let s := (s.modQueue q (fun u => { u with feed := popFeed u.feed })).trimFeed q
        some (s.enterBad q (.strand l st i) sl.l.ctx v)
    | (.ok b, s) =>
      let s := (s.modQueue q (fun u => { u with feed := popFeed u.feed })).trimFeed q
      some (s.enter q (.strand l st i) sl.l.ctx (parsePacket b) (some sl.sems.length))

/-- Fetch one packet; none when the queue cannot. -/
def State.fetchNext (s : State) (q : Nat) : Option State :=
  let u := s.queue q
  if !u.canFetch then none
  else match u.feed with
    | .ring _ :: _ => s.fetchRing q
    | .strand l st i :: _ => s.fetchStrand q l st i
    | [] => none

/-- Is a context's partition quiescing or quiesced (06 R157)? -/
def State.quiesceHold (s : State) (c : Nat) : Bool :=
  match s.adm? c with
  | some a => a.part < 8 && (s.pt.parts.getD a.part .disabled == .quiescing || s.pt.parts.getD a.part .disabled == .quiesced)
  | none => false

/-- The value of a semaphore of a launch. -/
def State.sem (s : State) (l i : Nat) : Nat := ((s.slot? l).map (fun sl => sl.sems.getD i 0)).getD 0

/-- Has a SEM_WAIT packet's semaphore reached its target (05 R124, R142)? -/
def State.semReady (s : State) (p : QPkt) : Bool :=
  match p.src with
  | .strand l _ _ => p.pkt.a1 % 2 ^ 32 ≤ s.sem l (p.pkt.a0 % 32)
  | .ring _ => true

/-- The oldest unstarted packet of a queue, and whether every earlier packet has completed. -/
def Queue.oldest (u : Queue) : Option (QPkt × Bool) :=
  match u.waiting with
  | [] => none
  | p :: _ => some (p, u.pkts.head?.map (·.id) == some p.id)

/-- The conditions of 05 R124 but room, with the holds of 05 R133, R147, 06 R152, R157: the packet of a queue that could start. -/
def State.startable (s : State) (q : Nat) : Option QPkt :=
  match (s.queue q).oldest with
  | none => none
  | some (p, first) =>
    if (s.queue q).st == .guilty || p.abort.isSome || p.fin.isSome || p.timedOut || (p.pkt.barrier && !first) || (p.pkt.wait && !p.ready) ||
      (p.pkt.op == 5 && !s.semReady p) || s.quiesceHold p.ctx || s.foreign q p.ctx then none else some p

/-- Does the engine of a queue hold back for a self-test (06 R172)? -/
def State.selfTest (s : State) (q : Nat) : Bool := 36 ≤ q && q < 52 && s.bit R.PT_ST_STATUS ((q - 36) / 4)

/-- Packets that the engine of a queue is executing. -/
def State.executing (s : State) (q : Nat) : Nat :=
  ((qPeers q).map (fun q' => ((s.queue q').pkts.filter (fun p => p.started && p.fin.isNone)).length)).sum

/-- Queues of an engine whose packet could start, after a copy engine's preference for its owning partition (06 R153). -/
def State.candidates (s : State) (q : Nat) : List Nat :=
  let c := (qPeers q).filter (fun q' => (s.startable q').isSome)
  let own := c.filter (fun q' => match s.startable q' with
    | some p => 36 ≤ q && q < 52 && s.ceOwner ((q - 36) / 4) == some (s.ctxPart p.ctx)
    | none => false)
  if own.isEmpty then c else own

/-- Start the oldest packet of a queue (05 R124, R125): it must be the engine's choice, with one of the given opcodes. -/
def State.start (s : State) (q : Nat) (op : Nat) : Option (QPkt × State) :=
  match s.startable q with
  | none => none
  | some p =>
    let c := s.candidates q
    if p.pkt.op ≠ op || qRoom q ≤ s.executing q || s.selfTest q || c.head? ≠ some q then none
    else
      let s := c.tail.foldl (fun s q' => s.inc (rk R.QM_Q_DELAY_COUNT q')) s
      some (p, s.modPkt p.id (fun p => { p with started := true }))

/-- A packet's work has finished. -/
def State.finish (s : State) (id : Nat) : State := s.modPkt id (fun p => if p.fin.isNone then { p with fin := some 0 } else p)

/-- Is it a waiting completion of a queue, or an interrupt that follows one? -/
def HostWrite.ofQueue (l : HostWrite) (q compl : Nat) : Bool := l.tags.contains (512 + q) && (l.addr == compl || l.prod == 56)

/-- Completion area of a queue: SEQ and LAST_ERR (05 R130), one marker write. It takes the place of a completion that still waits, whose order (02 R38) it
keeps as well; interrupts that wait behind that follow it. -/
def State.completionArea (s : State) (q : Nat) (tags : List Nat) : State :=
  let u := s.queue q
  let data := leBytes 8 u.done ++ leBytes 8 u.lastErr
  let old := s.hs.waiting.filter (·.ofQueue q u.compl)
  let late := old.filter (·.addr == u.compl)
  if late.isEmpty then s.hostMarker q u.compl data (tags ++ [512 + q])
  else
    let s := { s with hs := { s.hs with waiting := s.hs.waiting.filter (fun l => !l.ofQueue q u.compl) } }
    let w : HostWrite := { addr := u.compl, data := data, marker := true, prod := q, tags := (tags ++ [512 + q] ++ late.flatMap (·.tags)).eraseDups }
    let s := s.ctlWait q
    { s with hs := { s.hs with waiting := s.hs.waiting ++ (w :: old.filter (fun (l : HostWrite) => l.addr ≠ u.compl)) } }.drain

/-- Is it an ingress write to a context? -/
def LaneOp.isFor (o : LaneOp) (c : Nat) : Bool := match o with | .ap _ c' _ _ => c' == c | _ => false

/-- Is work of a context in flight (04 R99, 07 R177): a packet, a launch, an ingress write, a line request of a core, a remote request, the reading of its
group's members, or an armed verdict graph? -/
def State.ctxBusy (s : State) (c : Nat) : Bool :=
  s.allPkts.any (fun x => x.2.ctx == c) || s.qm.fifo.any (·.ctx == c) || s.qm.slots.any (·.l.ctx == c) ||
    s.hs.lane.any (·.isFor c) || s.fab.inflight.any (·.ctx == c) || s.fab.jobs.any (·.ctx == c) || s.cores.any (fun co => co.lines.any (·.ctx == c)) ||
    (s.gd.hdr.isSome && s.ctxPart c == 8)

/-- A quiescing partition is QUIESCED once none of its contexts is busy (06 Table PRT-3). -/
def State.quiesceSettle (s : State) : State :=
  { s with pt := { s.pt with parts := s.pt.parts.zipIdx.map (fun (st, p) =>
      if st = .quiescing && !s.qm.adm.any (fun a => a.2.part == p && s.ctxBusy a.1) then .quiesced else st) } }

/-- A launch completes (05 R143, R507): record, interrupt, counts, its slot is free. -/
def State.launchDone (s : State) (id : Nat) : State :=
  match s.slot? id with
  | none => s
  | some sl =>
    let c := sl.l.ctx
    let s := if sl.doneVA ≠ 0 && sl.record then
        match s.vwrite ⟨57, 72, c, none, none⟩ sl.doneVA
            (leBytes 8 (sl.status + sl.l.handle % 2 ^ 16 * 2 ^ 16) ++ leBytes 8 sl.l.count) true true with
        | (.ok _, s) => s
        | (.error v, s) =>
          let (gen, s) := s.ctxGen c
          s.abortFrom c
            { s.ctxOnion c 72 gen with
              cause := v.e.cause, detail := v.e.detail, va := some v.va, first := sl.abort.isNone
              graph := some (sl.l.handle, sl.l.count % 2 ^ 32) } none
      else s
    let s := if sl.irq then s.event 61 [c] else s
    let s := (s.inc (R.GDB_DONE_COUNT + 0x1000 * c)).inc R.GX_DONE_COUNT
    { s with qm := { s.qm with slots := s.qm.slots.filter (·.id ≠ id) }, fab := { s.fab with got := s.fab.got.filter (fun g =>
        !(g.req.holder == 57 && g.req.ctx == c && g.req.pkt.isNone)) } }.quiesceSettle

/-- A strand packet leaves its launch: one packet fewer, and the record's status (05 R142, R143). -/
def State.leaveLaunch (s : State) (l st : Nat) : State :=
  let s := s.modSlot l (fun sl => { sl with left := sl.left - 1, status := if sl.status = 0 && st ≠ 0 then st else sl.status })
  match s.slot? l with
  | some sl => if sl.left = 0 then s.launchDone l else s
  | none => s

/-- A queue that is closing becomes DISABLED when nothing is in flight (05 R132): unfetched ring packets are dropped. A GUILTY queue stays GUILTY until it
is reset (04 Table OBJ-5): R132 does not name the state, and the disable then takes effect after the reset (DEDUCED, notes/assumptions/66.md). -/
def State.closeQueue (s : State) (q : Nat) : State :=
  s.modQueue q (fun u => if u.closing && u.pkts.isEmpty && u.st ≠ .guilty then
    { u with
      st := .disabled, closing := false
      feed := u.feed.filter (fun f => match f with | .ring _ => false | .strand _ _ _ => true) } else u)

/-- A packet is gone: answers to its remote reads are of no use. -/
def State.dropGot (s : State) (id : Nat) : State := { s with fab := { s.fab with got := s.fab.got.filter (fun g => g.req.pkt ≠ some id) } }

/-- The head packet of a queue completes with a status (05 R126 steps 2 and 3, R127; 12 Table RAS-14): counts, completion area, interrupt. -/
def State.retire (s : State) (q : Nat) (p : QPkt) (st : Nat) : State :=
  let s := (s.modQueue q (fun u => { u with pkts := u.pkts.filter (·.id ≠ p.id) })).dropGot p.id
  let s := if st = 0 then (if p.pkt.op = 2 then s.inc R.RAS_PASS_COUNT else s) else s.inc (rk R.QM_Q_ERR_COUNT q)
  let s := match p.src with
    | .ring k =>
      let s := s.modQueue q (fun u => { u with done := k, lastErr := if st = 0 then u.lastErr else st + k % 2 ^ 56 * 2 ^ 8 })
      let s := s.completionArea q [p.ctx]
      if p.pkt.irq then s.event (8 + q) [512 + q] else s
    | .strand l _ _ =>
      let s := if p.pkt.irq then s.event 61 [p.ctx] else s
      s.leaveLaunch l st
  (s.closeQueue q).quiesceSettle

/-- Does a packet wait for a remote node to acknowledge a write of its work (05 R126, 15 R377)? -/
def State.remoteOpen (s : State) (id : Nat) : Bool := s.fab.inflight.any (·.pkt == some id)

/-- Complete the head packet of a queue whose work has finished (05 R126, R127): its writes are visible, its fence is signalled, and once a remote node
has acknowledged the signal it retires. -/
def State.completeHead (s : State) (q : Nat) : Option State :=
  match (s.queue q).pkts with
  | [] => none
  | p :: _ =>
    match p.fin with
    | none => none
    | some st =>
      if p.abort.isSome || p.timedOut || s.remoteOpen p.id then none
      else if st = 0 && p.pkt.signal && !p.signalled then
        match s.fenceSignal (fenceWho q p) p.pkt.sigVA p.pkt.sigVal with
        | (.ok _, s) => some (if s.remoteOpen p.id then s.modPkt p.id (fun p => { p with signalled := true }) else s.retire q p 0)
        | (.error v, s) => some (s.pktFault p.id (v.at (accEng q)) 0x80)
      else some (s.retire q p st)

/-- Complete head packets that did no work or were aborted, as far as queue order lets them (05 R127, R150); one whose timer expired waits for its kill
(R148). -/
def State.settleQueue (q : Nat) : Nat → State → State
  | 0, s => s
  | n + 1, s =>
    match (s.queue q).pkts with
    | p :: _ =>
      match p.fin with
      | some st => if st ≠ 0 && p.abort.isNone && !p.timedOut then State.settleQueue q n (s.retire q p st) else s
      | none => s
    | [] => s

/-- Settle every queue. -/
def State.settleQueues (s : State) : State :=
  (List.range 53).foldl (fun s q => State.settleQueue q (s.queue q).pkts.length s) s

end Sys2Proof.Machine
end

