-- ==== Sys2Proof/Machine/Graph.lean ====
section
/-! DEFINITION. The graph dispatcher (05 R134 to R140, R507): launch requests, launch processing, posting strands. -/

namespace Sys2Proof.Machine

/-- Refuse a launch request (05 R138, Table SUB-11). -/
def State.launchRefuse (s : State) (c handle reason : Nat) : State :=
  let h := handle % 2 ^ 16 * 2 ^ 16
  let page := 0x1000 * c
  let s := s.setBits (R.GDB_STATUS + page) 1
  let s := (s.setRegN (R.GDB_LAST_REFUSE + page) (reason + h)).setRegN R.GX_LAST_REFUSE (reason + c * 2 ^ 8 + h)
  ((s.inc (R.GDB_REFUSE_COUNT + page)).inc R.GX_REFUSE_COUNT).event 61 [c]

/-- A launch request of a context, from its graph doorbell or an aperture (05 R136 to R138). -/
def State.launchReq (s : State) (c handle param : Nat) : State :=
  if !s.bit R.GX_CTRL 0 then s.launchRefuse c handle 4
  else if 256 ≤ s.qm.fifo.length then s.launchRefuse c handle 1
  else if handle / 2 ^ 16 ≠ 0 then s.launchRefuse c handle 2
  else
    let a := s.pair R.GX_GRAPH_TABLE_LO + 32 * bits handle 11 0
    match s.readLoc a 32 with
    | (.error _, s) => s.launchRefuse c handle 2
    | (.ok b, s) =>
      let w := fieldAt b 8 4
      if !w.testBit 12 || bits w 11 8 ≠ bits handle 15 12 || bits w 7 0 ≠ c then s.launchRefuse c handle 2
      else if (s.adm? c).isNone then s.launchRefuse c handle 3
      else if param % 64 ≠ 0 then s.launchRefuse c handle 4
      else
        let n := addMod 64 (fieldAt b 16 8) 1
        let s := (s.writeLoc (a + 16) (leBytes 8 n) true).2
        let s := (s.inc (R.GDB_ACCEPT_COUNT + 0x1000 * c)).inc R.GX_LAUNCH_COUNT
        let l : Launch := { ctx := c, handle := handle, param := param, header := bits (fieldAt b 0 8) 47 6 * 64, count := n }
        { s with qm := { s.qm with fifo := s.qm.fifo ++ [l] } }

/-- Does a header break Table SUB-8? -/
def badHeader (h : List Byte) : Bool :=
  let size := fieldAt h 12 4
  fieldAt h 0 4 ≠ 0x47524831 || fieldAt h 4 2 ≠ 1 || fieldAt h 6 1 = 0 || 13 < fieldAt h 6 1 || 32 < fieldAt h 8 1 ||
    256 < fieldAt h 10 2 || size % 8 ≠ 0 || size < 16 || 65536 < size || (fieldAt h 10 2 ≠ 0 && fieldAt h 16 8 % 8 ≠ 0)

/-- Is an engine code one that a strand may name (05 Table SUB-8)? -/
def strandEngine (e : Nat) : Bool := (64 ≤ e && e ≤ 71) || (33 ≤ e && e ≤ 37)

/-- One strand table entry, or none when it breaks Table SUB-8; `seen` are the engines of earlier entries. -/
def parseStrand (e : List Byte) (prio : Nat) (seen : List Strand) : Option Strand :=
  let va := fieldAt e 0 8
  let n := fieldAt e 8 4
  let eng := fieldAt e 12 1
  if va % 64 ≠ 0 || n = 0 || 65535 < n || !strandEngine eng || seen.any (·.eng == eng) then none else some ⟨va, n, eng, prio⟩

/-- One patch table entry, or none when it breaks Table SUB-9. -/
def parsePatch (w : Nat) (strands : List Strand) (psize : Nat) : Option (Patch × Nat) :=
  let st := bits w 19 16
  let size := if bits w 21 20 = 0 then 4 else 8
  let off := bits w 29 24
  let src := bits w 47 32
  if bits w 21 20 ≥ 2 || strands.length ≤ st || (strands.getD st ⟨0, 0, 0, 0⟩).count ≤ bits w 15 0 || off < 2 || 15 < off ||
      (size = 8 && off % 2 ≠ 0) || src % size ≠ 0 || psize < src + size then none
  else some (⟨bits w 15 0, st, size, off, 0⟩, src)

/-- What a step of reading a launch comes to: a value, a fault of an access, or an invalid graph with its DETAIL and VA (05 R507). -/
inductive GRes (α : Type) where
  | ok (a : α)
  | fault (v : VErr)
  | bad (detail va : Nat)

/-- Read and check the strand table entries from index i. -/
def State.readStrands (s : State) (w : RemWho) (hdr prio : Nat) : Nat → List Strand → GRes (List Strand) × State
  | 0, acc => (.ok acc, s)
  | n + 1, acc =>
    let a := hdr + 0x40 + 16 * acc.length
    match s.vread w a 16 with
    | (.error v, s) => (.fault v, s)
    | (.ok e, s) => match parseStrand e prio acc with
      | none => (.bad 2 a, s)
      | some t => s.readStrands w hdr prio n (acc ++ [t])

/-- Read and check the patch table. -/
def State.readPatches (s : State) (w : RemWho) (base : Nat) (strands : List Strand) (psize : Nat) :
    Nat → List (Patch × Nat) → GRes (List (Patch × Nat)) × State
  | 0, acc => (.ok acc, s)
  | n + 1, acc =>
    let a := base + 8 * acc.length
    match s.vread w a 8 with
    | (.error v, s) => (.fault v, s)
    | (.ok e, s) => match parsePatch (leNat e) strands psize with
      | none => (.bad 3 a, s)
      | some t => s.readPatches w base strands psize n (acc ++ [t])

/-- Read every patch value (05 R139 step 2). -/
def State.readValues (s : State) (w : RemWho) (param : Nat) : List (Patch × Nat) → List Patch → GRes (List Patch) × State
  | [], acc => (.ok acc, s)
  | (p, src) :: t, acc =>
    match s.vread w (param + src) p.size with
    | (.error v, s) => (.fault v, s)
    | (.ok b, s) => s.readValues w param t (acc ++ [{ p with val := leNat b }])

/-- What a launch reads from its parameter block: DONE_VA, DONE_IRQ, and whether either breaks its format. -/
structure DoneInfo where
  va : Nat
  irq : Bool
  bad : Bool

/-- Read the graph of a launch (05 R139 step 1): strands, patches with the places of their values, SEM_COUNT. -/
def State.readGraph (s : State) (w : RemWho) (l : Launch) : GRes (List Strand × List (Patch × Nat) × Nat) × State :=
  match s.vread w l.header 64 with
  | (.error v, s) => (.fault v, s)
  | (.ok h, s) =>
    if badHeader h then (.bad 1 l.header, s)
    else match s.readStrands w l.header (fieldAt h 7 1 % 4) (fieldAt h 6 1) [] with
      | (.fault v, s) => (.fault v, s)
      | (.bad d a, s) => (.bad d a, s)
      | (.ok st, s) =>
        match s.readPatches w (fieldAt h 16 8) st (fieldAt h 12 4) (fieldAt h 10 2) [] with
        | (.fault v, s) => (.fault v, s)
        | (.bad d a, s) => (.bad d a, s)
        | (.ok ps, s) => (.ok (st, ps, fieldAt h 8 1), s)

/-- A launch fails: fault or invalid graph, and it completes at once (05 R139, R507). -/
def State.launchFail (s : State) (id : Nat) (f : JobFault) (st : Nat) : State := (s.launchFault id f st).launchDone id

/-- GX moves the oldest launch into a slot and reads it (05 R139 steps 1 to 3). None: no launch, no free slot, a launch ahead still waits to post in its slot
(R140: launches behind it wait in the FIFO though slots are free, notes/assumptions/39.md), or a read that waits. A read that faults at step 1 fails the launch
with its own cause and the record's STATUS GRAPH_INVALID (Table SUB-12); for one at step 2 the spec gives no STATUS: FAULTED (DESIGN CHOICE,
notes/assumptions/66.md). -/
def State.launchSlot (s0 : State) : Option State :=
  match s0.qm.fifo with
  | [] => none
  | l :: rest =>
    if 64 ≤ s0.qm.slots.length || s0.qm.slots.any (fun t => !t.posted) then none
    else
      let id := s0.qm.nextId
      let w : RemWho := ⟨57, 72, l.ctx, none, none⟩
      let put := fun (s : State) (sl : Slot) => { s with qm := { s.qm with fifo := rest, nextId := id + 1, slots := s.qm.slots ++ [sl] } }
      let fault := fun (s : State) (v : VErr) (st : Nat) => if v.e.cause = C.HOST_WAIT then s0.waits s else some (s.launchFail id (v.at 72) st)
      match s0.vread w l.param 16 with
      | (.error v, s) => fault (put s { id := id, l := l, record := false }) v 0x22
      | (.ok b, s) =>
        let done := fieldAt b 0 8
        let sl : Slot := { id := id, l := l, doneVA := done, irq := fieldAt b 8 4 % 2 == 1, record := done % 16 == 0 }
        if done % 16 ≠ 0 || fieldAt b 8 4 / 2 ≠ 0 then
          some ((put s sl).launchFail id ⟨72, C.GRAPH_INVALID, 4, some l.param⟩ 0x22)
        else match (put s sl).readGraph w l with
          | (.fault v, s) => fault s v 0x22
          | (.bad d a, s) => some (s.launchFail id ⟨72, C.GRAPH_INVALID, d, some a⟩ 0x22)
          | (.ok (st, ps, sems), s) =>
            match s.readValues w l.param ps [] with
            | (.fault v, s) => fault s v 0x80
            | (.bad d a, s) => fault s ⟨⟨C.GRAPH_INVALID, d, 0⟩, a⟩ 0x22
            | (.ok vs, s) => some (s.modSlot id (fun sl =>
                { sl with strands := st, patches := vs, sems := List.replicate sems 0, left := (st.map (·.count)).sum }))

/-- Queue of a strand (05 R139 step 4, 02 Table HST-5). -/
def Strand.queue (t : Strand) : Nat := (if 64 ≤ t.eng then 4 * (t.eng - 64) else if t.eng = 33 then 32 else 36 + 4 * (t.eng - 34)) + t.prio

/-- Posted strands that a queue holds (05 R140). -/
def Queue.strandsHeld (u : Queue) : Nat := (u.feed.filter (fun f => match f with | .strand _ _ _ => true | .ring _ => false)).length

/-- GX posts every strand of the launch that waits to post, or holds it when a queue named has no room (05 R139 step 4, R140). -/
def State.strandPost (s : State) : Option State :=
  match s.qm.slots.find? (fun t => !t.posted) with
  | none => none
  | some sl =>
    if sl.strands.all (fun t => (s.queue t.queue).strandsHeld < 32) then
      let s := sl.strands.zipIdx.foldl (fun s (t, i) =>
        s.modQueue t.queue (fun u => { u with feed := u.feed ++ [.strand sl.id i 0] })) s
      some (s.modSlot sl.id (fun sl => { sl with posted := true }))
    else if sl.held then none
    else some ((s.modSlot sl.id (fun sl => { sl with held := true })).inc R.GX_HOLD_COUNT)

end Sys2Proof.Machine
end

