-- ==== Sys2Proof/Machine/Operands.lean ====
section
/-! DEFINITION. Instruction words and operand forms (09 R230 to R238): what each opcode's fields name, what makes an instruction illegal,
and reading and writing a pod's registers. -/

namespace Sys2Proof.Machine

/-- The instruction word (09 Tables ISA-2, ISA-3). -/
def insWord (op : Nat) (i : Ins) : Nat :=
  i.d + i.a * 2 ^ 8 + i.b * 2 ^ 16 + i.c * 2 ^ 24 + i.m * 2 ^ 32 + i.preg.toNat * 2 ^ 37 + b2n i.pn * 2 ^ 40 + b2n i.pe * 2 ^ 41 +
    op * 2 ^ 42 + i.wait.toNat * 2 ^ 50 + i.inc.toNat * 2 ^ 56 + b2n i.yield * 2 ^ 59 + i.dist.toNat * 2 ^ 60

/-- The fields of an instruction word and its extension word. -/
def insOf (w x : Nat) : Ins where
  dst := BitVec.ofNat 8 w
  src0 := BitVec.ofNat 8 (w / 2 ^ 8)
  src1 := BitVec.ofNat 8 (w / 2 ^ 16)
  src2 := BitVec.ofNat 8 (w / 2 ^ 24)
  mod := BitVec.ofNat 5 (w / 2 ^ 32)
  preg := BitVec.ofNat 3 (w / 2 ^ 37)
  pn := w.testBit 40
  pe := w.testBit 41
  wait := BitVec.ofNat 6 (w / 2 ^ 50)
  inc := BitVec.ofNat 3 (w / 2 ^ 56)
  yield := w.testBit 59
  dist := BitVec.ofNat 4 (w / 2 ^ 60)
  ext := BitVec.ofNat 64 x

/-- What an operand field names: nothing (must be 0), a group of n vector registers, a scalar position of n words that is written or
not, an s register or pair, or a raw number. -/
inductive Kind where
  | u
  | v (n : Nat)
  | s (n : Nat) (wr : Bool)
  | sr (n : Nat)
  | raw
deriving DecidableEq, Repr

/-- Latency classes (09 Table ISA-4). -/
inductive Cls where
  | s
  | v
  | t
  | d
  | f64
  | f64l
  | m
  | h
deriving DecidableEq, Repr

/-- Vector registers of a memory access size code (09 R249). -/
def sizeRegs (m : Nat) : Nat := if m = 3 then 2 else if m = 4 then 4 else 1

/-- Is an opcode defined (09 Tables ISA-7 to ISA-14, R256, R258, R259)? -/
def opDefined (op : Nat) : Bool :=
  op ≤ 0x06 || (0x10 ≤ op && op ≤ 0x14) || (0x20 ≤ op && op ≤ 0x4B) || (0x50 ≤ op && op ≤ 0x57) ||
    (0x60 ≤ op && op ≤ 0x63) || (0x70 ≤ op && op ≤ 0x73) || op == 0x80 || op == 0x82 || op == 0x83 ||
    (0x90 ≤ op && op ≤ 0x92) || op == 0xA0 || op == 0xA1 || op == 0xB0 || op == 0xB1 || op == 0xC0

/-- Latency class of an opcode (09 Table ISA-4). -/
def clsOf (op : Nat) : Cls :=
  if op = 0x04 || op = 0x82 || op = 0x83 || op = 0xB0 || op = 0xB1 then .h
  else if op = 0x47 || op = 0x48 || op = 0x4A || op = 0x4B then .t
  else if op = 0x45 || op = 0x46 then .d
  else if op = 0x55 || op = 0x56 then .f64l
  else if 0x52 ≤ op && op ≤ 0x57 then .f64
  else if op < 0x30 then .s
  else if op < 0x70 then .v
  else .m

/-- Must an opcode carry INC = 7 (09 R232)? -/
def holdsIssue (op : Nat) : Bool := clsOf op == .h || op == 0x01 || op == 0x02 || op == 0x03 || op == 0x06

/-- The operand kinds of an instruction: DST, SRC0, SRC1, SRC2 (09 Tables ISA-7 to ISA-14). -/
def kindsOf (op : Nat) (i : Ins) : Kind × Kind × Kind × Kind :=
  let m := i.m
  let b1 : Kind := if m.testBit 4 then .s 1 false else .v 1
  let b2 : Kind := if m.testBit 4 then .s 2 false else .v 2
  let w := sizeRegs (m % 8)
  let aw := if m.testBit 4 then 2 else 1
  match op with
  | 0x02 => (.u, .raw, .u, .u)
  | 0x06 => (.u, .s 1 false, .s 1 false, .s 1 false)
  | 0x10 => (.u, .raw, .raw, .raw)
  | 0x11 | 0x12 => (.s 1 false, .raw, .raw, .raw)
  | 0x13 => (.sr 2, .raw, .raw, .raw)
  | 0x14 => (.u, .s 2 false, .u, .u)
  | 0x2B | 0x2C | 0x2D => (.s 1 true, .s 1 false, .u, .u)
  | 0x2E => (.raw, .s 1 false, .s 1 false, .u)
  | 0x2F => (.s 2 true, .s 2 false, .s 2 false, .u)
  | 0x34 => (.v 1, .v 1, b1, .v 1)
  | 0x3C => (.v 1, .u, b1, .u)
  | 0x3D => (.v 1, .v 1, b1, .s 1 false)
  | 0x3E | 0x49 => (.s 1 true, .v 1, b1, .u)
  | 0x42 | 0x50 | 0x51 => (.v 1, .v 1, b1, .v 1)
  | 0x46 | 0x47 | 0x48 | 0x4A | 0x4B | 0x63 => (.v 1, .v 1, .u, .u)
  | 0x52 | 0x53 | 0x55 => (.v 2, .v 2, b2, .u)
  | 0x54 => (.v 2, .v 2, b2, .v 2)
  | 0x56 => (.v 2, .v 2, .u, .u)
  | 0x57 => (.s 1 true, .v 2, b2, .u)
  | 0x60 => (.v (if i.c = 0x11 then 2 else 1), .v (if i.b = 0x11 then 2 else 1), .raw, .raw)
  | 0x61 | 0x62 => (.v 1, .v 1, .s 1 false, .s 1 false)
  | 0x70 | 0x71 => (.v w, if m.testBit 4 then .v 1 else .v 2, if m.testBit 4 then .s 2 false else .u, .raw)
  | 0x72 | 0x73 => (.sr (if m % 8 = 3 then 2 else 1), .u, .s 2 false, .raw)
  | 0x90 | 0x91 => (.v w, .v 1, if m.testBit 4 then .s 1 false else .u, .raw)
  | 0x80 => (.v aw, .v 2, .v aw, if m % 16 = 9 then .v aw else .u)
  | 0x92 => (.v aw, .v 1, .v aw, if m % 16 = 9 then .v aw else .u)
  | 0x82 | 0x83 => (.raw, if m.testBit 0 then .v 1 else .v 2, .u, .u)
  | 0xA0 => (.s 1 false, .s 1 false, .s 1 false, .s 1 false)
  | 0xA1 => (.s 1 false, .s 1 false, .s 1 false, .u)
  | 0xC0 => (.v 4, .v 8, .s 2 false, .u)
  | _ => if 0x20 ≤ op && op ≤ 0x2A then (.s 1 true, .s 1 false, .s 1 false, .u)
         else if (0x30 ≤ op && op ≤ 0x3F) || (0x40 ≤ op && op ≤ 0x45) then (.v 1, .v 1, b1, .u)
         else (.u, .u, .u, .u)

/-- The MOD bits that an opcode uses. -/
def modUsed (op : Nat) : Nat :=
  match op with
  | 0x04 => 0xF
  | 0x05 => 0x7
  | 0x28 | 0x29 | 0x2A => 0x8
  | 0x2E => 0xF
  | 0x33 | 0x39 | 0x3A | 0x3B => 0x18
  | 0x3E | 0x49 | 0x57 => 0x1F
  | 0x40 | 0x41 | 0x43 | 0x44 | 0x45 | 0x52 | 0x53 | 0x55 => 0x1B
  | 0x42 | 0x50 | 0x51 | 0x54 => 0x1F
  | 0x46 | 0x47 | 0x48 | 0x4A | 0x4B | 0x56 => 0x9
  | 0x60 => 0xF
  | 0x61 => 0x8
  | 0x70 | 0x71 | 0x80 | 0x90 | 0x91 | 0x92 => 0x1F
  | 0x72 | 0x73 => 0xF
  | 0x82 | 0x83 => 0x1
  | 0xC0 => 0x3
  | _ => if 0x30 ≤ op && op ≤ 0x3F then 0x10 else 0

/-- The format combinations of TMMA (11 Table TEN-2): the row of AFMT and of BFMT, and the CFMTs of the row. -/
def tmmaRow (f : Nat) : Nat :=
  match f with
  | 0x0E | 0x0F => 1
  | 0x04 | 0x05 => 2
  | 0x01 => 3
  | 0x02 => 4
  | 0x03 => 5
  | 0x06 | 0x07 | 0x08 => 6
  | 0x10 => 7
  | 0x09 | 0x0A | 0x0B => 8
  | _ => 0

/-- Does a row of Table TEN-2 list a CFMT? -/
def tmmaC (row c : Nat) : Bool :=
  match row with
  | 1 | 7 => c == 0x0C
  | 2 | 6 => c == 0x00 || c == 0x01 || c == 0x02
  | 3 => c == 0x00 || c == 0x01
  | 4 | 8 => c == 0x00 || c == 0x02
  | 5 => c == 0x00
  | _ => false

/-- Is a tensor extension word allowed (09 Table ISA-16, 10 R265, 11 R284, R285, R292)? -/
def tensorExtOk (cvt : Bool) (e : Nat) : Bool :=
  let a := bits e 4 0
  let b := bits e 12 8
  bits e 31 29 ≤ 5 &&
    (if cvt then a ≤ 0x10 && b ≤ 0x10 && !(9 ≤ a && a ≤ 0xB && 9 ≤ b && b ≤ 0xB)
     else tmmaRow a ≠ 0 && tmmaRow a == tmmaRow b && tmmaC (tmmaRow a) (bits e 20 16) && bits e 27 24 ≤ 4)

/-- Is an unused bit of the tensor extension word set? -/
def tensorExtRsv (cvt : Bool) (e : Nat) : Bool :=
  bits e 7 5 ≠ 0 || bits e 15 13 ≠ 0 || bits e 63 32 ≠ 0 || (if cvt then bits e 27 16 ≠ 0 else bits e 23 21 ≠ 0)

/-- Is a MOD value, or a code that plays its part, not allowed (09 Table ISA-6 DETAIL 5)? -/
def modBad (op : Nat) (i : Ins) : Bool :=
  let m := i.m
  match op with
  | 0x05 => 4 < m % 8
  | 0x2E | 0x3E | 0x49 | 0x57 => 5 < m % 8
  | 0x60 => 5 < m / 2 % 8 || 0x11 < i.b || 0x11 < i.c || (9 ≤ i.b && i.b ≤ 0xB) || (9 ≤ i.c && i.c ≤ 0xB)
  | 0x70 | 0x90 => 4 < m % 8 || (m.testBit 3 && 1 < m % 8)
  | 0x71 | 0x91 => 4 < m % 8 || m.testBit 3
  | 0x72 | 0x73 => m % 8 ≠ 2 && m % 8 ≠ 3 || m.testBit 3
  | 0x80 | 0x92 => 10 < m % 16
  | 0x82 | 0x83 => i.d < 0x81 || 0x83 < i.d
  | 0xA0 => !tensorExtOk false i.ext.toNat
  | 0xA1 => !tensorExtOk true i.ext.toNat
  | 0xC0 => m % 4 = 3
  | _ => false

/-- Is a scalar code one of Table ISA-5? -/
def scalarCode (c : Nat) : Bool := c ≤ 0x89 || (0xC0 ≤ c && c ≤ 0xCF) || c == 0xFF

/-- Is a scalar code read only? -/
def scalarRO (c : Nat) : Bool := c == 0x84 || c == 0x85 || c == 0x89 || 0xC0 ≤ c

/-- The details of Table ISA-6 that one operand field breaks. -/
def kindErrs (k : Kind) (c : Nat) : List Nat :=
  match k with
  | .u => if c = 0 then [] else [3]
  | .raw => []
  | .v n => if c % n = 0 then [] else [4]
  | .sr n => if 0x80 ≤ c then [3] else if c % n = 0 then [] else [4]
  | .s 1 wr => (if scalarCode c then [] else [3]) ++ (if wr && scalarCode c && scalarRO c then [8] else [])
  | .s _ wr => if c = 0xFF then (if wr then [8] else []) else if 0x80 ≤ c then [3] else if c % 2 = 0 then [] else [4]

/-- Is a field a scalar source position that holds the immediate code? -/
def isImm (k : Kind) (c : Nat) : Bool := match k with | .s _ _ => c == 0xFF | _ => false

/-- How many operand fields hold the immediate code. -/
def immCount (op : Nat) (i : Ins) : Nat :=
  let (d, a, b, c) := kindsOf op i
  b2n (isImm d i.d) + b2n (isImm a i.a) + b2n (isImm b i.b) + b2n (isImm c i.c)

/-- Length in bytes (09 R231, R243). -/
def insLen (op : Nat) (i : Ins) : Nat :=
  if op = 0xA0 || op = 0xA1 then 16
  else if 0x10 ≤ op && op ≤ 0x13 then 8
  else if immCount op i = 0 then 8 else 16

/-- Instructions that the guard core does not execute (09 R261), and those that only it does (R264). -/
def engineBad (guard pixel : Bool) (op : Nat) (i : Ins) : Bool :=
  if guard then
    (0x90 ≤ op && op ≤ 0x92) || ((op = 0x82 || op = 0x83) && i.m.testBit 0) || op == 0xB0 || op == 0xB1 || op == 0xC0 || op == 0xA1 ||
      op == 0x03 || (op = 0xA0 && tmmaRow (bits i.ext.toNat 4 0) ≠ 1)
  else op == 0x06 || ((op = 0xB0 || op = 0xB1) && !pixel)

/-- The ILLEGAL_INSTR detail of an instruction, lowest first (09 Table ISA-6); 7 is found when it executes. -/
def illegal (guard pixel : Bool) (op : Nat) (i : Ins) : Option Nat :=
  let (d, a, b, c) := kindsOf op i
  let ks := kindErrs d i.d ++ kindErrs a i.a ++ kindErrs b i.b ++ kindErrs c i.c
  let tens := op = 0xA0 || op = 0xA1
  if !opDefined op then some 1
  else if i.inc = 6 || (i.inc ≠ 7 && holdsIssue op) then some 2
  else if ks.contains 3 || 1 < immCount op i || (tens && immCount op i ≠ 0) || i.m &&& (31 - modUsed op) ≠ 0 ||
      (op = 0x2E && 8 ≤ i.d) || ((op = 0x11 || op = 0x12) && i.d = 0xFF) || (tens && tensorExtRsv (op == 0xA1) i.ext.toNat) then some 3
  else if ks.contains 4 then some 4
  else if modBad op i then some 5
  else if engineBad guard pixel op i then some 6
  else if ks.contains 8 then some 8
  else none

/-- The vector registers that an instruction names, lowest first. -/
def vregsOf (op : Nat) (i : Ins) : List Nat :=
  let (d, a, b, c) := kindsOf op i
  let f := fun (k : Kind) (n : Nat) => match k with | .v w => (List.range w).map (n + ·) | _ => []
  f d i.d ++ f a i.a ++ f b i.b ++ f c i.c

/-- The register keys that an instruction reads or writes (vector n: n; scalar code c: 256 + c). -/
def keysOf (op : Nat) (i : Ins) : List Nat :=
  let (d, a, b, c) := kindsOf op i
  let f := fun (k : Kind) (n : Nat) => match k with
    | .s w _ => if n = 0xFF then [] else (List.range w).map (256 + n + ·)
    | .sr w => (List.range w).map (256 + n + ·)
    | _ => []
  vregsOf op i ++ f d i.d ++ f a i.a ++ f b i.b ++ f c i.c

/-- The lowest register at or above VREGS that is not v255 (09 R235). -/
def regRange (vregs op : Nat) (i : Ins) : Option Nat :=
  ((vregsOf op i).filter (fun n => vregs ≤ n && n ≠ 255)).min?

/-- A pod by reference. -/
def State.pod? (s : State) : PodRef → Option Pod
  | .guard => s.gd.pod
  | .slot c k => (s.cores.getD c {}).pods.find? (·.slot == k)

/-- Change a core. -/
def State.modCore (s : State) (c : Nat) (f : Core → Core) : State := { s with cores := s.cores.modify c f }

/-- A core. -/
def State.core (s : State) (c : Nat) : Core := s.cores.getD c {}

/-- Change a pod. -/
def State.modPod (s : State) (r : PodRef) (f : Pod → Pod) : State :=
  match r with
  | .guard => { s with gd := { s.gd with pod := s.gd.pod.map f } }
  | .slot c k => s.modCore c (fun co => { co with pods := co.pods.map (fun p => if p.slot = k then f p else p) })

/-- A 32-bit word of a lane of a vector register (09 R235); v255 reads 0. -/
def State.vget (s : State) (r : PodRef) (p : Pod) (n lane : Nat) : Nat :=
  if n = 255 then 0
  else match r with
    | .guard => leNat (s.gd.vrf.read (n * 128 + lane * 4) 4)
    | .slot c _ => leNat ((s.core c).vrf.read (p.regBase + n * 128 + lane * 4) 4)

/-- Write a word to a lane of a vector register; writes to v255 are discarded. -/
def State.vput (s : State) (r : PodRef) (p : Pod) (n lane v : Nat) : State :=
  if n = 255 then s
  else match r with
    | .guard => { s with gd := { s.gd with vrf := s.gd.vrf.write (n * 128 + lane * 4) (leBytes 4 v) } }
    | .slot c _ => s.modCore c (fun co => { co with vrf := co.vrf.write (p.regBase + n * 128 + lane * 4) (leBytes 4 v) })

/-- The lanes of a mask. -/
def lanesOf (m : Nat) : List Nat := setBits 32 m

/-- Write one register in the lanes of a mask. -/
def State.vputs (s : State) (r : PodRef) (p : Pod) (n mask : Nat) (f : Nat → Nat) : State :=
  (lanesOf mask).foldl (fun s l => s.vput r p n l (f l)) s

/-- A 64-bit value in a lane of a vector pair. -/
def State.vget64 (s : State) (r : PodRef) (p : Pod) (n lane : Nat) : Nat := s.vget r p n lane + s.vget r p (n + 1) lane * 2 ^ 32

/-- Mask 0 and masks of a pod. -/
def Pod.m0 (p : Pod) : Nat := p.m.getD 0 0
def Pod.runnable (p : Pod) : Nat := p.live &&& (0xFFFFFFFF - p.park)

/-- Read a scalar code other than CYCLES and the immediate (09 Table ISA-5). -/
def Pod.sget (p : Pod) (c : Nat) : Nat :=
  if c < 0x80 then storeGet (fun _ => 0) p.scal c
  else if c ≤ 0x83 then p.m.getD (c - 0x80) 0
  else match c with
    | 0x84 => p.live
    | 0x85 => p.park
    | 0x86 => p.fpstat
    | 0x87 => p.fpctrl
    | 0x88 => p.preds
    | _ => if 0xC0 ≤ c && c ≤ 0xCF then c - 0xC0 else 0

/-- Write a mask register; a write to m0 keeps only live peas that are not parked (08 R210). -/
def Pod.mput (p : Pod) (k v : Nat) : Pod := { p with m := p.m.set k (if k = 0 then v &&& p.runnable else v % 2 ^ 32) }

/-- Write a scalar code (09 Table ISA-5). -/
def Pod.sput (p : Pod) (c v : Nat) : Pod :=
  if c < 0x80 then { p with scal := storePut (fun _ w => w == 0) c (v % 2 ^ 32) p.scal }
  else if c ≤ 0x83 then p.mput (c - 0x80) (v % 2 ^ 32)
  else match c with
    | 0x86 => { p with fpstat := v % 64 }
    | 0x87 => { p with fpctrl := v % 1024 }
    | 0x88 => { p with preds := v % 256 }
    | _ => p

/-- RMODE of FPCTRL; 5 to 7 act as 0 (09 Table ISA-5). -/
def Pod.rmode (p : Pod) : Nat := let r := p.fpctrl / 2 % 8; if 4 < r then 0 else r

/-- RMODE of an arithmetic instruction: none of their formats rounds stochastically (10 R271). -/
def Pod.arith (p : Pod) : Nat := if p.rmode = 4 then 0 else p.rmode

/-- FPCTRL.FTZ. -/
def Pod.ftz (p : Pod) : Bool := p.fpctrl.testBit 0

end Sys2Proof.Machine
end

