-- ==== Sys2Proof/Machine/GuardCore.lean ====
section
/-! DEFINITION. The guard partition's shared operations (07): guard SRAM, the pin, onions, run faults, publication, wakes, runs. -/

namespace Sys2Proof.Machine

/-- Guard states (07 Table GRD-7). -/
abbrev G.DISARMED : Nat := 0
abbrev G.ARMING : Nat := 1
abbrev G.IDLE : Nat := 2
abbrev G.RUNNING : Nat := 3
abbrev G.RESTARTING : Nat := 4
abbrev G.FAILED : Nat := 5

/-- Size of guard SRAM. -/
abbrev sramSize : Nat := 2 ^ 21

/-- GD_STATUS fields (07 Table GRD-10). -/
def State.gState (s : State) : Nat := s.field R.GD_STATUS 2 0
def State.gStale (s : State) : Bool := s.bit R.GD_STATUS 4
def State.gPending (s : State) : Bool := s.bit R.GD_STATUS 6
def State.gWarm (s : State) : Nat := s.field R.GD_STATUS 15 8
def State.setG (s : State) (st : Nat) : State := s.setField R.GD_STATUS 2 0 st
def State.setWarm (s : State) (n : Nat) : State := s.setField R.GD_STATUS 15 8 n
def State.setPendingWake (s : State) (b : Bool) : State := s.setField R.GD_STATUS 6 6 (b2n b)

/-- Tag of the guard's posted writes. -/
abbrev tagGF : Nat := 600

/-- The outcome of 07 R179, the warm-up that keeps the pin low (R183, R190), and the reference-loss detector (21 R497). -/
def State.pinHigh (s : State) : Bool :=
  s.on D.GD && s.gd.clkSeen && !s.ao.pwr.refLost && !s.ao.pwr.aoOff && (s.gState == G.IDLE || s.gState == G.RUNNING) && !s.gStale && s.field R.GD_HIST_LEN 7 0 ≤ s.gWarm &&
    (s.field R.GD_VERDICT 1 0 == 0 || (s.field R.GD_VERDICT 1 0 == 1 && !s.bit R.GD_CTRL 1))

/-- The pin follows R179; a change shows in GD_STATUS.PIN and posts vector 1 (07 R180). -/
def State.settlePin (s : State) : State :=
  let n := s.pinHigh
  if n = s.gd.pin then s
  else
    let s := { s with gd := { s.gd with pin := n } }
    let s := if s.on D.GD then s.setField R.GD_STATUS 5 5 (b2n n) else s
    s.event 1 [tagGF]

/-- The context resident in PG (07 R177). -/
def State.pgCtx (s : State) : Option (Nat × Adm) := s.qm.adm.find? (fun a => a.2.part == 8)

/-- An onion of the guard (04 R118). -/
def State.guardOnion (s : State) (detail eng : Nat) (va : Option Nat) : Nat × State :=
  let (c, g) := match s.pgCtx with | some (c, a) => (c, a.gen) | none => (0, 0)
  s.onion { part := 8, ctx := c, eng := eng, gen := g, cause := C.GUARD_FAULT, detail := detail, first := true, va := va, tags := [tagGF] }

/-- Zero a range of guard SRAM. -/
def State.sramZero (s : State) (lo n : Nat) : State :=
  { s with gd := { s.gd with
      sram := s.gd.sram.clear lo n
      ue := s.gd.ue.filter (fun w => !(lo ≤ 8 * w && 8 * w + 8 ≤ lo + n)), ce := s.gd.ce.filter (fun w => !(lo ≤ 8 * w && 8 * w + 8 ≤ lo + n)) } }

/-- Complete the packet that queue 52 runs, with a status (05 R126, 07 Table GRD-2). -/
def State.finish52 (s : State) (id st : Nat) : State := s.modPkt id (fun p => if p.fin.isNone then { p with fin := some st } else p)

/-- Leave the armed state (07 Table GRD-7, DISARM). -/
def State.disarm (s : State) : State :=
  let s := { s with gd := { s.gd with hdr := none, pod := none, watchdog := false } }
  ((s.setG G.DISARMED).setPendingWake false).settlePin

/-- The 64-bit words that [a, a+n) touches. -/
def wordsOf (a n : Nat) : List Nat := (List.range ((a + n - 1) / 8 + 1 - a / 8)).map (fun i => a / 8 + i)

/-- Is a word wholly inside [a, a+n)? -/
def wordCovered (a n w : Nat) : Bool := a ≤ 8 * w && 8 * w + 8 ≤ a + n

/-- Guard SRAM reads words: each error that its code corrects, or can only detect, is counted (07 R176). -/
def State.sramSee (s : State) (ws : List Nat) : State :=
  ws.foldl (fun s w => if s.gd.ue.contains w then s.inc R.GD_SRAM_UE_COUNT else if s.gd.ce.contains w then s.inc R.GD_SRAM_CE_COUNT else s) s

/-- Read guard SRAM on the guard core's port: bytes, or the fault's DETAIL (07 R176, R187). -/
def State.gRead (s : State) (a n : Nat) : Except Nat (List Byte) × State :=
  if sramSize < a + n then (.error 0x62, s)
  else if (wordsOf a n).any s.gd.ue.contains then (.error 0x63, s.sramSee (wordsOf a n))
  else (.ok (s.gd.sram.read a n), s.sramSee (wordsOf a n))

/-- Put bytes into guard SRAM; whole words lose their error. -/
def State.sramPut (s : State) (a : Nat) (bs : List Byte) : State :=
  { s with gd := { s.gd with
      sram := s.gd.sram.write a bs
      ue := s.gd.ue.filter (fun w => !wordCovered a bs.length w), ce := s.gd.ce.filter (fun w => !(wordsOf a bs.length).contains w) } }

/-- Write guard SRAM on the guard core's port. -/
def State.gWrite (s : State) (a : Nat) (bs : List Byte) : Except Nat Unit × State :=
  let n := bs.length
  let inCode := match s.gd.hdr with
    | some h => overlaps a n h.codeOff h.codeSize
    | none => false
  let merged := (wordsOf a n).filter (fun w => !wordCovered a n w)
  if sramSize < a + n || inCode then (.error 0x62, s)
  else if merged.any s.gd.ue.contains then (.error 0x63, s.sramSee merged)
  else (.ok (), (s.sramSee merged).sramPut a bs)

/-- Write guard SRAM on the second port, enabled bytes only (07 R176): a word in error that is written in part keeps its error and its
bytes. -/
def State.sramWrite2 (s : State) (a : Nat) (bs : List (Option Byte)) : State :=
  (wordsOf a bs.length).foldl (fun s w =>
    let lo := max a (8 * w)
    let part := (bs.drop (lo - a)).take (8 * w + 8 - lo)
    let full := part.length = 8 && part.all Option.isSome
    if part.all Option.isNone then s
    else if s.gd.ue.contains w && !full then s.sramSee [w]
    else
      let s := if full then s else s.sramSee [w]
      let s := part.zipIdx.foldl (fun s (b, i) => match b with
        | some v => { s with gd := { s.gd with sram := s.gd.sram.put (lo + i) v } }
        | none => s) s
      { s with gd := { s.gd with ue := if full then s.gd.ue.filter (· ≠ w) else s.gd.ue, ce := s.gd.ce.filter (· ≠ w) } }) s

/-- Read whole words of guard SRAM on the second port, or for a check: a word with an uncorrectable error is counted (07 R176), and its bytes are free. -/
def State.sramRead2 (s : State) (a n : Nat) : List Byte × State :=
  (s.gd.ue.filter (wordCovered a n)).foldl (fun (b, s) w =>
    let (v, s) := s.draw
    (splice b (8 * w - a) (leBytes 8 v), s)) (s.gd.sram.read a n, s.sramSee (wordsOf a n))

/-- CRC-32C of the armed code region with the CODE_CRC field read as 0 (07 Table GRD-3). -/
def State.codeCrc (s : State) (h : GHdr) : Nat × State :=
  let (bs, s) := s.sramRead2 h.codeOff h.codeSize
  let o := h.off + 0x20 - h.codeOff
  (crcOf (crcPoly 0) (if h.codeOff ≤ h.off + 0x20 && o + 4 ≤ h.codeSize then splice bs o [0, 0, 0, 0] else bs), s)

/-- Record writes that GF has queued (07 R193). -/
def State.recordsQueued (s : State) : Nat := (s.hs.waiting.filter (fun w => w.data.length == 32 && w.tags.contains tagGF)).length

/-- Publish a verdict (07 R192, R193): sequence, registers, ring record, CRC stream. -/
def State.publish (s : State) (status payload cycles arrived : Nat) : State :=
  let seq := addMod 64 (s.pair R.GD_VSEQ_LO) 1
  let s := ((s.setPair R.GD_VSEQ_LO seq).setRegN R.GD_VERDICT status).setRegN R.GD_LAST_PAYLOAD payload
  let rec32 := leBytes 8 seq ++ leBytes 8 (s.pair R.GD_TIME_LO) ++ leBytes 4 status ++ leBytes 4 payload ++ leBytes 4 cycles ++ leBytes 4 arrived
  let s := s.crcFeed 0x18 rec32
  let n := s.field R.GD_RING_CTRL 11 8
  if !s.bit R.GD_RING_CTRL 0 then s
  else if 4 ≤ s.recordsQueued then s.inc R.GD_RING_DROP_COUNT
  else s.hostMarker 54 (s.pair R.GD_RING_BASE_LO + 32 * (seq % 2 ^ n)) rec32 [tagGF]

/-- Base of the run's input: HIF_AP_ARRIVED and HIF_AP_CONSUMED of IN_AP (09 Table ISA-17). -/
def State.apCount (s : State) (k ap : Nat) : Nat := if ap = 0xFF then 0 else s.pair (rk k ap)

/-- Start a run (07 R186, 09 Table ISA-17). -/
def State.runStart (s : State) (delayed : Bool) : State :=
  match s.gd.hdr with
  | none => s
  | some h =>
    let arrived := s.apCount R.HIF_AP_ARRIVED_LO h.inAp % 2 ^ 32
    let p : Pod := { uid := 0, slot := 0, ctx := 0, pc := h.entry, vregs := 255, serial := s.gd.starts, gens := (List.range 32).map genSeed }
    let p := ((((p.sput 0 (s.pair R.GD_VSEQ_LO)).sput 1 arrived).sput 2 (s.apCount R.HIF_AP_CONSUMED_LO h.inAp)).sput 3 h.stateOff).sput 4 s.gWarm
    let lanes := (List.range 32).foldl (fun m l => m.write (l * 4) (leBytes 4 l)) (Mem.mk [] [])
    { (s.setG G.RUNNING).perf 0x11 0 1 with gd := { s.gd with pod := some p, vrf := lanes, arrived := arrived, delayed := delayed, starts := s.gd.starts + 1 } }

/-- On entering IDLE: a pending wake starts a run (07 R186); while a self-test runs the wake stays held (R196). -/
def State.enterIdle (s : State) : State :=
  let s := s.setG G.IDLE
  if s.gPending && !s.bit R.GD_ST_STATUS 0 then (s.setPendingWake false).runStart false else s

/-- A wake (07 R186, R196). -/
def State.wake (s : State) : State :=
  let st := s.gState
  if !s.on D.GD then s
  else if st = G.DISARMED || st = G.FAILED then s.inc R.GD_WAKE_MERGE_COUNT
  else if s.gPending then s.inc R.GD_WAKE_MERGE_COUNT
  else if st = G.IDLE then (s.setPendingWake true).enterIdle
  else s.setPendingWake true

/-- Enter ARMING (07 R183). -/
def State.beginArm (s : State) (h : GHdr) (pkt : Nat) : State :=
  let s := { s with gd := { s.gd with hdr := some h, arming := some pkt, watchdog := false } }
  let s := s.sramZero h.stateOff h.stateSize
  ((s.setG G.ARMING).setRegN R.GD_MAX_RUN_CYCLES 0).settlePin

/-- Start the MAC signature test (07 R195). -/
def State.beginTest (s : State) (pkt : Nat) : State :=
  { s with gd := { s.gd with testPkt := some pkt, waitTest := none } }.setBits R.GD_ST_STATUS 1

/-- Does a self-test fit before the watchdog can expire (07 R195)? -/
def State.testFits (s : State) : Bool :=
  15000 + (s.gd.hdr.map (·.bound)).getD 0 ≤ s.field R.GD_STALE_LIMIT 7 0 * s.field R.GD_PERIOD 23 0

/-- A self-test that is not allowed is skipped (07 R195). -/
def State.skipTest (s : State) (pkt : Nat) : State :=
  ({ s with gd := { s.gd with waitTest := none } }.setBits R.GD_ST_STATUS 8 |>.inc R.GD_ST_SKIP_COUNT).finish52 pkt 0

/-- The header at an offset of guard SRAM (07 Table GRD-3). -/
def parseGHdr (off : Nat) (b : List Byte) : GHdr where
  off := off
  bound := fieldAt b 0x08 4
  entry := fieldAt b 0x0C 4
  codeOff := fieldAt b 0x10 4
  codeSize := fieldAt b 0x14 4
  stateOff := fieldAt b 0x18 4
  stateSize := fieldAt b 0x1C 4
  crc := fieldAt b 0x20 4
  inAp := fieldAt b 0x24 1
  consume := fieldAt b 0x28 4

/-- Do a header's regions break reason 2 of Table GRD-4? Where the header itself lies the table does not ask (notes/assumptions/51.md). -/
def GHdr.badRegions (h : GHdr) : Bool :=
  h.codeOff % 256 ≠ 0 || h.codeSize % 256 ≠ 0 || h.stateOff % 256 ≠ 0 || h.stateSize % 256 ≠ 0 || h.entry % 8 ≠ 0 ||
    sramSize < h.codeOff + h.codeSize || sramSize < h.stateOff + h.stateSize || h.entry < h.codeOff || h.codeOff + h.codeSize < h.entry + 8 ||
    (h.stateSize ≠ 0 && overlaps h.codeOff h.codeSize h.stateOff h.stateSize)

/-- The first failing condition of Table GRD-4. -/
def State.armRefusal (s : State) (b : List Byte) (h : GHdr) : Option Nat × State :=
  if fieldAt b 0 4 ≠ 0x47445631 || fieldAt b 4 2 ≠ 1 || fieldAt b 6 2 ≠ 0 || fieldAt b 0x25 3 ≠ 0 || fieldAt b 0x2C 20 ≠ 0 then (some 1, s)
  else if h.badRegions then (some 2, s)
  else if h.bound = 0 || s.field R.GD_PERIOD 23 0 < h.bound then (some 3, s)
  else
    let (c, s) := s.codeCrc h
    (if c ≠ h.crc then some 4
     else if 15 < h.inAp && h.inAp ≠ 0xFF then some 5
     else if (s.gState = G.RESTARTING || s.gState = G.FAILED) && s.gd.hdr.isSome then some 6
     else none, s)

/-- Refuse an ARM (07 R182). -/
def State.refuseArm (s : State) (r pkt : Nat) : State :=
  (((s.setRegN R.GD_ARM_STATUS r).inc R.GD_ARM_REFUSE_COUNT).event 1 [tagGF]).finish52 pkt 0x22

/-- Check the header at an offset and arm it, or refuse (07 R182, R183); `held` is what follows a refusal. -/
def State.tryArm (s : State) (off pkt : Nat) (held : State → State) : State :=
  let (b, s) := s.sramRead2 off 64
  let h := parseGHdr off b
  match s.armRefusal b h with
  | (some r, s) => held (s.refuseArm r pkt)
  | (none, s) => s.beginArm h pkt

/-- A run has published: what waited for that happens (07 R183, R186, R195); then IDLE. -/
def State.afterPublish (s : State) : State :=
  let s := { s with gd := { s.gd with pod := none } }.setG G.IDLE
  let s := match s.gd.waitTest with | some p => s.beginTest p | none => s
  match s.gd.waitDisarm with
  | some p => ({ s with gd := { s.gd with waitDisarm := none } }.disarm).finish52 p 0
  | none =>
    match s.gd.waitArm with
    | some (off, p) => { s with gd := { s.gd with waitArm := none } }.tryArm off p (fun s => s.enterIdle.settlePin)
    | none => s.enterIdle.settlePin

/-- A run fault (07 R194, steps 1 and 2): RESTARTING, the pin low, an onion. No run is in progress any more, so a DISARM that waits takes
effect (Table GRD-7), and an ARM that waits meets RESTARTING (R182, R183). -/
def State.guardFault (s : State) (detail : Nat) (va : Option Nat) : State :=
  let s := { s with gd := { s.gd with pod := none, watchdog := false } }
  let s := (s.setG G.RESTARTING).settlePin
  let s := (s.guardOnion detail 32 va).2
  match s.gd.waitDisarm with
  | some p => ({ s with gd := { s.gd with waitDisarm := none } }.disarm).finish52 p 0
  | none =>
    match s.gd.waitArm with
    | some (off, p) => { s with gd := { s.gd with waitArm := none } }.tryArm off p id
    | none => s

end Sys2Proof.Machine
end

