-- ==== Sys2Proof/Machine/Issue.lean ====
section
/-! DEFINITION. Issue of one instruction (08 R205 to R211, R216; 09 R231 to R240, R261 to R263): fetching the word at the pod's PC, what
makes the instruction illegal, what holds it, predication, traps, and the guard core's cycle account. -/

namespace Sys2Proof.Machine

/-- Who makes the accesses of a pod on core c. -/
def podWho (c : Nat) (p : Pod) : RemWho := ⟨c, c, p.ctx, p.pkt, none⟩

/-- A fault in the work of a pod on core c (04 R111, 08 "Traps"): it fails the job of the pod's packet. -/
def State.podFault (s : State) (c : Nat) (p : Pod) (cause detail : Nat) (va : Option Nat) : State :=
  match p.pkt with
  | some id => s.pktFault id ⟨c, cause, detail, va⟩ 0x80
  | none => s

/-- A trap of the guard core ends the run (09 R261), when its counters have reached 0 (08 R216): past BOUND_CYCLES the run ends at the bound
(07 R187). -/
def State.guardTrap (s : State) : State :=
  match s.gd.pod, s.gd.hdr with
  | some p, some h => s.guardFault (if h.bound < (p.tm.sb.flatMap id).foldl max 0 then 0x61 else 0x30) none
  | _, _ => s.guardFault 0x30 none

/-- A trap that an instruction raises (08 R216, Table COR-7); one that finds another of its pod waiting is entered after it (notes/assumptions/75.md). -/
def State.trap (s : State) (r : PodRef) (t : Trap) : State :=
  match r with
  | .guard => s.guardTrap
  | .slot _ _ => s.modPod r (fun p => if p.trap.isSome then { p with lateTraps := p.lateTraps ++ [t] } else { p with trap := some t })

/-- What reading an instruction word comes to: the word, a wait for the host link, or a fault that has been taken. -/
inductive Fetched where
  | word (w : Nat)
  | wait
  | failed
deriving DecidableEq, Repr

/-- The line of the instruction cache of core c that holds an address (08 R225, 09 R239). -/
def Core.icLine (co : Core) (ctx a : Nat) : Option (List Byte) :=
  (co.icache.find? (fun l => l.1 == ctx && l.2.1 == a / 128)).map (·.2.2)

/-- Put a line into the instruction cache of core c (32 KiB). -/
def State.icFill (s : State) (c ctx a : Nat) (d : List Byte) : State :=
  let (l, s) := insertFree s 256 (s.core c).icache (ctx, a / 128, d)
  s.modCore c (fun co => { co with icache := l })

/-- Read the 8-byte word at an address of a pod's code. -/
def State.fetch (s : State) (r : PodRef) (p : Pod) (a : Nat) : Fetched × State :=
  match r with
  | .guard =>
    match s.gd.hdr with
    | none => (.wait, s)
    | some h =>
      if a < h.codeOff || h.codeOff + h.codeSize < a + 8 then (.failed, s.guardFault 0x31 none)
      else match s.gRead a 8 with
        | (.ok b, s) => (.word (leNat b), s)
        | (.error d, s) => (.failed, s.guardFault d (some a))
  | .slot c _ =>
    match (s.core c).icLine p.ctx a with
    | some d => (.word (fieldAt d (a % 128) 8), s)
    | none =>
      match s.vread (podWho c p) (a / 128 * 128) 128 with
      | (.ok d, s) => (.word (fieldAt d (a % 128) 8), s.icFill c p.ctx a d)
      | (.error v, s) =>
        if v.e.cause = C.HOST_WAIT then (.wait, s) else (.failed, (s.modPod r (fun q => { q with dead := true })).podFault c p v.e.cause v.e.detail (some v.va))

/-- Is an instruction one of latency class M, or LKWAIT, UNLK, PIXLOCK or PIXUNLK (09 R255)? -/
def memClass (op : Nat) : Bool := clsOf op == .m || op == 0x82 || op == 0x83 || op == 0xB0 || op == 0xB1

/-- Does an instruction always write guard SRAM when it acts (09 R262, R264)? LKWAIT and UNLK write when a lock changes. -/
def guardWrites (op : Nat) : Bool := op == 0x71 || op == 0x73 || op == 0x80 || op == 0xA0

/-- Does an instruction act on the effective mask (09 R240)? EXIT does (R241); control, branches, scalar instructions, SLD and SST execute
once per pod. -/
def laneOp (op : Nat) : Bool := op == 0x01 || (0x30 ≤ op && op ≠ 0x72 && op ≠ 0x73)

/-- The keys of a scalar code: PREDS names all eight predicates (keys 512 up). -/
def scalarKeys (c : Nat) : List Nat := if c = 0x88 then (List.range 8).map (512 + ·) else [256 + c]

/-- The keys that an instruction writes with its latency (08 R208, 09 R233). -/
def destKeys (op : Nat) (i : Ins) : List Nat :=
  let (d, _, _, _) := kindsOf op i
  let dst := match d with
    | .v n => (List.range n).map (i.d + ·) |>.filter (· ≠ 255)
    | .s _ true => if op = 0x2F then [256 + i.d, 257 + i.d] else scalarKeys i.d
    | .sr n => (List.range n).map (256 + i.d + ·)
    | _ => []
  if op = 0x71 || op = 0x73 || op = 0x91 || op = 0x11 || op = 0x12 then []
  else if op = 0x2E then [512 + i.d % 8]
  else if op = 0x01 then [256 + 0x80]
  else if op = 0x82 || op = 0x83 then [256 + 0x80, 256 + i.d]
  else dst

/-- The keys that an instruction reads or writes (08 R208, 09 R233): its operands, m0 where it acts on the effective mask, and its predicate. -/
def allKeys (op : Nat) (i : Ins) : List Nat :=
  (keysOf op i).flatMap (fun k => if k = 256 + 0x88 then scalarKeys 0x88 else [k]) ++ destKeys op i ++
    (if laneOp op then [256 + 0x80] else []) ++ (if i.pe then [512 + i.preg.toNat] else [])

/-- Does a predicate let an instruction execute (09 R234)? -/
def predOk (p : Pod) (i : Ins) : Bool := !i.pe || (p.preds.testBit i.preg.toNat != i.pn)

/-- Issue distance in cycles (09 Table ISA-3a). -/
def distOf (d : Nat) : Nat := if d < 8 then d + 1 else [10, 12, 16, 20, 24, 32, 40, 64].getD (d - 8) 64

/-- Fixed latency of a class (09 Tables ISA-4, R262). -/
def latOf (op : Nat) : Nat :=
  match clsOf op with
  | .s => 2
  | .v => 4
  | .t => 8
  | .d => 16
  | .f64 => 40
  | .f64l => 160
  | .m => 6
  | .h => 0

/-- The earliest cycle at which a counter with these completions is below 63 (08 R206). -/
def sbRoom (l : List Nat) : Nat :=
  if l.length < 63 then 0 else ((l.filter (fun c => (l.filter (c < ·)).length < 63)).min?).getD 0

/-- The cycle in which the guard core issues an instruction (08 R206, 09 R232, R233, R255): an instruction whose predicate fails waits for
its counters only (R234). -/
def Pod.issueAt (p : Pod) (op : Nat) (i : Ins) : Nat :=
  let t := p.tm
  let waits := (setBits 6 i.wait.toNat).map (fun k => (t.sb.getD k []).foldl max 0)
  let keys := if predOk p i then allKeys op i else if i.pe then [512 + i.preg.toNat] else []
  let pend := (t.pend.filter (fun e => keys.contains e.1)).map (·.2)
  let go := predOk p i
  (waits ++ pend ++
    (if go && i.inc.toNat < 6 then [sbRoom (t.sb.getD i.inc.toNat [])] else []) ++
    (if go && memClass op then [t.fence] else []) ++
    (if go && (clsOf op == .f64 || clsOf op == .f64l) then [t.f64] else [])).foldl max t.nxt

/-- The keys that an instruction reads or writes if its predicate lets it, else that of its predicate (09 R234). -/
def Pod.keysNow (p : Pod) (op : Nat) (i : Ins) : List Nat := if predOk p i then allKeys op i else if i.pe then [512 + i.preg.toNat] else []

/-- The cycle in which a shader core comes to a pod's next instruction (08 R206): its issue distance and the counters that it waits on have passed, and what
the other pods and operations of variable latency cost it, which is free (notes/assumptions/19.md). -/
def Pod.arrive (p : Pod) (i : Ins) : Nat :=
  ((Machine.setBits 6 i.wait.toNat).map (fun k => (p.tm.sb.getD k []).foldl max 0)).foldl max (p.tm.nxt + Config.issueDelay p.uid p.tm.n)

/-- The cycle in which an instruction issues. -/
def Pod.issueCycle (p : Pod) (r : PodRef) (op : Nat) (i : Ins) : Nat :=
  match r with
  | .guard => p.issueAt op i
  | .slot _ _ => p.arrive i

/-- Does an instruction of fixed latency still keep pending, in cycle t, a register that an instruction reads or writes (09 R233)? -/
def Pod.fixedHazard (p : Pod) (op : Nat) (i : Ins) (t : Nat) : Bool := p.tm.pend.any (fun e => t < e.2 && (p.keysNow op i).contains e.1)

/-- The value in cycle t of a counter of a pod on a shader core: operations of variable latency, and instructions of fixed latency (08 R207, 09 R232). -/
def Pod.sbAt (p : Pod) (k t : Nat) : Nat := p.sb.getD k 0 + ((p.tm.sb.getD k []).filter (t < ·)).length

/-- The pod once the fixed latencies that hold an instruction have ended. -/
def Pod.waited (p : Pod) (op : Nat) (i : Ins) : Pod :=
  let regs := (p.tm.pend.filter (fun e => (p.keysNow op i).contains e.1)).map (·.2)
  { p with tm := { p.tm with nxt := (regs ++ p.tm.sb.getD i.inc.toNat []).foldl max p.tm.nxt } }

/-- The value of CYCLES that an instruction reads (09 Table ISA-5): the cycle of its issue. -/
def State.cycles (s : State) (r : PodRef) (p : Pod) (op : Nat) (i : Ins) : Nat × State :=
  if (keysOf op i).contains (256 + 0x89) then (p.issueCycle r op i % 2 ^ 32, s) else (0, s)

/-- A 32-bit scalar operand (09 R231, R236). -/
def Pod.sv (p : Pod) (i : Ins) (cyc c : Nat) : Nat := if c = 0xFF then i.ext.toNat % 2 ^ 32 else if c = 0x89 then cyc else p.sget c

/-- A 64-bit scalar operand (09 R231, R236). -/
def Pod.sv64 (p : Pod) (i : Ins) (c : Nat) : Nat := if c = 0xFF then i.ext.toNat else p.sget c + p.sget (c + 1) * 2 ^ 32

/-- The account after an instruction that issued in cycle t and completes after `lat` cycles (0: at issue). One whose predicate fails only takes its
issue cycle (09 R234). -/
def Pod.account (p : Pod) (op : Nat) (i : Ins) (t lat : Nat) : Pod :=
  let m := p.tm
  let go := predOk p i
  let hold := if go && (op = 0x82 || op = 0x83) then t + lat else 0
  { p with tm := { m with
    nxt := max (t + distOf i.dist.toNat) hold
    sb := if lat = 0 || i.inc.toNat ≥ 6 then m.sb else m.sb.modify i.inc.toNat (fun l => (t + lat) :: l.filter (t < ·))
    pend := (if lat = 0 then [] else (destKeys op i).map (fun k => (k, t + lat))) ++ m.pend.filter (fun e => t < e.2)
    f64 := if go && (clsOf op == .f64 || clsOf op == .f64l) then t + 32 else m.f64
    busy := if guardWrites op && lat ≠ 0 then max m.busy (t + lat) else m.busy
    fence := if go && op = 0x05 then t + lat else m.fence
    n := m.n + 1 } }

/-- The latency that the account of a pod takes of an instruction: on a shader core operations of variable latency, FENCE and what holds the pod's issue keep
their own account (08 R207, R229). -/
def latHere (r : PodRef) (op lat : Nat) : Nat :=
  match r with
  | .guard => lat
  | .slot _ _ => if clsOf op == .m || clsOf op == .h || op == 0x05 then 0 else lat

/-- What an instruction's own effect comes to: a next state with its latency on the guard core; a hold for line requests, which is counted
(08 R209), for query slots, which is counted at the ray traversal unit (13 R323), or for the tensor queue, which is not (11 R289); or an event that
cannot come about. -/
inductive Body where
  | done (s : State) (lat : Nat)
  | full
  | slots
  | held
  | wait
deriving Repr

/-- The counters of a core are at this offset of its channel. -/
def State.incCore (s : State) (r : PodRef) (off n : Nat) : State :=
  match r with
  | .guard => s
  | .slot c _ => s.bump (rk off c) n

/-- A pod stays held; the hold is counted once for its next instruction (08 R207 to R209). -/
def State.holdOnce (s : State) (r : PodRef) (p : Pod) (off : Nat) : State :=
  if p.stalled.contains off then s else (s.modPod r (fun p => { p with stalled := off :: p.stalled })).incCore r off 1

/-- A RAYQ finds too few query slots; its ray traversal unit counts the hold once (13 R323). -/
def State.holdSlots (s : State) (r : PodRef) (p : Pod) : State :=
  match r with
  | .guard => s
  | .slot c _ =>
    if p.stalled.contains R.RTU_SLOT_FULL_COUNT then s
    else (s.modPod r (fun p => { p with stalled := R.RTU_SLOT_FULL_COUNT :: p.stalled })).inc (rk R.RTU_SLOT_FULL_COUNT (c / 2))

/-- Is an opcode of the memory group (09 Table ISA-14)? -/
def memGroup (op : Nat) : Bool := (0x70 ≤ op && op ≤ 0x73) || op == 0x80 || op == 0x82 || op == 0x83 || (0x90 ≤ op && op ≤ 0x92)

/-- Does a memory instruction work in tile store, so that it needs no line request? -/
def tileOp (op : Nat) (i : Ins) : Bool := (0x90 ≤ op && op ≤ 0x92) || ((op == 0x82 || op == 0x83) && i.m.testBit 0)

/-- Has a core of a pod room for a memory instruction: fewer than 256 line requests outstanding (08 R206)? -/
def State.lineRoom (s : State) (r : PodRef) (op : Nat) : Bool :=
  match r with
  | .guard => true
  | .slot c _ => !memGroup op || (s.core c).lines.length < 256

/-- A memory instruction finds 256 line requests outstanding: it waits, which is counted for one that needs line requests (08 R206, R209). -/
def State.holdLines (s : State) (r : PodRef) (p : Pod) (op : Nat) (i : Ins) : State :=
  if tileOp op i || (laneOp op && p.m0 = 0) then s else s.holdOnce r p R.CORE_MEMQ_FULL_COUNT

/-- What an instruction does whose effective mask is 0 (09 R240): nothing for any lane; a compare writes a mask of zeros (R246), and LKWAIT clears
md (R254). -/
def Pod.noLanes (q : Pod) (op : Nat) (i : Ins) : Pod :=
  if op = 0x3E || op = 0x49 || op = 0x57 then q.sput i.d 0
  else if op = 0x82 then q.mput (i.d - 0x80) 0
  else q

/-- A fault of an instruction that is not performed: its pod issues nothing more. -/
def State.podStop (s : State) (r : PodRef) (c : Nat) (p : Pod) (cause detail : Nat) (va : Option Nat) : State :=
  (s.modPod r (fun q => { q with dead := true })).podFault c p cause detail va

/-- An illegal instruction (09 R238). -/
def State.illegalFault (s : State) (r : PodRef) (p : Pod) (detail : Nat) : State :=
  match r with
  | .guard => s.guardFault 0x31 none
  | .slot c _ => s.podStop r c p C.ILLEGAL_INSTR detail (some p.pc)

/-- Is a pod ready but for its operands (08 R206, R216, R229): its clock runs (16 R392), no trap, barrier or interlock holds it, a pea can run, its job is not stopped,
the counters that the instruction waits on are 0, and no fence holds a memory instruction? -/
def State.podReady (s : State) (r : PodRef) (p : Pod) (op : Nat) (i : Ins) : Bool :=
  s.rootLock && p.runnable ≠ 0 &&
    (match r with
     | .guard => s.gState == G.RUNNING && (match s.gd.hdr with | some h => p.issueAt op i < h.bound | none => false)
     | .slot _ _ => p.trap.isNone && p.bar.isNone && !p.dead && p.pixWant == 0 && (Machine.setBits 6 i.wait.toNat).all (fun k => p.sb.getD k 0 == 0) &&
         !(memClass op && !p.fences.isEmpty))

/-- One more instruction issued by the core. -/
def State.issueCount (s : State) (r : PodRef) (ctx : Nat) : State :=
  match r with
  | .guard => s
  | .slot c _ => (s.bumpPair (rk R.CORE_ISSUE_COUNT_LO c) 1).perfCtx 3 ctx 1

/-- Issue an instruction that has been fetched and is legal: what holds it, its predicate, its registers, then its effect on the state in
which the pod's PC has moved on. -/
def issueGo (ev : String) (op : Nat) (r : PodRef) (i : Ins) (s : State) (p : Pod) (t : Nat) (body : State → Pod → Nat → Body) : Out :=
  let go := predOk p i
  let shader := r != .guard
  let next := p.pc + insLen op i
  let move := fun (s : State) => (s.modPod r (fun q => { q with pc := next, stalled := [] })).issueCount r p.ctx
  let close := fun (s : State) (lat : Nat) => s.modPod r (fun q => q.account op i t (latHere r op lat))
  let wait := fun (s : State) => s.modPod r (fun q => q.waited op i)
  if shader && ((p.keysNow op i).any p.pend.contains || p.fixedHazard op i t) then .next (wait (s.holdOnce r p R.CORE_HAZARD_COUNT))
  else if shader && go && i.inc.toNat < 6 && 63 ≤ p.sbAt i.inc.toNat t then .next (wait (s.holdOnce r p R.CORE_SB_FULL_COUNT))
  else if !go then .next (close (move s) 0)
  else if !s.lineRoom r op then .next (s.holdLines r p op i)
  else if laneOp op && p.m0 = 0 then .next (close ((move s).modPod r (fun q => q.noLanes op i)) 0)
  else match regRange p.vregs op i with
    | some n => .next ((move s).trap r { cause := 4, detail := n, lanes := if laneOp op then p.m0 else 0, pc := p.pc, resume := p.pc })
    | none =>
      match body (move s) p p.m0 with
      | .done s lat => .next (if op = 0x06 then s else close s lat)
      | .full => .next (s.holdOnce r p R.CORE_MEMQ_FULL_COUNT)
      | .slots => .next (s.holdSlots r p)
      | .held => .next s
      | .wait => never ev
/-- Issue an instruction of a pod: the word at its PC must spell it. A word whose opcode is not defined makes any issue of the pod illegal
(09 R238). -/
def issue (ev : String) (op : Nat) (r : PodRef) (i : Ins) (s : State) (body : State → Pod → Nat → Body) : Out :=
  match s.pod? r with
  | none => never ev
  | some p =>
    if !s.podReady r p op i then never ev
    else
      let t := p.issueCycle r op i
      match s.fetch r p p.pc with
      | (.wait, u) => s.waitOr u ev
      | (.failed, s) => .next s
      | (.word w, s) =>
        if !opDefined (bits w 49 42) then .next (s.illegalFault r p 1)
        else if w ≠ insWord op i then never ev
        else if insLen op i = 8 then
          (match illegal (r == .guard) p.pixel op i with
           | some d => .next (s.illegalFault r p d)
           | none => issueGo ev op r i s p t body)
        else match s.fetch r p (p.pc + 8) with
          | (.wait, u) => s.waitOr u ev
          | (.failed, s) => .next s
          | (.word x, s) =>
            if x ≠ i.ext.toNat then never ev
            else match illegal (r == .guard) p.pixel op i with
              | some d => .next (s.illegalFault r p d)
              | none => issueGo ev op r i s p t body

end Sys2Proof.Machine
end

