-- ==== Sys2Proof/Machine/CoreMem.lean ====
section
/-! DEFINITION. Line requests of a shader core, L1, completion of operations with variable latency, and fences (08 R207, R209, R224 to
R229; 03 R59, R71). -/

namespace Sys2Proof.Machine

/-- A translated address moved on by n bytes within its line. -/
def XAddr.shift (x : XAddr) (n : Nat) : XAddr := if x.comp = 0 then { x with addr := x.addr + n } else { x with off := x.off + n }

/-- The right that a line request needs (03 Table XLT-6). -/
def LineKind.acc : LineKind → Acc
  | .load => .rd
  | .store _ => .wr
  | .atom _ => .atm

/-- First byte of a line request in its line and the byte after its last. -/
def LineReq.lo (l : LineReq) : Nat := (l.lanes.map (·.2)).foldl min 128
def LineReq.hi (l : LineReq) : Nat := (l.lanes.map (fun x => x.2 + l.size)).foldl max 0

/-- Who makes a line request. -/
def LineReq.who (l : LineReq) (c : Nat) : RemWho := ⟨c, c, l.ctx, l.pkt, some l.id⟩

/-- A fault of a line request: its operation never completes, and its packet's job fails. -/
def State.lineFault (s : State) (c : Nat) (l : LineReq) (e : MErr) : State :=
  match l.pkt with
  | some id => s.pktFault id ⟨c, e.cause, e.detail, some (l.va + l.lo)⟩ 0x80
  | none => s

/-- The L1 line of a translated line (08 R224). -/
def Core.l1Find (co : Core) (ctx : Nat) (x : XAddr) : Option L1Line := co.l1.find? (fun l => l.ctx == ctx && l.x == x)

/-- Write the dirty bytes of a line to L2 (08 R224); what L2 cannot take is lost, as no work awaits it (01 R503). -/
def State.l1Write (s : State) (c : Nat) (l : L1Line) : State :=
  if l.dirty.any id then
    let bs := (List.range 128).map (fun i => if l.dirty.getD i false then some (l.data.getD i 0) else none)
    ((s.writeAt ⟨c, c, l.ctx, none, none⟩ 0 bs false l.x).2).bump (rk R.CORE_WB_LINE_COUNT c) 1
  else s

/-- Take a line out of L1, writing its dirty bytes to L2. -/
def State.l1Evict (s : State) (c : Nat) (l : L1Line) : State :=
  (s.modCore c (fun co => { co with l1 := co.l1.filter (fun k => !(k.ctx == l.ctx && k.x == l.x)) })).l1Write c l

/-- Put a line into L1 (1,024 lines; the victim of a full cache is free). -/
def State.l1Put (s : State) (c : Nat) (l : L1Line) : State :=
  match (s.core c).l1Find l.ctx l.x with
  | some _ => s.modCore c (fun co => { co with l1 := co.l1.map (fun k => if k.ctx == l.ctx && k.x == l.x then l else k) })
  | none =>
    let s := if (s.core c).l1.length < 1024 then s
      else
        let (v, s) := s.draw
        match (s.core c).l1[v % 1024]? with
        | some k => s.l1Evict c k
        | none => s
    s.modCore c (fun co => { co with l1 := l :: co.l1 })

/-- Does L1 hold every byte of [lo, hi) of a line? -/
def L1Line.holds (l : L1Line) (lo hi : Nat) : Bool :=
  l.full || (List.range (hi - lo)).all (fun i => l.dirty.getD (lo + i) false)

/-- The 128 bytes of a CACHED line as the core sees them: L1 allocates on a read (03 Table XLT-7). -/
def State.l1Load (s : State) (c : Nat) (w : RemWho) (va : Nat) (x : XAddr) (lo hi : Nat) : Except MErr (List Byte) × State :=
  let old := (s.core c).l1Find w.ctx x
  match old with
  | some l =>
    if l.holds lo hi then (.ok l.data, s)
    else match s.readAt w va 128 x with
      | (.error e, s) => (.error e, s)
      | (.ok d, s) =>
        let m := (List.range 128).map (fun i => if l.dirty.getD i false then l.data.getD i 0 else d.getD i 0)
        (.ok m, s.l1Put c { l with data := m, full := true })
  | none =>
    match s.readAt w va 128 x with
    | (.error e, s) => (.error e, s)
    | (.ok d, s) => (.ok d, s.l1Put c ⟨w.ctx, x, d, List.replicate 128 false, true⟩)

/-- A store to a CACHED line: L1 holds it as dirty bytes. -/
def State.l1Store (s : State) (c ctx : Nat) (x : XAddr) (bs : List (Option Byte)) : State :=
  let l := ((s.core c).l1Find ctx x).getD ⟨ctx, x, List.replicate 128 0, List.replicate 128 false, false⟩
  s.l1Put c { l with
    data := (List.range 128).map (fun i => (bs.getD i none).getD (l.data.getD i 0))
    dirty := (List.range 128).map (fun i => l.dirty.getD i false || (bs.getD i none).isSome) }

/-- Write dirty lines to L2 and keep the lines as clean. A line that L1 holds only in part leaves it. -/
def State.l1CleanBy (s : State) (c : Nat) (sel : L1Line → Bool) : State :=
  let dirty := (s.core c).l1.filter (fun l => sel l && l.dirty.any id)
  let s := dirty.foldl (fun s l => s.l1Write c l) s
  s.modCore c (fun co => { co with l1 := (co.l1.filter (fun l => !sel l || l.full)).map (fun l =>
    if sel l then { l with dirty := List.replicate 128 false } else l) })

/-- Write every dirty line of a context to L2 (08 R225). -/
def State.l1Clean (s : State) (c ctx : Nat) : State := s.l1CleanBy c (fun l => l.ctx == ctx)

/-- Invalidate the clean lines of a context (08 R225, Table COR-9). -/
def State.l1Drop (s : State) (c ctx : Nat) : State :=
  s.modCore c (fun co => { co with l1 := co.l1.filter (fun l => l.ctx ≠ ctx || l.dirty.any id) })

/-- Translate an access of a core: the answer, or none when it waits for a walk (03 R59, R80). -/
def State.coreXlate (s : State) (c ctx va : Nat) (k : Acc) : Option (Except MErr XAddr) × State :=
  if 2 ^ 48 ≤ va then (some (.error ⟨C.XLT_VA_RANGE, 0, 0⟩), s.xltFault c ctx va ⟨C.XLT_VA_RANGE, 0, 0⟩)
  else match s.tlbFind c ctx va with
    | some t =>
      match s.useErr t k with
      | some e => (some (.error e), s.xltFault c ctx va e)
      | none => (some (.ok (t.apply va)), s)
    | none =>
      let s := s.countWalk c ctx
      (none, { s with mmu := { s.mmu with walks := s.mmu.walks ++ [⟨c, ctx, va, 0⟩] } })

/-- Replace a line request. -/
def State.putLine (s : State) (c : Nat) (l : LineReq) : State :=
  s.modCore c (fun co => { co with lines := co.lines.map (fun k => if k.id = l.id then l else k) })

/-- Take a line request away. -/
def State.dropLine (s : State) (c id : Nat) : State := s.modCore c (fun co => { co with lines := co.lines.filter (·.id ≠ id) })

/-- What a line request asks a remote node, from its first byte on: one packet (15 R376, Table FAB-3). -/
def LineReq.remOp (l : LineReq) : RemOp :=
  match l.kind with
  | .load => .rd (l.hi - l.lo)
  | .store bs => .wr ((bs.drop l.lo).take (l.hi - l.lo))
  | .atom ops => .atm ((l.lanes.zip ops).map (fun (y : (Nat × Nat) × AtomOp) => (y.1.2 - l.lo, y.2)))

/-- Do two ranges of bytes meet in one lane of two line requests of a pod (08 R227)? -/
def LineReq.after (l k : LineReq) : Bool :=
  k.uid == l.uid && k.ctx == l.ctx && k.va == l.va && k.lanes.any (fun a => l.lanes.any (fun b => a.1 == b.1 && overlaps a.2 k.size b.2 l.size))

/-- Must a line request wait for an earlier one of its pod (08 R227)? -/
def State.lineWaits (s : State) (c : Nat) (l : LineReq) : Bool := ((s.core c).lines.takeWhile (·.id ≠ l.id)).any l.after

/-- A line request whose translation names a remote node makes its request, once no earlier one must precede it. -/
def State.askRemote (s : State) (c : Nat) (l : LineReq) : State :=
  match l.x with
  | some x =>
    match x.dest with
    | .remote node =>
      if !l.asks.isEmpty || s.lineWaits c l then s
      else
        let id := s.fab.nextReq
        match s.remote (l.who c) (l.va + l.lo) node (x.addr + l.lo) l.remOp with
        | (.error e, s) => (s.dropLine c l.id).lineFault c l e
        | (.ok none, s) => s.putLine c { l with asks := [id] }
        | (.ok (some b), s) =>
          -- a loopback takes a request number of its own
          { s with fab := { s.fab with nextReq := id + 1 } }.putLine c { l with asks := [id], ans := [(id, b)] }
    | _ => s
  | none => s

/-- The line requests of a core that waited for earlier ones of their pods leave for their nodes. -/
def State.askRemotes (s : State) (c : Nat) : State :=
  ((s.core c).lines.map (·.id)).foldl (fun s id =>
    match (s.core c).lines.find? (·.id == id) with
    | some l => s.askRemote c l
    | none => s) s

/-- A line request has its translation: it counts at L1 (08 R228) or leaves for the remote node. -/
def State.lineGo (s : State) (c : Nat) (l : LineReq) (x : XAddr) : State :=
  let l := { l with x := some x }
  match x.dest with
  | .remote _ => (s.putLine c l).askRemote c l
  | _ =>
    let s := s.putLine c l
    match l.kind with
    | .atom _ => s
    | _ =>
      if x.cache = 0 then
        let hit := match (s.core c).l1Find l.ctx x with | some k => k.holds l.lo l.hi | none => false
        if hit then s.bump (rk R.CORE_L1_HIT_COUNT c) 1 else (s.bump (rk R.CORE_L1_MISS_COUNT c) 1).perfCtx 4 l.ctx 1
      else s

/-- A line request leaves the pod: it is translated at its line (08 R228). -/
def State.lineStart (s : State) (c : Nat) (l : LineReq) : State :=
  let s := (s.bump (rk R.CORE_LINE_REQ_COUNT c) 1).modCore c (fun co => { co with lines := co.lines ++ [l] })
  match s.coreXlate c l.ctx (l.va + l.lo) l.kind.acc with
  | (none, s) => s
  | (some (.ok x), s) => s.lineGo c l (if x.comp = 0 then { x with addr := x.addr - l.lo } else { x with off := x.off - l.lo })
  | (some (.error e), s) => (s.dropLine c l.id).lineFault c l e

/-- Perform atomics of a line one after another in lane order (08 R226, 09 R253): the old values. -/
def State.lineAtoms (s : State) (w : RemWho) (va : Nat) (x : XAddr) : List (Nat × AtomOp) → Except MErr (List Nat) × State
  | [] => (.ok [], s)
  | (off, o) :: t =>
    match s.atomAt w (va + off) o (x.shift off) with
    | (.error e, s) => (.error e, s)
    | (.ok v, s) =>
      match s.lineAtoms w va x t with
      | (.error e, s) => (.error e, s)
      | (.ok vs, s) => (.ok (v :: vs), s)

/-- Why a translated line can not be reached in local memory, be it held by L1 or not (01 R27). -/
def State.lineErr (s : State) (l : LineReq) (x : XAddr) : Option MErr :=
  match x.dest with
  | .loc => if x.comp = 0 then s.rangeErr (x.addr + l.lo) (l.hi - l.lo) else s.rangeErr x.addr (codedSize x.comp)
  | _ => none

/-- The L1 lines of the core that hold a line, whatever context they are of (08 R226). -/
def Core.l1Copies (co : Core) (x : XAddr) : List L1Line :=
  co.l1.filter (fun k => k.x.dest == x.dest && k.x.addr == x.addr && k.x.off == x.off && k.x.comp == x.comp)

/-- Write back and invalidate every L1 copy of a line on a core. -/
def State.l1Purge (s : State) (c : Nat) (x : XAddr) : State := ((s.core c).l1Copies x).foldl (fun s k => s.l1Evict c k) s

/-- Perform a line request: the value each lane receives. -/
def State.linePerform (s : State) (c : Nat) (l : LineReq) (x : XAddr) : Except MErr (List (Nat × Nat)) × State :=
  let w := l.who c
  let pick := fun (d : List Byte) (base : Nat) => l.lanes.map (fun y => (y.1, fieldAt d (y.2 - base) l.size))
  let got := ((l.ans.head?).map (·.2)).getD []
  match x.dest, l.kind with
  | .remote _, .load => (.ok (pick got l.lo), s)
  | .remote _, .store _ => (.ok [], s)
  | .remote _, .atom _ => (.ok (l.lanes.zipIdx.map (fun (y : (Nat × Nat) × Nat) => (y.1.1, fieldAt got (y.2 * l.size) l.size))), s)
  | _, k =>
    match s.lineErr l x, k with
    | some e, _ => (.error e, s)
    | none, .load =>
      (match (if x.cache = 0 then s.l1Load c w l.va x l.lo l.hi else s.readAt w (l.va + l.lo) (l.hi - l.lo) (x.shift l.lo)) with
       | (.error e, s) => (.error e, s)
       | (.ok d, s) => (.ok (pick d (if x.cache = 0 then 0 else l.lo)), s))
    | none, .store bs =>
      if x.cache = 0 then
        -- one that an invalidation waits for is made visible at L2 (03 R89, R91)
        let s := s.l1Store c l.ctx x bs
        (.ok [], if l.inv = 0 then s else s.l1CleanBy c (fun k => k.ctx == l.ctx && k.x == x))
      else (match s.writeAt w (l.va + l.lo) ((bs.drop l.lo).take (l.hi - l.lo)) false (x.shift l.lo) with
        | (.error e, s) => (.error e, s)
        | (.ok _, s) => (.ok [], s))
    | none, .atom ops =>
      match (s.l1Purge c x).lineAtoms w l.va x ((l.lanes.map (·.2)).zip ops) with
      | (.error e, s) => (.error e, s)
      | (.ok vs, s) => (.ok ((l.lanes.map (·.1)).zip vs), s)

/-- The pod of an operation, if it is still there. -/
def State.opPod (s : State) (c slot uid : Nat) : Option Pod := (s.core c).pods.find? (fun p => p.slot == slot && p.uid == uid)

/-- Has every write to host memory that a context's work on a core has made been sent on PCIe (08 Table COR-9, scope 4)? -/
def State.hostSent (s : State) (c ctx : Nat) : Bool :=
  s.hs.waiting.all (fun (w : HostWrite) => !(w.holder == c && w.tags.contains ctx))

/-- A pod's memory operations so far are complete: its fences complete (08 R229, Table COR-9, 09 R255); one of system scope when the writes to host memory
have been sent too. -/
def State.fencesDone (s : State) (c : Nat) (p : Pod) : State :=
  if (s.core c).ops.any (·.uid == p.uid) then s
  else if p.fences.any (fun f => f.1 == 4) && !s.hostSent c p.ctx then s
  else
    let s := if p.fences.any (fun f => 3 ≤ f.1) then (s.l1Clean c p.ctx).l1Drop c p.ctx else s
    s.modPod (.slot c p.slot) (fun q => { q with
      fences := [], sb := p.fences.foldl (fun sb f => sb.modify f.2 (· - 1)) q.sb })

/-- An operation with variable latency has completed (08 R207, R208). -/
def State.opDone (s : State) (c : Nat) (o : PodOp) : State :=
  let s := s.modCore c (fun co => { co with ops := co.ops.filter (·.id ≠ o.id) })
  match s.opPod c o.slot o.uid with
  | none => s
  | some _ =>
    let s := s.modPod (.slot c o.slot) (fun q => { q with
      sb := match o.sb with | some k => q.sb.modify k (· - 1) | none => q.sb
      pend := q.pend.filter (fun k => !o.pend.contains k) })
    match s.opPod c o.slot o.uid with
    | some q => if q.fences.isEmpty then s else s.fencesDone c q
    | none => s

/-- Fences that wait for writes to host memory complete when those have been sent (08 Table COR-9). -/
def State.fencesSettle (s : State) : State :=
  (List.range s.cores.length).foldl (fun s c =>
    ((s.core c).pods.filter (fun p => !p.fences.isEmpty)).foldl (fun s p => s.fencesDone c p) s) s

/-- A loaded value extended to 32 bits (09 R249). -/
def extend (size : Nat) (sext : Bool) (v : Nat) : Nat := if sext then ofInt 32 (asInt (8 * size) v) else v

/-- Write a memory access's value to a lane's registers. -/
def State.putLane (s : State) (r : PodRef) (p : Pod) (d lane size v : Nat) : State :=
  (List.range (ceilDiv size 4)).foldl (fun s k => s.vput r p (d + k) lane (v >>> (32 * k) % 2 ^ 32)) s

/-- Deliver the values of a line request to its operation's registers. -/
def State.deliver (s : State) (c : Nat) (o : PodOp) (vs : List (Nat × Nat)) : State :=
  match s.opPod c o.slot o.uid, o.kind with
  | some p, .mem d size sext scalar true =>
    let r := PodRef.slot c o.slot
    vs.foldl (fun s y =>
      if scalar then s.modPod r (fun q => if size = 8 then (q.sput d y.2).sput (d + 1) (y.2 >>> 32) else q.sput d y.2)
      else s.putLane r p d y.1 size (extend size sext y.2)) s
  | _, _ => s

/-- One line request or query of an operation is done. -/
def State.opStep (s : State) (c op : Nat) : State :=
  match (s.core c).ops.find? (·.id == op) with
  | none => s
  | some o =>
    if o.left ≤ 1 then s.opDone c o
    else s.modCore c (fun co => { co with ops := co.ops.map (fun k => if k.id = op then { k with left := k.left - 1 } else k) })

/-- Evict lines of L1 by position, and lines of L2 by address: caches may do so at any time. -/
def State.evictLines (s : State) (c : Nat) (l1 l2 : List Nat) : State :=
  let ls := l1.filterMap (fun i => (s.core c).l1[i]?)
  let s := ls.foldl (fun s l => if ((s.core c).l1Find l.ctx l.x).isSome then s.l1Evict c l else s) s
  l2.foldl (fun s a => ((if s.l2Has a then s.writeBack a else s)).writeBackC a) s

/-- Start the operation of an instruction with variable latency: its counter, its pending registers. -/
def State.opStart (s : State) (r : PodRef) (c : Nat) (p : Pod) (op : Nat) (i : Ins) (k : OpKind) (left : Nat) : Nat × State :=
  let id := s.qm.nextId
  let keys := destKeys op i
  let sb := if i.inc.toNat < 6 then some i.inc.toNat else none
  let s := { s with qm := { s.qm with nextId := id + 1 } }
  let s := s.modCore c (fun co => { co with ops := co.ops ++ [⟨id, p.uid, p.slot, sb, k, keys, left⟩] })
  (id, s.modPod r (fun q => { q with pend := q.pend ++ keys, sb := match sb with | some n => q.sb.modify n (· + 1) | none => q.sb }))

/-- Group lane addresses by 128-byte line in the order of the lowest lane that touches each (08 R228). -/
def groupLines (as : List (Nat × Nat)) : List (Nat × List (Nat × Nat)) :=
  ((as.map (fun a => a.2 / 128)).eraseDups).map (fun n => (n * 128, (as.filter (fun a => a.2 / 128 == n)).map (fun a => (a.1, a.2 % 128))))

/-- The bytes that a store writes in a line: where lanes name one byte, the highest lane's stands (08 R227). -/
def storeBytes (size : Nat) (lanes : List (Nat × Nat)) (val : Nat → Nat) : List (Option Byte) :=
  lanes.foldl (fun bs a => (leBytes size (val a.1)).zipIdx.foldl (fun bs (b, k) => bs.set (a.2 + k) (some b)) bs) (List.replicate 128 none)

/-- Issue the line requests of a memory instruction on a shader core (08 R209, R228); none when the core has too few free operations. -/
def State.memIssue (s : State) (r : PodRef) (c : Nat) (p : Pod) (op : Nat) (i : Ins) (size : Nat) (k : OpKind)
    (as : List (Nat × Nat)) (kind : List (Nat × Nat) → LineKind) : Option State :=
  let gs := groupLines as
  if 256 < (s.core c).lines.length + gs.length then none
  else
    let (id, s) := s.opStart r c p op i k gs.length
    some (gs.foldl (fun s g =>
      let n := s.qm.nextId
      { s with qm := { s.qm with nextId := n + 1 } }.lineStart c
        { id := n, op := id, uid := p.uid, ctx := p.ctx, pkt := p.pkt, va := g.1, size := size, lanes := g.2, kind := kind g.2 }) s)

end Sys2Proof.Machine
end

