-- ==== Sys2Proof/Machine/Flags.lean ====
section
/-! DEFINITION. Floating-point flags and FP_EXCEPTION (10 R276, 08 R216), ORPHAN_PARK (08 R215), and compare conditions (09 R245). -/

namespace Sys2Proof.Machine

/-- TRAP_EN of FPCTRL. -/
def Pod.trapEn (p : Pod) : Nat := p.fpctrl / 16 % 64

/-- Raise flags of lanes into FPSTAT; a raised flag that TRAP_EN enables raises FP_EXCEPTION (R276). -/
def State.raise (s : State) (r : PodRef) (p : Pod) (next : Nat) (fl : List (Nat × Nat)) : State :=
  let all := fl.foldl (fun a x => a ||| x.2) 0
  let en := fl.filter (fun x => x.2 &&& p.trapEn ≠ 0)
  let s := if all = 0 then s else s.modPod r (fun q => { q with fpstat := q.fpstat ||| all })
  if en.isEmpty then s
  else s.trap r { cause := 2, detail := all &&& p.trapEn, lanes := maskOf (en.map (·.1)), pc := p.pc, resume := next }

/-- ORPHAN_PARK (08 R215): no pea can run and some are parked. -/
def State.orphan (s : State) (r : PodRef) : State :=
  match s.pod? r with
  | some p => if p.runnable = 0 && p.park ≠ 0 && p.trap.isNone then
      s.trap r { cause := 6, detail := popCount 32 p.park, pc := p.pc, resume := p.pc } else s
  | none => s

/-- An integer condition (09 Table ISA-10); `un` compares unsigned. -/
def intCond (op : Nat) (un : Bool) (a b : Nat) : Bool :=
  let lt := fun (x y : Nat) => if un then x < y else asInt 32 x < asInt 32 y
  match op with
  | 0 => a == b
  | 1 => a != b
  | 2 => lt a b
  | 3 => !lt b a
  | 4 => lt b a
  | _ => !lt a b

/-- A floating-point condition: with a NaN operand the outcome is MOD[3] (09 R245); the flags are those of 10 R278. -/
def fpCond (f : Fmt) (ftz : Bool) (m a b : Nat) : Bool × Nat :=
  let (r, fl) := f.cmp ftz (m % 8) a b
  (if (f.decode ftz a).isNan || (f.decode ftz b).isNan then m.testBit 3 else r, fl)

end Sys2Proof.Machine
end

