-- ==== Sys2Proof/Machine/IsaControl.lean ====
section
/-! DEFINITION. The control group and the branch group (09 R241 to R243; 08 R210, R211, R215 to R217, R229) and the raster-order interlock
(09 R257, R258). -/

namespace Sys2Proof.Machine

/-- The address after an instruction. -/
def after (p : Pod) (op : Nat) (i : Ins) : Nat := p.pc + insLen op i

/-- Has every earlier fragment of a fragment's pixel released, among these pods (09 R257, R258)? -/
def pixFree (pods : List Pod) (px ord : Nat) : Bool :=
  pods.all (fun q => q.frag.zipIdx.all (fun (f, k) => !(f.1 == px && f.2 < ord) || q.pixRel.testBit k))

/-- Waiting fragments of a tile acquire the interlock as soon as every earlier fragment of their pixel has released (09 R258). -/
def State.pixSettle (s : State) (c tile : Nat) : State :=
  let pods := (s.core c).pods.filter (fun q => q.pixel && q.tile == tile)
  s.modCore c (fun co => { co with pods := co.pods.map (fun q =>
    if q.pixel && q.tile == tile then
      let got := maskOf ((lanesOf (q.pixPark ||| q.pixWant)).filter (fun k => let f := q.frag.getD k (0, 0); pixFree pods f.1 f.2))
      let back := q.pixPark &&& got
      { q with
        pixOwn := q.pixOwn ||| got
        pixWant := q.pixWant &&& (0xFFFFFFFF - got)
        pixPark := q.pixPark &&& (0xFFFFFFFF - got)
        park := q.park &&& (0xFFFFFFFF - back)
        m := q.m.set 0 (q.m0 ||| (back &&& q.live)) }
    else q) })

/-- The fragments of some lanes release the interlock. -/
def State.pixRelease (s : State) (r : PodRef) (p : Pod) (lanes : Nat) : State :=
  match r with
  | .slot c _ =>
    if p.pixel then
      (s.modPod r (fun q => { q with pixRel := q.pixRel ||| lanes, pixOwn := q.pixOwn &&& (0xFFFFFFFF - lanes) })).pixSettle c p.tile
    else s
  | .guard => s

/-- NOP. -/
def execNop (r : PodRef) (i : Ins) (s : State) : Out := issue "NOP" 0x00 r i s (fun s _ _ => .done s 2)

/-- EXIT (08 R211, 09 R257). -/
def execExit (r : PodRef) (i : Ins) (s : State) : Out :=
  issue "EXIT" 0x01 r i s (fun s p e =>
    let s := s.modPod r (fun q =>
      let live := q.live &&& (0xFFFFFFFF - e)
      { q with live := live, park := q.park &&& live, m := q.m.set 0 (q.m0 &&& live) })
    .done ((s.pixRelease r p e).orphan r) 2)

/-- TRAP (08 Table COR-7). -/
def execTrap (r : PodRef) (i : Ins) (s : State) : Out :=
  issue "TRAP" 0x02 r i s (fun s p _ => .done (s.trap r { cause := 1, detail := i.a, pc := p.pc, resume := after p 0x02 i }) 2)

/-- Where the trap record of a slot begins in its core's tile store (08 R221). -/
def trapRecord (slot : Nat) : Nat := 0x7A000 + 512 * slot

/-- Restore a pod from its trap record (08 R217). -/
def Pod.restore (q : Pod) (b : List Byte) : Pod :=
  let q := { q with
    park := fieldAt b 0x2C 4, preds := fieldAt b 0x30 1, fpstat := fieldAt b 0x34 4 % 64, fpctrl := fieldAt b 0x38 4 % 1024
    trapMode := false, pc := fieldAt b 0x08 8 }
  let q := (((q.mput 0 (fieldAt b 0x18 4)).mput 1 (fieldAt b 0x1C 4)).mput 2 (fieldAt b 0x20 4)).mput 3 (fieldAt b 0x24 4)
  (List.range 8).foldl (fun q k => q.sput (120 + k) (fieldAt b (0x40 + 4 * k) 4)) q

/-- TRET (08 R217): outside trap mode it is illegal. -/
def execTret (r : PodRef) (i : Ins) (s : State) : Out :=
  issue "TRET" 0x03 r i s (fun s p _ =>
    match r with
    | .guard => .done s 2
    | .slot c k =>
      if p.trapMode then .done ((s.modPod r (fun q => q.restore ((s.core c).ts.read (trapRecord k) 512))).orphan r) 2
      else .done ((s.modPod r (fun q => { q with pc := p.pc })).illegalFault r p 7) 2)

/-- Release a barrier that every pod of a workgroup that has not retired has reached (09 R242). -/
def State.barSettle (s : State) (c wg : Nat) : State :=
  let pods := (s.core c).pods.filter (·.wg == wg)
  match pods with
  | [] => s
  | q :: _ =>
    if q.bar.isSome && pods.all (fun k => k.bar == q.bar) then
      s.modCore c (fun co => { co with pods := co.pods.map (fun k => if k.wg = wg then { k with bar := none } else k) })
    else s

/-- BAR (09 R242); on the guard core it completes at once (R261). -/
def execBar (r : PodRef) (i : Ins) (s : State) : Out :=
  issue "BAR" 0x04 r i s (fun s p _ =>
    match r with
    | .guard => .done s 0
    | .slot c _ => .done ((s.modPod r (fun q => { q with bar := some (i.m % 16) })).barSettle c p.wg) 0)

/-- FENCE (08 R229, 09 R255, R261): on a shader core it completes when the pod's earlier memory instructions have. -/
def execFence (r : PodRef) (i : Ins) (s : State) : Out :=
  issue "FENCE" 0x05 r i s (fun s p _ =>
    match r with
    | .guard => .done s (p.tm.busy - p.issueAt 0x05 i)
    | .slot c _ =>
      let scope := i.m % 8
      let s := if 3 ≤ scope then s.incCore r R.CORE_FENCE_DEV_COUNT 1 else s
      let k := i.inc.toNat
      let s := s.modPod r (fun q => { q with fences := q.fences ++ [(scope, k)], sb := if k < 6 then q.sb.modify k (· + 1) else q.sb })
      match s.pod? r with
      | some q => .done (s.fencesDone c q) 0
      | none => .done s 0)

/-- OFF24 in bytes, added to an address of 64 bits (09 R243). -/
def branchTo (pc off : Nat) : Nat := ofInt 64 ((pc : Int) + 8 * asInt 24 off)

/-- OFF24 of an instruction. -/
def Ins.off24 (i : Ins) : Nat := i.src0.toNat + i.src1.toNat * 2 ^ 8 + i.src2.toNat * 2 ^ 16

/-- Set a pod's PC. -/
def State.jump (s : State) (r : PodRef) (a : Nat) : State := s.modPod r (fun q => { q with pc := a })

/-- JMP. -/
def execJmp (r : PodRef) (i : Ins) (s : State) : Out :=
  issue "JMP" 0x10 r i s (fun s p _ => .done (s.jump r (branchTo p.pc (Ins.off24 i))) 2)

/-- JZ. -/
def execJz (r : PodRef) (i : Ins) (s : State) : Out :=
  issue "JZ" 0x11 r i s (fun s p _ =>
    let (cyc, s) := s.cycles r p 0x11 i
    .done (if p.sv i cyc i.d = 0 then s.jump r (branchTo p.pc (Ins.off24 i)) else s) 2)

/-- JNZ. -/
def execJnz (r : PodRef) (i : Ins) (s : State) : Out :=
  issue "JNZ" 0x12 r i s (fun s p _ =>
    let (cyc, s) := s.cycles r p 0x12 i
    .done (if p.sv i cyc i.d ≠ 0 then s.jump r (branchTo p.pc (Ins.off24 i)) else s) 2)

/-- CALL. -/
def execCall (r : PodRef) (i : Ins) (s : State) : Out :=
  issue "CALL" 0x13 r i s (fun s p _ =>
    let ret := after p 0x13 i
    .done ((s.modPod r (fun q => (q.sput i.d ret).sput (i.d + 1) (ret / 2 ^ 32))).jump r (branchTo p.pc (Ins.off24 i))) 2)

/-- JMPR: a target that is not a multiple of 8 raises MISALIGNED. -/
def execJmpr (r : PodRef) (i : Ins) (s : State) : Out :=
  issue "JMPR" 0x14 r i s (fun s p _ =>
    let a := p.sv64 i i.a
    if a % 8 ≠ 0 then .done (s.trap r { cause := 3, detail := 3, pc := p.pc, resume := p.pc, va := some a }) 2
    else .done (s.jump r a) 2)

/-- PIXLOCK (09 R258): each lane acquires, parks on an earlier fragment of its own pod, or holds the pod for one of another pod. -/
def execPixlock (r : PodRef) (i : Ins) (s : State) : Out :=
  issue "PIXLOCK" 0xB0 r i s (fun s p e =>
    match r with
    | .guard => .done s 0
    | .slot c _ =>
      let pods := (s.core c).pods.filter (fun q => q.pixel && q.tile == p.tile)
      let wait := (lanesOf e).filter (fun k => let f := p.frag.getD k (0, 0); !pixFree pods f.1 f.2)
      let (own, other) := wait.partition (fun k => let f := p.frag.getD k (0, 0); !pixFree [p] f.1 f.2)
      let park := maskOf own
      let s := (s.modPod r (fun q => { q with
        pixOwn := q.pixOwn ||| (e &&& (0xFFFFFFFF - maskOf wait)), pixPark := q.pixPark ||| park, pixWant := maskOf other
        park := q.park ||| park, m := q.m.set 0 (q.m0 &&& (0xFFFFFFFF - park)) })).incCore r R.CORE_PARK_COUNT own.length
      .done (s.orphan r) 0)

/-- PIXUNLK (09 R258). -/
def execPixunlk (r : PodRef) (i : Ins) (s : State) : Out :=
  issue "PIXUNLK" 0xB1 r i s (fun s p e =>
    let not := popCount 32 (e &&& (0xFFFFFFFF - p.pixOwn))
    .done ((s.pixRelease r p (e &&& p.pixOwn)).incCore r R.CORE_UNLK_NOT_OWNER_COUNT not) 0)

end Sys2Proof.Machine
end

