-- ==== Sys2Proof/Machine/RasCore.lean ====
section
/-! DEFINITION. Coverage, depth, colour formats, tile buffers and the formation of fragments (12 R305, R306, R311 to R318). -/

namespace Sys2Proof.Machine

/-- The edge function of a and b at p, exact in 24.8 fixed point squared. -/
def edge (a b p : Int × Int) : Int := (b.1 - a.1) * (p.2 - a.2) - (b.2 - a.2) * (p.1 - a.1)

/-- Vertex k of a primitive in the plane, and its depth. -/
def Prim.xy (p : Prim) (k : Nat) : Int × Int := let v := p.vs.getD k (0, 0, 0); (v.1, v.2.1)
def Prim.z (p : Prim) (k : Nat) : Nat := (p.vs.getD k (0, 0, 0)).2.2

/-- Twice the signed area. -/
def Prim.area (p : Prim) : Int := edge (p.xy 0) (p.xy 1) (p.xy 2)

/-- The vertices so ordered that the interior lies on the positive side of each edge. -/
def Prim.wound (p : Prim) : List (Int × Int) := if p.area < 0 then [p.xy 0, p.xy 2, p.xy 1] else [p.xy 0, p.xy 1, p.xy 2]

/-- The three edges of a wound triangle. -/
def edges (w : List (Int × Int)) : List ((Int × Int) × (Int × Int)) :=
  let v := fun k => w.getD k (0, 0)
  [(v 0, v 1), (v 1, v 2), (v 2, v 0)]

/-- Is an edge a top or a left edge, y growing downward (12 R306)? -/
def topLeft (e : (Int × Int) × (Int × Int)) : Bool := e.2.2 < e.1.2 || (e.2.2 == e.1.2 && e.1.1 < e.2.1)

/-- Is a sample position covered? A sample on an edge is covered only when the edge is a top or left edge. -/
def Prim.covers (p : Prim) (s : Int × Int) : Bool :=
  (edges p.wound).all (fun e => let v := edge e.1 e.2 s; 0 < v || (v == 0 && topLeft e))

/-- Sample positions in 1/16 pixel (12 R306). -/
def samplePos (samples : Nat) : List (Nat × Nat) := if samples = 1 then [(8, 8)] else [(6, 2), (14, 6), (2, 10), (10, 14)]

/-- A position in pixel (x, y) in 24.8 fixed point. -/
def samplePoint (x y : Nat) (s : Nat × Nat) : Int × Int := ((x * 256 + s.1 * 16 : Nat), (y * 256 + s.2 * 16 : Nat))

/-- Does a triangle meet the rectangle of a tile (12 R307)? No edge of either separates them. -/
def Prim.meets (p : Prim) (tx ty : Nat) : Bool :=
  let x0 : Int := (tx * 8192 : Nat)
  let y0 : Int := (ty * 8192 : Nat)
  let cs := [(x0, y0), (x0 + 8192, y0), (x0, y0 + 8192), (x0 + 8192, y0 + 8192)]
  let vs := [p.xy 0, p.xy 1, p.xy 2]
  vs.any (fun v => v.1 < x0 + 8192) && vs.any (fun v => x0 < v.1) && vs.any (fun v => v.2 < y0 + 8192) && vs.any (fun v => y0 < v.2) &&
    (edges p.wound).all (fun e => cs.any (fun c => 0 < edge e.1 e.2 c))

/-- A ratio of integers rounded to FP32 to nearest even. -/
def ratio32 (a b : Int) : Nat :=
  if a = 0 || b = 0 then 0
  else let (m, e) := quotient a.natAbs 0 b.natAbs 0; (fp32.deliver 0 false ((a < 0) != (b < 0)) m e).w

/-- λ1 and λ2 at a position (12 R306). -/
def Prim.bary (p : Prim) (s : Int × Int) : Nat × Nat :=
  (ratio32 (edge (p.xy 2) (p.xy 0) s) p.area, ratio32 (edge (p.xy 0) (p.xy 1) s) p.area)

/-- FP32 sums and products to nearest even. -/
def f32add (a b : Nat) : Nat := (fp32.add 0 false a b).w
def f32sub (a b : Nat) : Nat := f32add a (b ^^^ 0x80000000)
def f32mul (a b : Nat) : Nat := (fp32.mul 0 false a b).w
def f32fma (a b c : Nat) : Nat := (fp32.fma 0 false a b c).w

/-- Clamp to [0, 1]. What a NaN clamps to the spec does not state: a free value of that range. -/
def clamp01 (w : Nat) : Nat :=
  let v := fp32.decode false w
  if v.isNan then Config.approx 0x101 w % 0x3F800001
  else if v.ltB (.fin false 0 0) then 0
  else if FV.ltB (.fin false 1 0) v then 0x3F800000
  else w

/-- Depth of a sample (12 R306). -/
def Prim.depthAt (p : Prim) (s : Int × Int) : Nat :=
  let (l1, l2) := p.bary s
  clamp01 (f32fma l2 (f32sub (p.z 2) (p.z 0)) (f32fma l1 (f32sub (p.z 1) (p.z 0)) (p.z 0)))

/-- A value of [0, 1] times 2^n - 1, to nearest even. -/
def toUnorm (n w : Nat) : Nat :=
  match fp32.decode false w with
  | .fin _ m e => (roundAt 0 false (m * (2 ^ n - 1)) e 0 0).1
  | _ => 0

/-- The word that a depth plane holds for a depth: 1 D16, 2 D32F. -/
def depthWord (fmt z : Nat) : Nat := if fmt = 1 then toUnorm 16 z else z

/-- Less than and equal of two depth words. -/
def depthLt (fmt a b : Nat) : Bool := if fmt = 1 then a < b else (fp32.decode false a).ltB (fp32.decode false b)
def depthEq (fmt a b : Nat) : Bool := if fmt = 1 then a == b else (fp32.decode false a).eqB (fp32.decode false b)

/-- The depth test (12 Table RAS-4 Z_FUNC) of a new depth against the plane's. -/
def depthTest (fmt f new old : Nat) : Bool :=
  match f with
  | 0 => false
  | 1 => depthLt fmt new old
  | 2 => depthEq fmt new old
  | 3 => depthLt fmt new old || depthEq fmt new old
  | 4 => depthLt fmt old new
  | 5 => !depthEq fmt new old
  | 6 => depthLt fmt old new || depthEq fmt new old
  | _ => true

/-- Kinds of a channel: UNORM, half, single, unsigned integer. -/
inductive ChanKind where
  | unorm
  | half
  | single
  | uint
deriving DecidableEq, Repr

/-- Channels of a colour format, lowest bits first: index among R, G, B, A, bits, kind (12 Table RAS-7). -/
def channels (fmt : Nat) : List (Nat × Nat × ChanKind) :=
  match fmt with
  | 0x00 => [(0, 8, .unorm), (1, 8, .unorm), (2, 8, .unorm), (3, 8, .unorm)]
  | 0x01 => [(2, 8, .unorm), (1, 8, .unorm), (0, 8, .unorm), (3, 8, .unorm)]
  | 0x02 => [(0, 10, .unorm), (1, 10, .unorm), (2, 10, .unorm), (3, 2, .unorm)]
  | 0x03 => [(0, 8, .unorm)]
  | 0x04 => [(0, 16, .half)]
  | 0x05 => [(0, 16, .half), (1, 16, .half)]
  | 0x06 => [(0, 16, .half), (1, 16, .half), (2, 16, .half), (3, 16, .half)]
  | 0x07 => [(0, 32, .single)]
  | 0x08 => [(0, 32, .single), (1, 32, .single)]
  | 0x09 => [(0, 32, .uint)]
  | 0x0A => [(0, 32, .uint), (1, 32, .uint)]
  | _ => []

/-- Bytes per sample of a colour format. -/
def fmtBytes (fmt : Nat) : Nat := (((channels fmt).map (fun c => c.2.1)).sum) / 8

/-- One FP32 value in another float format, to nearest even; a NaN becomes the canonical NaN. -/
def narrow (f : Fmt) (w : Nat) : Nat :=
  match fp32.decode false w with
  | .nan _ => f.qnan
  | .inf n => f.infinity n
  | .fin n m e => (f.deliver 0 false n m e).w

/-- A channel's code for a value (12 R313). -/
def chanCode (k : ChanKind) (n w : Nat) : Nat :=
  match k with
  | .unorm => toUnorm n (clamp01 w)
  | .half => narrow fp16 w
  | .single => narrow fp32 w
  | .uint => w

/-- A channel's value in FP32 (12 R313). -/
def chanValue (k : ChanKind) (n c : Nat) : Nat :=
  match k with
  | .unorm => ratio32 c (2 ^ n - 1 : Nat)
  | .half => match fp16.decode false c with
    | .nan _ => fp32.qnan
    | .inf s => fp32.infinity s
    | .fin s m e => (fp32.deliver 0 false s m e).w
  | _ => c

/-- The word of a sample from its four channel values. -/
def packSample (fmt : Nat) (vals : List Nat) : Nat :=
  ((channels fmt).foldl (fun (a : Nat × Nat) c => (a.1 + chanCode c.2.2 c.2.1 (vals.getD c.1 0) * 2 ^ a.2, a.2 + c.2.1)) (0, 0)).1

/-- The four channel values of a sample's word. -/
def unpackSample (fmt w : Nat) : List Nat :=
  ((channels fmt).foldl (fun (a : List Nat × Nat) c => (a.1.set c.1 (chanValue c.2.2 c.2.1 (bits w (a.2 + c.2.1 - 1) a.2)), a.2 + c.2.1))
    (List.replicate 4 0, 0)).1

/-- Resolve the four samples of a pixel (12 R313). -/
def resolvePixel (fmt : Nat) (ws : List Nat) : Nat :=
  let vs := ws.map (unpackSample fmt)
  let c := fun k => vs.map (fun v => v.getD k 0)
  packSample fmt ((List.range 4).map (fun k =>
    f32mul (((c k).drop 1).foldl f32add ((c k).getD 0 0)) 0x3E800000))

/-- The plane of a kind (format code) of a pass. -/
def Pass.plane (a : Pass) (fmt : Nat) : Option Plane := a.planes.find? (·.fmt == fmt)
def Pass.depthPlane (a : Pass) : Option Plane := a.planes.find? (fun p => p.fmt == 0x10 || p.fmt == 0x11)

/-- Tile store offset on a core of byte 0 of a tile set (12 R312): the context view's base is the reservation's. -/
def State.setBase (s : State) (a : Pass) (set : Nat) : Nat := ((s.adm? a.ctx).map (·.tsLo)).getD 0 * 1024 + a.tbOff + set * a.setBytes

/-- Address of a sample of a tile pixel in a plane (12 R312). -/
def State.sampleAt (s : State) (a : Pass) (set : Nat) (p : Plane) (px k : Nat) : Nat := s.setBase a set + p.off + (px * a.samples + k) * p.bytes

/-- Read and write tile store of a core for a raster unit. -/
def State.tsGet (s : State) (c a n : Nat) : Nat := leNat ((s.core c).ts.read a n)
def State.tsSet (s : State) (c a n v : Nat) : State := s.modCore c (fun co => { co with ts := co.ts.write a (leBytes n v) })

/-- Pixel of a tile pixel index in the render target. -/
def Pass.pixel (a : Pass) (lin px : Nat) : Nat × Nat := (lin % a.tx * 32 + px % 32, lin / a.tx * 32 + px / 32)

/-- Covered samples of a primitive at a tile pixel, with their positions. -/
def Pass.covered (a : Pass) (lin px : Nat) (p : Prim) : List (Nat × (Int × Int)) :=
  let (x, y) := a.pixel lin px
  ((samplePos a.samples).zipIdx.map (fun s => (s.2, samplePoint x y s.1))).filter (fun s => p.covers s.2)

/-- The fixed-function depth test of samples at a tile pixel (12 R316): the samples that pass; depth, and in Mode V's first phase the index, is written. -/
def State.zSamples (s : State) (a : Pass) (t : TileJob) (sh : Shader) (p : Prim) (px : Nat) (vis : Bool) :
    List (Nat × (Int × Int)) → List Nat × State
  | [] => ([], s)
  | (k, pos) :: rest =>
    let z := depthWord a.depth (p.depthAt pos)
    let pass := match a.depthPlane with
      | some d => depthTest a.depth sh.zFunc z (s.tsGet t.core (s.sampleAt a t.set d px k) d.bytes)
      | none => true
    let s := match a.depthPlane with
      | some d => if pass && sh.zWrite then s.tsSet t.core (s.sampleAt a t.set d px k) d.bytes z else s
      | none => s
    let s := match a.plane 0x13 with
      | some v => if pass && vis then s.tsSet t.core (s.sampleAt a t.set v px k) 4 p.ix else s
      | none => s
    let (l, s) := s.zSamples a t sh p px vis rest
    (if pass then k :: l else l, s)

/-- A fragment of a primitive at a tile pixel. -/
def Pass.frag (a : Pass) (t : TileJob) (phase : Nat) (p : Prim) (px : Nat) (ks : List Nat) : Frag :=
  let (x, y) := a.pixel t.lin px
  let (l1, l2) := p.bary (samplePoint x y (8, 8))
  ⟨phase, px, maskOf ks, p.ix, p.attr, p.sh, l1, l2⟩

/-- Shader of a primitive. -/
def Pass.shader (a : Pass) (n : Nat) : Shader := a.shaders.getD n ⟨false, false, 0, false, 0, 0, 8, 0, 0, []⟩

/-- The fragments of a primitive in a phase, pixel by pixel (12 R316, R317). -/
def State.fragsOf (s : State) (a : Pass) (t : TileJob) (phase : Nat) (p : Prim) : List Nat → List Frag × State
  | [] => ([], s)
  | px :: rest =>
    let sh := a.shader p.sh
    let (ks, s) :=
      if phase = 2 then
        ((List.range a.samples).filter (fun k => match a.plane 0x13 with
          | some v => s.tsGet t.core (s.sampleAt a t.set v px k) 4 == p.ix
          | none => false), s)
      else
        let cov := a.covered t.lin px p
        if cov.isEmpty then ([], s)
        else if sh.earlyZ then
          let (ks, s) := s.zSamples a t sh p px false cov
          (ks, if ks.isEmpty then s.inc R.RAS_EARLYZ_KILL_COUNT else s)
        else (cov.map (·.1), s)
    let (l, s) := s.fragsOf a t phase p rest
    (if ks.isEmpty then l else a.frag t phase p px ks :: l, s)

/-- Fragments at the front that one pod can carry: one phase, one shader, at most 32 (12 R318). -/
def TileJob.front (t : TileJob) : List Frag :=
  match t.frags with
  | [] => []
  | f :: _ => (t.frags.takeWhile (fun g => g.sh == f.sh && g.phase == f.phase)).take 32

/-- Is the next primitive one with EARLY_Z = 1 that the fixed-function test meets (12 R316)? -/
def TileJob.nextEarly (t : TileJob) (a : Pass) : Bool :=
  match t.todo with
  | (ph, p) :: _ => ph ≠ 2 && (a.shader p.sh).earlyZ
  | [] => false

/-- Is the pod at the front closed (12 R318)? Fragments with EARLY_Z 0 leave before a primitive with EARLY_Z 1 is tested. -/
def TileJob.closed (t : TileJob) (a : Pass) : Bool :=
  match t.frags with
  | [] => false
  | f :: _ =>
    t.front.length == 32 || t.front.length < t.frags.length ||
      (match t.todo with | [] => true | (ph, _) :: _ => ph ≠ f.phase) || (t.nextEarly a && !(a.shader f.sh).earlyZ)

/-- Form fragments of a tile until a pod is closed, the raster unit must wait, or no primitive is left. -/
def State.formFrags (s : State) (a : Pass) : Nat → TileJob → TileJob × State
  | 0, t => (t, s)
  | n + 1, t =>
    if t.closed a then (t, s)
    else match t.todo with
      | [] => (t, s)
      | (ph, p) :: rest =>
        if t.nextEarly a && !t.late.isEmpty then
          if t.zwait then (t, s) else ({ t with zwait := true }, s.inc R.RAS_ZDRAIN_COUNT)
        else
          let (fs, s) := s.fragsOf a t ph p (List.range 1024)
          s.formFrags a n { t with todo := rest, zwait := false, frags := t.frags ++ fs }

/-- Change the running pass. -/
def State.modPass (s : State) (f : Pass → Pass) : State := { s with pass := s.pass.map f }

/-- Replace a tile in work. -/
def Pass.putTile (a : Pass) (t : TileJob) : Pass :=
  { a with tiles := a.tiles.map (fun k => if k.core = t.core && k.set = t.set then t else k) }

/-- A tile in work goes on. -/
def State.tileAdvance (s : State) (core set : Nat) : State :=
  match s.pass with
  | none => s
  | some a =>
    match a.tiles.find? (fun t => t.core == core && t.set == set) with
    | none => s
    | some t => let (t, s) := s.formFrags a (t.todo.length + 1) t; s.modPass (·.putTile t)

/-- A pixel pod has retired: its tile goes on (12 R316). -/
def State.pixRetire (s : State) (core lin uid : Nat) : State :=
  match s.pass with
  | none => s
  | some a =>
    match a.tiles.find? (fun t => t.core == core && t.lin == lin) with
    | none => s
    | some t => (s.modPass (·.putTile { t with late := t.late.filter (· ≠ uid) })).tileAdvance core t.set

end Sys2Proof.Machine
end

