-- ==== Sys2Proof/Machine/IsaScalar.lean ====
section
/-! DEFINITION. The scalar ALU group (09 R244, R245, Table ISA-9). -/

namespace Sys2Proof.Machine

/-- An instruction of the scalar ALU group: 32-bit operands a and b, and the result. -/
def scalarOp (ev : String) (op : Nat) (r : PodRef) (i : Ins) (s : State) (f : Nat → Nat → Nat) : Out :=
  issue ev op r i s (fun s p _ =>
    let (cyc, s) := s.cycles r p op i
    .done (s.modPod r (fun q => q.sput i.d (f (p.sv i cyc i.a) (p.sv i cyc i.b) % 2 ^ 32))) 2)

/-- Arithmetic shift right of 32 bits. -/
def sar32 (a n : Nat) : Nat := ofInt 32 (asInt 32 a / (2 ^ n : Nat))

/-- Minimum and maximum, signed or unsigned. -/
def minBy (un : Bool) (a b : Nat) : Nat := if intCond 2 un b a then b else a
def maxBy (un : Bool) (a b : Nat) : Nat := if intCond 2 un a b then b else a

/-- Index of the lowest one bit, 32 when there is none. -/
def lowestOne (a : Nat) : Nat := (Machine.setBits 32 a).headD 32

/-- SADD. -/
def execSadd (r : PodRef) (i : Ins) (s : State) : Out := scalarOp "SADD" 0x20 r i s (fun a b => a + b)

/-- SSUB. -/
def execSsub (r : PodRef) (i : Ins) (s : State) : Out := scalarOp "SSUB" 0x21 r i s (subMod 32)

/-- SMUL. -/
def execSmul (r : PodRef) (i : Ins) (s : State) : Out := scalarOp "SMUL" 0x22 r i s (fun a b => a * b)

/-- SAND. -/
def execSand (r : PodRef) (i : Ins) (s : State) : Out := scalarOp "SAND" 0x23 r i s (fun a b => a &&& b)

/-- SOR. -/
def execSor (r : PodRef) (i : Ins) (s : State) : Out := scalarOp "SOR" 0x24 r i s (fun a b => a ||| b)

/-- SXOR. -/
def execSxor (r : PodRef) (i : Ins) (s : State) : Out := scalarOp "SXOR" 0x25 r i s (fun a b => a ^^^ b)

/-- SANDN. -/
def execSandn (r : PodRef) (i : Ins) (s : State) : Out := scalarOp "SANDN" 0x26 r i s (fun a b => a &&& (0xFFFFFFFF - b % 2 ^ 32))

/-- SSHL. -/
def execSshl (r : PodRef) (i : Ins) (s : State) : Out := scalarOp "SSHL" 0x27 r i s (fun a b => a <<< (b % 32))

/-- SSHR: MOD[3] makes it arithmetic. -/
def execSshr (r : PodRef) (i : Ins) (s : State) : Out :=
  scalarOp "SSHR" 0x28 r i s (fun a b => if i.m.testBit 3 then sar32 a (b % 32) else a >>> (b % 32))

/-- SMIN: MOD[3] makes it unsigned. -/
def execSmin (r : PodRef) (i : Ins) (s : State) : Out := scalarOp "SMIN" 0x29 r i s (minBy (i.m.testBit 3))

/-- SMAX: MOD[3] makes it unsigned. -/
def execSmax (r : PodRef) (i : Ins) (s : State) : Out := scalarOp "SMAX" 0x2A r i s (maxBy (i.m.testBit 3))

/-- SMOV. -/
def execSmov (r : PodRef) (i : Ins) (s : State) : Out := scalarOp "SMOV" 0x2B r i s (fun a _ => a)

/-- SPOPC. -/
def execSpopc (r : PodRef) (i : Ins) (s : State) : Out := scalarOp "SPOPC" 0x2C r i s (fun a _ => popCount 32 a)

/-- SFFS. -/
def execSffs (r : PodRef) (i : Ins) (s : State) : Out := scalarOp "SFFS" 0x2D r i s (fun a _ => lowestOne a)

/-- SCMP: predicate DST[2:0] takes the outcome. -/
def execScmp (r : PodRef) (i : Ins) (s : State) : Out :=
  issue "SCMP" 0x2E r i s (fun s p _ =>
    let (cyc, s) := s.cycles r p 0x2E i
    let o := intCond (i.m % 8) (i.m.testBit 3) (p.sv i cyc i.a) (p.sv i cyc i.b)
    .done (s.modPod r (fun q => { q with preds := setBit q.preds (i.d % 8) o })) 2)

/-- SADD64. -/
def execSadd64 (r : PodRef) (i : Ins) (s : State) : Out :=
  issue "SADD64" 0x2F r i s (fun s p _ =>
    let v := addMod 64 (p.sv64 i i.a) (p.sv64 i i.b)
    .done (s.modPod r (fun q => (q.sput i.d v).sput (i.d + 1) (v / 2 ^ 32))) 2)

end Sys2Proof.Machine
end

