-- ==== Sys2Proof/Machine/IsaVector.lean ====
section
/-! DEFINITION. The vector integer group and the conversion and bit group (09 R246, R248, Tables ISA-11, ISA-13; 10 R272, R273, R280). -/

namespace Sys2Proof.Machine

/-- Operand b of a vector instruction in a lane: a vector register, or one scalar for every lane when MOD[4] is 1 (09 R246). -/
def State.vb (s : State) (r : PodRef) (p : Pod) (i : Ins) (cyc lane : Nat) : Nat :=
  if i.m.testBit 4 then p.sv i cyc i.b else s.vget r p i.b lane

/-- A vector instruction of class V whose result in a lane is a function of a and b. -/
def vectorOp (ev : String) (op : Nat) (r : PodRef) (i : Ins) (s : State) (f : Nat → Nat → Nat) : Out :=
  issue ev op r i s (fun s p e =>
    let (cyc, s) := s.cycles r p op i
    .done (s.vputs r p i.d e (fun l => f (s.vget r p i.a l) (s.vb r p i cyc l) % 2 ^ 32)) 4)

/-- VIADD. -/
def execViadd (r : PodRef) (i : Ins) (s : State) : Out := vectorOp "VIADD" 0x30 r i s (fun a b => a + b)

/-- VISUB. -/
def execVisub (r : PodRef) (i : Ins) (s : State) : Out := vectorOp "VISUB" 0x31 r i s (subMod 32)

/-- VIMUL. -/
def execVimul (r : PodRef) (i : Ins) (s : State) : Out := vectorOp "VIMUL" 0x32 r i s (fun a b => a * b)

/-- VIMULHI: MOD[3] makes it unsigned. -/
def execVimulhi (r : PodRef) (i : Ins) (s : State) : Out :=
  vectorOp "VIMULHI" 0x33 r i s (fun a b =>
    if i.m.testBit 3 then a * b / 2 ^ 32 else ofInt 32 (asInt 32 a * asInt 32 b / (2 ^ 32 : Nat)))

/-- VIMAD. -/
def execVimad (r : PodRef) (i : Ins) (s : State) : Out :=
  issue "VIMAD" 0x34 r i s (fun s p e =>
    let (cyc, s) := s.cycles r p 0x34 i
    .done (s.vputs r p i.d e (fun l => (s.vget r p i.a l * s.vb r p i cyc l + s.vget r p i.c l) % 2 ^ 32)) 4)

/-- VAND. -/
def execVand (r : PodRef) (i : Ins) (s : State) : Out := vectorOp "VAND" 0x35 r i s (fun a b => a &&& b)

/-- VOR. -/
def execVor (r : PodRef) (i : Ins) (s : State) : Out := vectorOp "VOR" 0x36 r i s (fun a b => a ||| b)

/-- VXOR. -/
def execVxor (r : PodRef) (i : Ins) (s : State) : Out := vectorOp "VXOR" 0x37 r i s (fun a b => a ^^^ b)

/-- VSHL. -/
def execVshl (r : PodRef) (i : Ins) (s : State) : Out := vectorOp "VSHL" 0x38 r i s (fun a b => a <<< (b % 32))

/-- VSHR: MOD[3] makes it arithmetic. -/
def execVshr (r : PodRef) (i : Ins) (s : State) : Out :=
  vectorOp "VSHR" 0x39 r i s (fun a b => if i.m.testBit 3 then sar32 a (b % 32) else a >>> (b % 32))

/-- VIMIN: MOD[3] makes it unsigned. -/
def execVimin (r : PodRef) (i : Ins) (s : State) : Out := vectorOp "VIMIN" 0x3A r i s (minBy (i.m.testBit 3))

/-- VIMAX: MOD[3] makes it unsigned. -/
def execVimax (r : PodRef) (i : Ins) (s : State) : Out := vectorOp "VIMAX" 0x3B r i s (maxBy (i.m.testBit 3))

/-- VMOV. -/
def execVmov (r : PodRef) (i : Ins) (s : State) : Out := vectorOp "VMOV" 0x3C r i s (fun _ b => b)

/-- VSEL: bit of the lane in scalar c chooses a or b. -/
def execVsel (r : PodRef) (i : Ins) (s : State) : Out :=
  issue "VSEL" 0x3D r i s (fun s p e =>
    let (cyc, s) := s.cycles r p 0x3D i
    let c := p.sv i cyc i.c
    .done (s.vputs r p i.d e (fun l => if c.testBit l then s.vget r p i.a l else s.vb r p i cyc l)) 4)

/-- VICMP: a mask of the lanes of the effective mask in which the condition holds. -/
def execVicmp (r : PodRef) (i : Ins) (s : State) : Out :=
  issue "VICMP" 0x3E r i s (fun s p e =>
    let (cyc, s) := s.cycles r p 0x3E i
    let m := maskOf ((lanesOf e).filter (fun l => intCond (i.m % 8) (i.m.testBit 3) (s.vget r p i.a l) (s.vb r p i cyc l)))
    .done (s.modPod r (fun q => q.sput i.d m)) 4)

/-- VSHFL: a of the lane that b names. -/
def execVshfl (r : PodRef) (i : Ins) (s : State) : Out :=
  issue "VSHFL" 0x3F r i s (fun s p e =>
    let (cyc, s) := s.cycles r p 0x3F i
    .done (s.vputs r p i.d e (fun l => s.vget r p i.a (s.vb r p i cyc l % 32))) 4)

/-- The rounding mode that a field of VCVT, TMMA or TCVT selects: 0 takes the pod's, k selects RMODE k - 1 (09 R248). -/
def Pod.cvtMode (p : Pod) (f : Nat) : Nat := if f = 0 then p.rmode else f - 1

/-- Convert one value with a lane's generator: stochastic rounding takes bits [31:16] of the advanced generator (10 R272). -/
def convertLane (src dst mode : Nat) (ftz sat : Bool) (gen w : Nat) : FR × Nat :=
  let f := convert src dst mode ftz sat (genAdvance gen >>> 16) (w % 2 ^ fmtWidth src)
  (f, if f.adv then genAdvance gen else gen)

/-- VCVT (09 R248, 10 R280). -/
def execVcvt (r : PodRef) (i : Ins) (s : State) : Out :=
  issue "VCVT" 0x60 r i s (fun s p e =>
    let mode := p.cvtMode (i.m / 2 % 8)
    let out := (lanesOf e).map (fun l =>
      let w := if i.b = 0x11 then s.vget64 r p i.a l else s.vget r p i.a l
      (l, convertLane i.b i.c mode p.ftz (i.m.testBit 0) (p.gens.getD l 0) w))
    let s := out.foldl (fun s x =>
      let s := s.vput r p i.d x.1 (x.2.1.w % 2 ^ 32)
      if i.c = 0x11 then s.vput r p (i.d + 1) x.1 (x.2.1.w / 2 ^ 32) else s) s
    let s := s.modPod r (fun q => { q with gens := out.foldl (fun g x => g.set x.1 x.2.2) q.gens })
    .done (s.raise r p (p.pc + insLen 0x60 i) (out.map (fun x => (x.1, x.2.1.fl)))) 4)

/-- Width of the field [b + c - 1 : b], cut at bit 31 (09 R248). -/
def fieldWidth (b c : Nat) : Nat := min c (32 - b)

/-- VBFE. -/
def execVbfe (r : PodRef) (i : Ins) (s : State) : Out :=
  issue "VBFE" 0x61 r i s (fun s p e =>
    let (cyc, s) := s.cycles r p 0x61 i
    let b := p.sv i cyc i.b % 32
    let n := fieldWidth b (p.sv i cyc i.c)
    .done (s.vputs r p i.d e (fun l =>
      let v := s.vget r p i.a l >>> b % 2 ^ n
      if i.m.testBit 3 && n ≠ 0 then ofInt 32 (asInt n v) else v)) 4)

/-- VBFI. -/
def execVbfi (r : PodRef) (i : Ins) (s : State) : Out :=
  issue "VBFI" 0x62 r i s (fun s p e =>
    let (cyc, s) := s.cycles r p 0x62 i
    let b := p.sv i cyc i.b % 32
    let n := fieldWidth b (p.sv i cyc i.c)
    .done (s.vputs r p i.d e (fun l =>
      let d := s.vget r p i.d l
      d - (d >>> b % 2 ^ n) <<< b + (s.vget r p i.a l % 2 ^ n) <<< b)) 4)

/-- VPOPC. -/
def execVpopc (r : PodRef) (i : Ins) (s : State) : Out := vectorOp "VPOPC" 0x63 r i s (fun a _ => popCount 32 a)

end Sys2Proof.Machine
end

