-- ==== Sys2Proof/Machine/TensorMath.lean ====
section
/-! DEFINITION. What the tensor arrays compute (10 R270, R272, R273, R283; 11 R284 to R288, R291 to R293): shapes and operand layout, accumulation, format
conversion. -/

namespace Sys2Proof.Machine

/-- M, N and K of a SHAPE (11 Table TEN-3). -/
def shapeOf (n : Nat) : Nat × Nat × Nat :=
  match n with
  | 0 => (16, 16, 32)
  | 1 => (32, 32, 32)
  | 2 => (16, 16, 64)
  | 3 => (32, 32, 64)
  | _ => (32, 32, 128)

/-- Is a format an MX format, and the code of its elements (10 Table NUM-2)? -/
def isMx (f : Nat) : Bool := 9 ≤ f && f ≤ 11
def elemOf (f : Nat) : Nat := if f = 9 then 4 else if f = 10 then 7 else if f = 11 then 8 else f

/-- Bits of an element in memory: an E8M10 takes its container (10 R267). -/
def elemBits (f : Nat) : Nat := if f = 3 then 32 else fmtWidth (elemOf f)

/-- Bytes of a range of n elements, an MX range with its scales (10 R267, R270). -/
def rangeBytes (f n : Nat) : Nat := ceilDiv (n * elemBits f) 8 + if isMx f then ceilDiv n 32 else 0

/-- Bytes of an operand of a TMMA: rows of K elements, and the MX scales after them (11 Table TEN-4). -/
def operandBytes (f rows k : Nat) : Nat := rows * k * elemBits f / 8 + if isMx f then rows * k / 32 else 0

/-- Number of elements that a TCVT converts (11 R292). -/
def cvtCount (n : Nat) : Nat := min n 65536

/-- Byte counts of the operands of a tensor instruction: D, A, B and C (C is 0 without ACC). -/
def tensorSizes (cvt : Bool) (ext n : Nat) : Nat × Nat × Nat × Nat :=
  let fa := bits ext 4 0
  let fb := bits ext 12 8
  if cvt then (rangeBytes fb (cvtCount n), rangeBytes fa (cvtCount n), 0, 0)
  else
    let (m, nn, k) := shapeOf (bits ext 27 24)
    let d := m * nn * elemBits (bits ext 20 16) / 8
    (d, operandBytes fa m k, operandBytes fb nn k, if ext.testBit 28 then d else 0)

/-- The value of an element of a format code (an MX code: of its element). -/
def elemVal (f : Nat) (ftz : Bool) (w : Nat) : FV :=
  match intFmt f, fmtOf f with
  | some (n, sg), _ =>
    let v : Int := if sg then asInt n w else (w % 2 ^ n : Nat)
    .fin (v < 0) v.natAbs 0
  | none, some g => g.decode ftz w
  | none, none => .fin false 0 0

/-- A value times 2^(X - 127); the scale 0xFF makes it NaN (10 R270). -/
def scaled (v : FV) (x : Nat) : FV :=
  if x = 0xFF then .nan true
  else match v with
    | .fin n m e => .fin n m (e + x - 127)
    | v => v

/-- Element k of an array of w-bit elements read as one little-endian integer (10 R267). -/
def elemAt (all w k : Nat) : Nat := all >>> (w * k) % 2 ^ w

/-- An operand of a TMMA in memory: element values row by row (11 Table TEN-4). -/
def operandVals (m : Mem) (a f rows k : Nat) (ftz : Bool) : List (List FV) :=
  let w := elemBits f
  let n := rows * k * w / 8
  let all := leNat (m.read a n)
  let sc := m.read (a + n) (if isMx f then rows * k / 32 else 0)
  (List.range rows).map (fun r => (List.range k).map (fun j =>
    let v := elemVal f ftz (elemAt all w (r * k + j))
    if isMx f then scaled v ((sc.getD (r * (k / 32) + j / 32) 0).toNat) else v))

/-- The exact product of two values. -/
def FV.mul (a b : FV) : FV :=
  match a, b with
  | .nan s, _ => .nan s
  | _, .nan s => .nan s
  | .inf n, .inf k => .inf (n != k)
  | .inf n, .fin k m _ => if m = 0 then .nan true else .inf (n != k)
  | .fin k m _, .inf n => if m = 0 then .nan true else .inf (n != k)
  | .fin n m e, .fin k j d => .fin (n != k) (m * j) (e + d)

/-- One accumulation step in a floating-point format: the exact sum of terms, rounded once (10 R283, R269). -/
def stepSum (f : Fmt) (mode : Nat) (ftz : Bool) (ts : List FV) : FR :=
  let infs := ts.filterMap (fun t => match t with | .inf n => some n | _ => none)
  if ts.any FV.isNan || (infs.contains true && infs.contains false) then f.invalid
  else match infs with
    | n :: _ => ⟨f.infinity n, 0, false⟩
    | [] =>
      let fins := ts.filterMap (fun t => match t with | .fin n m e => some (n, m, e) | _ => none)
      let e0 := (fins.map (fun t => t.2.2)).foldl min 0
      let v : Int := (fins.map (fun t => signedAt t.1 t.2.1 t.2.2 e0)).foldl (fun (a b : Int) => a + b) 0
      if v = 0 then
        let neg := if fins.all (fun t => t.1 && t.2.1 == 0) then true else if fins.all (fun t => !t.1 && t.2.1 == 0) then false else mode == 3
        ⟨f.sign neg, 0, false⟩
      else f.round mode ftz false 0 (v < 0) v.natAbs e0

/-- One accumulation step in INT32: the sum clamps (10 R283). -/
def stepInt (ts : List FV) : FR :=
  let v : Int := (ts.map (fun t => match t with | .fin n m _ => if n then -(m : Int) else (m : Int) | _ => 0)).foldl (fun (a b : Int) => a + b) 0
  if v < intLo 32 true then ⟨ofInt 32 (intLo 32 true), 0x20, false⟩
  else if intHi 32 true < v then ⟨ofInt 32 (intHi 32 true), 0x20, false⟩
  else ⟨ofInt 32 v, 0, false⟩

/-- The steps of one element of D, in increasing k (11 R286): the accumulator's bits and the flags so far. -/
def dotSteps (cf mode : Nat) (ftz : Bool) : Nat → List FV → Nat × Nat → Nat × Nat
  | 0, _, r => r
  | n + 1, ps, (acc, fl) =>
    let r := match fmtOf cf with
      | some f => stepSum f mode ftz (elemVal cf ftz acc :: ps.take 32)
      | none => stepInt (elemVal cf ftz acc :: ps.take 32)
    dotSteps cf mode ftz n (ps.drop 32) (r.w, fl ||| r.fl)

/-- D of a TMMA and its flags (11 R285, R286, R288, R291). -/
def tmmaResult (m : Mem) (a b c ext mode : Nat) (ftz : Bool) : List Byte × Nat :=
  let (mm, nn, k) := shapeOf (bits ext 27 24)
  let cf := bits ext 20 16
  let wb := elemBits cf / 8
  let as := operandVals m a (bits ext 4 0) mm k ftz
  let bs := operandVals m b (bits ext 12 8) nn k ftz
  let out := as.zipIdx.flatMap (fun (row, r) => bs.zipIdx.map (fun (col, j) =>
    let c0 := if ext.testBit 28 then leNat (m.read (c + (r * nn + j) * wb) wb) else 0
    dotSteps cf mode ftz (k / 32) ((row.zip col).map (fun (x : FV × FV) => x.1.mul x.2)) (c0, 0)))
  (out.flatMap (fun (x : Nat × Nat) => leBytes wb x.1), out.foldl (fun fl (x : Nat × Nat) => fl ||| x.2) 0)

/-- A value to a format that is no MX format (10 R280). -/
def convertVal (v : FV) (dst mode : Nat) (ftz sat : Bool) (R : Nat) : FR :=
  let mode := if mode = 4 && !stochasticDst dst then 0 else mode
  match intFmt dst, fmtOf dst with
  | some (dw, sg), _ =>
    match v with
    | .nan _ => ⟨0, 1, false⟩
    | .inf n => ⟨ofInt dw (if n then intLo dw sg else intHi dw sg), if sat then 0x20 else 1, false⟩
    | .fin n m e => if m = 0 then ⟨0, 0, false⟩ else toIntFmt dw sg mode sat R n m e
  | none, some f =>
    match v with
    | .nan s => if f.nan = 0 then ⟨0, 1, false⟩ else f.nanOut s
    | .inf n => if f.nan = 0 || sat then ⟨f.large n, 0x20, false⟩ else if f.nan = 1 then ⟨f.qnan, 1, false⟩ else ⟨f.infinity n, 0, false⟩
    | .fin n m e => if m = 0 then ⟨f.sign n, 0, false⟩ else f.round mode ftz sat R n m e
  | none, none => ⟨0, 0, false⟩

/-- floor(log2) of a positive magnitude m * 2^e. -/
def floorLog (m : Nat) (e : Int) : Int := (m.log2 : Int) + e

/-- Quantise a block to an MX format (11 R293): the scale, the elements, the flags and the generators. -/
def quantise (dst mode : Nat) (ftz : Bool) (lane0 : Nat) (vs : List FV) (gens : List Nat) : Nat × List Nat × Nat × List Nat :=
  if vs.any (fun v => match v with | .fin _ _ _ => false | _ => true) then (0xFF, vs.map (fun _ => 0), 1, gens)
  else
    let mags := vs.filterMap (fun v => match v with | .fin _ m e => if m = 0 then none else some (floorLog m e) | _ => none)
    let el := elemOf dst
    let f := (fmtOf el).getD fp32
    match mags with
    | [] => (0x7F, vs.map (fun v => f.sign v.neg), 0, gens)
    | g :: gs =>
      let top := gs.foldl max g
      let x : Int := max 0 (min 254 (top - (if dst = 9 then 8 else 2) + 127))
      let big := f.decode false (f.large false)
      vs.zipIdx.foldl (fun (r : Nat × List Nat × Nat × List Nat) (v, j) =>
        match v with
        | .fin n m e =>
          let sv := FV.fin false m (e + 127 - x)
          let gen := r.2.2.2.getD ((lane0 + j) % 32) 0
          let o : FR := if m = 0 then ⟨f.sign n, 0, false⟩
            else if big.ltB sv then ⟨f.large n, 0x30, false⟩
            else f.round mode ftz true (genAdvance gen >>> 16) n m (e + 127 - x)
          (r.1, r.2.1 ++ [o.w], r.2.2.1 ||| o.fl, if o.adv then r.2.2.2.set ((lane0 + j) % 32) (genAdvance gen) else r.2.2.2)
        | _ => r) (x.toNat, [], 0, gens)

/-- Put elements of w bits into memory from element 0 of a byte address; bits of the last byte beyond them keep what they held. -/
def putElems (m : Mem) (a w : Nat) (es : List Nat) : Mem :=
  let n := ceilDiv (w * es.length) 8
  let old := leNat (m.read a n)
  let v := es.zipIdx.foldl (fun v (e, k) => v + e % 2 ^ w * 2 ^ (w * k)) 0
  m.write a (leBytes n (old - old % 2 ^ (w * es.length) + v))

/-- Progress of a TCVT: the memory, the flags raised, the generators. -/
structure Cvt where
  m : Mem
  fl : Nat
  gens : List Nat

/-- One group of 32 elements of a TCVT, read before it is written (11 R292). -/
def tcvtGroup (d a n ext mode : Nat) (ftz : Bool) (c : Cvt) (g : Nat) : Cvt :=
  let src := bits ext 4 0
  let dst := bits ext 12 8
  let cnt := min 32 (n - 32 * g)
  let ws := elemBits src
  let wd := elemBits dst
  let all := leNat (c.m.read (a + 32 * g * ws / 8) (ceilDiv (cnt * ws) 8))
  let x := (c.m.get (a + ceilDiv (n * ws) 8 + g)).toNat
  let vs := (List.range cnt).map (fun j =>
    let v := elemVal src ftz (elemAt all ws j)
    if isMx src then scaled v x else v)
  if isMx dst then
    let (sc, es, fl, gens) := quantise dst mode ftz (32 * g) vs c.gens
    let m := putElems c.m (d + 32 * g * wd / 8) wd es
    ⟨m.put (d + ceilDiv (n * wd) 8 + g) (BitVec.ofNat 8 sc), c.fl ||| fl, gens⟩
  else
    let r := (List.range cnt).foldl (fun (r : List Nat × Nat × List Nat) j =>
      let gen := r.2.2.getD j 0
      let o := if isMx src then convertVal (vs.getD j (.fin false 0 0)) dst mode ftz (ext.testBit 28) (genAdvance gen >>> 16)
        else convert src dst mode ftz (ext.testBit 28) (genAdvance gen >>> 16) (elemAt all ws j)
      (r.1 ++ [o.w], r.2.1 ||| o.fl, if o.adv then r.2.2.set j (genAdvance gen) else r.2.2)) ([], 0, c.gens)
    ⟨putElems c.m (d + 32 * g * wd / 8) wd r.1, c.fl ||| r.2.1, r.2.2⟩

/-- A TCVT of n elements. -/
def tcvtRun (m : Mem) (d a n ext mode : Nat) (ftz : Bool) (gens : List Nat) : Cvt :=
  (List.range (ceilDiv n 32)).foldl (tcvtGroup d a n ext mode ftz) ⟨m, 0, gens⟩

/-- What a queued tensor instruction writes to D, the flags that it raises and the generators after it, from a view of tile store. -/
def TensorOp.result (t : TensorOp) (view : Mem) (gens : List Nat) : List Byte × Nat × List Nat :=
  if t.cvt then
    let r := tcvtRun view t.d t.a t.b t.ext t.rmode t.ftz gens
    (r.m.read t.d (tensorSizes true t.ext t.b).1, r.fl, r.gens)
  else
    let r := tmmaResult view t.a t.b t.c t.ext t.rmode t.ftz
    (r.1, r.2, gens)

end Sys2Proof.Machine
end

