-- ==== Sys2Proof/Machine/Tile.lean ====
section
/-! DEFINITION. Tile store as pods address it (08 R218 to R223), and what a pod and a tensor instruction that waits or runs see of each other's writes
(11 R290). -/

namespace Sys2Proof.Machine

/-- Does a range lie in the trap-record view's offsets (08 R218)? -/
def recordRange (o n : Nat) : Bool := 0xFFE00 ≤ o && o + n ≤ 0x100000

/-- Place in the core's tile store of a range in the kernel's view, or the DETAIL of TILE_STORE_RANGE (08 R218, 11 R287). -/
def Pod.viewMap (p : Pod) (o n : Nat) : Except Nat Nat :=
  if o + n ≤ p.tsLen then .ok (p.tsBase + o)
  else .error (if recordRange o n && !p.trapMode then 3 else if p.view = 0 then 1 else 2)

/-- A lane's offset in the core's tile store, or the DETAIL of TILE_STORE_RANGE: the kernel's view, and the trap record in trap mode (08 R218). -/
def Pod.tsMap (p : Pod) (o n : Nat) : Except Nat Nat :=
  if p.tsLen < o + n && recordRange o n && p.trapMode then .ok (0x7A000 + 512 * p.slot + (o - 0xFFE00)) else p.viewMap o n

/-- Cycles of a tile store instruction beyond one: the most distinct words in one bank, less one (08 R222). -/
def replays (as : List (Nat × Nat)) (size : Nat) : Nat :=
  let ws := (as.flatMap (fun a => (List.range (ceilDiv size 4)).map (fun k => a.2 / 4 + k))).eraseDups
  ((List.range 32).map (fun b => (ws.filter (fun w => w % 32 == b)).length)).foldl max 1 - 1

/-- The ranges that a queued tensor instruction reads. -/
def TensorOp.reads (t : TensorOp) : List (Nat × Nat) :=
  let (_, a, b, c) := tensorSizes t.cvt t.ext t.b
  if t.cvt then [(t.a, a)] else [(t.a, a), (t.b, b), (t.c, c)]

/-- The range that a queued tensor instruction writes. -/
def TensorOp.dest (t : TensorOp) : Nat × Nat := (t.d, (tensorSizes t.cvt t.ext t.b).1)

/-- Addresses of the 4-byte words of a range. -/
def wordAddrs (a n : Nat) : List Nat := (List.range ((a + n + 3) / 4 - a / 4)).map (fun k => (a / 4 + k) * 4)

/-- Note the words of [a, a+n) that a queued tensor instruction reads or writes, with what they hold before a pod's write (11 R290). -/
def TensorOp.race (t : TensorOp) (ts : Mem) (a n : Nat) : TensorOp :=
  let ws := (wordAddrs a n).filter (fun w =>
    (t.dest :: t.reads).any (fun rg => overlaps rg.1 rg.2 w 4))
  { t with raced := t.raced ++ ws.map (fun w => (w, leNat (ts.read w 4))) }

/-- A pod writes tile store. -/
def State.tsWrite (s : State) (c a : Nat) (bs : List Byte) : State :=
  s.modCore c (fun co => { co with tq := co.tq.map (fun t => t.race co.ts a bs.length), ts := co.ts.write a bs })

/-- Choose freely what a tensor instruction read of each word that pods wrote meanwhile: what it holds, or what it held before (11 R290). -/
def State.raceView (s : State) (ts : Mem) (raced : List (Nat × Nat)) : Mem × State :=
  ((raced.map (·.1)).eraseDups).foldl (fun (m, s) w =>
    let opts := leNat (ts.read w 4) :: (raced.filter (·.1 == w)).map (·.2)
    let (v, s) := s.draw
    (m.write w (leBytes 4 (opts.getD (v % opts.length) 0)), s)) (ts, s)

/-- The lanes' generators for a queued tensor instruction: its pod's, or what they were when that left (10 R273). -/
def State.gensOf (s : State) (c : Nat) (t : TensorOp) : List Nat := (((s.core c).pods.find? (·.uid == t.uid)).map (·.gens)).getD t.gens

/-- A view of tile store in which each word of a range that a started tensor instruction writes is old or new, freely (11 R290). -/
def State.oldOrNew (s : State) (c a n : Nat) (m : Mem) (t : TensorOp) : Mem × State :=
  let (view, s) := s.raceView (s.core c).ts t.raced
  let bs := (t.result view (s.gensOf c t)).1
  ((wordAddrs a n).filter (fun w => overlaps t.dest.1 t.dest.2 w 4)).foldl (fun (m, s) w =>
    let (v, s) := s.draw
    (if v % 2 = 0 then m else m.write w ((bs.drop (w - t.d)).take 4), s)) (m, s)

/-- A pod reads tile store (11 R290). -/
def State.tsRead (s : State) (c a n : Nat) : List Byte × State :=
  let (m, s) := ((s.core c).tq.filter (fun t => t.started && overlaps t.dest.1 t.dest.2 a n)).foldl (fun (m, s) t => s.oldOrNew c a n m t) ((s.core c).ts, s)
  (m.read a n, s)

/-- Count the replays of a tile store instruction. -/
def State.tsReplay (s : State) (r : PodRef) (ctx : Nat) (as : List (Nat × Nat)) (size : Nat) : State :=
  match r with
  | .guard => s
  | .slot c _ => (s.bump (rk R.CORE_TS_REPLAY_COUNT c) (replays as size)).perfCtx 0xA ctx (replays as size)

end Sys2Proof.Machine
end

