-- ==== Sys2Proof/Machine/IsaMem.lean ====
section
/-! DEFINITION. The memory group: loads, stores, atomics and locks in memory and in tile store (09 R249 to R254, R261, R262; 08 R212 to R215,
R218 to R223, R226 to R228). -/

namespace Sys2Proof.Machine

/-- Access size of a size code (09 R249). -/
def sizeOf (m : Nat) : Nat := 2 ^ (m % 8)

/-- Lane addresses of LD and ST (09 R249). -/
def State.memAddrs (s : State) (r : PodRef) (p : Pod) (i : Ins) (e size : Nat) : List (Nat × Nat) :=
  let disp := asInt 8 i.c * (size : Int)
  (lanesOf e).map (fun l =>
    let base := if i.m.testBit 4 then p.sv64 i i.b + s.vget r p i.a l else s.vget64 r p i.a l
    (l, ofInt 64 (base + disp)))

/-- Lane offsets of LDT and STT: 32-bit values (09 R249). -/
def State.tileAddrs (s : State) (r : PodRef) (p : Pod) (i : Ins) (cyc e size : Nat) : List (Nat × Nat) :=
  let disp := asInt 8 i.c * (size : Int)
  (lanesOf e).map (fun l =>
    let base := if i.m.testBit 4 then p.sv i cyc i.b + s.vget r p i.a l else s.vget r p i.a l
    (l, ofInt 32 (base + disp)))

/-- The MISALIGNED trap of lane accesses, if one is misaligned (08 R219, Table COR-7): nothing is done for any lane. -/
def misaligned (p : Pod) (as : List (Nat × Nat)) (size : Nat) : Option Trap :=
  let bad := (as.filter (fun a => a.2 % size ≠ 0)).map (·.1)
  if bad.isEmpty then none
  else some {
    cause := 3, detail := size.log2, lanes := maskOf bad, pc := p.pc, resume := p.pc
    addrs := (List.range 32).map (fun l => ((as.find? (·.1 == l)).map (·.2)).getD 0) }

/-- Number of 64-byte guard SRAM words that accesses touch, less one (09 R262). -/
def extraWords (as : List (Nat × Nat)) : Nat := ((as.map (fun a => a.2 / 64)).eraseDups).length - 1

/-- Read or write guard SRAM for lanes one by one (09 R261). -/
def State.gLoads (s : State) (size : Nat) (put : State → Nat → Nat → State) : List (Nat × Nat) → State
  | [] => s
  | (l, a) :: t =>
    match s.gRead a size with
    | (.error d, s) => s.guardFault d (some a)
    | (.ok b, s) => (put s l (leNat b)).gLoads size put t

/-- Store lanes into guard SRAM in lane order. -/
def State.gStores (s : State) (size : Nat) (val : Nat → Nat) : List (Nat × Nat) → State
  | [] => s
  | (l, a) :: t =>
    match s.gWrite a (leBytes size (val l)) with
    | (.error d, s) => s.guardFault d (some a)
    | (.ok _, s) => s.gStores size val t

/-- The first lane access that guard SRAM refuses, so that a faulting instruction does nothing: outside SRAM, or a write into the code
region (09 R261). -/
def State.gRange (s : State) (wr : Bool) (size : Nat) (as : List (Nat × Nat)) : Option Nat :=
  (as.find? (fun a => sramSize < a.2 + size ||
    (wr && (match s.gd.hdr with | some h => overlaps a.2 size h.codeOff h.codeSize | none => false)))).map (·.2)

/-- The data of a store in a lane. -/
def State.laneData (s : State) (r : PodRef) (p : Pod) (d size l : Nat) : Nat :=
  ((List.range (ceilDiv size 4)).map (fun k => s.vget r p (d + k) l * 2 ^ (32 * k))).sum % 2 ^ (8 * size)

/-- LD (09 R249, R250). -/
def execLd (r : PodRef) (i : Ins) (s : State) : Out :=
  issue "LD" 0x70 r i s (fun s p e =>
    let size := sizeOf i.m
    let as := s.memAddrs r p i e size
    let sext := i.m.testBit 3
    match misaligned p as size with
    | some t => .done (s.trap r t) 6
    | none =>
      match r with
      | .guard =>
        (match s.gRange false size as with
         | some a => .done (s.guardFault 0x62 (some a)) 6
         | none => .done (s.gLoads size (fun s l v => s.putLane r p i.d l size (extend size sext v)) as) (6 + extraWords as))
      | .slot c _ =>
        match s.memIssue r c p 0x70 i size (.mem i.d size sext false true) as (fun _ => .load) with
        | some s => .done s 0
        | none => .full)

/-- ST (09 R249, R250). -/
def execSt (r : PodRef) (i : Ins) (s : State) : Out :=
  issue "ST" 0x71 r i s (fun s p e =>
    let size := sizeOf i.m
    let as := s.memAddrs r p i e size
    let val := s.laneData r p i.d size
    match misaligned p as size with
    | some t => .done (s.trap r t) 6
    | none =>
      match r with
      | .guard =>
        (match s.gRange true size as with
         | some a => .done (s.guardFault 0x62 (some a)) 6
         | none => .done (s.gStores size val as) (6 + extraWords as))
      | .slot c _ =>
        match s.memIssue r c p 0x71 i size (.mem 0 size false false false) as (fun ls => .store (storeBytes size ls val)) with
        | some s => .done s 0
        | none => .full)

/-- Address of SLD and SST (09 Table ISA-14). -/
def scalarAddr (p : Pod) (i : Ins) : Nat := ofInt 64 (p.sv64 i i.b + asInt 8 i.c * (sizeOf i.m : Int))

/-- SLD (09 R251): one line request. -/
def execSld (r : PodRef) (i : Ins) (s : State) : Out :=
  issue "SLD" 0x72 r i s (fun s p _ =>
    let size := sizeOf i.m
    let a := scalarAddr p i
    match misaligned p [(32, a)] size with
    | some t => .done (s.trap r { t with lanes := 0, va := some a }) 6
    | none =>
      match r with
      | .guard =>
        (match s.gRange false size [(32, a)] with
         | some a => .done (s.guardFault 0x62 (some a)) 6
         | none => .done (s.gLoads size (fun s _ v => s.modPod r (fun q =>
             if size = 8 then (q.sput i.d v).sput (i.d + 1) (v / 2 ^ 32) else q.sput i.d v)) [(32, a)]) 6)
      | .slot c _ =>
        match s.memIssue r c p 0x72 i size (.mem i.d size false true true) [(32, a)] (fun _ => .load) with
        | some s => .done s 0
        | none => .full)

/-- SST (09 R251): one line request. -/
def execSst (r : PodRef) (i : Ins) (s : State) : Out :=
  issue "SST" 0x73 r i s (fun s p _ =>
    let size := sizeOf i.m
    let a := scalarAddr p i
    let v := if size = 8 then p.sget i.d + p.sget (i.d + 1) * 2 ^ 32 else p.sget i.d
    match misaligned p [(32, a)] size with
    | some t => .done (s.trap r { t with lanes := 0, va := some a }) 6
    | none =>
      match r with
      | .guard =>
        (match s.gRange true size [(32, a)] with
         | some a => .done (s.guardFault 0x62 (some a)) 6
         | none => .done (s.gStores size (fun _ => v) [(32, a)]) 6)
      | .slot c _ =>
        match s.memIssue r c p 0x73 i size (.mem 0 size false true false) [(32, a)] (fun ls => .store (storeBytes size ls (fun _ => v))) with
        | some s => .done s 0
        | none => .full)

/-- Map the lanes of a tile store instruction: MISALIGNED, TILE_STORE_RANGE, or where they reach (08 R218, R219). -/
def State.tileGo (s : State) (r : PodRef) (p : Pod) (as : List (Nat × Nat)) (size : Nat) (go : State → Nat → List (Nat × Nat) → State) : State :=
  match r with
  | .guard => s
  | .slot c _ =>
    match misaligned p as size with
    | some t => s.trap r t
    | none =>
      match as.findSome? (fun a => match p.tsMap a.2 size with | .error d => some (d, a.2) | .ok _ => none) with
      | some (d, o) => s.podStop r c p C.TILE_STORE_RANGE d (some o)
      | none => go (s.tsReplay r p.ctx as size) c (as.map (fun a => (a.1, (p.tsMap a.2 size).toOption.getD 0)))

/-- LDT: tile store accesses complete in program order (08 R223), here as they issue. -/
def execLdt (r : PodRef) (i : Ins) (s : State) : Out :=
  issue "LDT" 0x90 r i s (fun s p e =>
    let (cyc, s) := s.cycles r p 0x90 i
    let size := sizeOf i.m
    .done (s.tileGo r p (s.tileAddrs r p i cyc e size) size (fun s c as =>
      as.foldl (fun s a =>
        let (b, s) := s.tsRead c a.2 size
        s.putLane r p i.d a.1 size (extend size (i.m.testBit 3) (leNat b))) s)) 0)

/-- STT: where lanes write one word, the highest lane's value stands (08 R222). -/
def execStt (r : PodRef) (i : Ins) (s : State) : Out :=
  issue "STT" 0x91 r i s (fun s p e =>
    let (cyc, s) := s.cycles r p 0x91 i
    let size := sizeOf i.m
    let val := s.laneData r p i.d size
    .done (s.tileGo r p (s.tileAddrs r p i cyc e size) size (fun s c as =>
      as.foldl (fun s a => s.tsWrite c a.2 (leBytes size (val a.1))) s)) 0)

/-- The atomic operation of a lane (09 R252). -/
def State.laneAtom (s : State) (r : PodRef) (p : Pod) (i : Ins) (l : Nat) : AtomOp :=
  let wide := i.m.testBit 4
  let n := if wide then 8 else 4
  ⟨i.m % 16, wide, s.laneData r p i.b n l, if i.m % 16 = 9 then s.laneData r p i.c n l else 0, p.ftz⟩

/-- ATOMT (09 R252, R253): lanes one by one in increasing order. -/
def execAtomt (r : PodRef) (i : Ins) (s : State) : Out :=
  issue "ATOMT" 0x92 r i s (fun s p e =>
    let size := if i.m.testBit 4 then 8 else 4
    let ops := fun l => s.laneAtom r p i l
    .done (s.tileGo r p ((lanesOf e).map (fun l => (l, s.vget r p i.a l))) size (fun s c as =>
      as.foldl (fun s a =>
        let o := ops a.1
        let (b, s) := s.tsRead c a.2 size
        let old := leNat b
        (s.tsWrite c a.2 (leBytes size (atomApply o.op (8 * size) o.ftz old o.a o.b))).putLane r p i.d a.1 size old) s)) 0)

/-- Atomics of lanes on guard SRAM in lane order. -/
def State.gAtoms (s : State) (r : PodRef) (p : Pod) (d size : Nat) (ops : Nat → AtomOp) : List (Nat × Nat) → State
  | [] => s
  | (l, a) :: t =>
    match s.gRead a size with
    | (.error e, s) => s.guardFault e (some a)
    | (.ok b, s) =>
      let o := ops l
      match s.gWrite a (leBytes size (atomApply o.op (8 * size) o.ftz (leNat b) o.a o.b)) with
      | (.error e, s) => s.guardFault e (some a)
      | (.ok _, s) => (s.putLane r p d l size (leNat b)).gAtoms r p d size ops t

/-- ATOM (09 R252, R253). -/
def execAtom (r : PodRef) (i : Ins) (s : State) : Out :=
  issue "ATOM" 0x80 r i s (fun s p e =>
    let size := if i.m.testBit 4 then 8 else 4
    let as := (lanesOf e).map (fun l => (l, s.vget64 r p i.a l))
    let ops := fun l => s.laneAtom r p i l
    match misaligned p as size with
    | some t => .done (s.trap r t) 6
    | none =>
      match r with
      | .guard =>
        (match s.gRange true size as with
         | some a => .done (s.guardFault 0x62 (some a)) 6
         | none => .done (s.gAtoms r p i.d size ops as) (6 + extraWords as))
      | .slot c _ =>
        match s.memIssue r c p 0x80 i size (.mem i.d size false false (i.d ≠ 255)) as (fun ls => .atom (ls.map (fun x => ops x.1))) with
        | some s => .done s 0
        | none => .full)

/-- Lock tag of a lane (08 Table COR-6); the guard pod's core and slot number are free (notes/assumptions/64.md). -/
def lockTag (r : PodRef) (p : Pod) (l : Nat) : Nat :=
  2 ^ 31 + (match r with | .slot c k => c * 2 ^ 26 + k * 2 ^ 20 | .guard => Config.guardTag % 2 ^ 11 * 2 ^ 20) + l * 2 ^ 15 + p.serial % 2 ^ 15

/-- Are two tags of the same pod? -/
def samePod (a b : Nat) : Bool := bits a 30 20 == bits b 30 20 && bits a 14 0 == bits b 14 0 && a.testBit 31 && b.testBit 31

/-- What an access to a lock word comes to. -/
inductive LockRes where
  | val (w : Nat)
  | fault (cause detail : Nat)

/-- Where a lock word is. -/
inductive LockAt where
  | tile (a : Nat)
  | mem (x : XAddr)
  | sram (a : Nat)

/-- Read a lock word (08 R212: at tile store or at L2). -/
def State.lockGet (s : State) (c : Nat) (w : RemWho) (va : Nat) : LockAt → LockRes × State
  | .tile a => (.val (leNat ((s.core c).ts.read a 4)), s)
  | .sram a => match s.gRead a 4 with
    | (.ok b, s) => (.val (leNat b), s)
    | (.error d, s) => (.fault C.GUARD_FAULT d, s)
  | .mem x =>
    match (s.l1Purge c ⟨x.dest, if x.comp = 0 then x.addr / 128 * 128 else x.addr, x.off / 128 * 128, x.comp, x.cache⟩).readAt w va 4 x with
    | (.ok b, s) => (.val (leNat b), s)
    | (.error e, s) => (.fault e.cause e.detail, s)

/-- Write a lock word. -/
def State.lockPut (s : State) (c : Nat) (w : RemWho) (va v : Nat) : LockAt → State
  | .tile a => s.tsWrite c a (leBytes 4 v)
  | .sram a => match s.gWrite a (leBytes 4 v) with
    | (.ok _, s) => s
    | (.error d, s) => s.guardFault d (some va)
  | .mem x => (s.writeAt w va ((leBytes 4 v).map some) false x).2

/-- One step of LKWAIT for a lane that finds w (08 R213). -/
def State.lkLane (s : State) (r : PodRef) (p : Pod) (tile : Bool) (k l va w : Nat) (put : State → Nat → State) : State :=
  let tag := lockTag r p l
  let bit := 1 <<< l
  let setMd := fun (s : State) (b : Bool) => s.modPod r (fun q => { q with m := q.m.modify k (fun v => setBit v l b) })
  if w = 0 then setMd (put s tag) true
  else if w = tag then setMd s true
  else if samePod w tag then
    (s.modPod r (fun q => { q with
      m := q.m.modify 0 (fun v => setBit v l false), park := q.park ||| bit
      parkAddr := (l, tile, va) :: q.parkAddr.filter (·.1 ≠ l) })).incCore r R.CORE_PARK_COUNT 1
  else setMd s false

/-- One step of UNLK for a lane whose bit in md is 1 (08 R214). -/
def State.ukLane (s : State) (r : PodRef) (p : Pod) (tile : Bool) (k l va w : Nat) (put : State → Nat → State) : State :=
  let clear := fun (s : State) => s.modPod r (fun q => { q with m := q.m.modify k (fun v => setBit v l false) })
  match s.pod? r with
  | none => s
  | some q =>
    if w ≠ lockTag r p l then (clear s).incCore r R.CORE_UNLK_NOT_OWNER_COUNT 1
    else match (lanesOf q.park).find? (fun j => (q.parkAddr.find? (·.1 == j)).map (·.2) == some (tile, va)) with
      | some j =>
        let s := put s (lockTag r p j)
        (clear s).modPod r (fun q => { q with
          park := setBit q.park j false, parkAddr := q.parkAddr.filter (·.1 ≠ j)
          m := (q.m.modify 0 (fun v => setBit v j true)).modify k (fun v => setBit v j true) })
      | none => put (clear s) 0

/-- Run lanes of a lock instruction in order; a fault ends it. -/
def State.lockLanes (s : State) (r : PodRef) (c : Nat) (p : Pod) (step : State → Nat → Nat → Nat → (State → Nat → State) → State) :
    List (Nat × Nat × LockAt) → State
  | [] => s
  | (l, va, at') :: t =>
    let w := podWho c p
    match s.lockGet c w va at' with
    | (.fault cause d, s) =>
      (match r with
       | .guard => s.guardFault d (some va)
       | .slot _ _ => s.podStop r c p cause d (some va))
    | (.val v, s) =>
      let s := step s l va v (fun s v => s.lockPut c w va v at')
      if r = .guard && s.gd.pod.isNone then s else s.lockLanes r c p step t

/-- Translate the address of a lock (08 R212): none when its page is remote, before any right is looked at; else it needs AT. -/
def State.lockPage (s : State) (h c va : Nat) : Except MErr (Option XAddr) × State :=
  if 2 ^ 48 ≤ va then (.error ⟨C.XLT_VA_RANGE, 0, 0⟩, s.xltFault h c va ⟨C.XLT_VA_RANGE, 0, 0⟩)
  else
    let use := fun (s : State) (t : Tlb) (fresh : Bool) =>
      match t.dest with
      | .remote _ => ((.ok none : Except MErr (Option XAddr)), s)
      | _ =>
        match s.useErr t .atm with
        | some e => (.error e, s.xltFault h c va e)
        | none => (.ok (some (t.apply va)), if fresh then s.cacheTlb h t else s)
    match s.tlbFind h c va with
    | some t => use s t false
    | none =>
      if !s.walkerFree then (.error ⟨C.HOST_WAIT, 0, 0⟩, s)
      else match (s.countWalk h c).walk c va with
        | (.error e, s) => (.error e, s.xltFault h c va e)
        | (.ok t, s) => use s t true

/-- Translate the lock addresses of lanes (08 R212); the answer is the places, or what ends the instruction: a fault, or the lanes whose lock is
remote. -/
def State.lockXlate (s : State) (c : Nat) (w : RemWho) : List (Nat × Nat) → List (Nat × Nat × LockAt) → List Nat →
    Except VErr (List (Nat × Nat × LockAt) × List Nat) × State
  | [], acc, rem => (.ok (acc, rem), s)
  | (l, a) :: t, acc, rem =>
    match s.lockPage w.holder w.ctx a with
    | (.error e, s) => (.error ⟨e, a⟩, s)
    | (.ok none, s) => s.lockXlate c w t acc (rem ++ [l])
    | (.ok (some x), s) => s.lockXlate c w t (acc ++ [(l, a, .mem x)]) rem

/-- Does a line request of the pod that is still outstanding touch the lock word of one of its lanes (08 R227)? -/
def Core.lockBehind (co : Core) (p : Pod) (as : List (Nat × Nat)) : Bool :=
  co.lines.any (fun l => l.uid == p.uid && as.any (fun a => a.2 / 128 * 128 == l.va && l.lanes.any (fun b => b.1 == a.1 && overlaps b.2 l.size (a.2 % 128) 4)))

/-- LKWAIT and UNLK: addresses, alignment, places, then the lanes in increasing order (08 R212 to R215, 09 R254, R262). -/
def lockOp (ev : String) (op : Nat) (r : PodRef) (i : Ins) (s : State) (pre : Pod → Pod) (active : Pod → Nat → Nat)
    (step : State → Pod → Nat → Nat → Nat → (State → Nat → State) → State) : Out :=
  issue ev op r i s (fun s p e =>
    let tile := i.m.testBit 0
    let ls := lanesOf (active p e)
    let as := ls.map (fun l => (l, if tile then s.vget r p i.a l else s.vget64 r p i.a l))
    match misaligned p as 4 with
    | some t => .done (s.trap r t) 0
    | none =>
      match r with
      | .guard =>
        (match s.gRange false 4 as with
         | some a => .done (s.guardFault 0x62 (some a)) 0
         | none =>
           let u := (s.modPod r pre).lockLanes r 32 p (fun s l va w put => step s p l va w put) (as.map (fun a => (a.1, a.2, LockAt.sram a.2)))
           let fin := p.issueAt op i + 6 + ls.length
           let u := if u.gd.sram = s.gd.sram then u else u.modPod r (fun q => { q with tm := { q.tm with busy := max q.tm.busy fin } })
           .done (u.orphan r) (6 + ls.length))
      | .slot c _ =>
        if tile then
          (match as.findSome? (fun a => match p.tsMap a.2 4 with | .error d => some (d, a.2) | .ok _ => none) with
           | some (d, o) => .done (s.podStop r c p C.TILE_STORE_RANGE d (some o)) 0
           | none => .done ((((s.tsReplay r p.ctx as 4).modPod r pre).lockLanes r c p (fun s l va w put => step s p l va w put)
               (as.map (fun a => (a.1, a.2, LockAt.tile ((p.tsMap a.2 4).toOption.getD 0))))).orphan r) 0)
        else if (s.core c).lockBehind p as then .wait
        else if 256 < (s.core c).lines.length + (groupLines as).length then .full
        else match (s.bump (rk R.CORE_LINE_REQ_COUNT c) (groupLines as).length).lockXlate c (podWho c p) as [] [] with
          | (.error v, s) =>
            if v.e.cause = C.HOST_WAIT then .wait else .done (s.podStop r c p v.e.cause v.e.detail (some v.va)) 0
          | (.ok (pl, rem), s) =>
            if rem.isEmpty then
              .done (((s.modPod r pre).lockLanes r c p (fun s l va w put => step s p l va w put) pl).orphan r) 0
            else .done (s.trap r {
              cause := 5, detail := 0, lanes := maskOf rem, pc := p.pc, resume := p.pc
              addrs := (List.range 32).map (fun l => ((as.find? (·.1 == l)).map (·.2)).getD 0) }) 0)

/-- LKWAIT: it first clears md (09 R254). -/
def execLkwait (r : PodRef) (i : Ins) (s : State) : Out :=
  lockOp "LKWAIT" 0x82 r i s (fun q => q.mput (i.d - 0x80) 0) (fun _ e => e)
    (fun s p l va w put => s.lkLane r p (i.m.testBit 0) (i.d - 0x80) l va w put)

/-- UNLK: over the lanes of the effective mask whose bit in md is 1. -/
def execUnlk (r : PodRef) (i : Ins) (s : State) : Out :=
  lockOp "UNLK" 0x83 r i s id (fun p e => e &&& p.sget i.d)
    (fun s p l va w put => s.ukLane r p (i.m.testBit 0) (i.d - 0x80) l va w put)

end Sys2Proof.Machine
end

