-- ==== Sys2Proof/Machine/Tensor.lean ====
section
/-! DEFINITION. The tensor arrays: TMMA and TCVT (09 R256; 10 R273, R276; 11 R287 to R294). -/

namespace Sys2Proof.Machine

/-- The operand ranges of a tensor instruction in the order A, B, C, D. -/
def tensorRanges (p : Pod) (cvt : Bool) (i : Ins) (cyc : Nat) : List (Nat × Nat) :=
  let ext := i.ext.toNat
  let (nd, na, nb, nc) := tensorSizes cvt ext (p.sv i cyc i.b)
  [(p.sv i cyc i.a, na)] ++ (if cvt then [] else [(p.sv i cyc i.b, nb)]) ++ (if ext.testBit 28 && !cvt then [(p.sv i cyc i.c, nc)] else []) ++
    [(p.sv i cyc i.d, nd)]

/-- Rounding mode of a TMMA: it never rounds stochastically (11 R291). -/
def tmmaMode (p : Pod) (ext : Nat) : Nat := let m := p.cvtMode (bits ext 31 29); if m = 4 then 0 else m

/-- Issue a TMMA or TCVT on a shader core: offsets, ranges, a place in the queue of 16 (11 R287, R289). -/
def State.tensorIssue (s : State) (r : PodRef) (c : Nat) (p : Pod) (op : Nat) (i : Ins) (cyc e : Nat) : Body :=
  let cvt := op == 0xA1
  let rs := tensorRanges p cvt i cyc
  let ext := i.ext.toNat
  let at' := fun (o : Nat) => (p.viewMap o 0).toOption.getD 0
  match rs.find? (fun x => x.1 % 128 ≠ 0) with
  | some x => .done (s.trap r {
      cause := 3, detail := 7, lanes := e, pc := p.pc, resume := p.pc
      addrs := (List.range 32).map (fun l => if e.testBit l then x.1 else 0) }) 0
  | none =>
    match (rs.filter (·.2 ≠ 0)).findSome? (fun x => match p.viewMap x.1 x.2 with | .error d => some (d, x.1) | .ok _ => none) with
    | some (d, o) => .done (s.podStop r c p C.TILE_STORE_RANGE d (some o)) 0
    | none =>
      if 16 ≤ ((s.core c).tq.filter (fun t => !t.started)).length then .held
      else
        let (id, s) := s.opStart r c p op i .tensor 1
        let t : TensorOp := {
          op := id, uid := p.uid, slot := p.slot, ctx := p.ctx, pc := p.pc, lanes := e, cvt := cvt, gens := p.gens
          tile := if p.pixel then p.pkt.map (fun k => (k, p.tile)) else none, d := at' (p.sv i cyc i.d), a := at' (p.sv i cyc i.a)
          b := if cvt then cvtCount (p.sv i cyc i.b) else at' (p.sv i cyc i.b), c := at' (p.sv i cyc i.c), ext := ext, ftz := p.ftz
          rmode := if cvt then p.cvtMode (bits ext 31 29) else tmmaMode p ext }
        .done (s.modCore c (fun co => { co with tq := co.tq ++ [t] })) 0

/-- TMMA; on the guard core it works on guard SRAM and takes 16 + MACs/256 cycles (11 R294). -/
def execTmma (r : PodRef) (i : Ins) (s : State) : Out :=
  issue "TMMA" 0xA0 r i s (fun s p e =>
    let (cyc, s) := s.cycles r p 0xA0 i
    match r with
    | .slot c _ => s.tensorIssue r c p 0xA0 i cyc e
    | .guard =>
      let rs := tensorRanges p false i cyc
      let ext := i.ext.toNat
      let (mm, nn, k) := shapeOf (bits ext 27 24)
      let lat := 16 + mm * nn * k / 256
      let d := p.sv i cyc i.d
      let nd := (tensorSizes false ext 0).1
      let srcs := rs.dropLast
      if rs.any (fun x => x.1 % 128 ≠ 0) then .done s.guardTrap lat
      else match (srcs.find? (fun x => sramSize < x.1 + x.2)).orElse (fun _ => (s.gRange true nd [(0, d)]).map (fun a => (a, nd))) with
        | some x => .done (s.guardFault 0x62 (some x.1)) lat
        | none =>
          match srcs.findSome? (fun x => (wordsOf x.1 x.2).find? s.gd.ue.contains) with
          | some w => .done ((s.inc R.GD_SRAM_UE_COUNT).guardFault 0x63 (some (8 * w))) lat
          | none =>
            let (bs, fl) := tmmaResult s.gd.sram (p.sv i cyc i.a) (p.sv i cyc i.b) (p.sv i cyc i.c) ext (tmmaMode p ext) p.ftz
            .done ((s.sramPut d bs).raise r p (p.pc + 16) ((lanesOf e).map (fun l => (l, fl)))) lat)

/-- TCVT. -/
def execTcvt (r : PodRef) (i : Ins) (s : State) : Out :=
  issue "TCVT" 0xA1 r i s (fun s p e =>
    let (cyc, s) := s.cycles r p 0xA1 i
    match r with
    | .slot c _ => s.tensorIssue r c p 0xA1 i cyc e
    | .guard => .done s 0)

/-- TENSOR_START (11 R289): the oldest queued instruction of a core starts. -/
def execTensorStart (core : Nat) (s : State) : Out := s.rooted "TENSOR_START" <|
  match (s.core core).tq.findIdx? (fun t => !t.started) with
  | some k => .next (s.modCore core (fun co => { co with tq := co.tq.modify k (fun t => { t with started := true }) }))
  | none => never "TENSOR_START"

/-- Write D: a word that pods wrote meanwhile keeps the pod's value or takes the result, freely (11 R290). -/
def State.writeD (s : State) (c d : Nat) (raced : List (Nat × Nat)) (bs : List Byte) : State :=
  let hit := ((raced.map (·.1)).eraseDups).filter (fun w => d ≤ w && w < d + bs.length)
  let (keep, s) := hit.foldl (fun (x : List Nat × State) w => let (v, s) := x.2.draw; (if v % 2 = 0 then x.1 else w :: x.1, s)) ([], s)
  let m := (s.core c).ts
  let m' := keep.foldl (fun (k : Mem) w => k.write w (m.read w 4)) (m.write d bs)
  s.modCore c (fun co => { co with ts := m' })

/-- TENSOR_COMPLETE (11 R288 to R293, 10 R276): the oldest started instruction of a core writes its results. -/
def execTensorComplete (core : Nat) (s : State) : Out := s.rooted "TENSOR_COMPLETE" <|
  match (s.core core).tq with
  | [] => never "TENSOR_COMPLETE"
  | t :: rest =>
    if !t.started then never "TENSOR_COMPLETE"
    else
      let (view, s) := s.raceView (s.core core).ts t.raced
      let (bs, fl, gens) := t.result view (s.gensOf core t)
      let s := s.modCore core (fun co => { co with tq := rest.map (fun u => if u.uid = t.uid then { u with gens := gens } else u) })
      let s := s.writeD core t.d t.raced bs
      let ref := PodRef.slot core t.slot
      let s := match s.opPod core t.slot t.uid with
        | some p =>
          let s := s.modPod ref (fun q => { q with gens := gens })
          s.raise ref { p with pc := t.pc } p.pc ((lanesOf t.lanes).map (fun l => (l, fl)))
        | none => s
      let (mm, nn, k) := shapeOf (bits t.ext 27 24)
      let s := if t.cvt then s else s.perfCtx 9 t.ctx (mm * nn * k)
      .next (match (s.core core).ops.find? (·.id == t.op) with
        | some o => s.opDone core o
        | none => s)

end Sys2Proof.Machine
end

