-- ==== Sys2Proof/Machine/Cores.lean ====
section
/-! DEFINITION. Kernels, workgroups and pods (08 R200 to R204, R216, R217, R225): DISPATCH, WORKGROUP_LAUNCH, POD_RETIRE, TRAP_ENTRY. -/

namespace Sys2Proof.Machine

/-- A fault of a packet met by the front end of its queue. -/
def State.pktVErr (s : State) (id q : Nat) (v : VErr) : State := s.pktFault id (v.at (qEng q)) 0x80

/-- A packet whose own work is invalid: PKT_INVALID with a DETAIL (04 R111, 05 R123). -/
def State.pktBad (s : State) (id q detail : Nat) : State := s.pktFault id ⟨qEng q, C.PKT_INVALID, detail, none⟩ 0x21

/-- Does a kernel descriptor break Table COR-4? The DETAIL. -/
def kernelErr (k : List Byte) (argVA : Nat) (a : Adm) : Option Nat :=
  let pods := fieldAt k 6 1
  let args := fieldAt k 7 1
  let vregs := fieldAt k 0x18 2
  let shared := fieldAt k 0x1A 2
  let fl := fieldAt k 0x1C 4
  if args ≠ 0 && argVA % 64 ≠ 0 then some 0x10
  else if fieldAt k 0 4 ≠ 0x4B445331 || fieldAt k 4 2 ≠ 1 then some 0x11
  else if pods = 0 || 32 < pods || 64 < args || vregs < 8 || 256 < vregs || vregs % 8 ≠ 0 || 488 < shared || 4 < bits fl 3 1 ||
      (fl.testBit 10 && shared ≠ 0) then some 0x12
  else if a.pods < pods || a.regKib < pods * vregs / 8 || a.tsKib < shared then some 0x13
  else none

/-- DISPATCH (08 R200, R201): a packet starts on a cluster scheduler. -/
def execDispatch (q : Nat) (s₀ : State) : Out := s₀.rooted "DISPATCH" <|
  match s₀.start q 1 with
  | none => never "DISPATCH"
  | some (p, s) =>
    let w := fenceWho q p
    let pk := p.pkt
    if pk.a0 % 64 ≠ 0 then .next (s.pktBad p.id q 0x10)
    else match s.vread w pk.a0 64 with
      | (.error v, s) => if v.e.cause = C.HOST_WAIT then s₀.waitOr s "DISPATCH" else .next (s.pktVErr p.id q v)
      | (.ok k, s) =>
        match kernelErr k pk.a2 ((s.adm? p.ctx).getD {}) with
        | some d => .next (s.pktBad p.id q d)
        | none =>
          let n := fieldAt k 7 1
          match (if n = 0 then (.ok [], s) else s.vread w pk.a2 (4 * n)) with
          | (.error v, s) => if v.e.cause = C.HOST_WAIT then s₀.waitOr s "DISPATCH" else .next (s.pktVErr p.id q v)
          | (.ok args, s) =>
            let x := bits pk.a1 15 0
            let y := bits pk.a1 31 16
            let z := bits pk.a1 47 32
            if x * y * z = 0 then .next (s.finish p.id)
            else
              let fl := fieldAt k 0x1C 4
              let d : Disp := {
                pkt := p.id, ctx := p.ctx, cluster := q / 4, pods := fieldAt k 6 1
                args := (List.range n).map (fun j => fieldAt args (4 * j) 4), code := bits (fieldAt k 8 8) 47 3 * 8
                trapVA := bits (fieldAt k 0x10 8) 47 3 * 8, vregs := fieldAt k 0x18 2, shared := fieldAt k 0x1A 2
                fp := fl % 1024, view := b2n (fl.testBit 10), nx := x, ny := y, nz := z, argVA := pk.a2 }
              .next { s with disps := s.disps ++ [d] }

/-- First fit of n units in [lo, lo+len) outside taken ranges (start, size), in steps of one unit. -/
def firstFit (lo len n : Nat) (taken : List (Nat × Nat)) : Option Nat :=
  ((List.range (len + 1 - n)).map (lo + ·)).find? (fun a => taken.all (fun t => !overlaps a n t.1 t.2))

/-- First fit of one range of n units for each of k pods. -/
def firstFits (lo len n : Nat) : Nat → List (Nat × Nat) → Option (List Nat)
  | 0, _ => some []
  | k + 1, taken => match firstFit lo len n taken with
    | none => none
    | some a => (firstFits lo len n k ((a, n) :: taken)).map (a :: ·)

/-- Register and tile store ranges that workgroups of a context hold on a core. -/
def Core.regsTaken (co : Core) : List (Nat × Nat) := co.wgs.flatMap (·.regs)
def Core.tilesTaken (co : Core) : List (Nat × Nat) := (co.wgs.map (·.ts)).filter (·.2 ≠ 0)

/-- Is core c fenced (06 R174)? -/
def State.fenced (s : State) (c : Nat) : Bool := s.bit R.PT_FENCED c

/-- Does core c receive no workgroup and no pixel pod: fenced, or under self-test (06 R173, R174)? -/
def State.closed (s : State) (c : Nat) : Bool :=
  s.fenced c || (s.bit R.PT_REPAIR_STATUS 7 && s.field R.PT_REPAIR_STATUS 4 0 == c)

/-- The pod at index k of a workgroup (08 Table COR-5, 10 R273). -/
def startPod (d : Disp) (w c slot k uid serial regKib : Nat) (ts : Nat × Nat) (wg : Nat) : Pod :=
  let base : Pod := {
    uid := uid, slot := slot, ctx := d.ctx, pkt := some d.pkt, wg := wg, trapVA := d.trapVA, pc := d.code, fpctrl := d.fp
    vregs := d.vregs, regBase := regKib * 1024, view := d.view, tsBase := ts.1 * 1024, tsLen := ts.2 * 1024, serial := serial
    gens := (List.range 32).map (fun l => genSeed (32 * (w * d.pods + k) + l)) }
  let sc := [w % d.nx, w / d.nx % d.ny, w / d.nx / d.ny, k, d.argVA, d.argVA / 2 ^ 32, c, slot] ++ d.args
  sc.zipIdx.foldl (fun p (v, j) => p.sput j v) base

/-- Invalidate the clean L1 lines and the instruction cache lines of a context on a core (08 R225) and its lines in the node cache of the core's
ray traversal unit (13 R339). -/
def State.kernelBegin (s : State) (c ctx : Nat) : State :=
  ({ s.l1Drop c ctx with
      rtus := s.rtus.modify (c / 2) (fun u => { u with cache := u.cache.filter (·.1 ≠ ctx) }) }).modCore c
    (fun co => { co with icache := co.icache.filter (·.1 ≠ ctx) })

/-- Slots of a context's reservation that are free on a core. -/
def State.slotsFree (s : State) (a : Adm) (core : Nat) : List Nat := a.slots.filter (fun k => !(s.core core).pods.any (·.slot == k))

/-- Register ranges and the tile store range that the next workgroup of a packet takes on a core, if the core can take it (08 R201, R202). -/
def State.wgRoom (s : State) (d : Disp) (core : Nat) : Option (List Nat × Nat) :=
  let a := (s.adm? d.ctx).getD {}
  let co := s.core core
  let used := (co.pods.filter (·.ctx == d.ctx)).length
  if core / 4 == d.cluster && s.on (D.CL + d.cluster) && !s.closed core && d.next < d.nx * d.ny * d.nz && used + d.pods ≤ a.pods &&
      d.pods ≤ (s.slotsFree a core).length then
    match firstFits a.regLo a.regKib (d.vregs / 8) d.pods co.regsTaken, firstFit a.tsLo a.tsKib (if d.view = 0 then d.shared else 0) co.tilesTaken with
    | some regs, some ts => some (regs, ts)
    | _, _ => none
  else none

/-- Is a packet's work neither aborted nor past its time? -/
def State.goesOn (s : State) (pkt : Nat) : Bool :=
  match s.findPkt pkt with
  | some (_, p) => p.abort.isNone && !p.timedOut
  | none => false

/-- Is a context its partition's favoured one (06 R166, R170)? -/
def State.favoured (s : State) (c : Nat) : Bool :=
  match s.adm? c with
  | some a => a.part < 8 && s.reg (rk R.PT_P_FAV a.part) == BitVec.ofNat 32 a.resIdx
  | none => false

/-- The rank of started work among the work of its partition, the smallest first, equal ranks by age (06 R166, R170): the priority of its queue, then
favour. -/
def State.workRank (s : State) (d : Disp) : Nat := 2 * (((s.findPkt d.pkt).map (·.1 % 4)).getD 0) + b2n (!s.favoured d.ctx)

/-- Does a packet, the i-th oldest, come before the j-th oldest on their cluster scheduler (06 R166): both are of one partition, and its next workgroup
could be launched now? -/
def State.wgBefore (s : State) (e : Disp) (i : Nat) (d : Disp) (j : Nat) : Bool :=
  e.cluster == d.cluster && s.ctxPart e.ctx == s.ctxPart d.ctx && s.goesOn e.pkt && (List.range 4).any (fun k => (s.wgRoom e (4 * e.cluster + k)).isSome) &&
    (s.workRank e < s.workRank d || (s.workRank e == s.workRank d && i < j))

/-- Is it a packet's turn on its cluster scheduler? -/
def State.wgTurn (s : State) (d : Disp) : Bool :=
  let j := s.disps.findIdx (·.pkt == d.pkt)
  s.disps.zipIdx.all (fun x => x.1.pkt == d.pkt || !s.wgBefore x.1 x.2 d j)

/-- WORKGROUP_LAUNCH (08 R201 to R203, 06 R166): the scheduler launches the next workgroup of a packet on a core, in slots that are free. Which free
slots it takes, and which core that can take it, the spec leaves open. -/
def execWorkgroupLaunch (pkt core : Nat) (slots : List Nat) (s : State) : Out := s.rooted "WORKGROUP_LAUNCH" <|
  match s.disps.find? (·.pkt == pkt) with
  | some d =>
    let a := (s.adm? d.ctx).getD {}
    let ok := s.goesOn pkt && s.wgTurn d && slots.length == d.pods && slots.all (s.slotsFree a core).contains && slots.eraseDups == slots
    let shared := if d.view = 0 then d.shared else 0
    match s.wgRoom d core with
    | some (regs, ts) =>
      if !ok then never "WORKGROUP_LAUNCH"
      else
        let s := if d.used.contains core then s else s.kernelBegin core d.ctx
        let wg := s.qm.nextId
        let w := d.next
        let view := if d.view = 0 then (ts, d.shared) else (a.tsLo, a.tsKib)
        let start := (s.core core).starts
        let pods := (slots.zip regs).zipIdx.map (fun (x, k) =>
          startPod d w core x.1 k (wg + 1 + k) (start + k) x.2 view wg)
        let s := { s with
          qm := { s.qm with nextId := wg + 1 + d.pods }
          disps := s.disps.map (fun (e : Disp) => if e.pkt = pkt then { e with next := w + 1, used := (core :: e.used).eraseDups } else e) }
        let s := s.modCore core (fun co => { co with
          pods := co.pods ++ pods, starts := start + d.pods
          wgs := co.wgs ++ [Workgroup.mk wg pkt d.ctx slots (regs.map (fun r => (r, d.vregs / 8))) (ts, shared)] })
        let s := s.bump (rk R.CORE_WG_LAUNCH_COUNT core) 1
        .next (pods.zipIdx.foldl (fun s (p, k) => (List.range 32).foldl (fun s l => s.vput (.slot core p.slot) p 0 l (32 * k + l)) s) s)
    | none => never "WORKGROUP_LAUNCH"
  | none => never "WORKGROUP_LAUNCH"

/-- Is a packet still running workgroups on a core, or are line requests of their pods, stores that no counter waits for, outstanding there (08 R204)? -/
def State.runsOn (s : State) (pkt c : Nat) : Bool := (s.core c).wgs.any (·.pkt == pkt) || (s.core c).lines.any (·.pkt == some pkt)

/-- Once a packet has launched its last workgroup, each core on which none of them runs any more writes its dirty lines back, and with
the last of them the packet's work has finished (08 R204, R225). -/
def State.dispSettle (s : State) (pkt : Nat) : State :=
  match s.disps.find? (·.pkt == pkt) with
  | none => s
  | some d =>
    if d.next < d.nx * d.ny * d.nz then s
    else
      let s := (d.used.filter (fun c => !s.runsOn pkt c)).foldl (fun s c => s.l1Clean c d.ctx) s
      if d.used.any (s.runsOn pkt) then s
      else ({ s with disps := s.disps.filter (·.pkt ≠ pkt) }).finish pkt

/-- Take a pod off its core; a workgroup whose last pod leaves frees its resources (08 R204). -/
def State.removePod (s : State) (c : Nat) (p : Pod) : State :=
  let s := s.modCore c (fun co => { co with
    pods := co.pods.filter (·.uid ≠ p.uid)
    tq := co.tq.map (fun t => if t.uid = p.uid then { t with gens := p.gens } else t) })
  let s := if (s.core c).pods.any (·.wg == p.wg) then s.barSettle c p.wg
    else s.modCore c (fun co => { co with wgs := co.wgs.filter (·.id ≠ p.wg) })
  if p.pixel then s.pixSettle c p.tile else s

/-- POD_RETIRE (08 R204). -/
def execPodRetire (core slot : Nat) (s : State) : Out := s.rooted "POD_RETIRE" <|
  match s.pod? (.slot core slot) with
  | some p =>
    if p.live = 0 && p.sb.all (· == 0) then
      let s := s.removePod core p
      .next (match p.pkt with
        | some id => if p.pixel then s.pixRetire core p.tile p.uid else s.dispSettle id
        | none => s)
    else never "POD_RETIRE"
  | none => never "POD_RETIRE"

/-- The 512 bytes of a trap record but SCRATCH (08 Table COR-8). -/
def trapBytes (p : Pod) (t : Trap) : List Byte :=
  leBytes 8 t.pc ++ leBytes 8 t.resume ++ leBytes 4 (t.cause + t.detail % 256 * 256) ++ leBytes 4 t.lanes ++
    ((List.range 4).flatMap (fun k => leBytes 4 (p.m.getD k 0))) ++ leBytes 4 p.live ++ leBytes 4 p.park ++ leBytes 4 (p.preds % 256) ++
    leBytes 4 p.fpstat ++ leBytes 4 p.fpctrl ++ leBytes 4 0 ++ ((List.range 8).flatMap (fun k => leBytes 4 (p.sget (120 + k)))) ++
    List.replicate 32 0 ++ ((List.range 32).flatMap (fun l => leBytes 8 (t.addrs.getD l 0)))

/-- TRAP_ENTRY (08 R216): once the pod's counters are 0; a trap without a handler, or in trap mode, fails the job. -/
def execTrapEntry (core slot : Nat) (s : State) : Out := s.rooted "TRAP_ENTRY" <|
  match s.pod? (.slot core slot) with
  | some p =>
    match p.trap with
    | some t =>
      if p.dead || !p.sb.all (· == 0) then never "TRAP_ENTRY"
      else
        let r := PodRef.slot core slot
        if p.trapVA = 0 || p.trapMode then
          let va := if t.cause = 3 || t.cause = 5 then t.va.orElse (fun _ => (lanesOf t.lanes).head?.map (fun l => t.addrs.getD l 0)) else none
          .next (s.podStop r core p C.SHADER_TRAP t.cause va)
        else
          let s := s.modCore core (fun co => { co with ts := co.ts.write (trapRecord slot) (trapBytes p t) })
          let s := s.modPod r (fun q => { q with trap := q.lateTraps.head?, lateTraps := q.lateTraps.tail, trapMode := true, pc := q.trapVA, m := q.m.set 0 q.runnable })
          .next ((s.bump (rk R.CORE_TRAP_COUNT core) 1).setRegN (rk R.CORE_LAST_TRAP core)
            (t.cause + slot * 2 ^ 8 + p.ctx * 2 ^ 16 + t.detail % 256 * 2 ^ 24))
    | none => never "TRAP_ENTRY"
  | none => never "TRAP_ENTRY"

end Sys2Proof.Machine
end

