-- ==== Sys2Proof/Machine/Rings.lean ====
section
/-! DEFINITION. Free page rings (04 R103 to R105; 06 R160; 11 R299). -/

namespace Sys2Proof.Machine

/-- OCC, OUT, HEAD and TAIL of a partition's ring (06 Table PRT-9). -/
def State.ringOcc (s : State) (p : Nat) : Nat := s.field (rk R.PT_P_RING_OCC p) 16 0
def State.ringOut (s : State) (p : Nat) : Nat := s.field (rk R.PT_P_RING_OUT p) 16 0
def State.ringHead (s : State) (p : Nat) : Nat := s.field (rk R.PT_P_RING_POS p) 15 0
def State.ringTail (s : State) (p : Nat) : Nat := s.field (rk R.PT_P_RING_POS p) 31 16
def State.ringOn (s : State) (p : Nat) : Bool := s.bit (rk R.PT_P_RING_CTRL p) 0

/-- Base and size of the ring memory as of its last enable (06 R160). -/
def State.ringMem (s : State) (p : Nat) : Nat × Nat := let (b, l) := s.pt.rings.getD p (0, 0); (b, 2 ^ l)

/-- Read n entries of a ring from the index h on. -/
def State.ringEntries (s : State) (base size : Nat) : Nat → Nat → Except MErr (List Nat) × State
  | 0, _ => (.ok [], s)
  | n + 1, h =>
    match s.readLoc (base + 8 * (h % size)) 8 with
    | (.error e, s) => (.error e, s)
    | (.ok b, s) =>
      match s.ringEntries base size n (h + 1) with
      | (.ok l, s) => (.ok (bits (leNat b) 47 16 * 65536 :: l), s)
      | (.error e, s) => (.error e, s)

/-- A take of n pages: the pages, none when it fails with DEFERRED_NO_PAGES, or the fault of reading an entry (04 R105, 11 R299). -/
def State.ringTake (s : State) (p n : Nat) : Except MErr (Option (List Nat)) × State :=
  if !s.ringOn p || s.ringOcc p < n then (.ok none, s.inc (rk R.PT_P_RING_EMPTY_COUNT p))
  else
    let (base, size) := s.ringMem p
    let h := s.ringHead p
    match s.ringEntries base size n h with
    | (.error e, s) => (.error e, s)
    | (.ok l, s) =>
      let s := s.setField (rk R.PT_P_RING_POS p) 15 0 ((h + n) % size)
      (.ok (some l), (s.setRegN (rk R.PT_P_RING_OCC p) (s.ringOcc p - n)).setRegN (rk R.PT_P_RING_OUT p) (s.ringOut p + n))

/-- Write one entry at TAIL. Where its stack cannot be written the spec is silent: the entry is lost, and TAIL and OCC advance (DESIGN CHOICE,
notes/assumptions/73.md). -/
def State.ringPut (s : State) (p va : Nat) : State :=
  let (base, size) := s.ringMem p
  let t := s.ringTail p
  let s := (s.writeLoc (base + 8 * (t % size)) (leBytes 8 (bits va 47 16 * 65536)) true).2
  let s := s.setField (rk R.PT_P_RING_POS p) 31 16 ((t + 1) % size)
  s.setRegN (rk R.PT_P_RING_OCC p) (s.ringOcc p + 1)

/-- A return of pages, in order (04 R104). -/
def State.ringReturn (s : State) (p : Nat) (pages : List Nat) : State :=
  let s := pages.foldl (fun s va => s.ringPut p va) s
  s.setRegN (rk R.PT_P_RING_OUT p) (s.ringOut p - pages.length)

/-- A driver's push (04 R103, R104): refused when OCC + OUT equals the ring's size. -/
def State.ringPush (s : State) (p va : Nat) : State :=
  if !s.ringOn p then s.viol
  else if (s.ringMem p).2 ≤ s.ringOcc p + s.ringOut p then s.inc (rk R.PT_P_RING_FULL_COUNT p)
  else s.ringPut p va

end Sys2Proof.Machine
end

