-- ==== Sys2Proof/Machine/Raster.lean ====
section
/-! DEFINITION. The tile raster pipeline (12 R303 to R322): RENDER_PASS, PRIMITIVE_BIN, FLUSH_RESUME, TILE_DISPATCH, PIXEL_POD_LAUNCH,
TILE_WRITE_OUT, PASS_PAGE_RETURN. -/

namespace Sys2Proof.Machine

/-- Is work of a packet still to go on: no abort, no expired timer (05 R147)? -/
def State.pktLive (s : State) (id : Nat) : Bool :=
  match s.findPkt id with
  | some (_, p) => p.abort.isNone && !p.timedOut && p.fin.isNone
  | none => false

/-- Why a pass cannot go on: its packet is invalid with a DETAIL, or a fault. -/
inductive PassErr where
  | bad (detail : Nat)
  | fault (f : JobFault)
deriving DecidableEq, Repr

/-- RAS_STATUS of the running pass (12 Table RAS-15). -/
def State.rasStatus (s : State) (seg ctx st : Nat) : State := s.setRegN R.RAS_STATUS (seg % 2 ^ 16 * 2 ^ 16 + ctx % 256 * 2 ^ 8 + st)

/-- Colour attachment j of a descriptor (12 Table RAS-3). -/
def colorAt (d : List Byte) (j : Nat) : List Byte := (d.drop (0x80 + 48 * j)).take 48

/-- Operations of an OPS byte. -/
def loadOp (b : Nat) : Nat := b % 4
def storeOp (b : Nat) : Nat := b / 4 % 4

/-- Tiles across and down. -/
def tilesOf (n : Nat) : Nat := ceilDiv n 32

/-- A reserved field of the pass descriptor that is not 0 (12 Table RAS-2). -/
def passReserved (d : List Byte) : Bool :=
  let n := fieldAt d 0x0C 1
  fieldAt d 0x16 2 ≠ 0 || fieldAt d 0x44 4 ≠ 0 || fieldAt d 0x58 1 / 16 ≠ 0 || fieldAt d 0x59 3 ≠ 0 || fieldAt d 0x69 1 / 16 ≠ 0 ||
    fieldAt d 0x6A 22 ≠ 0 || fieldAt d (0x80 + 48 * n) (48 * (8 - n)) ≠ 0 ||
    (List.range n).any (fun j => let c := colorAt d j; fieldAt c 0x11 1 / 16 ≠ 0 || fieldAt c 0x13 1 ≠ 0 || fieldAt c 0x28 8 ≠ 0)

/-- A field out of range (DETAIL 0x21). -/
def passRange (d : List Byte) : Bool :=
  let w := fieldAt d 8 2
  let h := fieldAt d 0xA 2
  let df := fieldAt d 0xE 1
  let sc := fieldAt d 0x14 2
  1 < fieldAt d 6 1 || (fieldAt d 7 1 ≠ 1 && fieldAt d 7 1 ≠ 4) || w = 0 || 16384 < w || h = 0 || 16384 < h || 8 < fieldAt d 0xC 1 ||
    fieldAt d 0xD 1 = 0 || 2 < fieldAt d 0xD 1 || 2 < df || 1 < fieldAt d 0xF 1 || sc = 0 || 256 < sc || 2 ^ 24 < fieldAt d 0x28 4 ||
    (fieldAt d 6 1 = 1 && df = 0)

/-- An address that is misaligned, missing, or present where it must be 0 (DETAIL 0x22). -/
def passAddrs (d : List Byte) : Bool :=
  let f := fun o => fieldAt d o 8
  let need := fun (b : Bool) v n => if b then v = 0 || v % n ≠ 0 else v ≠ 0
  f 0x18 = 0 || f 0x18 % 32 ≠ 0 || (fieldAt d 0x28 4 ≠ 0 && f 0x20 = 0) || f 0x20 % 16 ≠ 0 || f 0x30 = 0 || f 0x30 % 64 ≠ 0 ||
    f 0x38 = 0 || f 0x38 % 65536 ≠ 0 || (fieldAt d 0x2C 4 ≠ 0 && f 0x48 = 0) || f 0x48 % 8 ≠ 0 ||
    need (fieldAt d 0xE 1 ≠ 0) (f 0x50) 256 || need (fieldAt d 0xF 1 ≠ 0) (f 0x60) 256 ||
    (List.range (fieldAt d 0xC 1)).any (fun j =>
      let c := colorAt d j
      fieldAt c 0 8 = 0 || fieldAt c 0 8 % 256 ≠ 0 || need (2 ≤ storeOp (fieldAt c 0x11 1)) (fieldAt c 8 8) 256)

/-- Bytes of the initial bin pool that are too few or no multiple of 64 KiB (DETAIL 0x23). -/
def passPool (d : List Byte) : Bool :=
  let b := fieldAt d 0x40 4
  b % 65536 ≠ 0 || b < ceilDiv (tilesOf (fieldAt d 8 2) * tilesOf (fieldAt d 0xA 2) * 128) 65536 * 65536

/-- A colour, depth or stencil attachment that breaks DETAIL 0x25. -/
def passFormats (d : List Byte) : Bool :=
  let smp := fieldAt d 7 1
  let plain := fun o => loadOp (fieldAt d o 1) = 3 || 2 ≤ storeOp (fieldAt d o 1)
  plain 0x58 || plain 0x69 ||
    (List.range (fieldAt d 0xC 1)).any (fun j =>
      let c := colorAt d j
      let fmt := fieldAt c 0x10 1
      let ops := fieldAt c 0x11 1
      let pitch := fieldAt c 0x14 4
      let lay := fieldAt c 0x12 1
      10 < fmt || loadOp ops = 3 || (2 ≤ storeOp ops && (smp = 1 || 9 ≤ fmt)) || 1 < lay || (lay = 1 && smp = 4) ||
        (if lay = 1 then pitch % 256 ≠ 0 || pitch < tilesOf (fieldAt d 8 2) * 32 * fmtBytes fmt else pitch ≠ 0))

/-- The planes of a tile set, in order, with their offsets (12 R312, Table RAS-10). -/
def passPlanes (d : List Byte) : List Plane :=
  let smp := fieldAt d 7 1
  let cols := (List.range (fieldAt d 0xC 1)).map (fun j =>
    let c := colorAt d j
    let fmt := fieldAt c 0x10 1
    let b := fmtBytes fmt
    let word := packSample fmt ((List.range 4).map (fun k => fieldAt c (0x18 + 4 * k) 4))
    Plane.mk 0 b (fieldAt c 0 8) (fieldAt c 8 8) fmt (loadOp (fieldAt c 0x11 1)) (storeOp (fieldAt c 0x11 1)) (fieldAt c 0x12 1 == 1)
      (fieldAt c 0x14 4) (leBytes b word))
  let df := fieldAt d 0xE 1
  let db := if df = 1 then 2 else 4
  let dep := if df = 0 then [] else
    [Plane.mk 0 db (fieldAt d 0x50 8) 0 (0xF + df) (loadOp (fieldAt d 0x58 1)) (storeOp (fieldAt d 0x58 1)) false 0
      (leBytes db (depthWord df (clamp01 (fieldAt d 0x5C 4))))]
  let st := if fieldAt d 0xF 1 = 0 then [] else
    [Plane.mk 0 1 (fieldAt d 0x60 8) 0 0x12 (loadOp (fieldAt d 0x69 1)) (storeOp (fieldAt d 0x69 1)) false 0 (leBytes 1 (fieldAt d 0x68 1))]
  let vis := if fieldAt d 6 1 = 1 then [Plane.mk 0 4 0 0 0x13 1 1 false 0 (leBytes 4 0xFFFFFFFF)] else []
  ((cols ++ dep ++ st ++ vis).foldl (fun (a : List Plane × Nat) p => (a.1 ++ [{ p with off := a.2 }], a.2 + 1024 * smp * p.bytes)) ([], 0)).1

/-- Size of a tile set. -/
def setBytesOf (d : List Byte) : Nat := ((passPlanes d).map (fun p => 1024 * fieldAt d 7 1 * p.bytes)).sum

/-- The first condition of Table RAS-6 that a pass descriptor breaks by itself; `ts` is the context's TS_KIB. -/
def passBad (d : List Byte) (ts : Nat) : Option Nat :=
  let tb := fieldAt d 0x10 4
  if fieldAt d 0 4 ≠ 0x52505331 || fieldAt d 4 2 ≠ 1 || passReserved d then some 0x20
  else if passRange d then some 0x21
  else if passAddrs d then some 0x22
  else if passPool d then some 0x23
  else if tb % 1024 ≠ 0 || ts * 1024 < tb + fieldAt d 0xD 1 * setBytesOf d then some 0x24
  else if passFormats d then some 0x25
  else none

/-- Does a shader table entry break DETAIL 0x26? -/
def shaderBad (df : Nat) (e : List Byte) : Bool :=
  let f := fieldAt e 0x10 4
  let early := f.testBit 0
  f / 64 ≠ 0 || fieldAt e 0x14 12 ≠ 0 || ((f.testBit 1 || f.testBit 5) && !early) || (early && df = 0)

/-- Does a pixel kernel descriptor break DETAIL 0x27? -/
def pixelKernelBad (kva : Nat) (k : List Byte) (argVA : Nat) (a : Adm) : Bool :=
  kva % 64 ≠ 0 || (kernelErr k argVA a).isSome || fieldAt k 6 1 ≠ 1 || !(fieldAt k 0x1C 4).testBit 10 || fieldAt k 0x1A 2 ≠ 0

/-- Read n structures of a size one after another. -/
def State.readEach (s : State) (w : RemWho) (size : Nat) : List Nat → Except VErr (List (List Byte)) × State
  | [] => (.ok [], s)
  | va :: t =>
    match s.vread w va size with
    | (.error v, s) => (.error v, s)
    | (.ok b, s) =>
      match s.readEach w size t with
      | (.ok l, s) => (.ok (b :: l), s)
      | (.error v, s) => (.error v, s)

/-- Read the argument words of each entry. -/
def State.readArgs (s : State) (w : RemWho) : List (Nat × Nat) → Except VErr (List (List Nat)) × State
  | [] => (.ok [], s)
  | (va, n) :: t =>
    match (if n = 0 then (.ok [], s) else s.vread w va (4 * n)) with
    | (.error v, s) => (.error v, s)
    | (.ok b, s) =>
      match s.readArgs w t with
      | (.ok l, s) => (.ok ((List.range n).map (fun j => fieldAt b (4 * j) 4) :: l), s)
      | (.error v, s) => (.error v, s)

/-- What the pass holds of an entry, its kernel and its arguments. -/
def shaderOf (e k : List Byte) (args : List Nat) : Shader :=
  let f := fieldAt e 0x10 4
  { earlyZ := f.testBit 0, zWrite := f.testBit 1, zFunc := bits f 4 2, opq := f.testBit 5, code := bits (fieldAt k 8 8) 47 3 * 8
    trapVA := bits (fieldAt k 0x10 8) 47 3 * 8, vregs := fieldAt k 0x18 2, fp := fieldAt k 0x1C 4 % 1024, argVA := fieldAt e 8 8, args := args }

/-- Read and check everything that the pass uses (12 R304). -/
def State.passRead (s : State) (w : RemWho) (d : List Byte) (a : Adm) : Except PassErr (List Shader) × State :=
  match passBad d a.tsKib with
  | some n => (.error (.bad n), s)
  | none =>
    match s.readEach w 32 ((List.range (fieldAt d 0x14 2)).map (fun i => fieldAt d 0x18 8 + 32 * i)) with
    | (.error v, s) => (.error (.fault (v.at w.eng)), s)
    | (.ok es, s) =>
      if es.any (shaderBad (fieldAt d 0xE 1)) then (.error (.bad 0x26), s)
      else if es.any (fun e => fieldAt e 0 8 % 64 ≠ 0) then (.error (.bad 0x27), s)
      else match s.readEach w 64 (es.map (fun e => fieldAt e 0 8)) with
        | (.error v, s) => (.error (.fault (v.at w.eng)), s)
        | (.ok ks, s) =>
          if (es.zip ks).any (fun x => pixelKernelBad (fieldAt x.1 0 8) x.2 (fieldAt x.1 8 8) a) then (.error (.bad 0x27), s)
          else if a.part = 8 || s.pt.parts.getD a.part .disabled = .disabled then (.error (.bad 0x28), s)
          else match s.readArgs w ((es.zip ks).map (fun x => (fieldAt x.1 8 8, fieldAt x.2 7 1))) with
            | (.error v, s) => (.error (.fault (v.at w.eng)), s)
            | (.ok as, s) => (.ok (((es.zip ks).zip as).map (fun x => shaderOf x.1.1 x.1.2 x.2)), s)

/-- The pass as it starts. -/
def passOf (p : QPkt) (d : List Byte) (a : Adm) (sh : List Shader) : Pass where
  pkt := p.id
  ctx := p.ctx
  part := a.part
  modeV := fieldAt d 6 1 == 1
  samples := fieldAt d 7 1
  tx := tilesOf (fieldAt d 8 2)
  ty := tilesOf (fieldAt d 0xA 2)
  sets := fieldAt d 0xD 1
  tbOff := fieldAt d 0x10 4
  setBytes := setBytesOf d
  depth := fieldAt d 0xE 1
  planes := passPlanes d
  shaders := sh
  primVA := fieldAt d 0x20 8
  primCount := fieldAt d 0x28 4
  maxGrow := fieldAt d 0x2C 4
  hdrVA := fieldAt d 0x30 8
  poolVA := fieldAt d 0x38 8
  poolChunks := fieldAt d 0x40 4 / 128
  logVA := fieldAt d 0x48 8
  phase := if fieldAt d 0x28 4 = 0 then .final else .binning

/-- An access that waits is no fault. -/
def JobFault.waits (f : JobFault) : Bool := f.cause == C.HOST_WAIT

/-- RENDER_PASS (12 R303, R304, R308): checks, reads, zeroed tile headers. -/
def execRenderPass (q : Nat) (s₀ : State) : Out := s₀.rooted "RENDER_PASS" <|
  match (if s₀.on D.BN && 32 ≤ q && q < 36 then s₀.start q 2 else none) with
  | none => never "RENDER_PASS"
  | some (p, s) =>
    let w := fenceWho q p
    let pk := p.pkt
    if pk.a1 ≠ 0 || pk.a2 ≠ 0 || pk.a0 % 64 ≠ 0 then .next (s.pktBad p.id q 0x20)
    else match s.vread w pk.a0 512 with
      | (.error v, s) => if v.e.cause = C.HOST_WAIT then s₀.waitOr s "RENDER_PASS" else .next (s.pktVErr p.id q v)
      | (.ok d, s) =>
        let a := (s.adm? p.ctx).getD {}
        match s.passRead w d a with
        | (.error (.bad n), s) => .next (s.pktBad p.id q n)
        | (.error (.fault f), s) => if f.waits then s₀.waitOr s "RENDER_PASS" else .next (s.pktFault p.id f 0x80)
        | (.ok sh, s) =>
          let ps := passOf p d a sh
          match s.vwrite w ps.hdrVA (List.replicate (16 * (ps.tx * ps.ty)) 0) false with
          | (.error v, s) => if v.e.cause = C.HOST_WAIT then s₀.waitOr s "RENDER_PASS" else .next (s.pktVErr p.id q v)
          | (.ok _, s) => .next ({ s with pass := some ps }.rasStatus 0 p.ctx (if ps.primCount = 0 then 4 else 2))

/-- Who makes the accesses of a pass. -/
def Pass.who (a : Pass) : RemWho := ⟨33, 33, a.ctx, some a.pkt, none⟩

/-- Address of a chunk by the order of carving (12 R308). -/
def Pass.chunkVA (a : Pass) (i : Nat) : Nat :=
  if i < a.poolChunks then a.poolVA + 128 * i else a.pages.getD ((i - a.poolChunks) / 512) 0 + 128 * ((i - a.poolChunks) % 512)

/-- What binning comes to: the pass goes on, bin memory has run out, or a fault with the pages that the pass has taken. -/
inductive BinRes where
  | ok (a : Pass)
  | flush (a : Pass)
  | fault (a : Pass) (f : JobFault)

/-- Carve the next chunk, growing bin memory by a page when that is due (12 R308). -/
def State.carve (s : State) (a : Pass) : BinRes × State :=
  if a.carved < a.poolChunks + 512 * a.pages.length then (.ok { a with carved := a.carved + 1 }, s.inc R.RAS_CHUNK_COUNT)
  else if a.maxGrow ≤ a.pages.length then (.flush a, s)
  else match s.ringTake a.part 1 with
    | (.error e, s) => (.fault a ⟨33, e.cause, e.detail, none⟩, s)
    | (.ok (some [va]), s) =>
      match s.vwrite a.who (a.logVA + 8 * a.pages.length) (leBytes 8 va) false with
      | (.error v, s) => (.fault { a with pages := a.pages ++ [va] } (v.at 33), s)
      | (.ok _, s) => (.ok { a with pages := a.pages ++ [va], carved := a.carved + 1 }, (s.inc R.RAS_GROW_COUNT).inc R.RAS_CHUNK_COUNT)
    | (.ok _, s) => (.flush a, s)

/-- Several writes one after another. -/
def State.vwrites (s : State) (w : RemWho) : List (Nat × List Byte) → Except VErr Unit × State
  | [] => (.ok (), s)
  | (va, b) :: t =>
    match s.vwrite w va b false with
    | (.error v, s) => (.error v, s)
    | (.ok _, s) => s.vwrites w t

/-- The 16 bytes of a tile header (12 Table RAS-8). -/
def hdrBytes (first count : Nat) (written : Bool) : List Byte := leBytes 8 first ++ leBytes 4 count ++ leBytes 4 (b2n written)

/-- Append an entry to the bin of a tile (12 R307, R308). -/
def State.binAppend (s : State) (a : Pass) (tile ix : Nat) : BinRes × State :=
  let b := (a.bins.find? (·.tile == tile)).getD ⟨tile, 0, 0, 0⟩
  let put := fun (a : Pass) (b : Bin) (ws : List (Nat × List Byte)) (s : State) =>
    match s.vwrites a.who (ws ++ [Prod.mk (a.hdrVA + 16 * tile) (hdrBytes b.first b.count (a.written.contains tile))]) with
    | (.error v, s) => (BinRes.fault a (v.at 33), s)
    | (.ok _, s) => (.ok { a with bins := b :: a.bins.filter (·.tile ≠ tile) }, s)
  if b.count % 30 ≠ 0 then put a { b with count := b.count + 1 } [(b.last + 4 * (b.count % 30), leBytes 4 ix)] s
  else match s.carve a with
    | (.ok a, s) =>
      let c := a.chunkVA (a.carved - 1)
      let chunk := leBytes 4 ix ++ List.replicate 116 0xFF ++ List.replicate 8 0
      put a { b with first := if b.count = 0 then c else b.first, last := c, count := b.count + 1 }
        ((c, chunk) :: (if b.count = 0 then [] else [(b.last + 0x78, leBytes 8 c)])) s
    | r => r

/-- Append an entry to the bins of several tiles. -/
def State.binAll (s : State) (a : Pass) (ix : Nat) : List Nat → BinRes × State
  | [] => (.ok a, s)
  | t :: ts =>
    match s.binAppend a t ix with
    | (.ok a, s) => s.binAll a ix ts
    | r => r

/-- A primitive record (12 Table RAS-5). -/
def parsePrim (ix : Nat) (b : List Byte) : Prim where
  ix := ix
  vs := (List.range 3).map (fun v => (asInt 32 (fieldAt b (12 * v) 4), asInt 32 (fieldAt b (12 * v + 4) 4), fieldAt b (12 * v + 8) 4))
  attr := fieldAt b 0x24 4
  sh := fieldAt b 0x28 1

/-- Is a primitive rejected (12 R305)? -/
def primRejected (shaders : Nat) (p : Prim) (b : List Byte) : Bool :=
  p.vs.any (fun v => v.1 < -0x400000 || 0x7FFFFF < v.1 || v.2.1 < -0x400000 || 0x7FFFFF < v.2.1) || shaders ≤ p.sh || fieldAt b 0x29 7 ≠ 0

/-- Tiles that a primitive touches, in linear order. -/
def Pass.tilesMet (a : Pass) (p : Prim) : List Nat := (List.range (a.tx * a.ty)).filter (fun t => p.meets (t % a.tx) (t / a.tx))

/-- The binner has dealt with a primitive; after the last the final segment begins (12 R310). -/
def State.primNext (s : State) (a : Pass) : State :=
  let a := { a with prim := a.prim + 1 }
  if a.prim < a.primCount then { s with pass := some a }
  else { s with pass := some { a with phase := .final, nextTile := 0 } }.rasStatus a.seg a.ctx 4

/-- PRIMITIVE_BIN (12 R305 to R309). -/
def execPrimitiveBin (s₀ : State) : Out := s₀.rooted "PRIMITIVE_BIN" <|
  match s₀.pass with
  | none => never "PRIMITIVE_BIN"
  | some a =>
    if a.phase ≠ .binning || !s₀.pktLive a.pkt || !s₀.on D.BN then never "PRIMITIVE_BIN"
    else match s₀.vread a.who (a.primVA + 48 * a.prim) 48 with
      | (.error v, s) => if v.e.cause = C.HOST_WAIT then s₀.waitOr s "PRIMITIVE_BIN" else .next (s.pktFault a.pkt (v.at 33) 0x80)
      | (.ok b, s) =>
        let p := parsePrim a.prim b
        if primRejected a.shaders.length p b then .next ((s.inc R.RAS_PRIM_REJECT_COUNT).primNext a)
        else if p.area = 0 then .next ((s.inc R.RAS_PRIM_DEGEN_COUNT).primNext a)
        else match s.binAll a a.prim (a.tilesMet p) with
          | (.ok a, s) => .next ((s.inc R.RAS_PRIM_COUNT).primNext a)
          | (.flush a, s) => .next ({ s with pass := some { a with phase := .flushing, nextTile := 0 } }.rasStatus a.seg a.ctx 3)
          | (.fault a f, s) => if f.waits then s₀.waitOr s "PRIMITIVE_BIN" else .next ({ s with pass := some a }.pktFault a.pkt f 0x80)

/-- The tile that the shared counter gives next (12 R309, R310, R311). -/
def Pass.nextLin (a : Pass) : Option Nat :=
  ((List.range (a.tx * a.ty)).drop a.nextTile).find? (fun t => a.phase == .final || a.bins.any (fun b => b.tile == t && b.count ≠ 0))

/-- FLUSH_RESUME (12 R309): headers reset, carving restarts, a new segment. -/
def execFlushResume (s₀ : State) : Out := s₀.rooted "FLUSH_RESUME" <|
  match s₀.pass with
  | none => never "FLUSH_RESUME"
  | some a =>
    if a.phase ≠ .flushing || !a.tiles.isEmpty || a.nextLin.isSome || !s₀.pktLive a.pkt || !s₀.on D.BN then never "FLUSH_RESUME"
    else
      let hs := (List.range (a.tx * a.ty)).flatMap (fun t => hdrBytes 0 0 (a.written.contains t))
      match s₀.vwrite a.who a.hdrVA hs false with
      | (.error v, s) => if v.e.cause = C.HOST_WAIT then s₀.waitOr s "FLUSH_RESUME" else .next (s.pktFault a.pkt (v.at 33) 0x80)
      | (.ok _, s) =>
        let a := { a with phase := .binning, bins := [], carved := 0, nextTile := 0, seg := a.seg + 1 }
        .next (({ s with pass := some a }.inc R.RAS_FLUSH_COUNT).rasStatus a.seg a.ctx 2)

/-- The memory ranges that hold a tile in an attachment, in plane order (12 R314). -/
def Pass.ranges (a : Pass) (p : Plane) (lin : Nat) : List (Nat × Nat) :=
  if p.linear then (List.range 32).map (fun y => (p.va + (lin / a.tx * 32 + y) * p.pitch + lin % a.tx * 32 * p.bytes, 32 * p.bytes))
  else [(p.va + lin * (1024 * a.samples * p.bytes), 1024 * a.samples * p.bytes)]

/-- Read ranges and join them. -/
def State.vreads (s : State) (w : RemWho) : List (Nat × Nat) → Except VErr (List Byte) × State
  | [] => (.ok [], s)
  | (va, n) :: t =>
    match s.vread w va n with
    | (.error v, s) => (.error v, s)
    | (.ok b, s) =>
      match s.vreads w t with
      | (.ok l, s) => (.ok (b ++ l), s)
      | (.error v, s) => (.error v, s)

/-- Put bytes into tile store of a core. -/
def State.tsPut (s : State) (c a : Nat) (bs : List Byte) : State := s.modCore c (fun co => { co with ts := co.ts.write a bs })

/-- Load the planes of a tile (12 R309, R310, R313, Table RAS-11). -/
def State.loadPlanes (s : State) (a : Pass) (core set lin : Nat) : List Plane → Except VErr Unit × State
  | [] => (.ok (), s)
  | p :: t =>
    let at0 := s.setBase a set + p.off
    let n := 1024 * a.samples
    if p.fmt ≠ 0x13 && (a.written.contains lin || p.load = 0) then
      match s.vreads a.who (a.ranges p lin) with
      | (.error v, s) => (.error v, s)
      | (.ok b, s) => ((s.tsPut core at0 b).bump R.RAS_LOAD_KIB (a.samples * p.bytes)).loadPlanes a core set lin t
    else if p.load = 1 then (s.tsPut core at0 ((List.range n).flatMap (fun _ => p.clear))).loadPlanes a core set lin t
    else s.loadPlanes a core set lin t

/-- Read the entries of a bin from its chunks (12 Table RAS-9). -/
def State.readBin (s : State) (w : RemWho) : Nat → Nat → Nat → Except VErr (List Nat) × State
  | 0, _, _ => (.ok [], s)
  | f + 1, va, n =>
    if n = 0 then (.ok [], s)
    else match s.vread w va 128 with
      | (.error v, s) => (.error v, s)
      | (.ok b, s) =>
        match s.readBin w f (fieldAt b 0x78 8) (n - 30) with
        | (.ok l, s) => (.ok ((List.range (min n 30)).map (fun e => fieldAt b (4 * e) 4 % 2 ^ 24) ++ l), s)
        | (.error v, s) => (.error v, s)

/-- Read primitives by index. -/
def State.readPrims (s : State) (a : Pass) : List Nat → Except VErr (List Prim) × State
  | [] => (.ok [], s)
  | i :: t =>
    match s.vread a.who (a.primVA + 48 * i) 48 with
    | (.error v, s) => (.error v, s)
    | (.ok b, s) =>
      match s.readPrims a t with
      | (.ok l, s) => (.ok (parsePrim i b :: l), s)
      | (.error v, s) => (.error v, s)

/-- Phase 1 of Mode V (12 R317): opaque primitives against depth and VIS, then the count of hidden pairs. -/
def State.visibility (s : State) (a : Pass) (t : TileJob) (opq : List Prim) : State :=
  let pairs := opq.flatMap (fun p => ((List.range 1024).filter (fun px => !(a.covered t.lin px p).isEmpty)).map (fun px => (p, px)))
  let s := pairs.foldl (fun (s : State) x => (s.zSamples a t (a.shader x.1.sh) x.1 x.2 true (a.covered t.lin x.2 x.1)).2) s
  let shown := fun (s : State) (x : Prim × Nat) => (List.range a.samples).any (fun k => match a.plane 0x13 with
    | some v => s.tsGet t.core (s.sampleAt a t.set v x.2 k) 4 == x.1.ix
    | none => false)
  s.bump R.RAS_VIS_HIDDEN_COUNT (pairs.filter (fun x => !shown s x)).length

/-- Give a tile to a core and tile set: loads, the bin, phase 1, the first fragments (12 R311 to R317). -/
def State.tileStart (s : State) (a : Pass) (core set lin : Nat) : Except VErr Unit × State :=
  match s.loadPlanes a core set lin a.planes with
  | (.error v, s) => (.error v, s)
  | (.ok _, s) =>
    match s.vread a.who (a.hdrVA + 16 * lin) 16 with
    | (.error v, s) => (.error v, s)
    | (.ok h, s) =>
      let n := fieldAt h 8 4
      match s.readBin a.who (ceilDiv n 30) (fieldAt h 0 8) n with
      | (.error v, s) => (.error v, s)
      | (.ok ix, s) =>
        match s.readPrims a (ix.filter (· < a.prim)) with
        | (.error v, s) => (.error v, s)
        | (.ok ps, s) =>
          let isOpq := fun (p : Prim) => (a.shader p.sh).opq
          let todo := if a.modeV then (ps.filter isOpq).map (fun p => (2, p)) ++ (ps.filter (fun p => !isOpq p)).map (fun p => (3, p))
            else ps.map (fun p => (0, p))
          let t : TileJob := { lin := lin, core := core, set := set, todo := todo }
          let s := if a.modeV then s.visibility a t (ps.filter isOpq) else s
          (.ok (), (s.modPass (fun a => { a with tiles := a.tiles ++ [t] })).tileAdvance core set)

/-- A free tile set of a core: the lowest. -/
def Pass.freeSet (a : Pass) (core : Nat) : Option Nat :=
  (List.range a.sets).find? (fun k => !a.tiles.any (fun t => t.core == core && t.set == k))

/-- TILE_DISPATCH (12 R311): the raster unit of a cluster gives its next tile to the lowest core with a free tile set. -/
def execTileDispatch (cluster : Nat) (s₀ : State) : Out := s₀.rooted "TILE_DISPATCH" <|
  match s₀.pass with
  | none => never "TILE_DISPATCH"
  | some a =>
    let cores := (List.range 4).map (4 * cluster + ·)
    match a.nextLin, cores.find? (fun c => !s₀.fenced c && (a.freeSet c).isSome) with
    | some lin, some core =>
      if a.phase = .binning || !s₀.pktLive a.pkt || !s₀.on D.BN || 8 ≤ cluster || !s₀.on (D.CL + cluster) || s₀.clusterOwner cluster ≠ some a.part then
        never "TILE_DISPATCH"
      else
        let s := (s₀.modPass (fun a => { a with nextTile := lin + 1 })).inc R.RAS_TILE_COUNT
        match s.tileStart a core ((a.freeSet core).getD 0) lin with
        | (.ok _, s) => .next s
        | (.error v, s) => if v.e.cause = C.HOST_WAIT then s₀.waitOr s "TILE_DISPATCH" else .next (s.pktFault a.pkt (v.at 33) 0x80)
    | _, _ => never "TILE_DISPATCH"

/-- A pixel pod at its start (12 Table RAS-13, 08 Table COR-5). -/
def pixelPod (a : Pass) (t : TileJob) (sh : Shader) (fs : List Frag) (core slot uid serial regKib tsLo tsKib : Nat) (wg : Nat) : Pod :=
  let mask := 2 ^ fs.length - 1
  let P := (t.lin * 2 ^ 16 + t.podIx) % 2 ^ 32
  let base : Pod := {
    uid := uid, slot := slot, ctx := a.ctx, pkt := some a.pkt, wg := wg, pixel := true, trapVA := sh.trapVA, pc := sh.code, fpctrl := sh.fp
    live := mask, m := [mask, 0, 0, 0], vregs := sh.vregs, regBase := regKib * 1024, view := 1, tsBase := tsLo * 1024, tsLen := tsKib * 1024
    serial := serial, gens := (List.range 32).map (fun l => genSeed (32 * P + l)), tile := t.lin
    frag := fs.zipIdx.map (fun (f, k) => (f.px, t.fragIx + k)) }
  let sc := [t.lin % a.tx, t.lin / a.tx, a.tbOff + t.set * a.setBytes, a.seg, sh.argVA, sh.argVA / 2 ^ 32, core, slot] ++ sh.args
  sc.zipIdx.foldl (fun p (v, j) => p.sput j v) base

/-- PIXEL_POD_LAUNCH (12 R318): the closed pod at the front of a tile starts in a slot that is free. -/
def execPixelPodLaunch (core set slot : Nat) (s : State) : Out := s.rooted "PIXEL_POD_LAUNCH" <|
  match s.pass with
  | none => never "PIXEL_POD_LAUNCH"
  | some a =>
    match a.tiles.find? (fun t => t.core == core && t.set == set) with
    | none => never "PIXEL_POD_LAUNCH"
    | some t =>
      let co := s.core core
      let ad := (s.adm? a.ctx).getD {}
      let fs := t.front
      let sh := a.shader ((fs.head?.map (·.sh)).getD 0)
      let ok := t.closed a && s.pktLive a.pkt && !s.closed core && s.on (D.CL + core / 4) && ad.slots.contains slot && !co.pods.any (·.slot == slot) &&
        (co.pods.filter (·.ctx == a.ctx)).length + 1 ≤ ad.pods
      match firstFit ad.regLo ad.regKib (sh.vregs / 8) co.regsTaken with
      | none => never "PIXEL_POD_LAUNCH"
      | some reg =>
        if !ok then never "PIXEL_POD_LAUNCH"
        else
          let wg := s.qm.nextId
          let p := pixelPod a t sh fs core slot (wg + 1) co.starts reg ad.tsLo ad.tsKib wg
          let s := { s with qm := { s.qm with nextId := wg + 2 } }
          let s := s.modCore core (fun co => { co with
            pods := co.pods ++ [p], starts := co.starts + 1
            wgs := co.wgs ++ [Workgroup.mk wg a.pkt a.ctx [slot] [(reg, sh.vregs / 8)] (0, 0)] })
          let s := ((s.bump (rk R.CORE_WG_LAUNCH_COUNT core) 1).inc R.RAS_PIXPOD_COUNT).bump R.RAS_FRAG_COUNT fs.length
          let s := s.perfCtx 0xE a.ctx 1
          let r := PodRef.slot core slot
          let s := fs.zipIdx.foldl (fun (s : State) (f, l) =>
            let (x, y) := a.pixel t.lin f.px
            [x + y * 2 ^ 16, f.cov, f.prim, f.attr, f.l1, f.l2, f.px].zipIdx.foldl (fun (s : State) (v, n) => s.vput r p n l v) s) s
          let t := { t with
            frags := t.frags.drop fs.length, podIx := t.podIx + 1, fragIx := t.fragIx + fs.length
            late := if sh.earlyZ then t.late else (wg + 1) :: t.late }
          .next ((s.modPass (·.putTile t)).tileAdvance core set)

/-- Write one plane of a tile out: as it stands, resolved, both or not at all (12 R309, R310, R313, R314). -/
def State.storePlane (s : State) (a : Pass) (core set lin : Nat) (p : Plane) : Except VErr Unit × State :=
  let flush := a.phase == .flushing
  let at0 := s.setBase a set + p.off
  let all := (s.core core).ts.read at0 (1024 * a.samples * p.bytes)
  let plain := flush || p.store = 0 || p.store = 3
  let res := !flush && 2 ≤ p.store
  let ws := if plain then
      ((a.ranges p lin).foldl (fun (x : List (Nat × List Byte) × List Byte) r => (x.1 ++ [(r.1, x.2.take r.2)], x.2.drop r.2)) ([], all)).1
    else []
  let rs := if res then
      [Prod.mk (p.resolve + lin * (1024 * p.bytes)) ((List.range 1024).flatMap (fun px =>
        leBytes p.bytes (resolvePixel p.fmt ((List.range 4).map (fun k => fieldAt all ((px * 4 + k) * p.bytes) p.bytes)))))]
    else []
  match s.vwrites a.who (ws ++ rs) with
  | (.error v, s) => (.error v, s)
  | (.ok _, s) => (.ok (), s.bump R.RAS_STORE_KIB ((if plain then a.samples * p.bytes else 0) + (if res then p.bytes else 0)))

/-- Write the planes of a tile out. -/
def State.storePlanes (s : State) (a : Pass) (core set lin : Nat) : List Plane → Except VErr Unit × State
  | [] => (.ok (), s)
  | p :: t =>
    match (if p.fmt = 0x13 then (.ok (), s) else s.storePlane a core set lin p) with
    | (.error v, s) => (.error v, s)
    | (.ok _, s) => s.storePlanes a core set lin t

/-- TILE_WRITE_OUT (12 R309, R310, R319): every pixel pod of the tile has retired, and no tensor instruction of theirs is still to write tile store; the
tile set is free again. -/
def execTileWriteOut (core set : Nat) (s₀ : State) : Out := s₀.rooted "TILE_WRITE_OUT" <|
  match s₀.pass with
  | none => never "TILE_WRITE_OUT"
  | some a =>
    match a.tiles.find? (fun t => t.core == core && t.set == set) with
    | none => never "TILE_WRITE_OUT"
    | some t =>
      if !t.todo.isEmpty || !t.frags.isEmpty || (s₀.core core).pods.any (fun p => p.pixel && p.tile == t.lin && p.pkt == some a.pkt) ||
          (s₀.core core).tq.any (fun o => o.tile == some (a.pkt, t.lin)) then
        never "TILE_WRITE_OUT"
      else
        let s := s₀.modPass (fun a => { a with tiles := a.tiles.filter (fun k => !(k.core == core && k.set == set)) })
        match s.storePlanes a core set t.lin a.planes with
        | (.error v, s) => if v.e.cause = C.HOST_WAIT then s₀.waitOr s "TILE_WRITE_OUT" else .next (s.pktFault a.pkt (v.at 33) 0x80)
        | (.ok _, s) =>
          if a.phase ≠ .flushing then .next s
          else match s.vwrite a.who (a.hdrVA + 16 * t.lin + 12) (leBytes 4 1) false with
            | (.error v, s) => if v.e.cause = C.HOST_WAIT then s₀.waitOr s "TILE_WRITE_OUT" else .next (s.pktFault a.pkt (v.at 33) 0x80)
            | (.ok _, s) => .next (s.modPass (fun a => { a with written := t.lin :: a.written }))

/-- The pass ends: its pages return to the ring in log order in one return (12 R310, R321). -/
def State.passEnd (s : State) (a : Pass) : State :=
  let s := if a.pages.isEmpty then s else s.ringReturn a.part a.pages
  { s with pass := none }.rasStatus 0 0 0

/-- Has every write of a packet come to be seen at device scope but what L1 holds (05 R126): no line request of its pods and no remote write is open? -/
def State.pktDrained (s : State) (id : Nat) : Bool := !s.remoteOpen id && !s.cores.any (fun co => co.lines.any (·.pkt == some id))

/-- What the cores' L1 hold of a context's writes goes to L2 (05 R126). -/
def State.l1CleanAll (s : State) (ctx : Nat) : State := (List.range s.cores.length).foldl (fun s c => s.l1Clean c ctx) s

/-- PASS_PAGE_RETURN (12 R310, 05 R126): every write of the pass, those of its pixel pods among them, is visible. -/
def execPassPageReturn (s : State) : Out := s.rooted "PASS_PAGE_RETURN" <|
  match s.pass with
  | none => never "PASS_PAGE_RETURN"
  | some a =>
    when' "PASS_PAGE_RETURN" (a.phase == .final && a.tiles.isEmpty && a.nextLin.isNone && s.pktLive a.pkt && s.pktDrained a.pkt)
      (((s.l1CleanAll a.ctx).passEnd a).finish a.pkt)

end Sys2Proof.Machine
end

