-- ==== Sys2Proof/Machine/Copy.lean ====
section
/-! DEFINITION. Copy engines (14 R350 to R362): COPY packets, copy and fill descriptors, transforms, streams, reports. -/

namespace Sys2Proof.Machine

/-- Engine of a copy engine's queue. -/
def ceOf (q : Nat) : Nat := (q - 36) / 4

/-- A COPY_DESC_INVALID fault of a packet (14 R357). -/
def State.copyBad (s : State) (pkt eng detail va : Nat) : State := s.pktFault pkt ⟨34 + eng, C.COPY_DESC_INVALID, detail, some va⟩ 0x80

/-- COPY (14 R351): a packet starts on a copy engine. -/
def execCopyPacket (q : Nat) (s : State) : Out := s.rooted "COPY" <|
  match (if s.on D.CE && 36 ≤ q && q < 52 then s.start q 3 else none) with
  | none => never "COPY"
  | some (p, s) =>
    let pk := p.pkt
    if pk.a0 % 64 ≠ 0 || pk.a1 / 2 ^ 16 ≠ 0 || pk.a2 ≠ 0 then .next (s.copyBad p.id (ceOf q) 9 pk.a0)
    else if pk.a1 = 0 then .next (s.finish p.id)
    else .next { s with copies := s.copies ++ [({ pkt := p.id, ctx := p.ctx, eng := ceOf q, list := pk.a0, count := pk.a1 } : CopyJob)] }

/-- The started COPY packet with a number. -/
def State.copy? (s : State) (pkt : Nat) : Option CopyJob := s.copies.find? (·.pkt == pkt)

/-- Change a started COPY packet. -/
def State.modCopy (s : State) (pkt : Nat) (f : CopyJob → CopyJob) : State :=
  { s with copies := s.copies.map (fun j => if j.pkt = pkt then f j else j) }

/-- Who makes the accesses of a COPY packet. -/
def CopyJob.who (j : CopyJob) : RemWho := ⟨34 + j.eng, 34 + j.eng, j.ctx, some j.pkt, none⟩

/-- Address of the next descriptor. -/
def CopyJob.here (j : CopyJob) : Nat := j.list + 64 * j.next

/-- Who makes the accesses of a descriptor's rows and report. -/
def CopyJob.whoD (j : CopyJob) (id : Nat) : RemWho := { j.who with line := some id }

/-- Read the fields. -/
def parseDesc (b : List Byte) : Desc where
  kind := fieldAt b 0 1
  flags := fieldAt b 1 1
  xform := fieldAt b 2 1
  pat := fieldAt b 3 1
  x := fieldAt b 4 4
  src := fieldAt b 8 8
  dst := fieldAt b 0x10 8
  y := fieldAt b 0x18 2
  z := fieldAt b 0x1A 2
  sy := asInt 32 (fieldAt b 0x1C 4)
  sz := asInt 32 (fieldAt b 0x20 4)
  dy := asInt 32 (fieldAt b 0x24 4)
  dz := asInt 32 (fieldAt b 0x28 4)
  rsv := fieldAt b 0x2C 4
  report := fieldAt b 0x30 8
  limit := fieldAt b 0x38 8

/-- Flags of a descriptor. -/
def Desc.hasReport (d : Desc) : Bool := d.flags.testBit 0
def Desc.crcR (d : Desc) : Bool := d.flags.testBit 1
def Desc.crcW (d : Desc) : Bool := d.flags.testBit 2
def Desc.order (d : Desc) : Bool := d.flags.testBit 3
def Desc.gsram (d : Desc) : Bool := d.flags.testBit 4

/-- Length of a source and of a destination row (14 Table MOV-4); the output limit stands for a stream's row. -/
def Desc.srcRow (d : Desc) : Nat := if d.xform = 3 then d.x / 2 else if d.xform = 4 then d.x / 4 else d.x
def Desc.dstRow (d : Desc) : Nat := if d.xform = 1 then d.x / 2 else if d.xform = 2 then d.x / 4 else if d.xform = 5 then d.limit else d.x

/-- Row (y, z) begins here, in 64-bit addresses (14 R353). -/
def rowAt (base : Nat) (y z : Nat) (sy sz : Int) : Nat := ofInt 64 ((base : Int) + z * sz + y * sy)

/-- Does a destination in guard SRAM break R356? -/
def Desc.gwinBad (d : Desc) (s : State) (ctx : Nat) : Bool :=
  let b := (s.reg R.CE_GWIN_BASE).toNat
  let n := (s.reg R.CE_GWIN_SIZE).toNat
  let ey := ((d.y : Int) - 1) * d.dy
  let ez := ((d.z : Int) - 1) * d.dz
  let lo := (d.dst : Int) + min 0 ey + min 0 ez
  let hi := (d.dst : Int) + max 0 ey + max 0 ez + d.dstRow
  !s.bit R.CE_GWIN_CTRL 0 || s.field R.CE_GWIN_CTRL 15 8 ≠ ctx || lo < b || (b + n : Nat) < hi || sramSize < b + n

/-- The first condition of Table MOV-5 that a descriptor breaks. -/
def State.descBad (s : State) (d : Desc) (ctx : Nat) : Option Nat :=
  let fill := d.kind = 2
  let q := d.x * d.y * d.z
  if (d.kind ≠ 1 && d.kind ≠ 2) || d.flags / 32 ≠ 0 || d.rsv ≠ 0 || (d.kind = 1 && d.pat ≠ 0) then some 1
  else if q = 0 || 2 ^ 32 < q then some 2
  else if 5 < d.xform || (fill && (d.xform ≠ 0 || !(List.contains [1, 2, 4, 8] d.pat) || d.crcR)) then some 3
  else if 1 ≤ d.xform && d.xform ≤ 4 && (d.x % 256 ≠ 0 || d.src % 64 ≠ 0 || d.dst % 64 ≠ 0 || d.sy % 64 ≠ 0 || d.sz % 64 ≠ 0 || d.dy % 64 ≠ 0 ||
      d.dz % 64 ≠ 0) then some 4
  else if (if d.xform = 5 then d.y ≠ 1 || d.z ≠ 1 || d.x % 16 ≠ 0 || d.src % 16 ≠ 0 || !d.hasReport || d.limit = 0 || 2 ^ 32 < d.limit
      else d.limit ≠ 0) then some 5
  else if (d.hasReport && d.report % 64 ≠ 0) || ((d.crcR || d.crcW) && !d.hasReport) then some 6
  else if d.gsram && d.gwinBad s ctx then some 7
  else if d.gsram && !s.on D.GD then some 8
  else none

/-- Source bytes that pass on the read stream (14 R364, R366). -/
def State.copyRead (s : State) (j : CopyJob) (c : CopyDesc) (bs : List Byte) : State :=
  let s := s.bumpPair (rk R.CE_READ_BYTES_LO j.eng) bs.length
  if c.crcR.isSome then s.crcFeedDesc (0x10 + j.eng) c.id bs else s

/-- Destination bytes that were written pass on the write stream. -/
def State.copyWrote (s : State) (j : CopyJob) (c : CopyDesc) (bs : List Byte) : State :=
  let s := (s.bumpPair (rk R.CE_WRITE_BYTES_LO j.eng) bs.length).perfCtx 0xC j.ctx bs.length
  if c.crcW.isSome then s.crcFeedDesc (0x14 + j.eng) c.id bs else s

/-- Split a list into pieces of n bytes. -/
def pieces (n : Nat) : Nat → List Byte → List (List Byte)
  | 0, _ => []
  | k + 1, l => if l.isEmpty then [] else l.take n :: pieces n k (l.drop n)

/-- Error class of a coded block: its largest D (14 R344). -/
def codedClass (c : List Byte) : Nat := ((List.range 4).map (fun p => fieldAt c (5 + p) 1 / 16)).foldl max 0

/-- Note a block in the report's counts. -/
def CopyDesc.block (c : CopyDesc) (ctl E : Nat) : CopyDesc := { c with maxE := max c.maxE E, lossy := c.lossy + b2n (ctl == 2) }

/-- Encode the 256-byte groups of a row (14 R355). -/
def State.encRow (s : State) (j : CopyJob) (S : Nat) : CopyDesc → List (List Byte) → List Byte × CopyDesc × State
  | c, [] => ([], c, s)
  | c, g :: t =>
    let (code, ctl, E) := codecEncode S g
    let s := if ctl = 2 then s.inc (rk R.CE_LOSSY_BLOCK_COUNT j.eng) else s
    let (l, c, s) := s.encRow j S (c.block ctl E) t
    (code ++ l, c, s)

/-- Decode coded blocks (14 R344, R345). -/
def decBlocks (S : Nat) : CopyDesc → List (List Byte) → List Byte × CopyDesc
  | c, [] => ([], c)
  | c, g :: t =>
    let (d, bad) := codecDecode S g
    let c := if bad then { c with bad := c.bad + 1 } else c.block (fieldAt g 0 1) (codedClass g)
    let (l, c) := decBlocks S c t
    (d ++ l, c)

/-- The destination row of a source row (14 Table MOV-4). -/
def State.xformRow (s : State) (j : CopyJob) (d : Desc) (c : CopyDesc) (row : List Byte) : List Byte × CopyDesc × State :=
  match d.xform with
  | 1 => s.encRow j 128 c (pieces 256 row.length row)
  | 2 => s.encRow j 64 c (pieces 256 row.length row)
  | 3 => let (l, c) := decBlocks 128 c (pieces 128 row.length row); (l, c, s)
  | 4 => let (l, c) := decBlocks 64 c (pieces 64 row.length row); (l, c, s)
  | _ => (row, c, s)

/-- A stream record (14 Table MOV-6). -/
inductive Rec where
  | literal (len : Nat)
  | fill (pat run : Nat)
  | blocks (ratio count : Nat)
  | done
deriving DecidableEq, Repr

/-- Read a record header; none when R361 makes the stream bad. `left`: source bytes from the record on. -/
def parseRec (h : List Byte) (left : Nat) : Option Rec :=
  match fieldAt h 0 1 with
  | 1 =>
    let n := fieldAt h 4 4
    if fieldAt h 1 3 ≠ 0 || fieldAt h 8 8 ≠ 0 || n = 0 || left < 16 + ceilDiv n 16 * 16 then none else some (.literal n)
  | 2 =>
    let pat := fieldAt h 1 1
    let run := fieldAt h 2 6
    if !(List.contains [1, 2, 4, 8] pat) || run = 0 then none else some (.fill pat run)
  | 3 =>
    let r := fieldAt h 1 1
    let n := fieldAt h 4 4
    if (r ≠ 2 && r ≠ 4) || fieldAt h 2 2 ≠ 0 || fieldAt h 8 8 ≠ 0 || n = 0 || 2 ^ 24 < n || left < 16 + n * (256 / r) then none
    else some (.blocks r n)
  | 4 => if fieldAt h 1 15 ≠ 0 then none else some .done
  | _ => none

/-- Length of a record's payload in the source. -/
def Rec.payload : Rec → Nat
  | .literal n => ceilDiv n 16 * 16
  | .fill _ _ => 0
  | .blocks r n => n * (256 / r)
  | .done => 0

/-- Length of a record's output. -/
def Rec.out : Rec → Nat
  | .literal n => n
  | .fill _ run => run
  | .blocks _ n => n * 256
  | .done => 0

/-- The first n bytes of a record's output. -/
def Rec.bytes (r : Rec) (h pay : List Byte) (n : Nat) (c : CopyDesc) : List Byte × CopyDesc :=
  match r with
  | .literal _ => (pay.take n, c)
  | .fill pat _ => ((List.range n).map (fun i => h.getD (8 + i % pat) 0), c)
  | .blocks r _ => let (l, c) := decBlocks (256 / r) c ((pieces (256 / r) pay.length pay).take (ceilDiv n 256)); (l.take n, c)
  | .done => ([], c)

/-- Rows of a descriptor; row i of them, y varying fastest, as plane and row of the plane (14 R353). -/
def Desc.rows (d : Desc) : Nat := d.y * d.z
def Desc.row (d : Desc) (i : Nat) : Nat × Nat := (i / d.y, i % d.y)

/-- Where row i begins in the source and in the destination. -/
def Desc.srcAt (d : Desc) (i : Nat) : Nat := rowAt d.src (d.row i).2 (d.row i).1 d.sy d.sz
def Desc.dstAt (d : Desc) (i : Nat) : Nat := rowAt d.dst (d.row i).2 (d.row i).1 d.dy d.dz

/-- Does a descriptor read any of the n bytes from an address? -/
def Desc.reads (d : Desc) (a n : Nat) : Bool :=
  d.kind == 1 && (List.range d.rows).any (fun i => d.srcAt i < a + n && a < d.srcAt i + d.srcRow)

/-- Has a descriptor moved everything? -/
def CopyDesc.isMoved (c : CopyDesc) : Bool := c.taken && c.out.isEmpty

/-- The source bytes of the row or record in hand: address and number; a fill reads none. -/
def CopyDesc.unit (c : CopyDesc) : Nat × Nat :=
  if c.d.kind = 2 then (0, 0)
  else if c.d.xform = 5 then
    if c.hdr.isEmpty then (c.d.src + c.pos, 16)
    else (c.d.src + c.pos + 16, ((parseRec c.hdr (c.d.x - c.pos)).map Rec.payload).getD 0)
  else (c.d.srcAt c.pos, c.d.srcRow)

/-- What moving a line comes to: the descriptor goes on, it waits, or a fault. -/
inductive CopyGo where
  | on (c : CopyDesc)
  | wait (c : CopyDesc)
  | fault (v : VErr)

/-- Line requests of a copy engine that are outstanding: those that a remote node has not answered (14 R350). -/
def State.copyLines (s : State) (eng : Nat) : Nat := (s.fab.inflight.filter (fun r => r.holder == 34 + eng && r.line.isSome)).length

/-- A line request finds 512 outstanding: it waits, and is counted once (14 R350). -/
def State.lineqFull (s : State) (j : CopyJob) (c : CopyDesc) : CopyGo × State :=
  (.wait { c with full := true }, if c.full then s else s.inc (rk R.CE_LINEQ_FULL_COUNT j.eng))

/-- Bytes where the descriptor has replaced what it reads: each as before or as after, a free choice (14 R354). -/
def State.copyMixed (s : State) (c : CopyDesc) (va : Nat) (now : List Byte) : List Byte × State :=
  let before := now.zipIdx.map (fun (b, i) => ((c.olds.find? (·.1 == va + i)).map (·.2)).getD b)
  if before = now then (now, s)
  else
    let (v, s) := s.draw
    ((before.zip now).zipIdx.map (fun x => if v.testBit x.2 then x.1.1 else x.1.2), s)

/-- Read the next line of the row or record in hand (14 R353, R358). -/
def State.copyIn (s : State) (j : CopyJob) (c : CopyDesc) (va n : Nat) : CopyGo × State :=
  let w := j.whoD c.id
  match s.xlate w.holder w.ctx va .rd with
  | (.error e, s) => (if e.cause = C.HOST_WAIT then .wait c else .fault ⟨e, va⟩, s)
  | (.ok x, s) =>
    let k := min n (128 - va % 128)
    let new := match x.dest with
      | .remote node => !s.fabAsked w va node x.addr k && (s.fabTake w va node x.addr k).isNone
      | _ => false
    if new && 512 ≤ s.copyLines j.eng then s.lineqFull j c
    else match s.readAt w va k x with
      | (.error e, s) => (if e.cause = C.HOST_WAIT then .wait { c with full := false } else .fault ⟨e, va⟩, s)
      | (.ok b, s) => let (b, s) := s.copyMixed c va b; (.on { c with inb := c.inb ++ b, full := false }, s)

/-- k destination bytes have been dealt with. -/
def CopyDesc.wrote (c : CopyDesc) (k : Nat) : CopyDesc := { c with outAt := c.outAt + k, out := c.out.drop k, full := false }

/-- Write the next destination bytes to guard SRAM, or lose them once GD has left ON (14 R356). -/
def State.copyGuard (s : State) (j : CopyJob) (c : CopyDesc) : CopyGo × State :=
  let bs := c.out.take (64 - c.outAt % 64)
  if c.gLost then (.on { c.wrote bs.length with lost := c.lost + bs.length }, s)
  else (.on (c.wrote bs.length), (s.sramWrite2 c.outAt (bs.map some)).copyWrote j c bs)

/-- Write the next line of destination bytes, of a compressed page the next block (14 R353, R358). -/
def State.copyOut (s : State) (j : CopyJob) (c : CopyDesc) : CopyGo × State :=
  let w := j.whoD c.id
  match s.xlate w.holder w.ctx c.outAt .wr with
  | (.error e, s) => (if e.cause = C.HOST_WAIT then .wait c else .fault ⟨e, c.outAt⟩, s)
  | (.ok x, s) =>
    let bs := c.out.take (if x.comp = 0 then 128 - c.outAt % 128 else 256 - c.outAt % 256)
    let far := match x.dest with | .remote _ => true | _ => false
    if far && 512 ≤ s.copyLines j.eng then s.lineqFull j c
    else
      let olds := if !far && c.d.reads c.outAt bs.length then
          (match (s.readAt w c.outAt bs.length x).1 with
           | .ok b => (numbered c.outAt b).filter (fun o => !c.olds.any (·.1 == o.1))
           | .error _ => [])
        else []
      match s.writeAt w c.outAt (bs.map some) false x with
      | (.error e, s) => (.fault ⟨e, c.outAt⟩, s)
      | (.ok _, s) => (.on { c.wrote bs.length with olds := c.olds ++ olds }, s.copyWrote j c bs)

/-- The last record has been taken, at a source offset. -/
def CopyDesc.stop (c : CopyDesc) (result src : Nat) : CopyDesc := { c with taken := true, result := result, srcBytes := src, hdr := [], inb := [] }

/-- A stream stops with OUTPUT_LIMIT (1) or STREAM_BAD (2) (14 R360, R361). -/
def State.streamStop (s : State) (j : CopyJob) (c : CopyDesc) (result : Nat) : CopyDesc × State :=
  (c.stop result c.pos, s.inc (rk (if result = 1 then R.CE_OUTLIMIT_COUNT else R.CE_STREAM_BAD_COUNT) j.eng))

/-- A record with its header and payload gives its output, up to the limit (14 R359, R360). -/
def State.streamOut (s : State) (j : CopyJob) (c : CopyDesc) (r : Rec) (h pay : List Byte) : CopyDesc × State :=
  let s := s.copyRead j c (h ++ pay)
  let n := min r.out (c.d.limit - c.outBytes)
  let (out, c) := r.bytes h pay n c
  let c := { c with outAt := c.d.dst + c.outBytes, out := out, outBytes := c.outBytes + n }
  if n < r.out then s.streamStop j c 1 else ({ c with pos := c.pos + 16 + r.payload, hdr := [], inb := [] }, s)

/-- A header or a payload of a stream has been read (14 R359 to R361). -/
def State.streamUnit (s : State) (j : CopyJob) (c : CopyDesc) : CopyDesc × State :=
  if !c.hdr.isEmpty then
    match parseRec c.hdr (c.d.x - c.pos) with
    | some r => s.streamOut j c r c.hdr c.inb
    | none => s.streamStop j c 2
  else
    let h := c.inb
    if c.outBytes = c.d.limit then (if fieldAt h 0 1 = 4 then (c.stop 0 (c.pos + 16), s.copyRead j c h) else s.streamStop j c 1)
    else match parseRec h (c.d.x - c.pos) with
      | none => s.streamStop j c 2
      | some .done => (c.stop 0 (c.pos + 16), s.copyRead j c h)
      | some r => if r.payload = 0 then s.streamOut j c r h [] else ({ c with hdr := h, inb := [] }, s)

/-- A row has been read, or is to be filled: its destination bytes (14 R353, R355). -/
def State.rowUnit (s : State) (j : CopyJob) (c : CopyDesc) : CopyDesc × State :=
  let (out, c, s) :=
    if c.d.kind = 2 then ((List.range c.d.x).map (fun i => (leBytes 8 c.d.src).getD (i % c.d.pat) 0), c, s)
    else (s.copyRead j c c.inb).xformRow j c.d c c.inb
  ({ c with
     outAt := c.d.dstAt c.pos, out := out, outBytes := c.outBytes + out.length, srcBytes := c.srcBytes + c.inb.length, inb := []
     pos := c.pos + 1, taken := c.pos + 1 == c.d.rows }, s)

/-- One line of a descriptor: write what is there to be written, else read on, else take the row or record that has been read. -/
def State.copyStep (s : State) (j : CopyJob) (c : CopyDesc) : CopyGo × State :=
  if !c.out.isEmpty then (if c.gsram then s.copyGuard j c else s.copyOut j c)
  else if c.d.xform = 5 && c.hdr.isEmpty && c.d.x ≤ c.pos then (.on (c.stop 0 c.pos), s)
  else
    let (va, n) := c.unit
    if c.inb.length < n then s.copyIn j c (va + c.inb.length) (n - c.inb.length)
    else
      let (c, s) := if c.d.xform = 5 then s.streamUnit j c else s.rowUnit j c
      (.on c, s)

/-- Up to n lines of a descriptor. -/
def State.copyPump (s : State) (j : CopyJob) : Nat → CopyDesc → CopyGo × State
  | 0, c => (.wait c, s)
  | n + 1, c =>
    if c.isMoved then (.wait c, s)
    else match s.copyStep j c with
      | (.on c, s) => s.copyPump j n c
      | r => r

/-- More lines than a descriptor can have. -/
def Desc.work (d : Desc) : Nat := (d.srcRow + d.dstRow + 2) * d.rows + d.x + 16

/-- The next descriptor of a packet whose engine may start it: its bytes (14 R351, R352). -/
def State.descNext (s : State) (j : CopyJob) : Option (Except VErr (List Byte) × State) :=
  if j.count ≤ j.next || !s.pktLive j.pkt || !s.on D.CE || s.bit R.PT_ST_STATUS j.eng then none
  else some (s.vread j.who j.here 64)

/-- Read the expected values of a report (14 R357). -/
def State.readExpect (s : State) (j : CopyJob) (d : Desc) : Except VErr (Nat × Nat) × State :=
  if d.crcR || d.crcW then
    match s.vread j.who d.report 64 with
    | (.ok b, s) => (.ok (fieldAt b 0x20 8, fieldAt b 0x30 8), s)
    | (.error v, s) => (.error v, s)
  else (.ok (0, 0), s)

/-- A descriptor has been checked: it reads expected values and starts moving. One that writes guard SRAM moves with the time that passes, so that GD can leave
ON before its end (14 R356); any other moves all that does not have to wait. -/
def State.descRun (s : State) (j : CopyJob) (d : Desc) : Except VErr Unit × State :=
  match s.readExpect j d with
  | (.error v, s) => (.error v, s)
  | (.ok (er, ew), s) =>
    let id := s.qm.nextId
    let s := { s with qm := { s.qm with nextId := id + 1 } }
    let c : CopyDesc := {
      id := id, d := d, report := if d.hasReport then some d.report else none, crcR := if d.crcR then some er else none
      crcW := if d.crcW then some ew else none, gsram := d.gsram }
    match s.copyPump j (if d.gsram then 0 else d.work) c with
    | (.fault v, s) => (.error v, s)
    | (.on c, s) | (.wait c, s) => (.ok (), s.modCopy j.pkt (fun j => { j with next := j.next + 1, busy := j.busy ++ [c] }))

/-- A fault of a descriptor's access. -/
def State.descFault (s : State) (j : CopyJob) (v : VErr) : State := s.pktFault j.pkt (v.at (34 + j.eng)) 0x80

/-- The next descriptor of a packet, if it is one that `takes` accepts, is checked and started (14 R351, R357). -/
def State.descStart (s₀ : State) (event : String) (pkt : Nat) (takes : Desc → Bool) : Out :=
  match s₀.copy? pkt with
  | none => never event
  | some j =>
    match s₀.descNext j with
    | none => never event
    | some (.error v, s) => if v.e.cause = C.HOST_WAIT then s₀.waitOr s event else .next (s.descFault j v)
    | some (.ok b, s) =>
      let d := parseDesc b
      if !takes d || ((d.kind = 1 || d.kind = 2) && d.order && !j.busy.isEmpty) then never event
      else match s.descBad d j.ctx with
        | some n => .next (s.copyBad pkt j.eng n j.here)
        | none => match s.descRun j d with
          | (.error v, s) => if v.e.cause = C.HOST_WAIT then s₀.waitOr s event else .next (s.descFault j v)
          | (.ok _, s) => .next s

/-- COPY_DESCRIPTOR (14 R353 to R361): every descriptor but fills and batch descriptors. -/
def execCopyDescriptor (pkt : Nat) (s : State) : Out := s.rooted "COPY_DESCRIPTOR" <|
  s.descStart "COPY_DESCRIPTOR" pkt (fun d => d.kind ≠ 2 && d.kind ≠ 0x20 && d.kind ≠ 0x21)

/-- FILL_DESCRIPTOR (14 R353). -/
def execFillDescriptor (pkt : Nat) (s : State) : Out := s.rooted "FILL_DESCRIPTOR" <| s.descStart "FILL_DESCRIPTOR" pkt (fun d => d.kind == 2)

/-- Put a descriptor in flight back. -/
def State.putDesc (s : State) (pkt : Nat) (c : CopyDesc) : State :=
  s.modCopy pkt (fun j => { j with busy := j.busy.map (fun k => if k.id = c.id then c else k) })

/-- Can the descriptors of a packet move lines (05 R147, 14 R369)? -/
def State.copyRuns (s : State) (j : CopyJob) : Bool := s.pktLive j.pkt && s.on D.CE

/-- A descriptor in flight moves on, by up to n lines. -/
def State.copyMore (s : State) (pkt id n : Nat) : State :=
  match s.copy? pkt with
  | none => s
  | some j =>
    match j.busy.find? (·.id == id) with
    | none => s
    | some c =>
      if c.isMoved || !s.copyRuns j then s
      else match s.copyPump j n c with
        | (.fault v, s) => s.descFault j v
        | (.on c, s) | (.wait c, s) => s.putDesc pkt c

/-- The copy engines move on with what had to wait (14 R350, 15 R377), and into guard SRAM by any number of lines. -/
def State.copiesRun (s : State) : State :=
  (s.copies.flatMap (fun (j : CopyJob) => (j.busy.filter (fun c => !c.isMoved)).map (fun (c : CopyDesc) => (j.pkt, c)))).foldl (fun (s : State) x =>
    if x.2.gsram then (let (v, s) := s.draw; s.copyMore x.1 x.2.id (v % (x.2.d.work + 1))) else s.copyMore x.1 x.2.id x.2.d.work) s

/-- Compare the CRCs of a descriptor's stream: every unit attached, the lowest writing the report (14 R366): its value and mismatch. -/
def State.descCrc (s : State) (attach id : Nat) (expect : Option Nat) : Option (Nat × Bool) × State :=
  match expect with
  | none => (none, s)
  | some e =>
    ((List.range 8).filter (fun u => s.crcOn u && s.crcDesc u && s.crcAttach u == attach)).foldr (fun u (r : Option (Nat × Bool) × State) =>
      let s := r.2
      let c := s.crc.getD u {}
      let v := crcOf (s.crcSel u) (((c.desc.find? (·.1 == id)).map (·.2)).getD [])
      let e := e % 2 ^ (s.crcSel u).width
      let s := { s with crc := s.crc.modify u (fun c => { c with desc := c.desc.filter (·.1 ≠ id) }) }
      (some (v, v ≠ e), s.crcCompare u v e)) (none, s)

/-- STATUS of a report (14 Table MOV-7). -/
def CopyDesc.status (c : CopyDesc) (r w : Option (Nat × Bool)) : Nat :=
  let bit := fun (x : Option (Nat × Bool)) (k : Nat) => match x with | some (_, m) => 2 ^ k + b2n m * 2 ^ (k + 1) | none => 0
  c.result + c.maxE * 2 ^ 8 + bit r 12 + bit w 14 + b2n c.gLost * 2 ^ 16

/-- Write a report record but DONE (14 R362). OUT_BYTES leaves out what guard SRAM did not receive. -/
def State.writeReport (s : State) (j : CopyJob) (c : CopyDesc) (va : Nat) (r w : Option (Nat × Bool)) : Except VErr Unit × State :=
  let val := fun (x : Option (Nat × Bool)) => leBytes 8 ((x.map (·.1)).getD 0)
  let body := leBytes 4 (c.status r w) ++ leBytes 4 c.lossy ++ leBytes 4 c.bad ++ leBytes 8 (c.outBytes - c.lost) ++ leBytes 8 c.srcBytes
  go s [(va + 4, body), (va + 0x28, val r), (va + 0x38, val w)]
where
  go (s : State) : List (Nat × List Byte) → Except VErr Unit × State
    | [] => (.ok (), s)
    | (a, b) :: t =>
      match s.vwrite (j.whoD c.id) a b true with
      | (.error v, s) => (.error v, s)
      | (.ok _, s) => go s t

/-- Does a descriptor wait for a remote node to acknowledge its writes? -/
def State.descRemote (s : State) (j : CopyJob) (c : CopyDesc) : Bool := s.fab.inflight.any (fun r => r.holder == 34 + j.eng && r.line == some c.id)

/-- Are writes of a descriptor not yet visible, or to host pages not yet sent on PCIe (14 R352)? -/
def State.descOpen (s : State) (j : CopyJob) (c : CopyDesc) : Bool :=
  s.descRemote j c || s.hs.waiting.any (fun (w : HostWrite) => w.holder == 34 + j.eng && w.line == some c.id)

/-- A descriptor has completed; with the last the packet's work has finished (14 R352). -/
def State.descDone (s : State) (j : CopyJob) (id : Nat) : State :=
  let s := (s.inc (rk R.CE_DESC_COUNT j.eng)).modCopy j.pkt (fun j => { j with busy := j.busy.filter (·.id ≠ id) })
  match s.copy? j.pkt with
  | some j => if j.busy.isEmpty && j.next = j.count then ({ s with copies := s.copies.filter (·.pkt ≠ j.pkt) }).finish j.pkt else s
  | none => s

/-- The report's last write, DONE, and the descriptor has completed (14 R352, R362). -/
def State.reportDone (s₀ s : State) (j : CopyJob) (c : CopyDesc) (va : Nat) : Out :=
  match s.vwrite (j.whoD c.id) va (leBytes 4 1) true with
  | (.ok _, s) => .next (s.descDone j c.id)
  | (.error v, s) => if v.e.cause = C.HOST_WAIT then s₀.waitOr s "DESCRIPTOR_COMPLETE" else .next (s.descFault j v)

/-- A descriptor that has moved everything completes: its CRCs are compared, its report is written. Where the report lies at a remote node, DONE follows when
that has acknowledged the rest (14 R352, R362, R366). -/
def State.descEnd (s₀ s : State) (j : CopyJob) (c : CopyDesc) : Out :=
  match c.report with
  | none =>
    let (_, s) := s.descCrc (0x10 + j.eng) c.id c.crcR
    let (_, s) := s.descCrc (0x14 + j.eng) c.id c.crcW
    .next (s.descDone j c.id)
  | some va =>
    if c.reported then s₀.reportDone s j c va
    else
      let (r, s) := s.descCrc (0x10 + j.eng) c.id c.crcR
      let (w, s) := s.descCrc (0x14 + j.eng) c.id c.crcW
      match s.writeReport j c va r w with
      | (.error v, s) => if v.e.cause = C.HOST_WAIT then s₀.waitOr s "DESCRIPTOR_COMPLETE" else .next (s.descFault j v)
      | (.ok _, s) => if s.descRemote j c then .next (s.putDesc j.pkt { c with reported := true }) else s₀.reportDone s j c va

/-- DESCRIPTOR_COMPLETE (14 R352, R362, R366): descriptor k of those that a packet has in flight, when it has moved everything and its writes are visible, or
have been sent. -/
def execDescriptorComplete (pkt k : Nat) (s₀ : State) : Out := s₀.rooted "DESCRIPTOR_COMPLETE" <|
  match s₀.copy? pkt with
  | none => never "DESCRIPTOR_COMPLETE"
  | some j =>
    match j.busy[k]? with
    | none => never "DESCRIPTOR_COMPLETE"
    | some c =>
      match (if c.isMoved || !s₀.copyRuns j then (.wait c, s₀) else s₀.copyPump j c.d.work c : CopyGo × State) with
      | (.fault v, s) => .next (s.descFault j v)
      | (.on c, s) | (.wait c, s) => if !c.isMoved || s.descOpen j c then never "DESCRIPTOR_COMPLETE" else s₀.descEnd s j c

end Sys2Proof.Machine
end

