-- ==== Sys2Proof/Machine/Batch.lean ====
section
/-! DEFINITION. Sequence batching (11 R297 to R302): BATCH_BEGIN and BATCH_COMMIT. -/

namespace Sys2Proof.Machine

/-- A sequence entry (11 Table TEN-7), and whether this step changes it. -/
structure SeqEntry where
  st : Nat
  res : Nat
  rsv : Nat
  pages : Nat
  len : Nat
  add : Nat
  list : Nat
  commit : Nat
  dirty : Bool := false
deriving DecidableEq, Repr

/-- Read and write the 32 bytes of an entry. -/
def parseEntry (b : List Byte) : SeqEntry where
  st := fieldAt b 0 1
  res := fieldAt b 1 1
  rsv := fieldAt b 2 2
  pages := fieldAt b 4 4
  len := fieldAt b 8 4
  add := fieldAt b 0xC 4
  list := fieldAt b 0x10 8
  commit := fieldAt b 0x18 8

def SeqEntry.bytes (e : SeqEntry) : List Byte :=
  leBytes 1 e.st ++ leBytes 1 e.res ++ leBytes 2 0 ++ leBytes 4 e.pages ++ leBytes 4 e.len ++ leBytes 4 e.add ++ leBytes 8 e.list ++ leBytes 8 e.commit

/-- A batch descriptor and its header (11 Tables TEN-5, TEN-6). -/
structure Batch where
  table : Nat
  step : Nat
  record : Nat
  seqs : Nat
  tlog : Nat
  maxPages : Nat
  begun : Nat
  committed : Nat
  ents : Nat
deriving DecidableEq, Repr

/-- Why a batch descriptor does nothing: a DETAIL of Table TEN-9, or a fault. -/
inductive BatchErr where
  | bad (detail : Nat)
  | fault (v : VErr)
deriving DecidableEq, Repr

/-- Translate a range with a right (11 R298): it must be in local memory. -/
def State.batchRange (s : State) (w : RemWho) (k : Acc) : List (Nat × Nat) → Except BatchErr Unit × State
  | [] => (.ok (), s)
  | (va, _) :: t =>
    match s.xlate w.holder w.ctx va k with
    | (.error e, s) => (.error (.fault ⟨e, va⟩), s)
    | (.ok x, s) => if x.dest = .loc then s.batchRange w k t else (.error (.bad 0x41), s)

/-- Translate a range for reading and writing. -/
def State.batchBoth (s : State) (w : RemWho) (va n : Nat) : Except BatchErr Unit × State :=
  match s.batchRange w .rd (linePieces va n) with
  | (.ok _, s) => s.batchRange w .wr (linePieces va n)
  | r => r

/-- Run a check, then another. -/
def andThen (x : Except BatchErr Unit × State) (f : State → Except BatchErr α × State) : Except BatchErr α × State :=
  match x with
  | (.ok _, s) => f s
  | (.error e, s) => (.error e, s)

/-- Read the header (11 Table TEN-6). -/
def State.batchHeader (s : State) (w : RemWho) (d : List Byte) : Except BatchErr Batch × State :=
  let table := fieldAt d 8 8
  let step := fieldAt d 0x10 8
  let record := fieldAt d 0x18 8
  if table % 64 ≠ 0 || record % 32 ≠ 0 || step = 0 then (.error (.bad 0x40), s)
  else andThen (s.batchBoth w table 64) (fun s =>
    match s.vread w table 64 with
    | (.error v, s) => (.error (.fault v), s)
    | (.ok h, s) =>
      let n := fieldAt h 4 2
      let b : Batch := ⟨table, step, record, n, fieldAt h 6 1, fieldAt h 8 4, fieldAt h 0x10 8, fieldAt h 0x18 8, fieldAt h 0x20 8⟩
      if fieldAt h 0 4 ≠ 0x42544231 || n = 0 || 1024 < n || 15 < b.tlog || b.maxPages = 0 || 65535 < b.maxPages || b.ents % 32 ≠ 0 then
        (.error (.bad 0x40), s)
      else (.ok b, s))

/-- The pages that an entry needs (11 R300). -/
def SeqEntry.need (e : SeqEntry) (tlog : Nat) : Nat := ceilDiv (e.len + e.add) (2 ^ tlog) - e.pages

/-- The part of an entry's page list that a descriptor will touch: what a BEGIN may append, or what a COMMIT returns. -/
def SeqEntry.touch (e : SeqEntry) (b : Batch) (begin : Bool) : Nat × Nat :=
  if begin then
    if (e.st = 1 || e.st = 2) && e.pages + e.need b.tlog ≤ b.maxPages then (e.list + 8 * e.pages, 8 * e.need b.tlog) else (0, 0)
  else if e.res = 4 && e.commit ≠ b.step then (e.list, 8 * e.pages)
  else (0, 0)

/-- Translate the page lists. -/
def State.batchLists (s : State) (w : RemWho) (b : Batch) (begin : Bool) : List SeqEntry → Except BatchErr Unit × State
  | [] => (.ok (), s)
  | e :: t =>
    let (va, n) := e.touch b begin
    andThen (if n = 0 then (.ok (), s) else s.batchRange w (if begin then .wr else .rd) (linePieces va n)) (fun s => s.batchLists w b begin t)

/-- Every check of a batch descriptor (11 R298, Table TEN-9): its header and entries. -/
def State.batchCheck (s : State) (w : RemWho) (part : Nat) (d : List Byte) (begin : Bool) : Except BatchErr (Batch × List SeqEntry) × State :=
  match s.batchHeader w d with
  | (.error e, s) => (.error e, s)
  | (.ok b, s) =>
    andThen (s.batchBoth w b.ents (32 * b.seqs)) (fun s =>
      let prev := subMod 64 b.step 1
      let late := if begin then b.committed ≠ prev || (b.begun ≠ prev && b.begun ≠ b.step) else b.begun ≠ b.step || b.committed ≠ prev
      if late then (.error (.bad 0x42), s)
      else if 8 ≤ part || !s.ringOn part then (.error (.bad 0x43), s)
      else match s.vread w b.ents (32 * b.seqs) with
        | (.error v, s) => (.error (.fault v), s)
        | (.ok bs, s) =>
          let es := (List.range b.seqs).map (fun i => parseEntry ((bs.drop (32 * i)).take 32))
          if es.any (fun e => 3 < e.st || b.maxPages < e.pages || e.list % 8 ≠ 0) then (.error (.bad 0x44), s)
          else andThen (s.batchLists w b begin es) (fun s => (.ok (b, es), s)))

/-- What a pass over the entries has come to: entries, pages moved, whether a joining entry was deferred. -/
structure BatchAcc where
  ents : List SeqEntry
  moved : Nat := 0
  deferred : Bool := false

/-- Serve one running or joining entry at its index (11 R300). -/
def State.batchServe (s : State) (w : RemWho) (part : Nat) (b : Batch) (i : Nat) (joining : Bool) (a : BatchAcc) : Except VErr BatchAcc × State :=
  let e := a.ents.getD i (parseEntry [])
  let n := e.need b.tlog
  let put := fun (e : SeqEntry) => { a with ents := a.ents.set i e }
  if joining && a.deferred then (.ok (put { e with res := 3 }), s)
  else if n = 0 then (.ok (put { e with res := 1 }), s)
  else if b.maxPages < e.pages + n then (.ok (put { e with res := 5 }), s)
  else match s.ringTake part n with
    | (.error m, s) => (.error ⟨m, e.list⟩, s)
    | (.ok none, s) => (.ok { put { e with res := if joining then 3 else 2 } with deferred := a.deferred || joining }, s)
    | (.ok (some l), s) =>
      match s.vwrite w (e.list + 8 * e.pages) (l.flatMap (leBytes 8)) false with
      | (.error v, s) => (.error v, s)
      | (.ok _, s) => (.ok { put { e with res := 1, pages := e.pages + n } with moved := a.moved + n }, s)

/-- Write entry i of the table, at once (11 R300, R301). -/
def State.batchEntry (s : State) (w : RemWho) (b : Batch) (i : Nat) (e : SeqEntry) : Except VErr Unit × State :=
  s.vwrite w (b.ents + 32 * i) e.bytes false

/-- Serve entries in index order, in the first pass the running ones, in the second the joining ones, and write each as it is served; those that no pass
serves are written in the first. -/
def State.batchPass (s : State) (w : RemWho) (part : Nat) (b : Batch) (joining : Bool) : List Nat → BatchAcc → Except VErr BatchAcc × State
  | [], a => (.ok a, s)
  | i :: t, a =>
    let st := (a.ents.getD i (parseEntry [])).st
    if (st == 1) == joining then
      match (if st = 1 || st = 2 then s.batchServe w part b i joining a else (.ok a, s)) with
      | (.error v, s) => (.error v, s)
      | (.ok a, s) =>
        match s.batchEntry w b i (a.ents.getD i (parseEntry [])) with
        | (.error v, s) => (.error v, s)
        | (.ok _, s) => s.batchPass w part b joining t a
    else s.batchPass w part b joining t a

/-- The step record (11 Table TEN-10) but its STEP, and STEP. -/
def recordBytes (s : State) (part kind : Nat) (es : List SeqEntry) (moved : Nat) : List Byte :=
  let n := fun (p : Nat → Bool) => (es.filter (fun e => p e.res)).length
  leBytes 4 kind ++ leBytes 2 (n (· == 1)) ++ leBytes 2 (n (fun r => r == 2 || r == 5)) ++ leBytes 2 (n (· == 3)) ++ leBytes 2 (n (· == 4)) ++
    leBytes 4 moved ++ leBytes 4 (s.ringOcc part) ++ leBytes 4 (s.ringOut part)

/-- Write the header's step word and then the step record. -/
def State.batchWrite (s : State) (w : RemWho) (part kind : Nat) (b : Batch) (es : List SeqEntry) (moved : Nat) : Except VErr Unit × State :=
  match s.vwrite w (b.table + (if kind = 0x20 then 0x10 else 0x18)) (leBytes 8 b.step) false with
  | (.error v, s) => (.error v, s)
  | (.ok _, s) =>
    if b.record = 0 then (.ok (), s)
    else match s.vwrite w (b.record + 8) (recordBytes s part kind es moved) true with
      | (.error v, s) => (.error v, s)
      | (.ok _, s) => s.vwrite w b.record (leBytes 8 b.step) true

/-- BATCH_BEGIN's work (11 R300). -/
def State.batchBegin (s : State) (w : RemWho) (part : Nat) (b : Batch) (es : List SeqEntry) : Except VErr Unit × State :=
  let es := es.map (fun (e : SeqEntry) => if e.st = 3 then { e with res := 4 } else if e.st = 0 then { e with res := 0 } else e)
  let ix := List.range es.length
  match s.batchPass w part b false ix { ents := es } with
  | (.error v, s) => (.error v, s)
  | (.ok a, s) =>
    match s.batchPass w part b true ix a with
    | (.error v, s) => (.error v, s)
    | (.ok a, s) => s.batchWrite w part 0x20 b a.ents a.moved

/-- Commit the entries from index i on in order (11 R301), each written before the next is taken: entries as they then stand, and pages returned. -/
def State.batchCommitGo (s : State) (w : RemWho) (part : Nat) (b : Batch) (i : Nat) : List SeqEntry → Except VErr (List SeqEntry × Nat) × State
  | [] => (.ok ([], 0), s)
  | e :: t =>
    match (if e.commit = b.step then (.ok (e, 0), s)
      else if e.res = 1 then
        (.ok ({ e with len := (e.len + e.add) % 2 ^ 32, st := if e.st = 1 then 2 else e.st, commit := b.step, dirty := true }, 0), s)
      else if e.res = 4 then
        match (if e.pages = 0 then (.ok [], s) else s.vread w e.list (8 * e.pages)) with
        | (.error v, s) => (.error v, s)
        | (.ok l, s) =>
          let pages := (List.range e.pages).map (fun k => bits (fieldAt l (8 * k) 8) 47 16 * 65536)
          (.ok ({ e with st := 0, pages := 0, commit := b.step, dirty := true }, e.pages), if e.pages = 0 then s else s.ringReturn part pages)
      else (.ok (e, 0), s) : Except VErr (SeqEntry × Nat) × State) with
    | (.error v, s) => (.error v, s)
    | (.ok (e, n), s) =>
      match (if e.dirty then s.batchEntry w b i e else (.ok (), s)) with
      | (.error v, s) => (.error v, s)
      | (.ok _, s) =>
        match s.batchCommitGo w part b (i + 1) t with
        | (.error v, s) => (.error v, s)
        | (.ok (l, m), s) => (.ok (e :: l, n + m), s)

/-- BATCH_COMMIT's work (11 R301). -/
def State.batchCommit (s : State) (w : RemWho) (part : Nat) (b : Batch) (es : List SeqEntry) : Except VErr Unit × State :=
  match s.batchCommitGo w part b 0 es with
  | (.error v, s) => (.error v, s)
  | (.ok (es, n), s) => s.batchWrite w part 0x21 b es n

/-- A batch descriptor of a packet: its checks and its work. -/
def State.batchDesc (s₀ : State) (event : String) (pkt kind : Nat) : Out :=
  match s₀.copy? pkt with
  | none => never event
  | some j =>
    match s₀.descNext j with
    | none => never event
    | some (.error v, s) => if v.e.cause = C.HOST_WAIT then s₀.waitOr s event else .next (s.descFault j v)
    | some (.ok d, s) =>
      if fieldAt d 0 1 ≠ kind || !j.busy.isEmpty then never event
      else
        let part := s.ctxPart j.ctx
        match s.batchCheck j.who part d (kind == 0x20) with
        | (.error (.bad n), s) => .next (s.copyBad pkt j.eng n j.here)
        | (.error (.fault v), s) => if v.e.cause = C.HOST_WAIT then s₀.waitOr s event else .next (s.descFault j v)
        | (.ok (b, es), s) =>
          match (if kind = 0x20 then s.batchBegin j.who part b es else s.batchCommit j.who part b es) with
          | (.error v, s) => if v.e.cause = C.HOST_WAIT then s₀.waitOr s event else .next (s.descFault j v)
          | (.ok _, s) =>
            let id := s.qm.nextId
            let s := { s with qm := { s.qm with nextId := id + 1 } }
            .next (s.modCopy pkt (fun j => { j with next := j.next + 1, busy := [{ id := id, taken := true }] }))

/-- BATCH_BEGIN (11 R297 to R300). -/
def execBatchBegin (pkt : Nat) (s : State) : Out := s.rooted "BATCH_BEGIN" <| s.batchDesc "BATCH_BEGIN" pkt 0x20

/-- BATCH_COMMIT (11 R297 to R301). -/
def execBatchCommit (pkt : Nat) (s : State) : Out := s.rooted "BATCH_COMMIT" <| s.batchDesc "BATCH_COMMIT" pkt 0x21

end Sys2Proof.Machine
end

