-- ==== Sys2Proof/Machine/Ray.lean ====
section
/-! DEFINITION. Ray traversal (13 R323 to R341, 09 R259): records, tests, the walk of a query, RAYQ, NODE_READ_COMPLETE, NODE_LIMIT. -/

namespace Sys2Proof.Machine

/-- FP32 arithmetic of the ray traversal units: nearest even, subnormals kept. -/
def rAdd (a b : Nat) : Nat := (fp32.add 0 false a b).w
def rNeg (a : Nat) : Nat := a ^^^ 2 ^ 31
def rSub (a b : Nat) : Nat := rAdd a (rNeg b)
def rMul (a b : Nat) : Nat := (fp32.mul 0 false a b).w
def rFma (a b c : Nat) : Nat := (fp32.fma 0 false a b c).w
def rDiv (a b : Nat) : Nat := (fp32.div 0 false a b).w
def rVal (a : Nat) : FV := fp32.decode false a
def rLt (a b : Nat) : Bool := (rVal a).ltB (rVal b)
def rLe (a b : Nat) : Bool := rLt a b || (rVal a).eqB (rVal b)
def rZero (a : Nat) : Bool := (rVal a).isZero
def rNan (a : Nat) : Bool := (rVal a).isNan
def rFinite (a : Nat) : Bool := match rVal a with | .fin _ _ _ => true | _ => false

/-- Component k of a vector. -/
def comp (v : List Nat) (k : Nat) : Nat := v.getD k 0

/-- ORIGIN + q * 2^EXP rounded in a mode (13 R326, R328). -/
def quantum (mode origin exp q : Nat) : Nat :=
  match rVal origin with
  | .fin n m e => (fp32.sum mode false n m e false q (asInt 8 exp)).w
  | _ => origin

/-- The FP32 values of a record. -/
def floats (b : List Byte) (o n : Nat) : List Nat := (List.range n).map (fun k => fieldAt b (o + 4 * k) 4)

/-- One axis of a box test (13 R332): near and far values, none for a direction component of zero that passes; the test's failure; whether a value is NaN. -/
inductive AxisTest where
  | free
  | fail
  | span (near far : Nat)
  | nan
deriving DecidableEq, Repr

/-- Test one axis. -/
def axisTest (lo hi o d : Nat) : AxisTest :=
  if rZero d then (if rLe lo o && rLe o hi then .free else .fail)
  else
    let inv := rDiv 0x3F800000 d
    let t0 := rMul (rSub lo o) inv
    let t1 := rMul (rSub hi o) inv
    if rNan t0 || rNan t1 then .nan else if rLt t1 t0 then .span t1 t0 else .span t0 t1

/-- A box test (13 R332): tnear, tfar and the axis that gave tnear, when the box is hit. A NaN on an axis leaves the outcome open. -/
inductive BoxTest where
  | miss
  | hit (tnear tfar axis : Nat)
  | openValue
deriving DecidableEq, Repr

/-- Test a child's box (per axis ORIGIN, EXP, LO, HI). -/
def boxTest (box : List (Nat × Nat × Nat × Nat)) (o d : List Nat) (tmin tlim : Nat) : BoxTest :=
  let axes := box.zipIdx.map (fun (b, k) =>
    axisTest (quantum 3 b.1 b.2.1 b.2.2.1) (quantum 2 b.1 b.2.1 b.2.2.2) (comp o k) (comp d k))
  if axes.contains .fail then .miss
  else if axes.contains .nan then .openValue
  else
    let (near, far, ax) := axes.zipIdx.foldl (fun (n, f, a) (t, k) => match t with
      | .span lo hi => (if rLt n lo then lo else n, if rLt hi f then hi else f, if rLt n lo then k else a)
      | _ => (n, f, a)) (tmin, tlim, 3)
    if rLe near far then .hit near far ax else .miss

/-- The box of child i of a box node. -/
def childBox (b : List Byte) (i : Nat) : List (Nat × Nat × Nat × Nat) :=
  (List.range 3).map (fun k => (fieldAt b (4 * k) 4, fieldAt b (0x0C + k) 1, fieldAt b (0x1C + 6 * i + k) 1, fieldAt b (0x1F + 6 * i + k) 1))

/-- TYPE of child i of a box node. -/
def childType (b : List Byte) (i : Nat) : Nat := bits (fieldAt b 0x18 4) (2 * i + 1) (2 * i)

/-- The first condition of Table RAY-10 from 0x03 on that a record breaks. -/
def malformed (e : RayRec) (b : List Byte) : Option Nat :=
  let n := fieldAt b 0x0F 1
  let badFloat := match e.typ with
    | 0 => !(floats b 0 3).all rFinite
    | 1 => !(floats b 0 9).all rFinite
    | 2 => !(floats b 0 12).all rFinite
    | _ => false
  if 33 ≤ e.depth then some 3
  else if e.typ = 0 && (n = 0 || 6 < n || (List.range 3).any (fun k => let x := asInt 8 (fieldAt b (0x0C + k) 1); x < -126 || 119 < x)) then some 4
  else if e.typ = 0 && (List.range n).any (fun i => (childBox b i).any (fun c => c.2.2.2 < c.2.2.1)) then some 5
  else if badFloat then some 6
  else if e.typ = 2 && (e.inst.isSome || fieldAt b 0x30 8 % 4 ≠ 0) then some 7
  else if e.typ = 0 && (List.range n).any (fun i => childType b i == 3 && (childBox b i).any (fun c => c.2.2.2 - c.2.2.1 = 0 || (c.2.2.2 - c.2.2.1) % 8 ≠ 0)) then some 8
  else none

/-- Does a query kind use a record type (13 R334)? -/
def kindUses (kind typ : Nat) : Bool := if kind = 2 then typ ≠ 1 else typ ≠ 3

/-- Insert a collected child before those that pop later: rising tnear, then rising index (13 R331). -/
def insertChild (r : RayRec) : List RayRec → List RayRec
  | [] => [r]
  | c :: t => if rLt r.tnear c.tnear then r :: c :: t else c :: insertChild r t

/-- The children of a box node that a query pushes, nearest first. -/
def State.collect (s : State) (q : Query) (e : RayRec) (b : List Byte) : List RayRec × State :=
  (List.range (fieldAt b 0x0F 1)).foldl (fun (l, s) i =>
    if !kindUses q.kind (childType b i) then (l, s)
    else
      let box := childBox b i
      let r : RayRec := { va := bits (fieldAt b 0x10 8) 47 6 * 64 + 64 * i, typ := childType b i, depth := e.depth + 1, tnear := 0, tfar := 0, box := box
                          o := e.o, d := e.d, inst := e.inst }
      match boxTest box e.o e.d q.tmin q.tlim with
      | .miss => (l, s)
      | .hit n f a => (insertChild { r with tnear := n, tfar := f, axis := a } l, s)
      | .openValue =>
        let (h, s) := s.draw
        let (n, s) := s.draw
        let (f, s) := s.draw
        if h % 2 = 0 then (l, s) else (insertChild { r with tnear := n % 2 ^ 32, tfar := f % 2 ^ 32, axis := 3 } l, s)) ([], s)

/-- The object-space ray beneath an instance (13 R327). -/
def instanceRay (b : List Byte) (e : RayRec) : List Nat × List Nat :=
  let m := fun r c => fieldAt b (16 * r + 4 * c) 4
  let row := fun (v : List Nat) r => rFma (m r 2) (comp v 2) (rFma (m r 1) (comp v 1) (rMul (m r 0) (comp v 0)))
  ((List.range 3).map (fun r => rAdd (row e.o r) (m r 3)), (List.range 3).map (row e.d))

/-- Dot and cross products (13 R333). -/
def rDot (a b : List Nat) : Nat := rFma (comp a 2) (comp b 2) (rFma (comp a 1) (comp b 1) (rMul (comp a 0) (comp b 0)))
def rCross (a b : List Nat) : List Nat :=
  (List.range 3).map (fun k =>
    let y := (k + 1) % 3
    let z := (k + 2) % 3
    rFma (comp a y) (comp b z) (rNeg (rMul (comp a z) (comp b y))))
def rSub3 (a b : List Nat) : List Nat := (List.range 3).map (fun k => rSub (comp a k) (comp b k))

/-- A triangle test (13 R333): t, u, w and whether it is a back face. -/
def triTest (b : List Byte) (e : RayRec) (tmin tlim : Nat) : Option (Nat × Nat × Nat × Bool) :=
  let v0 := floats b 0 3
  let e1 := rSub3 (floats b 12 3) v0
  let e2 := rSub3 (floats b 24 3) v0
  let p := rCross e.d e2
  let det := rDot e1 p
  if rZero det then none
  else if rLt det 0 && (fieldAt b 0x29 1).testBit 0 then none
  else
    let sv := rSub3 e.o v0
    let u := rDiv (rDot sv p) det
    let q := rCross sv e1
    let w := rDiv (rDot e.d q) det
    if rLt u 0 || rLt w 0 || rLt 0x3F800000 (rAdd u w) then none
    else
      let t := rDiv (rDot e2 q) det
      if rLt t tmin || rLt tlim t then none else some (t, u, w, rLt det 0)

/-- Is voxel i of a brick occupied? -/
def occupied (b : List Byte) (i : Nat) : Bool := (fieldAt b (i / 8) 1).testBit (i % 8)

/-- A voxel index from its three coordinates. -/
def voxel (v : List Nat) : Nat := comp v 0 + 8 * comp v 1 + 64 * comp v 2

/-- A finite value times 2^-e0 as an integer; e0 is at most its exponent. -/
def scaledInt (v : FV) (e0 : Int) : Int :=
  match v with
  | .fin n m e => if m = 0 then 0 else signedAt n m e e0
  | _ => 0

/-- The exponent of a finite value that is not zero, else a bound. -/
def expOr (v : FV) (b : Int) : Int :=
  match v with
  | .fin _ m e => if m = 0 then b else min e b
  | _ => b

/-- The exact product of two values. -/
def exactMul (a b : FV) : FV :=
  match a, b with
  | .fin n m e, .fin k j d => .fin (n != k) (m * j) (e + d)
  | .inf n, .fin k m _ => if m = 0 then .fin false 0 0 else .inf (n != k)
  | _, _ => .fin false 0 0

/-- The voxel index on one axis that holds o + t * d (13 R335): exact, floored, clamped. -/
def startVoxel (c : Nat × Nat × Nat × Nat) (o d t : Nat) : Nat :=
  let ex := asInt 8 c.2.1
  let td := exactMul (rVal t) (rVal d)
  match td with
  | .inf n => if n then 0 else 7
  | _ =>
    let e0 := expOr td (expOr (rVal o) (expOr (rVal c.1) ex))
    let num := scaledInt td e0 + scaledInt (rVal o) e0 - scaledInt (rVal c.1) e0 - (c.2.2.1 : Int) * 2 ^ (ex - e0).toNat
    let den : Int := ((c.2.2.2 - c.2.2.1) / 8 : Nat) * 2 ^ (ex - e0).toNat
    (min 7 (max 0 (num / den))).toNat

/-- The boundary that a walk would cross next on an axis: t and the axis. -/
def nextBoundary (e : RayRec) (v : List Nat) (k : Nat) : Option Nat :=
  let d := comp e.d k
  if rZero d then none
  else
    let c := e.box.getD k (0, 0, 0, 0)
    let j := if (rVal d).neg then comp v k else comp v k + 1
    some (rMul (rSub (quantum 0 c.1 c.2.1 (c.2.2.1 + j * ((c.2.2.2 - c.2.2.1) / 8))) (comp e.o k)) (rDiv 0x3F800000 d))

/-- Walk the voxels of a brick (13 R335): voxels examined, and the first occupied one with its t and axis. -/
def voxelGo (e : RayRec) (b : List Byte) (te : Nat) : Nat → List Nat → Nat → Nat → Nat → Nat × Option (Nat × Nat × Nat)
  | 0, _, _, _, n => (n, none)
  | f + 1, v, t, ax, n =>
    if occupied b (voxel v) then (n + 1, some (voxel v, t, ax))
    else
      let best := (List.range 3).foldl (fun (m : Option (Nat × Nat)) k => match nextBoundary e v k, m with
        | some tb, none => some (tb, k)
        | some tb, some (t', k') => if rLt tb t' then some (tb, k) else some (t', k')
        | none, m => m) none
      match best with
      | none => (n + 1, none)
      | some (tb, k) =>
        let neg := (rVal (comp e.d k)).neg
        if rLt te tb || (if neg then comp v k = 0 else comp v k = 7) then (n + 1, none)
        else voxelGo e b te f (v.set k (if neg then comp v k - 1 else comp v k + 1)) tb k (n + 1)

/-- A brick walk of a query. -/
def voxelWalk (e : RayRec) (b : List Byte) (tlim : Nat) : Nat × Option (Nat × Nat × Nat) :=
  let te := if rLt tlim e.tfar then tlim else e.tfar
  let start := (List.range 3).map (fun k => startVoxel (e.box.getD k (0, 0, 0, 0)) (comp e.o k) (comp e.d k) e.tnear)
  voxelGo e b te 32 start e.tnear e.axis 0

/-- The ray unit of a core pair. -/
def State.rtu (s : State) (u : Nat) : Rtu := s.rtus.getD u {}

/-- Change a unit. -/
def State.modRtu (s : State) (u : Nat) (f : Rtu → Rtu) : State := { s with rtus := s.rtus.modify u f }

/-- Replace a query. -/
def State.putQuery (s : State) (u : Nat) (q : Query) : State :=
  s.modRtu u (fun r => { r with queries := r.queries.map (fun k => if k.id = q.id then q else k) })

/-- Take a query away. -/
def State.dropQuery (s : State) (u id : Nat) : State := s.modRtu u (fun r => { r with queries := r.queries.filter (·.id ≠ id) })

/-- A query ends (13 R324, R336): its lane's quad is written. `flags` are BADRAY and LIMIT. -/
def State.rayFinish (s : State) (u : Nat) (q : Query) (flags : Nat) : State :=
  let h := q.best.getD ⟨0x7F800000, 0, 0, 0xFFFF0000⟩
  let s := if q.best.isSome then s.inc (rk R.RTU_HIT_COUNT u) else s
  let s := s.dropQuery u q.id
  let s := match s.opPod q.core q.slot q.uid, ((s.core q.core).ops.find? (·.id == q.op)).map (·.kind) with
    | some p, some (.ray d) =>
      [h.t, h.a, h.b, h.status ||| flags].zipIdx.foldl (fun (s : State) (v, k) => s.vput (.slot q.core q.slot) p (d + k) q.lane v) s
    | _, _ => s
  s.opStep q.core q.op

/-- A fault of a query (13 R338): no query of its RAYQ goes on, and the job fails. -/
def State.rayFault (s : State) (u : Nat) (q : Query) (cause detail va : Nat) : State :=
  let s := s.modRtu u (fun r => { r with queries := r.queries.filter (fun k => !(k.op == q.op && k.core == q.core)) })
  let s := if cause = C.RAY_MALFORMED then s.inc (rk R.RTU_MALFORMED_COUNT u) else s
  match q.pkt with
  | some id => s.pktFault id ⟨38 + u, cause, detail, some va⟩ 0x80
  | none => s

/-- The record of a query has its translation, or its fault. -/
def State.rayXlated (s : State) (u : Nat) (q : Query) (e : RayRec) (x : Except MErr XAddr) : State :=
  match x with
  | .error err => s.rayFault u q err.cause err.detail e.va
  | .ok x => if x.dest ≠ .loc then s.rayFault u q C.RAY_MALFORMED 2 e.va else s.putQuery u { q with x := some x }

/-- Translate an access of a unit: the answer, or none when it waits for a walk. -/
def State.rayXlate (s : State) (u ctx va : Nat) : Option (Except MErr XAddr) × State :=
  if 2 ^ 48 ≤ va then (some (.error ⟨C.XLT_VA_RANGE, 0, 0⟩), s.xltFault (38 + u) ctx va ⟨C.XLT_VA_RANGE, 0, 0⟩)
  else match s.tlbFind (38 + u) ctx va with
    | some t =>
      match s.useErr t .rd with
      | some e => (some (.error e), s.xltFault (38 + u) ctx va e)
      | none => (some (.ok (t.apply va)), s)
    | none =>
      let s := s.countWalk (38 + u) ctx
      (none, { s with mmu := { s.mmu with walks := s.mmu.walks ++ [⟨38 + u, ctx, va, 0⟩] } })

/-- A query reads its next record (13 R331, R339). -/
def State.rayRead (s : State) (u : Nat) (q : Query) (e : RayRec) : State :=
  let q := { q with cur := some e, x := none, bytes := none }
  if e.depth = 0 && q.reads = 0 && e.typ ≠ 0 then s.rayFault u q C.RAY_MALFORMED 1 e.va
  else
    let s := s.inc (rk R.RTU_NODE_READ_COUNT u)
    let q := { q with reads := q.reads + 1 }
    match (s.rtu u).cache.find? (fun l => l.1 == q.ctx && l.2.1 == e.va / 128) with
    | some l => (s.inc (rk R.RTU_NODE_HIT_COUNT u)).putQuery u { q with bytes := some ((l.2.2.drop (e.va % 128)).take 64) }
    | none =>
      let s := (s.inc (rk R.RTU_NODE_MISS_COUNT u)).putQuery u q
      match s.rayXlate u q.ctx e.va with
      | (none, s) => s
      | (some x, s) => s.rayXlated u q e x

/-- A query goes on: its nearest record that the limit T does not prune, or its end (13 R331). -/
def State.rayNext (s : State) (u : Nat) (q : Query) : State :=
  match q.stack.dropWhile (fun e => rLt q.tlim e.tnear) with
  | [] => s.rayFinish u q 0
  | e :: t => s.rayRead u { q with stack := t } e

/-- INSTANCE of a hit, in STATUS. -/
def instStatus (e : RayRec) : Nat := (e.inst.getD 0xFFFF) * 2 ^ 16

/-- A query tests the record that it has read (13 R331). -/
def State.rayTest (s : State) (u : Nat) (q : Query) (e : RayRec) (b : List Byte) : State :=
  let q := { q with cur := none, x := none, bytes := none }
  match e.typ with
  | 0 =>
    let (l, s) := s.collect q e b
    s.rayNext u { q with stack := l ++ q.stack }
  | 1 =>
    match triTest b e q.tmin q.tlim with
    | none => s.rayNext u q
    | some (t, u', w, back) =>
      let h : RayHit := ⟨t, fieldAt b 0x24 4, (convert 0 1 0 false false 0 u').w % 2 ^ 16 + (convert 0 1 0 false false 0 w).w % 2 ^ 16 * 2 ^ 16,
        instStatus e + fieldAt b 0x28 1 * 2 ^ 8 + b2n back * 4 + 1⟩
      if q.kind = 1 then s.rayFinish u { q with best := some h } 0
      else if rLt t q.tlim then s.rayNext u { q with best := some h, tlim := t }
      else s.rayNext u q
  | 2 =>
    let (o, d) := instanceRay b e
    let r : RayRec := { va := bits (fieldAt b 0x30 8) 47 6 * 64, typ := 0, depth := e.depth + 1, tnear := e.tnear, tfar := e.tfar, o := o, d := d
                        inst := some (fieldAt b 0x38 2) }
    s.rayNext u { q with stack := r :: q.stack }
  | _ =>
    let (n, r) := voxelWalk e b q.tlim
    let s := s.bump (rk R.RTU_VOXEL_COUNT u) n
    match r with
    | some (i, t, ax) =>
      if rLt t q.tlim then
        let neg := ax < 3 && (rVal (comp e.d ax)).neg
        let h : RayHit := ⟨t, bits e.va 37 6, i + ax * 2 ^ 9 + b2n neg * 2 ^ 11, instStatus e + 2⟩
        s.rayNext u { q with best := some h, tlim := t }
      else s.rayNext u q
    | none => s.rayNext u q

/-- Is a query's ray bad (13 R330)? `f` are its eight FP32 values. -/
def badRay (f : List Nat) : Bool :=
  f.any rNan || (f.take 7).any (fun v => !rFinite v) || ((f.drop 4).take 3).all rZero || rLt (comp f 7) (comp f 3)

/-- A query takes its slot. -/
def State.rayTake (s : State) (u : Nat) (q : Query) : State :=
  ((s.inc (rk R.RTU_QUERY_COUNT u)).perfCtx 0xB q.ctx 1).modRtu u (fun r => { r with queries := r.queries ++ [q] })

/-- Start the query of one lane, unless a lane of its RAYQ has faulted. -/
def State.rayStart (s : State) (u : Nat) (q : Query) (f : List Nat) (root : Nat) : State :=
  if !(s.rtu u).queries.any (·.id == q.id) then s
  else if badRay f then (s.inc (rk R.RTU_BADRAY_COUNT u)).rayFinish u q 0x10
  else s.rayNext u { q with stack := [{ va := bits root 47 6 * 64, typ := root % 4, tnear := comp f 3, tfar := comp f 7, o := f.take 3, d := (f.drop 4).take 3 }] }

/-- Does a core have a pod whose RAYQ waits for query slots (13 R323)? -/
def Core.rayWaits (co : Core) : Bool := co.pods.any (fun p => !p.dead && p.stalled.contains R.RTU_SLOT_FULL_COUNT)

/-- Is it the other core's turn: both cores of a pair wait, and this one was served last (13 R323)? -/
def State.rayTurn (s : State) (c : Nat) (p : Pod) : Bool :=
  p.stalled.contains R.RTU_SLOT_FULL_COUNT && (s.core (c ^^^ 1)).rayWaits && (s.rtu (c / 2)).turn == some c

/-- RAYQ (09 R259; 13 R323, R341). -/
def execRayq (r : PodRef) (i : Ins) (s : State) : Out :=
  issue "RAYQ" 0xC0 r i s (fun s p e =>
    match r with
    | .guard => .done s 0
    | .slot c k =>
      let u := c / 2
      let lanes := lanesOf e
      if !s.on D.RT then .done (s.podStop r c p C.DOMAIN_OFF (0x40 + u) none) 0
      else if 128 < (s.rtu u).queries.length + lanes.length || s.rayTurn c p then .slots
      else
        let s := if p.stalled.contains R.RTU_SLOT_FULL_COUNT then s.modRtu u (fun k => { k with turn := some c }) else s
        let (op, s) := s.opStart r c p 0xC0 i (.ray i.d) lanes.length
        let root := p.sv64 i i.b
        let id := s.qm.nextId
        let lim := s.field (rk R.RTU_NODE_LIMIT u) 15 0
        let qs := lanes.zipIdx.map (fun (l, n) =>
          let f := (List.range 8).map (fun j => s.vget r p (i.a + j) l)
          let q : Query := { id := id + n, op := op, core := c, slot := k, uid := p.uid, lane := l, ctx := p.ctx, pkt := p.pkt, kind := i.m % 4, tmin := comp f 3
                             tlim := comp f 7, limit := lim }
          (q, f))
        let s := qs.foldl (fun s x => s.rayTake u x.1) { s with qm := { s.qm with nextId := id + lanes.length } }
        .done (qs.foldl (fun s x => s.rayStart u x.1 x.2 root) s) 0)

/-- Put a line into a unit's node cache (13 R339); the victim of a full cache is free. -/
def State.nodeFill (s : State) (u ctx va : Nat) (d : List Byte) : State :=
  let (l, s) := insertFree s 256 (s.rtu u).cache (ctx, va / 128, d)
  s.modRtu u (fun r => { r with cache := l })

/-- Empty a context's lines of a unit's node cache (13 R339). -/
def State.nodeFlush (s : State) (u ctx : Nat) : State := s.modRtu u (fun r => { r with cache := r.cache.filter (·.1 ≠ ctx) })

/-- The record that a query of a unit reads, once it has come: a fault of the read or of Table RAY-10, or its bytes (13 R331, R338); none while it has
not. -/
def State.nodeRead (s : State) (u : Nat) (q : Query) (e : RayRec) : Option (Except (Nat × Nat) (List Byte) × State) :=
  let check := fun (b : List Byte) => match malformed e b with | some d => .error (C.RAY_MALFORMED, d) | none => .ok b
  match q.bytes, q.x with
  | some b, _ => some (check b, s)
  | none, some x =>
    if 33 ≤ e.depth then some (.error (C.RAY_MALFORMED, 3), s)
    else
      let o := e.va % 128
      match s.readAt ⟨38 + u, 38 + u, q.ctx, none, none⟩ (e.va - o) 128 (if x.comp = 0 then { x with addr := x.addr - o } else { x with off := x.off - o }) with
      | (.error m, s) => some (.error (m.cause, m.detail), s)
      | (.ok d, s) => some (check ((d.drop o).take 64), s.nodeFill u q.ctx e.va d)
  | none, none => none

/-- The record of a query has come: a fault ends the RAYQ; else `go` says how the query goes on with the bytes. -/
def State.nodeDone (s : State) (event : String) (u query : Nat) (limited : Bool) (go : State → Query → RayRec → List Byte → State) : Out :=
  match (s.rtu u).queries.find? (·.id == query) with
  | none => never event
  | some q =>
    match q.cur with
    | none => never event
    | some e =>
      if (decide (q.limit < q.reads)) ≠ limited then never event
      else match s.nodeRead u q e with
        | none => never event
        | some (.error (c, d), s) => .next (s.rayFault u q c d e.va)
        | some (.ok b, s) => .next (go s q e b)

/-- NODE_READ_COMPLETE (13 R331, R338, R339): the record of a query of a unit returns, and the query goes on to its next. -/
def execNodeReadComplete (unit query : Nat) (s : State) : Out := s.rooted "NODE_READ_COMPLETE" <|
  s.nodeDone "NODE_READ_COMPLETE" unit query false (fun s q e b => s.rayTest unit q e b)

/-- NODE_LIMIT (13 R331, R337): the record of a query whose read went beyond RTU_NODE_LIMIT returns; the query ends. -/
def execNodeLimit (unit query : Nat) (s : State) : Out := s.rooted "NODE_LIMIT" <|
  s.nodeDone "NODE_LIMIT" unit query true (fun s q _ _ =>
    (s.inc (rk R.RTU_LIMIT_COUNT unit)).rayFinish unit (if q.kind = 1 then { q with best := none } else q) 8)

end Sys2Proof.Machine
end

