-- ==== Sys2Proof/Machine/Work.lean ====
section
/-! DEFINITION. Work in flight and its end (04 R99, R111, R112; 05 R146 to R150; 12 R321): what a packet still runs, the kill, stopped aborts. -/

namespace Sys2Proof.Machine

/-- The cores. -/
def coreList : List Nat := List.range 32

/-- Does a packet still run work on a core: pods, line requests, tensor instructions of pods that are gone? -/
def Core.runs (co : Core) (id : Nat) : Bool :=
  co.pods.any (·.pkt == some id) || co.lines.any (·.pkt == some id) ||
    (co.wgs.any (·.pkt == id) && co.tq.any (fun t => t.started && !co.pods.any (·.uid == t.uid)))

/-- Does a packet still run work (05 R147): pods, line requests, queries, tiles, copy lines? -/
def State.hasWork (s : State) (id : Nat) : Bool :=
  s.cores.any (·.runs id) || s.rtus.any (fun u => u.queries.any (·.pkt == some id)) ||
    (match s.pass with | some a => a.pkt == id && !a.tiles.isEmpty | none => false) ||
    s.copies.any (fun j => j.pkt == id && !j.busy.isEmpty)

/-- End the pods of a packet on a core; their workgroups keep their resources until the kill is complete. -/
def Core.kill (co : Core) (id : Nat) : Core :=
  let gone := (co.pods.filter (·.pkt == some id)).map (·.uid)
  { co with
    pods := co.pods.filter (·.pkt ≠ some id)
    tq := co.tq.filter (fun t => t.started || !gone.contains t.uid) }

/-- Drop the accumulators of descriptors in flight. -/
def CrcUnit.dropDescs (c : CrcUnit) (ids : List Nat) : CrcUnit := { c with desc := c.desc.filter (fun d => !ids.contains d.1) }

/-- The kill of a packet (05 R147 step 3): every pod, tile, query and copy line of it ends; line requests already issued complete. -/
def State.kill (s : State) (id : Nat) : State :=
  let ds := ((s.copies.filter (·.pkt == id)).flatMap (·.busy)).map (·.id)
  { s with
    cores := s.cores.map (·.kill id)
    rtus := s.rtus.map (fun (u : Rtu) => { u with queries := u.queries.filter (·.pkt ≠ some id) })
    disps := s.disps.filter (·.pkt ≠ id)
    copies := s.copies.filter (·.pkt ≠ id)
    crc := s.crc.map (·.dropDescs ds)
    pass := s.pass.map (fun a => if a.pkt = id then { a with tiles := [] } else a) }

/-- The kill of a packet is complete: its cores write back (08 R225), its workgroups free what they held, its pass returns its pages (12
R321). -/
def State.cleanUp (s : State) (id ctx : Nat) : State :=
  let s := coreList.foldl (fun s c => (s.l1Clean c ctx).modCore c (fun co => { co with wgs := co.wgs.filter (·.pkt ≠ id) })) s
  match s.pass with
  | some a => if a.pkt = id then s.passEnd a else s
  | none => s

/-- Packets of an abort: those whose fences will carry an onion. -/
def State.aborted (s : State) (seq : Nat) : List (Nat × QPkt) :=
  s.allPkts.filter (fun x => match x.2.abort with | some a => a.seq == seq | none => false)

/-- A packet that cannot be fetched for its fence (05 R150): an onion with FIRST = 0, and the fault is one of the context's work (04 R112). -/
def State.skipOnion (s : State) (sl : Slot) (v : VErr) : State :=
  let (gen, s) := s.ctxGen sl.l.ctx
  s.abortFrom sl.l.ctx { s.ctxOnion sl.l.ctx 74 gen with
    cause := v.e.cause, detail := v.e.detail, va := some v.va, graph := some (sl.l.handle, sl.l.count % 2 ^ 32) } none

/-- Fetch the remaining packets of an aborted strand, without starting them, and error their fences (05 R150): n packets from an index on. The first part of
the answer is false where a read must wait: then all of it is done over later. -/
def State.strandFences (s : State) (q : Nat) (sl : Slot) (st : Nat) (a : Abort) : Nat → Nat → Bool × State
  | 0, _ => (true, s)
  | n + 1, i =>
    match s.strandRead sl st i with
    | (.error v, s) => if v.e.cause = C.HOST_WAIT then (false, s) else (s.skipOnion sl v).strandFences q sl st a n (i + 1)
    | (.ok b, s) =>
      let p : QPkt := { id := s.qm.nextId, src := .strand sl.id st i, ctx := sl.l.ctx, pkt := parsePacket b }
      (s.errPktFence q p a.cause a.eng a.ctx a.seq).strandFences q sl st a n (i + 1)

/-- An aborted launch gives up what its queues had not fetched (05 R150). -/
def State.dropStrands (sl : Slot) (a : Abort) : List (Nat × Nat × Nat) → State → Bool × State
  | [], s => (true, s.modSlot sl.id (fun sl => { sl with cut := [] }))
  | (q, st, i) :: t, s =>
    let n := (sl.strands.getD st ⟨0, 0, 0, 0⟩).count - i
    match s.strandFences q sl st a n i with
    | (false, s) => (false, s)
    | (true, s) => State.dropStrands sl a t (s.modSlot sl.id (fun sl => { sl with left := sl.left - n }))

/-- Launches of an abort that were cut off from their queues, or that have no packet left. -/
def State.abortedSlots (s : State) (seq : Nat) : List (Slot × Abort) :=
  s.qm.slots.filterMap (fun sl => match sl.abort with
    | some a => if a.seq = seq && (!sl.cut.isEmpty || sl.left = 0) then some (sl, a) else none
    | none => none)

/-- The launches of an abort give up their strands, and complete where nothing of them is in flight. -/
def State.endSlots : List (Slot × Abort) → State → Bool × State
  | [], s => (true, s)
  | (sl, a) :: t, s =>
    match State.dropStrands sl a sl.cut s with
    | (false, s) => (false, s)
    | (true, s) => State.endSlots t (match s.slot? sl.id with
      | some sl => if sl.left = 0 then s.launchDone sl.id else s
      | none => s)

/-- Steps 5 and 6 of an abort (04 R111): fences are errored, the packets' statuses set, and completions written as queue order lets them. The first part of
the answer is false where a strand packet's read must wait. -/
def State.abortFinish (s : State) (seq : Nat) : Bool × State :=
  let ps := s.aborted seq
  let s := ps.foldl (fun s (_, p) => s.cleanUp p.id p.ctx) s
  let s := ps.foldl (fun s (q, p) => match p.abort with
    | some a => s.errPktFence q p a.cause a.eng a.ctx a.seq
    | none => s) s
  match State.endSlots (s.abortedSlots seq) s with
  | (false, s) => (false, s)
  | (true, s) =>
    (true, (s.mapPkts (fun _ p => match p.abort with
      | some a => if a.seq = seq then { p with abort := none, fin := some a.status } else p
      | none => p)).settleQueues)

/-- ABORT_STOPPED (04 R111 steps 5 and 6): every strand and packet of the abort that onion `seq` explains has stopped. -/
def execAbortStopped (seq : Nat) (s : State) : Out := s.rooted "ABORT_STOPPED" <|
  if (!(s.aborted seq).isEmpty || !(s.abortedSlots seq).isEmpty) && (s.aborted seq).all (fun x => !s.hasWork x.2.id) then
    match s.abortFinish seq with
    | (true, t) => .next t
    | (false, t) => s.waitOr t "ABORT_STOPPED"
  else never "ABORT_STOPPED"

/-- Is the engine of a queue in a domain that is ON (12 R322, 14 R369)? The schedulers of the clusters and GF belong to no domain that can be off
here. -/
def State.engineOn (s : State) (q : Nat) : Bool := if q < 32 || q = 52 then true else if q < 36 then s.on D.BN else s.on D.CE

/-- Does a packet's timer run (05 R133, R146): it has a timeout, executes (also while an abort drains it), or is the oldest unstarted packet with its
BARRIER condition met and waits for more than engine room? It does not run while finished work waits for queue order (DESIGN CHOICE: the spec names that
wait in no list, notes/assumptions/66.md). -/
def State.timerRuns (s : State) (q : Nat) (p : QPkt) : Bool :=
  q ≠ 52 && p.pkt.timeout ≠ 0 && !p.timedOut && p.fin.isNone && (s.queue q).st ≠ .guilty &&
    (p.started || (!s.quiesceHold p.ctx && p.abort.isNone && (match (s.queue q).oldest with
      | some (o, first) => o.id == p.id && (!p.pkt.barrier || first) &&
          ((p.pkt.wait && !p.ready) || (p.pkt.op == 5 && !s.semReady p) || s.foreign q p.ctx || !s.engineOn q)
      | none => false)))

/-- PACKET_TIMEOUT (05 R146 to R148): a packet's timer expires and its drain begins. -/
def execPacketTimeout (id : Nat) (s : State) : Out := s.rooted "PACKET_TIMEOUT" <|
  match s.findPkt id with
  | some (q, p) => when' "PACKET_TIMEOUT" (s.timerRuns q p) (s.modPkt id (fun p => { p with timedOut := true }))
  | none => never "PACKET_TIMEOUT"

/-- Does the kill of a packet end any work (05 R147 step 3, R148): a pod, a tile, a query, a copy line? -/
def State.killEnds (s : State) (id : Nat) : Bool :=
  s.cores.any (fun co => co.pods.any (·.pkt == some id)) || s.rtus.any (fun u => u.queries.any (·.pkt == some id)) ||
    (match s.pass with | some a => a.pkt == id && !a.tiles.isEmpty | none => false) || s.copies.any (fun j => j.pkt == id && !j.busy.isEmpty)

/-- The end of the drain window after a timeout (05 R148): the kill, the guilty queue, the counts, and the abort. A packet that another fault had aborted
before keeps the status of that (DEDUCED, notes/assumptions/66.md). -/
def State.timeoutKill (s : State) (q : Nat) (p : QPkt) : State :=
  let ended := s.killEnds p.id
  let s := (s.kill p.id).modQueue q (fun u => { u with st := .guilty })
  let s := s.inc (rk R.QM_Q_TIMEOUT_COUNT q)
  let s := if ended then s.inc (rk R.QM_Q_KILL_COUNT q) else s
  let s := s.modPkt p.id (fun p => { p with timedOut := false })
  let (gen, s) := s.ctxGen p.ctx
  s.abortFrom p.ctx (s.pktOnion q p gen ⟨qEng q, C.TIMEOUT_KILLED, 0, none⟩)
    (if p.open then some (p.job, 0x20, fun p' => if p'.id = p.id || p'.started then 0x20 else 0x81) else none)

/-- DRAIN_WINDOW_END (05 R147, R148): the drain window of a packet that timed out, by its number, or of the abort that onion n explains, ends. -/
def execDrainWindowEnd (timeout : Bool) (n : Nat) (s : State) : Out := s.rooted "DRAIN_WINDOW_END" <|
  if timeout then
    match s.findPkt n with
    | some (q, p) => when' "DRAIN_WINDOW_END" p.timedOut (s.timeoutKill q p)
    | none => never "DRAIN_WINDOW_END"
  else
    when' "DRAIN_WINDOW_END" (!(s.aborted n).isEmpty) ((s.aborted n).foldl (fun s x => s.kill x.2.id) s)

end Sys2Proof.Machine
end

