-- ==== Sys2Proof/Machine/QueueRows.lean ====
section
/-! DEFINITION. Events of queues and launches (05): fetching, packets without engine work, fences, completion, launches; and the registers of queues. -/

namespace Sys2Proof.Machine

/-- PACKET_FETCH (05 R122, R123, 04 R97): a queue fetches its next packet. -/
def execPacketFetch (q : Nat) (s : State) : Out := s.rooted "PACKET_FETCH" <| orNever "PACKET_FETCH" (s.fetchNext q)

/-- Start a packet whose work is done at its start. -/
def State.startNow (s : State) (q op : Nat) (f : State → QPkt → State) : Option State :=
  if !s.engineOn q then none
  else match s.start q op with
    | none => none
    | some (p, s) => some ((f s p).finish p.id)

/-- NOP packet (05 R124, Table SUB-4). -/
def execNopPacket (q : Nat) (s : State) : Out := s.rooted "NOP_PACKET" <| orNever "NOP" (s.startNow q 0 (fun s _ => s))

/-- SEM_SIGNAL (05 R142): adds to a semaphore of its launch. -/
def execSemSignal (q : Nat) (s : State) : Out := s.rooted "SEM_SIGNAL" <|
  orNever "SEM_SIGNAL" (s.startNow q 4 (fun s p => match p.src with
    | .strand l _ _ => s.modSlot l (fun sl => { sl with sems := sl.sems.modify (p.pkt.a0 % 32) (fun v => addMod 32 v (p.pkt.a1 % 2 ^ 32)) })
    | .ring _ => s))

/-- SEM_WAIT (05 R124, R142): starts once its semaphore has reached the target. -/
def execSemWait (q : Nat) (s : State) : Out := s.rooted "SEM_WAIT" <| orNever "SEM_WAIT" (s.startNow q 5 (fun s _ => s))

/-- FENCE_POLL (05 R124, 04 R107, R112): the fence that the oldest unstarted packet of a queue waits for is read, once more also after it was ready. A read
that must wait leaves it not ready. -/
def execFencePoll (q : Nat) (s : State) : Out := s.rooted "FENCE_POLL" <|
  match (s.queue q).oldest with
  | none => never "FENCE_POLL"
  | some (p, _) =>
    if !p.pkt.wait || p.abort.isSome || p.fin.isSome || p.timedOut || (s.queue q).st = .guilty then never "FENCE_POLL"
    else match s.fenceRead (fenceWho q p) p.pkt.waitVA with
      | (.error v, t) =>
        if v.e.cause = C.HOST_WAIT then .next (((s.waits t).getD s).modPkt p.id (fun p => { p with ready := false }))
        else .next (t.pktFault p.id (v.at (accEng q)) 0x80)
      | (.ok v, t) =>
        if fenceErrBit ≤ v then .next (t.pktFault p.id ⟨qEng q, C.FENCE_ERRORED, 0, none⟩ C.FENCE_ERRORED)
        else .next (t.modPkt p.id (fun k => { k with ready := decide (p.pkt.waitTgt ≤ v) }))

/-- PACKET_COMPLETE (05 R126, R127): the head packet of a queue completes. -/
def execPacketComplete (q : Nat) (s : State) : Out := s.rooted "PACKET_COMPLETE" <| orNever "PACKET_COMPLETE" (s.completeHead q)

/-- LAUNCH_SLOT (05 R139, R507): the oldest launch takes a slot and is read. -/
def execLaunchSlot (s : State) : Out := s.rooted "LAUNCH_SLOT" <| orNever "LAUNCH_SLOT" s.launchSlot

/-- STRAND_POST (05 R139 step 4, R140). -/
def execStrandPost (s : State) : Out := s.rooted "STRAND_POST" <| orNever "STRAND_POST" s.strandPost

/-- Does a queue descriptor break Table OBJ-4, R101 or R131? -/
def qdescBad (q : Nat) (b : List Byte) : Bool :=
  let r := fieldAt b 0 8
  let n := fieldAt b 8 1
  let c := fieldAt b 0x10 8
  n < 4 || 16 < n || fieldAt b 9 1 ≠ q || bits c 47 3 * 8 % 16 ≠ 0 || bits r 47 12 * 4096 % (max 4096 (64 * 2 ^ n)) ≠ 0

/-- A write of 1 to QM_Q_CTRL.ENABLE (05 R131, R132). -/
def State.queueEnable (s : State) (q : Nat) : State :=
  let u := s.queue q
  if u.st ≠ .disabled then s.modQueue q (fun u => { u with closing := false })
  else
    let refuse := fun (s : State) => s.setBits (rk R.QM_Q_STATUS q) 0x10
    match s.readLoc (s.pair R.QM_QDESC_TABLE_LO + 64 * q) 64 with
    | (.error _, s) => refuse s
    | (.ok b, s) =>
      if qdescBad q b then refuse s
      else
        let base := s.pair (rk R.QM_Q_BASE_SEQ_LO q)
        let s := s.modQueue q (fun u => { u with
          st := .enabled, closing := false, submit := base, fetch := base, done := base, ring := bits (fieldAt b 0 8) 47 12 * 4096
          ringSys := (fieldAt b 0 8).testBit 63, log2 := fieldAt b 8 1, compl := bits (fieldAt b 0x10 8) 47 3 * 8, lastErr := 0 })
        s.completionArea q []

/-- A write of 0 to QM_Q_CTRL.ENABLE (05 R132). -/
def State.queueDisable (s : State) (q : Nat) : State :=
  if (s.queue q).st = .disabled then s else (s.modQueue q (fun u => { u with closing := true })).closeQueue q

/-- A write of 1 to QM_Q_CTRL.RESET (05 R133). -/
def State.queueReset (s : State) (q : Nat) : State :=
  if (s.queue q).st = .guilty then (s.modQueue q (fun u => { u with st := .enabled })).closeQueue q else s.inc R.QM_OBJ_REJECT_COUNT

/-- A write of QM_Q_CTRL: RESET first, so that one write can reset and keep a queue enabled. -/
def State.wrQCtrl (s : State) (q : Nat) (val : BitVec 32) : State :=
  let s := if bitOf val 1 then s.queueReset q else s
  if bitOf val 0 then s.queueEnable q else s.queueDisable q

/-- A write of QDB_TAIL (05 R128). -/
def State.queueDoorbell (s : State) (q tail : Nat) : State :=
  let u := s.queue q
  let d := subMod 32 tail (u.submit % 2 ^ 32)
  if u.st = .disabled then (s.setBits (rk R.QM_Q_STATUS q) 0x80).inc (rk R.QM_Q_REFUSE_COUNT q)
  else if d = 0 then s
  else if 2 ^ u.log2 < subMod 64 (u.submit + d) u.done then
    ((s.setBits (rk R.QM_Q_STATUS q) 0x20).setBits (R.QDB_STATUS + 0x1000 * q) 1).inc (rk R.QM_Q_REFUSE_COUNT q)
  else s.modQueue q (fun u => { u with submit := addMod 64 u.submit d, feed := u.feed ++ [.ring d] })

/-- A write of QM_Q_BASE_SEQ (05 R131). -/
def State.wrQBase (s : State) (q v : Nat) : State := if (s.queue q).st = .disabled then s.setPair (rk R.QM_Q_BASE_SEQ_LO q) v else s.viol

/-- Bits of a word of QM_CTX_LOST that a write clears: those whose context is not busy (04 R99). -/
def State.clearLost (s : State) (i : Nat) (val : BitVec 32) : State :=
  (Machine.setBits 32 val.toNat).foldl (fun s k =>
    let c := 32 * i + k
    if s.ctxBusy c then (if s.lost c then s.inc R.QM_OBJ_REJECT_COUNT else s) else s.clrBits (R.QM_CTX_LOST + 4 * i) (2 ^ k)) s

end Sys2Proof.Machine
end

