-- ==== Sys2Proof/Machine/Part.lean ====
section
/-! DEFINITION. Partitions, admission, the cyclic schedule, self-tests and repair (06). -/

namespace Sys2Proof.Machine

/-- State of a partition (06 Table PRT-3). -/
def State.pState (s : State) (p : Nat) : PState := s.pt.parts.getD p .disabled

/-- Change the state of a partition. -/
def State.setPState (s : State) (p : Nat) (st : PState) : State := { s with pt := { s.pt with parts := s.pt.parts.set p st } }

/-- Is a partition enabled? -/
def State.pEnabled (s : State) (p : Nat) : Bool := s.pState p ≠ .disabled

/-- The contexts resident in a partition. -/
def State.residents (s : State) (p : Nat) : List (Nat × Adm) := s.qm.adm.filter (·.2.part == p)

/-- A refused configuration write: PT_P_STATUS.CFG_ERR (06 Table PRT-9). -/
def State.cfgErr (s : State) (p : Nat) : State := s.setBits (rk R.PT_P_STATUS p) 4

/-- The resource registers of a partition (06 Table PRT-2). -/
def State.pClusters (s : State) (p : Nat) : Nat := s.field (rk R.PT_P_CLUSTERS p) 7 0
def State.pCe (s : State) (p : Nat) : Nat := s.field (rk R.PT_P_CE p) 3 0
def State.pBw (s : State) (p : Nat) : Nat := s.field (rk R.PT_P_BW p) 6 0

/-- The other enabled partitions. -/
def State.otherParts (s : State) (p : Nat) : List Nat := (List.range 8).filter (fun o => o ≠ p && s.pEnabled o)

/-- Do shares of enabled partitions, with this one at `bw`, sum to at most 64? -/
def State.bwFits (s : State) (p bw : Nat) : Bool := bw + ((s.otherParts p).map s.pBw).sum ≤ 64

/-- The checks of 06 R156 for a partition with these clusters and copy engines. -/
def State.partFits (s : State) (p cl ce : Nat) : Bool :=
  cl ≠ 0 && (s.otherParts p).all (fun o => s.pClusters o &&& cl == 0 && s.pCe o &&& ce == 0) &&
    (Machine.setBits 8 cl).all (fun n => s.on (D.CL + n)) && s.bwFits p (s.pBw p)

/-- Packets on cluster schedulers that a change of ownership has made foreign are counted (06 R152). -/
def State.recountForeign (s : State) : State := s.allPkts.foldl (fun s x => if x.2.started then s else s.countForeign x.2.id) s

/-- The QUIESCE and FEC bits of a write of PT_P_CTRL (06 R157, R158). -/
def State.wrQuiesce (s : State) (p : Nat) (val : BitVec 32) : State :=
  let k := rk R.PT_P_CTRL p
  let st := s.pState p
  let locked := st = .active || st = .quiescing
  let s := if locked && bitOf val 2 ≠ s.bit k 2 then s.viol else s
  let s := if locked then s else s.setField k 2 2 (fld val 2 2)
  let s := s.setField k 1 1 (fld val 1 1)
  match st, bitOf val 1 with
  | .active, true => (s.setPState p .quiescing).quiesceSettle
  | .quiescing, false | .quiesced, false => s.setPState p .active
  | _, _ => s

/-- A write of PT_P_CTRL (06 R156 to R159). -/
def State.wrPtCtrl (s : State) (p : Nat) (val : BitVec 32) : State :=
  let k := rk R.PT_P_CTRL p
  if s.pEnabled p then
    if bitOf val 0 then s.wrQuiesce p val
    else if !(s.residents p).isEmpty then s.cfgErr p
    else
      let s := s.wrQuiesce p val
      (((s.setPState p .disabled).setField k 0 0 0).setField (rk R.PT_P_RING_CTRL p) 0 0 0).recountForeign
  else
    if !bitOf val 0 then s.setField k 2 1 (fld val 2 1)
    else if s.partFits p (s.pClusters p) (s.pCe p) then
      let s := ((s.setField k 2 1 (fld val 2 1)).setField k 0 0 1).setPState p .active
      (if bitOf val 1 then (s.setPState p .quiescing).quiesceSettle else s).recountForeign
    else (s.cfgErr p).viol

/-- The register file and tile store of a core lose their contents. -/
def State.coreLose (s : State) (c : Nat) : State :=
  let e := s.free
  ({ s with free := e + 1 }).modCore c (fun co => { co with vrf := co.vrf.lose 0 (2 ^ 18) e, ts := co.ts.lose 0 (2 ^ 19) e })

/-- The cores of a mask of clusters. -/
def coresOf (m : Nat) : List Nat := (Machine.setBits 8 m).flatMap (fun n => (List.range 4).map (4 * n + ·))

/-- A write of PT_P_CLUSTERS or PT_P_CE (06 R158, R161). -/
def State.wrPtResize (s : State) (p : Nat) (ce : Bool) (val : Nat) : State :=
  let k := rk (if ce then R.PT_P_CE else R.PT_P_CLUSTERS) p
  match s.pState p with
  | .disabled => s.setRegN k val
  | .active | .quiescing => s.viol
  | .quiesced =>
    let old := s.pClusters p
    if s.partFits p (if ce then old else val) (if ce then val else s.pCe p) then
      let s := s.setRegN k val
      if ce then s
      else ((coresOf (old ^^^ val)).foldl (fun s c => s.coreLose c) s).recountForeign
    else s.cfgErr p

/-- A write of PT_P_BW (06 R158); R156 sums the shares of enabled partitions. -/
def State.wrPtBw (s : State) (p v : Nat) : State :=
  if 64 < v || (s.pEnabled p && !s.bwFits p v) then s.cfgErr p else s.setRegN (rk R.PT_P_BW p) v

/-- A write of PT_P_FAV (06 R169, Table PRT-9). -/
def State.wrPtFav (s : State) (p v : Nat) : State :=
  if s.bit R.PT_SCHED_CTRL 0 || (31 < v && v ≠ 0xFF) then s.viol else s.setRegN (rk R.PT_P_FAV p) v

/-- A commit of PT_P_RING_BASE (06 R158, R160). -/
def State.wrRingBase (s : State) (p v : Nat) : State :=
  match s.pState p with
  | .active | .quiescing => s.viol
  | _ => s.setPair (rk R.PT_P_RING_BASE_LO p) v

/-- A write of PT_P_RING_CTRL (06 R160, Table PRT-9): LOG2 takes effect at the next enable. 04 R103 lets n go to 16, which the four bits of LOG2 cannot hold:
the model admits 4 to 15 (DESIGN CHOICE, notes/assumptions/73.md). -/
def State.wrRingCtrl (s : State) (p : Nat) (val : BitVec 32) : State :=
  let k := rk R.PT_P_RING_CTRL p
  let n := fld val 11 8
  if bitOf val 0 && !s.bit k 0 then
    let b := s.pair (rk R.PT_P_RING_BASE_LO p)
    if n < 4 || b % (8 * 2 ^ n) ≠ 0 || 2 ^ n ≤ s.ringOut p then s.viol
    else
      let s := { s with pt := { s.pt with rings := s.pt.rings.set p (b, n) } }
      ((s.setRegN k (1 + 2 ^ 8 * n)).setRegN (rk R.PT_P_RING_POS p) 0).setRegN (rk R.PT_P_RING_OCC p) 0
  else s.setRegN k (fld val 0 0 + 2 ^ 8 * n)

/-- Does a context descriptor break Table OBJ-2 (06 Table PRT-4 BAD_DESC)? -/
def ctxDescBad (b : List Byte) : Bool :=
  let w := fieldAt b 0 4
  let r := fieldAt b 0x10 2
  let t := fieldAt b 0x12 2
  let n := fieldAt b 0x14 1
  !w.testBit 0 || 8 < bits w 11 8 || r < 4 || 256 < r || r % 4 ≠ 0 || 512 < t || t % 4 ≠ 0 || n = 0 || 48 < n

/-- The lowest n free slots of 48. -/
def freeSlots (used : List Nat) : List Nat := (List.range 48).filter (fun k => !used.contains k)

/-- Place a reservation in a partition (06 R163): first fit in 4 KiB units; the lowest free slots. -/
def place (res : List (Nat × Adm)) (reg ts pods : Nat) : Option Adm :=
  let rt := res.map (fun a => (a.2.regLo / 4, a.2.regKib / 4))
  let tt := (res.map (fun a => (a.2.tsLo / 4, a.2.tsKib / 4))).filter (·.2 ≠ 0)
  let sl := (freeSlots (res.flatMap (·.2.slots))).take pods
  match firstFit 0 64 (reg / 4) rt, firstFit 0 122 (ts / 4) tt with
  | some r, some t => if 488 < ts || sl.length < pods then none else
      some { regLo := 4 * r, regKib := reg, tsLo := 4 * t, tsKib := ts, pods := pods, slots := sl }
  | _, _ => none

/-- The result of an admission of a context: RESULT and, when it is OK, what is held (06 R163, Table PRT-4; 07 R177). -/
def State.admitResult (s : State) (c : Nat) (b : List Byte) : Nat × Option Adm :=
  if ctxDescBad b then (1, none)
  else
    let w := fieldAt b 0 4
    let p := bits w 11 8
    let ix := bits w 20 16
    if (s.adm? c).isSome then (2, none)
    else if p = 8 then
      if !s.on D.GD then (3, none)
      else if !(s.residents 8).isEmpty || ix ≠ 0 then (4, none)
      else (0, some { part := 8, gen := fieldAt b 4 4 })
    else if !s.pEnabled p then (3, none)
    else if (s.residents p).any (·.2.resIdx == ix) then (4, none)
    else match place (s.residents p) (fieldAt b 0x10 2) (fieldAt b 0x12 2) (fieldAt b 0x14 1) with
      | none => (5, none)
      | some a => (0, some { a with part := p, resIdx := ix })

/-- A write of PT_ADMIT with OP 1 (06 R163, R165). A descriptor that cannot be read gives BAD_DESC. -/
def State.admitCtx (s : State) (req : Req) (c : Nat) : State :=
  let k := rk R.PT_ADMIT_RESULT req.num
  match s.readLoc (s.ctxDesc c) 64 with
  | (.error _, s) => s.setRegN k (2 ^ 8 + c)
  | (.ok b, s) =>
    let (r, a) := s.admitResult c b
    let s := s.setRegN k (r * 2 ^ 8 + c)
    let s := if r = 5 then s.inc (rk R.PT_P_ADMIT_REFUSE_COUNT (bits (fieldAt b 0 4) 11 8)) else s
    match a with
    | some a => { s with qm := { s.qm with adm := storePut (fun _ _ => false) c a s.qm.adm } }.recountForeign
    | none => s

/-- A write of PT_ADMIT with OP 2 (06 R164, R165). -/
def State.evict (s : State) (req : Req) (c : Nat) : State :=
  let k := rk R.PT_ADMIT_RESULT req.num
  if s.ctxBusy c then s.setRegN k (6 * 2 ^ 8 + c)
  else if (s.adm? c).isNone then s.setRegN k (2 * 2 ^ 8 + c)
  else { s with qm := { s.qm with adm := s.qm.adm.filter (·.1 ≠ c) } }.setRegN k c

/-- A write of PT_ADMIT (06 Table PRT-8). -/
def State.wrAdmit (s : State) (req : Req) (val : BitVec 32) : State :=
  match fld val 9 8 with
  | 1 => s.admitCtx req (fld val 7 0)
  | 2 => s.evict req (fld val 7 0)
  | _ => s.viol

/-- The schedule entry at an index of a bank (06 Table PRT-5). -/
def State.schedEntry (s : State) (bank i : Nat) : BitVec 32 × BitVec 32 × BitVec 32 :=
  storeGet (fun _ => (0, 0, 0)) s.pt.sched (bank * 256 + i)

/-- FAVp of an entry. -/
def favOf (e : BitVec 32 × BitVec 32 × BitVec 32) (p : Nat) : Nat :=
  if p < 4 then fld e.2.1 (8 * p + 7) (8 * p) else fld e.2.2 (8 * (p - 4) + 7) (8 * (p - 4))

/-- A write of PT_SCHED_WDATA2 (06 R167). -/
def State.schedCommit (s : State) (val : BitVec 32) : State :=
  let e := (s.reg R.PT_SCHED_WDATA0 &&& 0xFFFFF, s.reg R.PT_SCHED_WDATA1, val)
  let bank := s.field R.PT_SCHED_WIDX 8 8
  if fld e.1 15 0 = 0 || (List.range 8).any (fun p => 31 < favOf e p && favOf e p ≠ 0xFF) ||
      (s.bit R.PT_SCHED_CTRL 0 && bank = s.field R.PT_SCHED_CTRL 2 2) then s.viol
  else { s with pt := { s.pt with sched := storePut (fun _ _ => false) (bank * 256 + s.field R.PT_SCHED_WIDX 7 0) e s.pt.sched } }.setReg
    R.PT_SCHED_WDATA2 val

/-- LEN of a bank. -/
def State.schedLen (s : State) (bank : Nat) : Nat := if bank = 0 then s.field R.PT_SCHED_LEN 8 0 else s.field R.PT_SCHED_LEN 24 16

/-- Is a bank's LEN left alone by writes: that of the active bank while RUN is 1 (06 Table PRT-8)? -/
def State.lenFixed (s : State) (bank : Nat) : Bool := s.bit R.PT_SCHED_CTRL 0 && bank == s.field R.PT_SCHED_CTRL 2 2

/-- Does a value for a bank's LEN have a write of PT_SCHED_LEN discarded and counted (06 R169, Table PRT-8)? -/
def State.lenBad (s : State) (bank v : Nat) : Bool :=
  s.schedLen bank ≠ v && !s.lenFixed bank && (256 < v || (s.bit R.PT_SCHED_CTRL 3 && bank ≠ s.field R.PT_SCHED_CTRL 2 2 && v = 0))

/-- A write of PT_SCHED_LEN (06 R169). -/
def State.wrSchedLen (s : State) (val : BitVec 32) : State :=
  if s.lenBad 0 (fld val 8 0) || s.lenBad 1 (fld val 24 16) then s.viol
  else
    let t := if s.lenFixed 0 then s else s.setField R.PT_SCHED_LEN 8 0 (fld val 8 0)
    if s.lenFixed 1 then t else t.setField R.PT_SCHED_LEN 24 16 (fld val 24 16)

/-- The bank changes. -/
def State.setBank (s : State) (b : Nat) : State := (s.setField R.PT_SCHED_CTRL 2 2 b).setField R.PT_SCHED_POS 8 8 b

/-- Has copy engine n a packet that it executes? -/
def State.ceBusy (s : State) (n : Nat) : Bool := s.executing (36 + 4 * n) ≠ 0

/-- A self-test of CEn is due (06 R171): it starts, or is skipped and counted when a packet is started. -/
def State.ceTest (s : State) (n : Nat) : State :=
  if !s.on D.CE || s.bit R.PT_ST_STATUS n then s
  else if s.ceBusy n then s.inc R.PT_ST_SKIP_COUNT
  else s.setBits R.PT_ST_STATUS (2 ^ n)

/-- Begin entry i of the active bank (06 R168, R171). -/
def State.entryBegin (s : State) (i : Nat) : State :=
  let e := s.schedEntry (s.field R.PT_SCHED_CTRL 2 2) i
  let s := s.setField R.PT_SCHED_POS 7 0 i
  let s := (List.range 8).foldl (fun s p => if favOf e p = 0xFF then s else s.setRegN (rk R.PT_P_FAV p) (favOf e p)) s
  (Machine.setBits 4 (fld e.1 19 16)).foldl (fun s n => s.ceTest n) s

/-- The bank that is not active. -/
def State.otherBank (s : State) : Nat := 1 - s.field R.PT_SCHED_CTRL 2 2

/-- SWITCH written 1 (06 R169). -/
def State.schedSwitch (s : State) : State :=
  let b := s.otherBank
  if s.bit R.PT_SCHED_CTRL 0 then s.setBits R.PT_SCHED_CTRL 8
  else s.setBank b

/-- RUN written (06 R168, R169). -/
def State.schedRun (s : State) (run : Bool) : State :=
  if !run then s.clrBits R.PT_SCHED_CTRL 9
  else if s.bit R.PT_SCHED_CTRL 0 then s
  else if s.schedLen (s.field R.PT_SCHED_CTRL 2 2) = 0 then s.viol
  else (s.setBits R.PT_SCHED_CTRL 1).entryBegin 0

/-- A write of PT_SCHED_CTRL: SWITCH is judged by the RUN that stands before the write (notes/assumptions/30.md). A write of SWITCH = 1 towards an empty bank
is discarded whole, and counted (06 R169). -/
def State.wrSchedCtrl (s : State) (val : BitVec 32) : State :=
  if bitOf val 1 && s.schedLen s.otherBank == 0 then s.viol
  else (if bitOf val 1 then s.schedSwitch else s).schedRun (bitOf val 0)

/-- Does a context of a partition at a resident index have a started packet that has not completed? -/
def State.slotOverrun (s : State) (p ix : Nat) : Bool :=
  match (s.residents p).find? (·.2.resIdx == ix) with
  | some (c, _) => s.allPkts.any (fun x => x.2.ctx == c && x.2.started)
  | none => false

/-- The current entry ends and the next one begins (06 R168 to R170). -/
def State.entryNext (s : State) : State :=
  let b := s.field R.PT_SCHED_CTRL 2 2
  let i := s.field R.PT_SCHED_POS 7 0
  let e := s.schedEntry b i
  let s := (List.range 8).foldl (fun s p =>
    if favOf e p ≠ 0xFF && s.slotOverrun p (favOf e p) then s.inc (rk R.PT_P_SLOT_OVERRUN_COUNT p) else s) s
  if i + 1 < s.schedLen b then s.entryBegin (i + 1)
  else
    let s := s.inc R.PT_SCHED_FRAME_COUNT
    let s := if s.bit R.PT_SCHED_CTRL 3 then (s.clrBits R.PT_SCHED_CTRL 8).setBank (1 - b) else s
    s.entryBegin 0

/-- SCHED_ENTRY_START (06 R168). -/
def execSchedEntryStart (s : State) : Out := s.rooted "SCHED_ENTRY_START" <| when' "SCHED_ENTRY_START" (s.bit R.PT_SCHED_CTRL 0) s.entryNext

/-- A write of PT_SELFTEST_REQ (06 R171): no test is made while RUN is 1. -/
def State.wrSelftestReq (s : State) (m : Nat) : State :=
  if s.bit R.PT_SCHED_CTRL 0 then s else (Machine.setBits 4 m).foldl (fun s n => s.ceTest n) s

/-- Packets that copy engine n would have started during its test, at most two (06 R172, 05 R124). -/
def State.heldByTest : Nat → State → Nat → Nat
  | 0, _, _ => 0
  | k + 1, s, n =>
    if qRoom 36 ≤ s.executing (36 + 4 * n) then 0
    else match (s.candidates (36 + 4 * n)).head? with
      | none => 0
      | some q => match s.startable q with
        | none => 0
        | some p => 1 + State.heldByTest k (s.modPkt p.id (fun p => { p with started := true })) n

/-- CE_SELFTEST_END (06 R172, 14 R370): the test of CEn ends. -/
def execCeSelftestEnd (n : Nat) (pass : Bool) (s : State) : Out := s.rooted "CE_SELFTEST_END" <|
  if n < 4 && s.bit R.PT_ST_STATUS n then
    let h := State.heldByTest 2 s n
    let s := s.clrBits R.PT_ST_STATUS (2 ^ n)
    let s := if h = 0 then s else (s.setBits R.PT_ST_STATUS (2 ^ (4 + n))).bump (R.PT_ST_DELAY_COUNT + 4 * n) h
    .next (if pass then s else s.setBits R.PT_ST_STATUS (2 ^ (8 + n)))
  else never "CE_SELFTEST_END"

/-- May a core be self-tested or unfenced: fenced, or in a cluster of a QUIESCED or of no enabled partition (06 R173)? -/
def State.repairable (s : State) (c : Nat) : Bool :=
  s.fenced c || (match s.clusterOwner (c / 4) with | none => true | some p => s.pState p == .quiesced)

/-- Does a packet have work on a core (06 R174)? -/
def State.workOn (s : State) (id c : Nat) : Bool :=
  (s.core c).runs id || (s.core c).wgs.any (·.pkt == id) ||
    (match s.pass with | some a => a.pkt == id && a.tiles.any (·.core == c) | none => false)

/-- Work ends without a drain window on the listed cores, with the ray queries of their pods, and each job of a chosen packet faults with DOMAIN_OFF,
DETAIL as given (06 R174; 13 R341; 16 R401). `eng`: the engine that the onion names. -/
def State.workEnds (s : State) (hit : List (Nat × QPkt)) (cs : List Nat) (eng detail : Nat) : State :=
  let s := cs.foldl (fun s c => hit.foldl (fun s x => s.modCore c (fun co => co.kill x.2.id)) s) s
  let s := { s with
    pass := s.pass.map (fun a => { a with tiles := a.tiles.filter (fun t => !cs.contains t.core) })
    rtus := s.rtus.map (fun (u : Rtu) => { u with queries := u.queries.filter (fun q => !cs.contains q.core) }) }
  let jobs := (hit.map (·.2.job)).eraseDups
  jobs.foldl (fun s j => match hit.find? (fun x => x.2.job == j) with
    | some x => s.pktFault x.2.id ⟨eng, C.DOMAIN_OFF, detail, none⟩ 0x80
    | none => s) s

/-- Work of the listed cores ends (06 R174). -/
def State.coresDie (s : State) (cs : List Nat) (eng detail : Nat) : State :=
  s.workEnds (s.allPkts.filter (fun x => cs.any (s.workOn x.2.id))) cs eng detail

/-- Fence a core (06 R174). -/
def State.fenceCore (s : State) (c : Nat) : State :=
  if s.fenced c then s else (s.setBits R.PT_FENCED (2 ^ c)).coresDie [c] c c

/-- A write of PT_REPAIR (06 R173, R174). -/
def State.wrRepair (s : State) (val : BitVec 32) : State :=
  let c := fld val 4 0
  match fld val 9 8 with
  | 1 => if s.bit R.PT_REPAIR_STATUS 7 || !s.repairable c then s.viol else s.setRegN R.PT_REPAIR_STATUS (2 ^ 7 + c)
  | 2 => s.fenceCore c
  | 3 =>
    if !s.repairable c then s.viol
    else if s.fenced c then (s.clrBits R.PT_FENCED (2 ^ c)).coreLose c else s
  | _ => s

/-- CORE_SELFTEST_END (06 R173): the core self-test ends; a core that fails is fenced. -/
def execCoreSelftestEnd (pass : Bool) (s : State) : Out := s.rooted "CORE_SELFTEST_END" <|
  if s.bit R.PT_REPAIR_STATUS 7 then
    let c := s.field R.PT_REPAIR_STATUS 4 0
    let s := s.setRegN R.PT_REPAIR_STATUS (b2n pass * 2 ^ 6 + c)
    .next (if pass then s else s.fenceCore c)
  else never "CORE_SELFTEST_END"

/-- Bytes that 64ths of the variant's DRAM bandwidth move in a window of 10 us: 136.5 GB/s per stack (06 R155, Table PRT-2; 01 Table PKG-4). -/
def State.bwShare (s : State) (share : Nat) : Nat := s.fuses.stacks * 1365000 * share / 64

/-- Has a partition moved more DRAM bytes in the current window than its share (06 R155)? -/
def State.bwOver (s : State) (p : Nat) : Bool := s.pEnabled p && s.bwShare (s.pBw p) < s.ms.bw.getD p 0

/-- BW_WINDOW_END (06 R155): the DRAM window ends; `mask` has a bit for each partition beside whose traffic a request of another one waited at the arbiter. -/
def execBwWindowEnd (mask : BitVec 8) (s : State) : Out := s.rooted "BW_WINDOW_END" <|
  let t := ((Machine.setBits 8 mask.toNat).filter s.bwOver).foldl (fun s p => s.inc (rk R.PT_P_SHARE_OVERRUN_COUNT p)) s
  .next { t with ms := { t.ms with bw := List.replicate 8 0 } }

/-- Length of the longest run of free units. -/
def longestFree (units : Nat) (taken : List (Nat × Nat)) : Nat :=
  ((List.range units).foldl (fun (r : Nat × Nat) u =>
    if taken.any (fun t => t.1 ≤ u && u < t.1 + t.2) then (r.1, 0) else (max r.1 (r.2 + 1), r.2 + 1)) (0, 0)).1

/-- PT_P_FREE (06 Table PRT-9). -/
def State.ptFree (s : State) (p : Nat) : Nat :=
  let res := s.residents p
  (freeSlots (res.flatMap (·.2.slots))).length * 2 ^ 18 +
    4 * longestFree 122 (res.map (fun a => (a.2.tsLo / 4, a.2.tsKib / 4))) * 2 ^ 9 +
    4 * longestFree 64 (res.map (fun a => (a.2.regLo / 4, a.2.regKib / 4)))

/-- PT_P_STATUS (06 Table PRT-9). -/
def State.ptStatus (s : State) (p : Nat) : Nat :=
  (match s.pState p with | .disabled => 0 | .active => 1 | .quiescing => 2 | .quiesced => 3) +
    4 * s.field (rk R.PT_P_STATUS p) 2 2 + 2 ^ 8 * (s.residents p).length

/-- PT_P_RESIDENT. -/
def State.ptResident (s : State) (p : Nat) : Nat := maskOf ((s.residents p).map (·.2.resIdx))

end Sys2Proof.Machine
end

