-- ==== Sys2Proof/Machine/Spdm.lean ====
section
/-! DEFINITION. SPDM 1.2 through the DOE mailbox (17 R434, R435; 02 R29). The spec names the messages, capabilities and algorithms; the layout of messages and data
objects is that of DMTF DSP0274 1.2 and of the PCIe DOE (PRESUMED, notes/assumptions/50.md). -/

namespace Sys2Proof.Machine

/-- Change the parts of the AO side. -/
def State.modPwr (s : State) (f : Pwr → Pwr) : State := { s with ao := { s.ao with pwr := f s.ao.pwr } }
def State.modRst (s : State) (f : Rst → Rst) : State := { s with ao := { s.ao with rst := f s.ao.rst } }
def State.modDie (s : State) (f : PsdDie → PsdDie) : State := { s with ao := { s.ao with die := f s.ao.die } }
def State.modPsd (s : State) (f : PsdHio → PsdHio) : State := { s with ao := { s.ao with psd := f s.ao.psd } }
def State.modMon (s : State) (f : Mon → Mon) : State := { s with ao := { s.ao with mon := f s.ao.mon } }
def State.modDoe (s : State) (f : Doe → Doe) : State := s.modRst (fun r => { r with doe := f r.doe })

/-- A measurement slot. -/
def State.slot (s : State) (k : Nat) : MeasSlot := s.ao.rst.slots.getD k {}

/-- STAGE of a control core (17 Table BOT-10). -/
def State.fecStage (s : State) (n : Nat) : Nat := s.field (R.RST_FEC_STATUS + 4 * n) 2 0

/-- DMTF value type of slots 0 to 6 (17 Table BOT-7): 0 immutable ROM, 1 mutable firmware, 2 hardware and 3 firmware configuration. -/
def slotType (k : Nat) : Nat := [0, 3, 1, 1, 2, 2, 3].getD k 0

/-- The measurement block of slot k, index k + 1. -/
def State.measBlock (s : State) (k : Nat) : List Byte :=
  leBytes 1 (k + 1) ++ [1] ++ leBytes 2 51 ++ leBytes 1 (slotType k) ++ leBytes 2 48 ++ (s.slot k).digest

/-- Every measurement block. -/
def State.measAll (s : State) : List Byte := (List.range 7).flatMap s.measBlock

/-- A signature of the identity key, 96 bytes (17 R435). -/
def signed (m : List Byte) : List Byte := (Config.spdmSign m ++ List.replicate 96 0).take 96

/-- An error response. -/
def spdmError (code : Nat) : List Byte := [0x12, 0x7F] ++ leBytes 1 code ++ [0]

/-- Free bytes. -/
def State.drawBytes (s : State) (n : Nat) : List Byte × State :=
  let (v, s) := s.draw
  (leBytes n v, s)

/-- The answer to an SPDM request and the transcripts that it leaves. -/
def State.spdmAnswer (s : State) (m : List Byte) : List Byte × State :=
  let p1 := fieldAt m 2 1
  let p2 := fieldAt m 3 1
  let d := s.ao.rst.doe
  let code := fieldAt m 1 1
  if code = 0x84 then
    let r : List Byte := [0x10, 0x04, 0, 0, 0, 1, 0x00, 0x12]
    (r, s.modDoe (fun d => { d with vca := m ++ r, certs := [], meas := [] }))
  else if fieldAt m 0 1 ≠ 0x12 then (spdmError 0x41, s)
  else match code with
  | 0xE1 =>
    let (x, s) := s.drawBytes 9
    let r : List Byte := [0x12, 0x61, 0, 0, 0] ++ x.take 1 ++ [0, 0] ++ leBytes 4 0x16 ++ x.drop 1
    (r, s.modDoe (fun d => { d with vca := d.vca ++ m ++ r }))
  | 0xE3 =>
    let r : List Byte := [0x12, 0x63, 0, 0] ++ leBytes 2 36 ++ [1, 0] ++ leBytes 4 4 ++ leBytes 4 0x80 ++ leBytes 4 2 ++ List.replicate 16 0
    (r, s.modDoe (fun d => { d with vca := d.vca ++ m ++ r }))
  | 0x81 =>
    let r : List Byte := [0x12, 0x01, 0, 1] ++ sha384 Config.certChain
    (r, s.modDoe (fun d => { d with certs := d.certs ++ m ++ r }))
  | 0x82 =>
    let o := fieldAt m 4 2
    if p1 ≠ 0 || Config.certChain.length ≤ o then (spdmError 1, s)
    else
      let part := (Config.certChain.drop o).take (fieldAt m 6 2)
      let r : List Byte := [0x12, 0x02, 0, 0] ++ leBytes 2 part.length ++ leBytes 2 (Config.certChain.length - o - part.length) ++ part
      (r, s.modDoe (fun d => { d with certs := d.certs ++ m ++ r }))
  | 0x83 =>
    if p1 ≠ 0 || m.length < 36 then (spdmError 1, s)
    else
      let (nonce, s) := s.drawBytes 32
      let r : List Byte := [0x12, 0x03, 0, 1] ++ sha384 Config.certChain ++ nonce ++ (if p2 = 0 then [] else sha384 s.measAll) ++ [0, 0]
      (r ++ signed (d.vca ++ d.certs ++ m ++ r), s.modDoe (fun d => { d with certs := [] }))
  | 0xE0 =>
    let sig := p1 % 2 = 1
    if 7 < p2 && p2 ≠ 0xFF || (sig && (m.length < 37 || fieldAt m 36 1 ≠ 0)) then (spdmError 1, s)
    else
      let (nonce, s) := s.drawBytes 32
      let rec_ := if p2 = 0 then [] else if p2 = 0xFF then s.measAll else s.measBlock (p2 - 1)
      let n := if p2 = 0 then 0 else if p2 = 0xFF then 7 else 1
      let r : List Byte := [0x12, 0x60] ++ leBytes 1 (if p2 = 0 then 7 else 0) ++ [0] ++ leBytes 1 n ++ leBytes 3 rec_.length ++ rec_ ++ nonce ++ [0, 0]
      if sig then (r ++ signed (d.vca ++ d.meas ++ m ++ r), s.modDoe (fun d => { d with meas := [] }))
      else (r, s.modDoe (fun d => { d with meas := d.meas ++ m ++ r }))
  | _ => (spdmError 7, s)

/-- A DOE data object: header of two words and a payload padded to words. -/
def doeObject (typ : Nat) (p : List Byte) : List Byte :=
  let p := p ++ List.replicate ((4 - p.length % 4) % 4) 0
  leBytes 2 1 ++ leBytes 1 typ ++ [0] ++ leBytes 4 (2 + p.length / 4) ++ p

/-- The answer of DOE Discovery for an index: types 0 (Discovery) and 1 (CMA/SPDM). -/
def doeTypes (ix : Nat) : List Byte :=
  match ix with
  | 0 => leBytes 2 1 ++ [0, 1]
  | 1 => leBytes 2 1 ++ [1, 0]
  | _ => leBytes 2 0xFFFF ++ [0, 0]

/-- Answer the request that is held, once FEC0 is in STAGE RUNNING or WAIT_IMAGE (17 R435). -/
def State.doeServe (s : State) : State :=
  if s.fecStage 0 = 3 || s.fecStage 0 = 5 then
    match s.ao.rst.doe.held with
    | none => s
    | some (typ, m) =>
      let s := s.modDoe (fun d => { d with held := none })
      let (r, s) := if typ = 0 then (doeTypes (fieldAt m 0 1), s) else s.spdmAnswer m
      s.modDoe (fun d => { d with out := d.out ++ [doeObject typ r] })
  else s

/-- A data object arrives in the mailbox. The host can write it while the link is up and no request is held (DOE Busy). -/
def State.doeRequest (s : State) (typ : Nat) (m : List Byte) : Option State :=
  if !s.dlUp || s.ao.rst.doe.held.isSome then none
  else some (s.modDoe (fun d => { d with held := some (typ, m) })).doeServe

/-- An SPDM request with a request code. -/
def State.spdmRequest (s : State) (code : Nat) (m : List Byte) : Option State :=
  if fieldAt m 1 1 = code && 4 ≤ m.length then s.doeRequest 1 m else none

/-- GET_VERSION (17 R434). -/
def execGetVersion (msg : List Byte) (s : State) : Out := s.rooted "GET_VERSION" <| orNever "GET_VERSION" (s.spdmRequest 0x84 msg)

/-- GET_CAPABILITIES (17 R434). -/
def execGetCapabilities (msg : List Byte) (s : State) : Out := s.rooted "GET_CAPABILITIES" <| orNever "GET_CAPABILITIES" (s.spdmRequest 0xE1 msg)

/-- NEGOTIATE_ALGORITHMS (17 R434). -/
def execNegotiateAlgorithms (msg : List Byte) (s : State) : Out := s.rooted "NEGOTIATE_ALGORITHMS" <| orNever "NEGOTIATE_ALGORITHMS" (s.spdmRequest 0xE3 msg)

/-- GET_DIGESTS (17 R434). -/
def execGetDigests (msg : List Byte) (s : State) : Out := s.rooted "GET_DIGESTS" <| orNever "GET_DIGESTS" (s.spdmRequest 0x81 msg)

/-- GET_CERTIFICATE (17 R434). -/
def execGetCertificate (msg : List Byte) (s : State) : Out := s.rooted "GET_CERTIFICATE" <| orNever "GET_CERTIFICATE" (s.spdmRequest 0x82 msg)

/-- CHALLENGE (17 R434). -/
def execChallenge (msg : List Byte) (s : State) : Out := s.rooted "CHALLENGE" <| orNever "CHALLENGE" (s.spdmRequest 0x83 msg)

/-- GET_MEASUREMENTS (17 R434, R435). -/
def execGetMeasurements (msg : List Byte) (s : State) : Out := s.rooted "GET_MEASUREMENTS" <| orNever "GET_MEASUREMENTS" (s.spdmRequest 0xE0 msg)

/-- DOE_DISCOVERY (02 R29): the index asked for. -/
def execDoeDiscovery (index : Nat) (s : State) : Out := s.rooted "DOE_DISCOVERY" <| orNever "DOE_DISCOVERY" (s.doeRequest 0 (leBytes 4 index))

end Sys2Proof.Machine
end

