-- ==== Sys2Proof/Machine/Boot.lean ====
section
/-! DEFINITION. The reset log, measurement slots and control cores (17 R430 to R440, Tables BOT-5 to BOT-9). -/

namespace Sys2Proof.Machine

/-- AO_CLK milliseconds since AO power-on (17 Table BOT-9). -/
def State.nowMs (s : State) : Nat := s.ticks / 25000

/-- Write a reset log entry (17 Table BOT-9): 64 are kept. -/
def State.rstLog (s : State) (kind detail info : Nat) : State :=
  (s.modRst (fun r => { r with log := (⟨s.nowMs % 2 ^ 32, kind, detail, info⟩ : RstLog) :: r.log.take 63 })).inc R.RST_LOG_COUNT

/-- The entry at an index of the log's circle (17 Table BOT-9). -/
def State.logAt (s : State) (i : Nat) : Option RstLog :=
  s.ao.rst.log[((s.reg R.RST_LOG_COUNT).toNat + 127 - i) % 64]?

/-- The 16 bytes of an entry. -/
def RstLog.bytes (l : RstLog) : List Byte := leBytes 4 l.time ++ leBytes 1 l.kind ++ leBytes 1 l.detail ++ [0, 0] ++ leBytes 8 l.info

/-- Set a slot as a boot does: COUNT starts at 0. -/
def State.slotInit (s : State) (k : Nat) (valid : Bool) (digest : List Byte) : State :=
  s.modRst (fun r => { r with slots := r.slots.set k ⟨valid, 0, digest⟩ })

/-- Set a slot; a change counts (17 R433). -/
def State.slotSet (s : State) (k : Nat) (digest : List Byte) : State :=
  let o := s.slot k
  if o.valid && o.digest = digest then s
  else s.modRst (fun r => { r with slots := r.slots.set k ⟨true, (o.count + 1) % 256, digest⟩ })

/-- Extend a chain slot with a 48-byte value (17 R433). -/
def State.slotExtend (s : State) (k : Nat) (x : List Byte) : State := s.slotSet k (sha384 ((s.slot k).digest ++ x))

/-- The unlock constant (20 R486). -/
def unlockConst : List Byte := "STOLELM UNLOCK".toList.map (fun c => BitVec.ofNat 8 c.toNat) ++ List.replicate 34 0

/-- A control core. -/
def State.fec (s : State) (n : Nat) : Fec := s.ao.rst.fecs.getD n {}
def State.modFec (s : State) (n : Nat) (f : Fec → Fec) : State := s.modRst (fun r => { r with fecs := r.fecs.modify n f })

/-- Set STAGE; the DOE responder serves what it holds when FEC0 can (17 R435). -/
def State.setStage (s : State) (n st : Nat) : State := (s.setField (R.RST_FEC_STATUS + 4 * n) 2 0 st).doeServe

/-- The boot flash's manifest: its 64 bytes when the flash responds and MAGIC and VERSION are right (17 R431, R432). -/
def State.manifest (s : State) : Option (List Byte) :=
  let m := s.ao.rst.flash.read 0 64
  if s.bit R.RST_FLASH_CTRL 0 || fieldAt m 0 4 ≠ 0x5A424631 || fieldAt m 4 2 ≠ 1 then none else some m

/-- OFFSET, LENGTH, ENTRY and CRC of a usable manifest entry (17 Table BOT-5, R431). -/
def State.flashEntry (s : State) (n : Nat) : Option (Nat × Nat × Nat × Nat) :=
  match s.manifest with
  | none => none
  | some m =>
    let b := 8 + 24 * n
    let len := fieldAt m (b + 4) 4
    let ent := fieldAt m (b + 8) 4
    if fieldAt m b 4 % 4096 ≠ 0 || len % 8 ≠ 0 || len < 8 || 262144 < len || ent % 8 ≠ 0 || len ≤ ent then none
    else some (fieldAt m b 4, len, ent, fieldAt m (b + 12) 4)

/-- The restart of a core is over: it is counted and posted (17 R437). -/
def State.restartDone (s : State) (n : Nat) : State := (s.inc (R.RST_FEC_RESTART_COUNT + 4 * n)).event 4 []

/-- Start a core at its entry (17 R430, R440). -/
def State.fecStart (s : State) (n entry : Nat) : State :=
  let s := s.modFec n (fun f => { f with entry := entry, exc := false, wd := 0, why := 0, waitFlash := false, boot := false, imaged := false })
  (s.setRegN (R.RST_FEC_WDT + 4 * n) 1000).setStage n 3

/-- Put an image into a core's instruction RAM and measure it into its slot; a new image after boot extends slot 6 (17 R430, R433). -/
def State.fecImage (s : State) (n : Nat) (img : List Byte) (boot : Bool) : State :=
  let d := sha384 img
  let s := s.modFec n (fun f => { f with iram := f.iram.write 0 img })
  if boot then s.slotInit (2 + n) true d
  else
    let s := if (s.slot (2 + n)).digest = d then s else s.slotExtend 6 d
    s.slotSet (2 + n) d

/-- A core that waits for an image has no valid slot (17 R431, R437, "When the boot flash is blank or being programmed"). -/
def State.waitImage (s : State) (n : Nat) : State :=
  let o := s.slot (2 + n)
  let s := if o.valid then s.modRst (fun r => { r with slots := r.slots.set (2 + n) ⟨false, (o.count + 1) % 256, o.digest⟩ }) else s
  s.setStage n 5

/-- Begin to load from flash: LOADING, or WAIT_IMAGE without a usable entry (17 R431, R432, R437). Answers whether it can be loaded. -/
def State.flashBegin (s : State) (n why : Nat) : Bool × State :=
  let s := s.modFec n (fun f => { f with why := why, waitFlash := s.bit R.RST_FLASH_CTRL 0 })
  let s := s.setField (R.RST_FEC_STATUS + 4 * n) 4 4 0
  match s.flashEntry n with
  | some _ => (true, s.setStage n 2)
  | none => (s.bit R.RST_FLASH_CTRL 0, s.waitImage n)

/-- The image of a core in device memory, when it can be read. -/
def State.devImage (s : State) (a len : Nat) : Option (List Byte) × State :=
  match s.readLoc a len with
  | (.ok b, s) => (some b, s)
  | (.error _, s) => (none, s)

/-- Load a core from device memory, or wait without an image. -/
def State.devLoad (s : State) (n a len entry : Nat) : State :=
  match s.devImage a len with
  | (some b, s) => ((s.setBits (R.RST_FEC_STATUS + 4 * n) 0x10).fecImage n b false).fecStart n entry
  | (none, s) => (s.setBits (R.RST_FEC_STATUS + 4 * n) 0x10).waitImage n

/-- A boot goes on (17 R430, Table BOT-6 steps 9 to 11): once FEC0's image has been read, FEC1's is; FEC0 starts when FEC1 has started or waits, and
that completes the boot. -/
def State.bootNext (s : State) : State :=
  let s := if s.fecStage 1 = 1 && (s.fecStage 0 ≠ 2 || (s.fec 0).imaged) then (s.flashBegin 1 0).2 else s
  if (s.fec 0).imaged && s.fecStage 1 ≠ 1 && s.fecStage 1 ≠ 2 then (s.fecStart 0 (s.fec 0).entry).inc R.RST_BOOT_DONE_COUNT else s

/-- Reload a core from its source (17 R437); `why` 0: FEC has returned to ON, and nothing is counted. -/
def State.fecReload (s : State) (n why : Nat) : State :=
  let s := s.modFec n (fun f => { f with dram := if why = 0 then f.dram else {}, boot := false, imaged := false })
  let settle := fun (s : State) => if why = 0 then s else (s.modFec n (fun f => { f with why := 0 })).restartDone n
  let s := match (s.fec n).dev with
    | some (a, len, entry) => settle (s.devLoad n a len entry)
    | none =>
      let (ok, s) := s.flashBegin n why
      if ok then s else settle s
  s.bootNext

/-- A reason of Table BOT-8 is recorded in RST_FEC_STATUSn and in the log (17 R437, Tables BOT-9, BOT-10; notes/assumptions/45.md). -/
def State.fecWhy (s : State) (n why : Nat) : State :=
  let f := s.fec n
  (s.setField (R.RST_FEC_STATUS + 4 * n) 11 8 why).rstLog 0x11 (n * 16 + why) (f.epc % 2 ^ 32 + f.sp % 2 ^ 32 * 2 ^ 32)

/-- Restart a core (17 R437), for a reason of Table BOT-8; a core without power reloads when FEC returns. -/
def State.fecRestart (s : State) (n why : Nat) : State :=
  let s := s.fecWhy n why
  if s.on D.FEC then s.fecReload n why else s.modFec n (fun f => { f with why := why })

/-- A core halts with a reason (17 R438, R439). -/
def State.fecHalt (s : State) (n why : Nat) : State := (s.setField (R.RST_FEC_STATUS + 4 * n) 11 8 why).setStage n 4

/-- The registers of GLB that fuses and training give (01 Tables PKG-9 to PKG-17). -/
def State.rdGlb (s : State) (off : Nat) : Option Nat :=
  let f := s.fuses
  if off = R.GLB_VARIANT then
    some (f.watts * 2 ^ 16 + 2 ^ 9 + b2n f.fio * 2 ^ 8 + (2 ^ f.stacks - 1) * 2 ^ 4 + f.variant % 16)
  else if off = R.GLB_SERIAL_LO then some (f.serial % 2 ^ 32)
  else if off = R.GLB_SERIAL_HI then some (f.serial / 2 ^ 32 % 2 ^ 32)
  else if off = R.GLB_MEM_SIZE_LO then some (f.memSize % 2 ^ 32)
  else if off = R.GLB_MEM_SIZE_HI then some (f.memSize / 2 ^ 32)
  else if off = R.GLB_STACK_STATUS then some (s.field off 15 4 * 16 + (2 ^ f.stacks - 1))
  else none

/-- The 48 bytes of GLB that slot 4 measures (17 Table BOT-7). -/
def State.glbBytes (s : State) : List Byte :=
  (List.range 12).flatMap (fun i => leBytes 4 ((s.rdGlb (4 * i)).getD (s.reg (4 * i)).toNat))

/-- What the boot ROM does first (17 R430, Table BOT-7): it measures itself and the fuses and starts the chains; an open monitor marks slot 5 (20 R484). -/
def State.romBegin (s : State) : State :=
  let zero : List Byte := List.replicate 48 0
  let s := (s.slotInit 0 true s.fuses.romDigest).slotInit 4 true (sha384 s.glbBytes)
  let s := ((s.slotInit 5 true zero).slotInit 6 true zero).slotInit 7 false zero
  let s := ((s.slotInit 1 false zero).slotInit 2 false zero).slotInit 3 false zero
  (if s.fuses.monOpen then s.slotExtend 5 unlockConst else s).setStage 0 1 |>.setStage 1 1

/-- Then it reads the flash (17 R430, R431): the manifest, whose slot is valid when both entries are usable, and the images, FEC0's first. A core
without a usable entry waits. -/
def State.romFlash (s : State) : State :=
  let s := match s.manifest with
    | some m => if (s.flashEntry 0).isSome && (s.flashEntry 1).isSome then s.slotInit 1 true (sha384 m) else s
    | none => s
  let s := s.modRst (fun r => { r with fecs := r.fecs.map (fun f => { f with why := 0, boot := true, imaged := false }) })
  let s := (s.flashBegin 0 0).2
  (if (s.flashEntry 1).isNone then s.waitImage 1 else s).bootNext

/-- BOOT_IMAGE_LOADED (17 R430, R437): the image of FEC n has been read and measured from flash and the core starts; in a boot FEC0 starts after FEC1
(Table BOT-6). -/
def execBootImageLoaded (n : Nat) (s : State) : Out := s.rooted "BOOT_IMAGE_LOADED" <|
  match s.flashEntry n with
  | none => never "BOOT_IMAGE_LOADED"
  | some (o, len, entry, crc) =>
    let f := s.fec n
    if 1 < n || s.fecStage n ≠ 2 || f.imaged || !s.on D.FEC || s.ao.rst.held ≠ 0 then never "BOOT_IMAGE_LOADED"
    else
      let img := s.ao.rst.flash.read o len
      let bad := crcOf (crcPoly 0) img ≠ crc
      let s := if bad then (s.setBits (R.RST_FEC_STATUS + 4 * n) 0x20).rstLog 0x12 n 0 else s
      let s := s.fecImage n img f.boot
      let s := if f.boot && n = 0 then s.modFec 0 (fun f => { f with entry := entry, imaged := true }) else s.fecStart n entry
      .next (if f.why = 0 then s else s.restartDone n).bootNext

/-- The result of an RST_ERESET or RST_PRESET write (17 Table BOT-10). -/
def State.rstResult (s : State) (req : Req) (target r : Nat) : State := s.setRegN (rk R.RST_RESULT req.num) (target + r * 2 ^ 8)

/-- Does an enabled partition name FEC n (17 R436)? -/
def State.fecInUse (s : State) (n : Nat) : Bool := (List.range 8).any (fun p => s.pEnabled p && s.field (rk R.PT_P_CTRL p) 2 2 == n)

/-- A write of RST_ERESET that names FEC n (17 R436, R437). -/
def State.wrFecReset (s : State) (req : Req) (n : Nat) (load : Bool) : State :=
  let a := fld (s.reg R.RST_FEC_LOAD_ADDR_LO) 31 12 * 4096 + s.field R.RST_FEC_LOAD_ADDR_HI 15 0 * 2 ^ 32
  let odd := s.field R.RST_FEC_LOAD_ADDR_LO 11 0
  let len := s.field R.RST_FEC_LOAD_LEN 18 0
  let entry := s.field R.RST_FEC_LOAD_ENTRY 17 0
  let t := 75 + n
  if load && (odd ≠ 0 || len % 8 ≠ 0 || len < 8 || 262144 < len || entry % 8 ≠ 0 || len ≤ entry) then s.rstResult req t 3
  else if s.fecInUse n then s.rstResult req t 2
  else if load && (s.rangeErr a len).isSome then s.rstResult req t 4
  else
    let s := s.rstResult req t 0
    if !load then s.fecRestart n 4 else (s.modFec n (fun f => { f with dev := some (a, len, entry) })).fecRestart n 5

/-- FEC_EXCEPTION (17 R438, R439): core n takes an exception at a PC with a status word and SP. -/
def execFecException (n pc status sp : Nat) (handler : FecHandler) (s : State) : Out := s.rooted "FEC_EXCEPTION" <|
  if 1 < n || s.fecStage n ≠ 3 then never "FEC_EXCEPTION"
  else
    let s := s.modFec n (fun f => { f with sp := sp })
    if (s.fec n).exc && !handler.back then .next (s.fecHalt n 2)
    else
      let s := s.modFec n (fun f => { f with epc := pc, estatus := status, exc := true })
      match handler.push with
      | none => .next s
      | some k =>
        if sp < 0x100000 + k || 0x110000 ≤ sp - k || (sp - k) % 8 ≠ 0 then .next (s.fecHalt n 1) else .next s

/-- FEC_WATCHDOG_EXPIRY (17 R440): the watchdog of a running core has counted its period (when that is, the environment says:
notes/assumptions/1.md). -/
def execFecWatchdogExpiry (n : Nat) (s : State) : Out := s.rooted "FEC_WATCHDOG_EXPIRY" <|
  let p := s.field (R.RST_FEC_WDT + 4 * n) 13 0
  when' "FEC_WATCHDOG_EXPIRY" (n ≤ 1 && s.fecStage n == 3 && p ≠ 0 && s.ao.rst.held == 0)
    (s.fecRestart n 3)

/-- A write of RST_FEC_KICK (17 R440): only the writing core's watchdog restarts. -/
def State.wrKick (s : State) (req : Req) (val : BitVec 32) : State :=
  if bitOf val 0 && (req.num = 1 || req.num = 2) then s.modFec (req.num - 1) (fun f => { f with wd := 0 }) else s

/-- A write of RST_FEC_WDTn (17 Table BOT-10). -/
def State.wrWdt (s : State) (n v : Nat) : State := if 10000 < v then s.viol else s.setRegN (R.RST_FEC_WDT + 4 * n) v

/-- A write of RST_FLASH_CTRL (17 R432). A reload that waited for the pins goes on. -/
def State.wrFlash (s : State) (val : BitVec 32) : State :=
  if bitOf val 0 then
    if s.fecStage 0 = 2 || s.fecStage 1 = 2 then s.viol else s.setRegN R.RST_FLASH_CTRL 1
  else
    let s := s.setRegN R.RST_FLASH_CTRL 0
    (List.range 2).foldl (fun s n =>
      if (s.fec n).waitFlash && s.fecStage n = 5 then
        let why := (s.fec n).why
        let (ok, s) := s.flashBegin n why
        if ok || why = 0 then s else (s.modFec n (fun f => { f with why := 0 })).restartDone n
      else s) s

end Sys2Proof.Machine
end

