-- ==== Sys2Proof/Machine/HifCore.lean ====
section
/-! DEFINITION. Ingress apertures: the watermark and the descriptor (02 R45, R46, R51 to R53; 07 R189; 19 R472). -/

namespace Sys2Proof.Machine

/-- Fields of HIF_AP_CTRL (02 Table HST-12). -/
def State.apOn (s : State) (ap : Nat) : Bool := s.bit (rk R.HIF_AP_CTRL ap) 0
def State.apGuard (s : State) (ap : Nat) : Bool := s.bit (rk R.HIF_AP_CTRL ap) 1
def State.apAction (s : State) (ap : Nat) : Nat := s.field (rk R.HIF_AP_CTRL ap) 3 2
def State.apIrq (s : State) (ap : Nat) : Bool := s.bit (rk R.HIF_AP_CTRL ap) 4
def State.apRidCheck (s : State) (ap : Nat) : Bool := s.bit (rk R.HIF_AP_CTRL ap) 5
def State.apCtx (s : State) (ap : Nat) : Nat := s.field (rk R.HIF_AP_CTRL ap) 15 8
def State.apBase (s : State) (ap : Nat) : Nat := (s.reg (rk R.HIF_AP_BASE ap)).toNat
def State.apSize (s : State) (ap : Nat) : Nat := (s.reg (rk R.HIF_AP_SIZE ap)).toNat
def State.apVa (s : State) (ap : Nat) : Nat := s.pair (rk R.HIF_AP_VA_LO ap)

/-- The unconsumed amount of an aperture (02 R51). -/
def State.apUnconsumed (s : State) (ap : Nat) : Nat :=
  (asInt 64 (subMod 64 (s.pair (rk R.HIF_AP_ARRIVED_LO ap)) (s.pair (rk R.HIF_AP_CONSUMED_LO ap)))).toNat

/-- The action of an up-crossing (02 R52). -/
def State.apAct (s : State) (ap : Nat) : State :=
  let s := match s.apAction ap with
    | 1 => s.launchReq (s.apCtx ap) (s.reg (rk R.HIF_AP_GRAPH ap)).toNat (s.pair (rk R.HIF_AP_PARAM_LO ap))
    | 2 => s.wake
    | _ => s
  if s.apIrq ap then s.event 6 [] else s

/-- Compare an enabled aperture's unconsumed amount with its watermark and record a crossing (02 R51, 19 R472). -/
def State.apEval (s : State) (ap : Nat) : State :=
  let k := rk R.HIF_AP_WM_STAT ap
  if !s.apOn ap then s
  else
    let lv := s.pair (rk R.HIF_AP_WM_LO ap) ≤ s.apUnconsumed ap
    if lv = s.bit k 0 then s
    else
      let s := (s.setBits k (if lv then 2 else 4)).inc (rk R.HIF_AP_XCOUNT ap)
      if lv then (s.setBits k 1).apAct ap else s.clrBits k 1

/-- The guard advances CONSUMED of its input aperture (07 R189). -/
def State.apConsume (s : State) (ap n : Nat) : State :=
  let a := s.pair (rk R.HIF_AP_ARRIVED_LO ap)
  let c := addMod 64 (s.pair (rk R.HIF_AP_CONSUMED_LO ap)) n
  (s.setPair (rk R.HIF_AP_CONSUMED_LO ap) (if asInt 64 (subMod 64 a c) < 0 then a else c)).apEval ap

/-- Is a descriptor fit to be enabled with these values of TARGET, ACTION (02 R45)? -/
def State.apFit (s : State) (ap : Nat) (guard : Bool) (action : Nat) : Bool :=
  let b := s.apBase ap
  let n := s.apSize ap
  let va := s.apVa ap
  b ≠ 0 && n ≠ 0 && b % 65536 == 0 && n % 65536 == 0 && n ≤ 2 ^ 30 && b + n ≤ 0xF0000000 &&
    (List.range 16).all (fun o => o == ap || !s.apOn o || !overlaps b n (s.apBase o) (s.apSize o)) &&
    (if guard then va < 2 ^ 21 && va + n ≤ sramSize else va % 4096 == 0 && va + n ≤ 2 ^ 48) && action ≠ 3

/-- CFG_ERR and the count of a refused write of HIF_AP_CTRL. -/
def State.apRefuse (s : State) (ap : Nat) : State := (s.setBits (rk R.HIF_AP_STATUS ap) 2).viol

/-- A write of HIF_AP_CTRL (02 R45, R46, R51). -/
def State.wrApCtrl (s : State) (ap : Nat) (val : BitVec 32) : State :=
  let k := rk R.HIF_AP_CTRL ap
  let v := val &&& 0xFF3F
  let old := s.reg k
  if !bitOf v 0 then (s.setReg k v).clrBits (rk R.HIF_AP_WM_STAT ap) 1
  else if !s.apOn ap then
    if s.apFit ap (bitOf v 1) (fld v 3 2) then ((s.setReg k v).clrBits (rk R.HIF_AP_WM_STAT ap) 1).apEval ap
    else (s.setReg k (v &&& 0xFF3E)).apRefuse ap
  else
    let fixed := 0xFF22
    let bad := fld v 3 2 = 3
    let s := s.setReg k ((old &&& fixed) ||| (v &&& 0x11) ||| (if bad then old &&& 0xC else v &&& 0xC))
    if bad then s.apRefuse ap else if v &&& fixed ≠ old &&& fixed then s.viol else s

end Sys2Proof.Machine
end

