-- ==== Sys2Proof/Machine/Mmu.lean ====
section
/-! DEFINITION. Range invalidation and broadcast (03 R84 to R92). -/

namespace Sys2Proof.Machine

/-- Does a TLB entry of a context overlap a range, its whole run included (03 R89)? -/
def Tlb.meets (t : Tlb) (c lo len : Nat) : Bool := t.ctx == c && overlaps t.va (t.size * 2 ^ t.run) lo len

/-- Does an address lie in an entry's run? -/
def Tlb.covers (t : Tlb) (c va : Nat) : Bool := t.hits c va

/-- Is an L1 line backed by an entry? -/
def Tlb.backs (t : Tlb) (l : L1Line) : Bool :=
  l.ctx == t.ctx && l.x.dest == t.dest && t.base ≤ l.x.addr && l.x.addr < t.base + t.foot * 2 ^ t.run

/-- Is a holder present (03 Tables XLT-9, XLT-14)? Holder 55 is the FIO's. -/
def State.holderPresent (s : State) (h : Nat) : Bool := h < 58 && (h ≠ 55 || s.fuses.fio)

/-- MMU_HOLDER_PRESENT_HI. -/
def State.presentHi (s : State) : BitVec 32 := if s.fuses.fio then 0x03FFFFFF else 0x037FFFFF

/-- Holders that R88 exempts: not built, not ON, the boot and monitor holders, fenced cores. -/
def State.exempt (s : State) (h : Nat) : Bool := !s.holderPresent h || !s.on (holderDom h) || (h < 32 && s.fenced h)

/-- Mark the accesses in flight that an invalidation waits for: `bit` of their `inv`, for those that `hit` names by holder, context, address. -/
def State.markInv (s : State) (b : Nat) (hit : Nat → Nat → Nat → Bool) : State :=
  { s with
    hs := { s.hs with waiting := s.hs.waiting.map (fun w =>
      if w.holder < 64 && hit w.holder (w.tags.headD 256) w.va then { w with inv := setBit w.inv b true } else w) }
    fab := { s.fab with inflight := s.fab.inflight.map (fun r =>
      if hit r.holder r.ctx r.va then { r with inv := setBit r.inv b true } else r) }
    cores := s.cores.zipIdx.map (fun (co, c) => { co with lines := co.lines.map (fun l =>
      if l.x.isSome && hit c l.ctx l.va then { l with inv := setBit l.inv b true } else l) })
    rtus := s.rtus.zipIdx.map (fun (u, i) => { u with queries := u.queries.map (fun q =>
      match q.cur with
      | some e => if q.x.isSome && hit (38 + i) q.ctx e.va then { q with inv := setBit q.inv b true } else q
      | none => q) }) }

/-- Drop the marks of one kind of a set of holders. -/
def State.unmark (s : State) (b : Nat) (hs : Nat → Bool) : State :=
  { s with
    hs := { s.hs with waiting := s.hs.waiting.map (fun w => if hs w.holder then { w with inv := setBit w.inv b false } else w) }
    fab := { s.fab with inflight := s.fab.inflight.map (fun r => if hs r.holder then { r with inv := setBit r.inv b false } else r) }
    cores := s.cores.zipIdx.map (fun (co, c) => { co with lines := co.lines.map (fun l =>
      if hs c then { l with inv := setBit l.inv b false } else l) })
    rtus := s.rtus.zipIdx.map (fun (u, i) => { u with queries := u.queries.map (fun q =>
      if hs (38 + i) then { q with inv := setBit q.inv b false } else q) }) }

/-- Has a holder an access in flight that an invalidation waits for, or a walk whose result it will discard (03 R89)? -/
def State.invHeld (s : State) (b h : Nat) : Bool :=
  s.hs.waiting.any (fun w => w.holder == h && w.inv.testBit b) ||
  s.fab.inflight.any (fun r => r.holder == h && r.inv.testBit b) ||
  (h < 32 && (s.core h).lines.any (·.inv.testBit b)) ||
  (38 ≤ h && h < 54 && (s.rtu (h - 38)).queries.any (·.inv.testBit b)) ||
  s.mmu.walks.any (fun w => w.holder == h && w.redo.testBit (2 * b))

/-- Write the lines of a core's L1 that were written through removed entries to L2 (03 R89), for every core. -/
def State.cleanRemoved (s : State) (gone : Nat → List Tlb) : State :=
  (List.range 32).foldl (fun s c => let g := gone c; if g.isEmpty then s else s.l1CleanBy c (fun l => g.any (·.backs l))) s

/-- Remove entries from TLBs, the page-walk cache and the node caches, and mark what an invalidation of kind b waits for: entries that `meet`, table
pointers that `pmeet`, walks and addresses that `at`, node cache lines of contexts that `cs`. -/
def State.invalidate (s : State) (b : Nat) (meet : Tlb → Bool) (pmeet : Pwc → Bool) (hit : Nat → Nat → Bool) (cs : Nat → Bool) : State :=
  let gone := fun h => if s.exempt h then [] else (s.mmu.tlbs.getD h []).filter meet
  let live := fun h => h < 58 && !s.exempt h
  let s1 := s.cleanRemoved gone
  let mark := fun (w : Walk) => if live w.holder && hit w.ctx w.va && (w.redo = 0 || w.redo.testBit 0 || w.redo.testBit 2) then
      { w with redo := setBit w.redo (2 * b) true } else w
  let tlbs := s1.mmu.tlbs.zipIdx.map (fun (x : List Tlb × Nat) => if live x.2 then x.1.filter (fun t => !meet t) else x.1)
  let rtus := s1.rtus.zipIdx.map (fun (x : Rtu × Nat) =>
    if live (38 + x.2) then { x.1 with cache := x.1.cache.filter (fun l => !cs l.1) } else x.1)
  let mmu := { s1.mmu with tlbs := tlbs, pwc := s1.mmu.pwc.filter (fun p => !pmeet p), walks := s1.mmu.walks.map mark }
  let s2 := { s1 with mmu := mmu, rtus := rtus }
  s2.markInv b (fun h c va => live h && (hit c va || (gone h).any (·.covers c va)))

/-- Set an acknowledgement bit. -/
def State.setAck (s : State) (h : Nat) : State :=
  if h < 32 then s.setBits R.MMU_INV_ACK_LO (2 ^ h) else s.setBits R.MMU_INV_ACK_HI (2 ^ (h - 32))

/-- Has a holder acknowledged the range invalidation? -/
def State.acked (s : State) (h : Nat) : Bool := if h < 32 then s.bit R.MMU_INV_ACK_LO h else s.bit R.MMU_INV_ACK_HI (h - 32)

/-- Is a range invalidation running? -/
def State.invBusy (s : State) : Bool := s.bit R.MMU_INV_STATUS 0

/-- Walks whose discard is done walk again (03 R89, R80). -/
def State.rewalk (s : State) (b : Nat) (hs : Nat → Bool) : State :=
  let again := s.mmu.walks.filter (fun w => hs w.holder && w.redo.testBit (2 * b + 1))
  let s := { s with mmu := { s.mmu with walks := s.mmu.walks.map (fun w =>
    if hs w.holder then { w with redo := setBit w.redo (2 * b + 1) false } else w) } }
  again.foldl (fun s w => if (setBit w.redo (2 * b + 1) false) = 0 then s.inc (R.MMU_WALK_COUNT + 4 * w.holder) else s) s

/-- All 64 bits are set: the range invalidation is done (03 R90). -/
def State.invSettle (s : State) : State :=
  if s.invBusy && s.reg R.MMU_INV_ACK_LO = 0xFFFFFFFF && s.reg R.MMU_INV_ACK_HI = 0xFFFFFFFF then
    let s := { s with mmu := { s.mmu with inv := none } }
    (((s.clrBits R.MMU_INV_STATUS 1).setBits R.MMU_INV_STATUS 2).inc R.MMU_INV_DONE_COUNT).event 7 []
  else s

/-- A write of 1 to MMU_INV_CTRL.GO (03 R86 to R88). -/
def State.invGo (s : State) (req : Req) : State :=
  let n := req.num
  let c := s.field (rk R.MMU_INV_CTX n) 7 0
  let va := s.pair (rk R.MMU_INV_VA_LO n)
  let len := s.pair (rk R.MMU_INV_LEN_LO n)
  if s.invBusy then (s.setBits (rk R.MMU_INV_STATUS n) 4).inc R.MMU_INV_REJECT_COUNT
  else if va % 4096 ≠ 0 || len = 0 || len % 4096 ≠ 0 || 2 ^ 48 < va + len then (s.setBits (rk R.MMU_INV_STATUS n) 8).viol
  else
    let s := { s with mmu := { s.mmu with inv := some (c, va, len) } }
    let s := ((s.setBits R.MMU_INV_STATUS 1).clrBits R.MMU_INV_STATUS 2).setField R.MMU_INV_STATUS 7 6 n
    let ex := (List.range 64).filter s.exempt
    let s := s.invalidate 0 (·.meets c va len) (fun p => p.ctx == c && overlaps p.va (span p.level) va len)
      (fun c' a => c' == c && va ≤ a && a < va + len) (· == c)
    let m := maskOf ex
    ((s.setRegN R.MMU_INV_ACK_LO m).setRegN R.MMU_INV_ACK_HI (m / 2 ^ 32)).invSettle

/-- A holder acknowledges. -/
def State.holderAck (s : State) (h : Nat) : State := ((s.setAck h).rewalk 0 (· == h)).invSettle

/-- HOLDER_INV_ACK (03 R89, R90). -/
def execHolderInvAck (h : Nat) (s : State) : Out := s.rooted "HOLDER_INV_ACK" <|
  when' "HOLDER_INV_ACK" (s.invBusy && h < 58 && !s.acked h && !s.invHeld 0 h) (s.holderAck h)

/-- Does a broadcast request (256: ALL) name a context? -/
def bcNames (b c : Nat) : Bool := b == 256 || b == c

/-- A write of MMU_BCAST (03 R91, R92): it enters the FIFO, or is held. -/
def State.bcast (s : State) (req : Req) (val : BitVec 32) : State :=
  if 32 ≤ s.mmu.bcast.length then
    { s with mmu := { s.mmu with held := s.mmu.held ++ [HeldWrite.mk req.num R.MMU_BCAST val true] } }.inc R.MMU_BCAST_FULL_COUNT
  else
    { s with mmu := { s.mmu with bcast := s.mmu.bcast ++ [if bitOf val 8 then 256 else fld val 7 0] } }.inc R.MMU_BCAST_ISSUED

/-- Serve a broadcast request (03 R91 steps 1 to 3). -/
def State.bcastServe (s : State) (b : Nat) : State :=
  let s := { s with mmu := { s.mmu with serving := some b, roots := s.mmu.roots.filter (fun r => !bcNames b r.1) } }
  s.invalidate 1 (fun t => bcNames b t.ctx) (fun p => bcNames b p.ctx) (fun c _ => bcNames b c) (bcNames b)

/-- BCAST_DONE (03 R91): every holder has completed the broadcast being served. -/
def execBcastDone (s : State) : Out := s.rooted "BCAST_DONE" <|
  when' "BCAST_DONE" (s.mmu.serving.isSome && (List.range 58).all (fun h => !s.invHeld 1 h))
    (((({ s with mmu := { s.mmu with serving := none } }).rewalk 1 (fun _ => true)).inc R.MMU_BCAST_DONE).event 7 [])

/-- A holder's power domain leaves ON (03 R79, R90, R91): its TLB empties, and invalidations wait for it no longer. -/
def State.holderOff (s : State) (h : Nat) : State :=
  let s := ((s.emptyTlb h).unmark 0 (· == h)).unmark 1 (· == h)
  let ws := s.mmu.walks.map (fun (w : Walk) => if w.holder = h then { w with redo := 0 } else w)
  let s := { s with mmu := { s.mmu with walks := ws } }
  if s.invBusy then (s.setAck h).invSettle else s

/-- A write of 1 bits to MMU_INV_STATUS: DONE is shared, the requester's REJECTED and CFG_ERR are its own (03 Table XLT-14). -/
def State.wrInvStatus (s : State) (req : Req) (val : BitVec 32) : State :=
  (s.clrBits R.MMU_INV_STATUS (val.toNat &&& 2)).clrBits (rk R.MMU_INV_STATUS req.num) (val.toNat &&& 12)

/-- A read of MMU_INV_STATUS. -/
def State.rdInvStatus (s : State) (req : Req) : BitVec 32 :=
  (s.reg R.MMU_INV_STATUS &&& 0xC3) ||| (s.reg (rk R.MMU_INV_STATUS req.num) &&& 0xC)

end Sys2Proof.Machine
end

