-- ==== Sys2Proof/Machine/FabOps.lean ====
section
/-! DEFINITION. Faults of remote requests, groups and aborts across nodes, and the registers of the FAB block (15). -/

namespace Sys2Proof.Machine

/-- The fault of an aperture write at the head of the memory lane (02 R50): the write is discarded. -/
def State.apFault (s : State) (ap c va : Nat) (e : MErr) : State :=
  let s := { s with hs := { s.hs with lane := s.hs.lane.drop 1, asks := [] } }
  let s := (s.setBits (rk R.HIF_AP_STATUS ap) 1).inc (rk R.HIF_AP_DROP_COUNT ap)
  let (gen, s) := s.ctxGen c
  s.abortFrom c { s.ctxOnion c 54 gen with cause := e.cause, detail := e.detail, first := true, va := some va } none

/-- The aperture write that a remote request of ingress belongs to. -/
def State.laneAsk (s : State) (id : Nat) : Option (Nat × Nat) :=
  if s.hs.asks.contains id then
    match s.hs.lane.head? with
    | some (.ap ap c _ _) => some (ap, c)
    | _ => none
  else none

/-- Take a remote request away. -/
def State.dropReq (s : State) (id : Nat) : State := { s with fab := { s.fab with inflight := s.fab.inflight.filter (·.id ≠ id) } }

/-- The line request of a core that a remote request serves. -/
def State.lineOf (s : State) (r : FabReq) : Option LineReq :=
  match r.line with
  | some l => if r.holder < 32 then (s.core r.holder).lines.find? (·.id == l) else none
  | none => none

/-- A remote request faults (15 R375, R380, R382, R389): the access of whoever made it does. A refusal is recorded as a translation fault is (R382, 03 R83).
The read of a launch, a strand packet or a ray node faults where its unit takes it up; that of a member array ends the sending (R386). -/
def State.fabFault (s : State) (r : FabReq) (e : MErr) : State :=
  let s := s.dropReq r.id
  let s := if e.cause = C.REMOTE_REFUSED then s.xltFault r.holder r.ctx r.va e else s
  match s.laneAsk r.id, s.lineOf r with
  | some (ap, c), _ => s.apFault ap c r.va e
  | none, some l =>
    let s := { s with fab := { s.fab with inflight := s.fab.inflight.filter (fun k => !l.asks.contains k.id) } }
    (s.dropLine r.holder l.id).lineFault r.holder l e
  | none, none =>
    match r.pkt.bind s.findPkt with
    | some (_, p) => s.pktFault p.id ⟨r.eng, e.cause, e.detail, some r.va⟩ 0x80
    | none =>
      if (r.holder = 57 || (38 ≤ r.holder && r.holder < 54)) && r.kind == .readReq then
        { s with fab := { s.fab with got := s.fab.got ++ [⟨r, [], some (e.cause, e.detail)⟩] } }
      else
        let s := if r.holder = 55 then { s with fab := { s.fab with jobs := s.fab.jobs.filter (fun j => j.ctx ≠ r.ctx) } } else s
        let (gen, s) := s.ctxGen r.ctx
        s.abortFrom r.ctx { s.ctxOnion r.ctx r.eng gen with cause := e.cause, detail := e.detail, va := some r.va } none

/-- Fault every remote request in flight that is chosen. -/
def State.fabFaultAll (s : State) (sel : FabReq → Bool) (e : MErr) : State :=
  (s.fab.inflight.filter sel).foldl (fun s r => if s.fab.inflight.any (·.id == r.id) then s.fabFault r e else s) s

/-- Abort the jobs of a group's context for a cause that came from outside the context's own work (15 R375, R387, R388, R389; 04 R111 steps 2
to 6): the fences of its jobs carry the cause. -/
def State.groupAbort (s : State) (c : Nat) (cause detail va : Nat) (first send : Bool) : State :=
  let (gen, s) := s.ctxGen c
  let pg := s.ctxPart c == 8
  let newly := !pg && !s.lost c
  let s := if newly then s.setLost c else s
  let (seq, s) := s.onion { s.ctxOnion c 55 gen with
    cause := if pg then C.GUARD_FAULT else cause, detail := if pg then cause else detail, first := first, rawVa := va, remote := true }
  if pg then s
  else
    let s := if newly then s.noteLoss c seq 55 else s
    let s := (s.openJobs c).foldl (fun s j => s.abortJob j ⟨0x81, cause, seq, 55, c⟩ (fun _ => 0x81)) s
    if newly && send then s.abortSend c cause seq else s

/-- Valid groups: context and entry. -/
def State.validGroups (s : State) : List (Nat × Quad) :=
  (s.fab.grps.filter (fun g => bitOf g.2.d0 31)).map (fun g => (fld g.2.d0 23 16, g.2))

/-- Look for a departed node among the last k of the n members of a context's group, and abort the group where it is found (15 R375, R388). A fault of the
read is the context's (R386, 03 R83). -/
def State.leaveRun (s : State) (c node n : Nat) : Nat → State
  | 0 => s
  | k + 1 =>
    match s.groupOf c with
    | none => s
    | some g =>
      match s.memberRead c g (n - (k + 1)) with
      | (.error v, t) =>
        if v.e.cause = C.HOST_WAIT then
          let u := (s.waits t).getD s
          { u with fab := { u.fab with jobs := u.fab.jobs ++ [.leave c node (n - (k + 1)) n] } }
        else
          let (gen, t) := t.ctxGen c
          t.abortFrom c { t.ctxOnion c 55 gen with cause := v.e.cause, detail := v.e.detail, va := some v.va } none
      | (.ok m, t) => if m = node then t.groupAbort c C.NODE_LEFT 1 node true true else t.leaveRun c node n k

/-- Go on with the member arrays that were being read (15 R375, R386). -/
def State.fabJobsRun (s : State) : State :=
  s.fab.jobs.foldl (fun s j => match j with
    | .abort c cause seq i n => s.abortRun c cause seq n (n - i)
    | .leave c node i n => s.leaveRun c node n (n - i)) { s with fab := { s.fab with jobs := [] } }

/-- Set a route entry. -/
def State.setRoute (s : State) (n : Nat) (v : BitVec 32) : State :=
  { s with fab := { s.fab with routes := storePut (fun _ v => v == 0) n v s.fab.routes } }

/-- A write of FAB_LEAVE (15 R375, R388). -/
def State.fabLeave (s : State) (node : Nat) : State :=
  let s := s.setRoute node (s.route node ||| 8)
  let s := s.validGroups.foldl (fun s (c, g) => s.leaveRun c node (fld g.d1 11 0) (fld g.d1 11 0)) s
  s.fabFaultAll (·.node == node) ⟨C.NODE_LEFT, 1, 0⟩

/-- The FIO link is lost, or FAB leaves ON (15 R389). -/
def State.fabLost (s : State) : State :=
  let s := s.fabFaultAll (fun _ => true) ⟨C.NODE_LEFT, 4, 0⟩
  s.validGroups.foldl (fun s (c, _) => if s.lost c then s else s.groupAbort c C.NODE_LEFT 4 0 true false) s

/-- A write of FAB_NODE_ID (15 R373). -/
def State.wrNodeId (s : State) (val : BitVec 32) : State :=
  if !s.validGroups.isEmpty then s.viol else s.setReg R.FAB_NODE_ID (val &&& 0x800007FF)

/-- A write of FAB_RESP_TIMEOUT (15 Table FAB-5). -/
def State.wrRespTimeout (s : State) (v : Nat) : State := if v < 10 then s.viol else s.setRegN R.FAB_RESP_TIMEOUT v

/-- A write of FAB_ROUTE_DATA (15 R374). -/
def State.wrRoute (s : State) (val : BitVec 32) : State := s.setRoute (s.field R.FAB_ROUTE_IDX 10 0) (val &&& 0xF)

/-- An entry as reset leaves it. -/
def quad0 : Quad := {}

/-- A table entry. -/
def quadOf (l : List (Nat × Quad)) (i : Nat) : Quad := storeGet (fun _ => quad0) l i

/-- One word of an entry. -/
def Quad.word (q : Quad) : Nat → BitVec 32
  | 0 => q.d0
  | 1 => q.d1
  | 2 => q.d2
  | _ => q.d3

/-- A write of FAB_WIN_DATA3 (15 R383): BASE and SIZE are whole units of 64 KiB. -/
def State.wrWin (s : State) (val : BitVec 32) : State :=
  let q : Quad := ⟨s.reg R.FAB_WIN_DATA0, s.reg R.FAB_WIN_DATA1, s.reg R.FAB_WIN_DATA2, val⟩
  if q.d1 = 0 || 2 ^ 32 < q.d0.toNat + q.d1.toNat then (s.setBits R.FAB_CFG_STATUS 2).viol
  else { s with fab := { s.fab with wins := storePut (fun _ v => v == quad0) (s.field R.FAB_WIN_IDX 5 0) q s.fab.wins } }.setReg R.FAB_WIN_DATA3 val

/-- Is the group entry named by FAB_GRP_IDX valid with its context busy (15 Table FAB-5)? -/
def State.grpLocked (s : State) : Bool :=
  let q := quadOf s.fab.grps (s.field R.FAB_GRP_IDX 5 0)
  bitOf q.d0 31 && s.ctxBusy (fld q.d0 23 16)

/-- A write of FAB_GRP_DATA0 to FAB_GRP_DATA2 (15 Table FAB-5). -/
def State.wrGrpData (s : State) (i : Nat) (val : BitVec 32) : State :=
  if s.grpLocked && (quadOf s.fab.grps (s.field R.FAB_GRP_IDX 5 0)).word i ≠ val then s.viol
  else s.setReg (R.FAB_GRP_DATA0 + 4 * i) val

/-- A write of FAB_GRP_DATA3 (15 R385). -/
def State.wrGrp (s : State) (val : BitVec 32) : State :=
  let ix := s.field R.FAB_GRP_IDX 5 0
  let q : Quad := ⟨s.reg R.FAB_GRP_DATA0, s.reg R.FAB_GRP_DATA1, s.reg R.FAB_GRP_DATA2, val⟩
  let n := fld q.d1 11 0
  if s.grpLocked && quadOf s.fab.grps ix ≠ q then s.viol
  else if n = 0 || 2048 < n || (s.fab.grps.any (fun g => g.1 ≠ ix && bitOf g.2.d0 31 &&
      (fld g.2.d0 23 16 == fld q.d0 23 16 || fld g.2.d0 15 0 == fld q.d0 15 0))) then (s.setBits R.FAB_CFG_STATUS 4).viol
  else { s with fab := { s.fab with grps := storePut (fun _ v => v == quad0) ix q s.fab.grps } }.setReg R.FAB_GRP_DATA3 val

/-- A port goes down (15 R380): its requests in flight fault. -/
def State.portLost (s : State) (p : Nat) : State :=
  let up := s.portUp p
  let s := s.setRegN (rk R.FAB_P_STATUS p) 0
  if up then (s.inc (rk R.FAB_P_DOWN_COUNT p)).fabFaultAll (·.port == p) ⟨C.NODE_LEFT, 3, 0⟩ else s

/-- A write of FAB_P_CTRL (15 R371): ENABLE from 0 to 1 trains the port; 0 takes it down (notes/assumptions/32.md). -/
def State.wrPortCtrl (s : State) (p : Nat) (val : BitVec 32) : State :=
  let old := s.bit (rk R.FAB_P_CTRL p) 0
  let s := s.setReg (rk R.FAB_P_CTRL p) (val &&& 1)
  match old, bitOf val 0 with
  | false, true => s.setRegN (rk R.FAB_P_STATUS p) 2
  | true, false => s.portLost p
  | _, _ => s

/-- A read of a table's data register (15 Table FAB-5). -/
def State.rdFab (s : State) (off : Nat) : Option (BitVec 32) :=
  if off = R.FAB_ROUTE_DATA then some (s.route (s.field R.FAB_ROUTE_IDX 10 0))
  else if R.FAB_WIN_DATA0 ≤ off && off ≤ R.FAB_WIN_DATA3 then
    some ((quadOf s.fab.wins (s.field R.FAB_WIN_IDX 5 0)).word ((off - R.FAB_WIN_DATA0) / 4))
  else if R.FAB_GRP_DATA0 ≤ off && off ≤ R.FAB_GRP_DATA3 then
    some ((quadOf s.fab.grps (s.field R.FAB_GRP_IDX 5 0)).word ((off - R.FAB_GRP_DATA0) / 4))
  else none

end Sys2Proof.Machine
end

