-- ==== Sys2Proof/Machine/Crc.lean ====
section
/-! DEFINITION. Enabling CRC snoop units and their frames (14 R363 to R369). -/

namespace Sys2Proof.Machine

/-- Does a stream exist and suit a mode (14 R365, R366, R368, Table MOV-9)? -/
def State.attachOk (s : State) (attach : Nat) (desc : Bool) : Bool :=
  if 0x10 ≤ attach && attach < 0x18 then desc
  else if attach < 0x10 || attach = 0x18 then !desc
  else 0x20 ≤ attach && attach < 0x28 && !desc && s.fuses.fio && s.on D.FAB

/-- A write of CRC_CTRL (14 R368). -/
def State.wrCrcCtrl (s : State) (u : Nat) (val : BitVec 32) : State :=
  let k := rk R.CRC_CTRL u
  let v := val &&& 0x3F1F
  if s.bit k 0 then (if bitOf v 0 then s.viol else s.setReg k v)
  else if !bitOf v 0 then s.setReg k v
  else if !s.attachOk (fld v 13 8) (bitOf v 1) || (!bitOf v 1 && s.reg (rk R.CRC_FRAME_BYTES u) = 0) then
    (s.setBits (rk R.CRC_STATUS u) 2).viol
  else { s.setReg k v with crc := s.crc.set u {} }

/-- A write of CRC_FRAME_BYTES (14 R368). -/
def State.wrFrameBytes (s : State) (u : Nat) (val : BitVec 32) : State :=
  if s.bit (rk R.CRC_CTRL u) 0 then s.viol else s.setReg (rk R.CRC_FRAME_BYTES u) val

/-- Bytes of a unit's trailer: W with EXP_SRC 1 (14 R365). -/
def State.crcTrailer (s : State) (u : Nat) : Nat := if s.bit (rk R.CRC_CTRL u) 4 then (s.crcSel u).width / 8 else 0

/-- CRC_FRAME_COMPARE (14 R365): a unit has seen a whole frame, and its trailer where that is expected. -/
def execCrcFrameCompare (unit : Nat) (s : State) : Out := s.rooted "CRC_FRAME_COMPARE" <|
  let n := (s.reg (rk R.CRC_FRAME_BYTES unit)).toNat
  let t := s.crcTrailer unit
  let b := (s.crc.getD unit {}).buf
  if unit < 8 && s.crcOn unit && !s.crcDesc unit && n ≠ 0 && n + t ≤ b.length then
    let p := s.crcSel unit
    let e := if t = 0 then s.pair (rk R.CRC_EXPECT_LO unit) % 2 ^ p.width else leNat ((b.drop n).take t)
    let s := s.crcCompare unit (crcOf p (b.take n)) e
    .next { s with crc := s.crc.modify unit (fun c => { c with buf := c.buf.drop (n + t) }) }
  else never "CRC_FRAME_COMPARE"

/-- CE leaves ON (14 R369): every unit's ENABLE clears, and what it held is lost. -/
def State.crcOff (s : State) : State :=
  let s := (List.range 8).foldl (fun s u => s.clrBits (rk R.CRC_CTRL u) 1) s
  { s with crc := List.replicate 8 {} }

end Sys2Proof.Machine
end

