-- ==== Sys2Proof/Machine/Guard.lean ====
section
/-! DEFINITION. The guard partition's steps (07 R181 to R197, 09 R264): guard packets, verdicts, faults, staleness, restart, self-test. -/

namespace Sys2Proof.Machine

/-- STALE of GD_STATUS. -/
def State.setStale (s : State) (b : Bool) : State := s.setField R.GD_STATUS 4 4 (b2n b)

/-- Offset, length and fitness of a GLOAD or GSTORE (07 Table GRD-2). -/
def guardSpan (p : Packet) : Nat × Nat := (bits p.a1 20 0, bits p.a2 21 0)
def guardSpanBad (off len : Nat) : Bool := off % 64 ≠ 0 || len % 64 ≠ 0 || sramSize < off + len

/-- Does a range meet the code or the state region of the armed graph? -/
def State.gArmedOver (s : State) (off len : Nat) : Bool :=
  match s.gd.hdr with
  | some h => len ≠ 0 && ((h.codeSize ≠ 0 && overlaps off len h.codeOff h.codeSize) || (h.stateSize ≠ 0 && overlaps off len h.stateOff h.stateSize))
  | none => false

/-- Copy pieces of the PG context's memory into guard SRAM, on its second port (07 R176). -/
def State.gloadGo (s : State) (w : RemWho) (off : Nat) : List (Nat × Nat) → Except VErr Unit × State
  | [] => (.ok (), s)
  | (a, n) :: t =>
    match s.vread w a n with
    | (.error v, s) => (.error v, s)
    | (.ok b, s) => (s.sramWrite2 off (b.map some)).gloadGo w (off + n) t

/-- GLOAD (07 R181, Table GRD-2). -/
def execGload (s₀ : State) : Out := s₀.rooted "GLOAD" <|
  match s₀.start 52 0x40 with
  | none => never "GLOAD"
  | some (p, s) =>
    let (off, len) := guardSpan p.pkt
    if guardSpanBad off len || s.gArmedOver off len then .next (s.pktBad p.id 52 0)
    else match s.gloadGo (fenceWho 52 p) off (linePieces p.pkt.a0 len) with
      | (.ok _, s) => .next (s.finish52 p.id 0)
      | (.error v, s) => if v.e.cause = C.HOST_WAIT then s₀.waitOr s "GLOAD" else .next (s.pktVErr p.id 52 v)

/-- GSTORE (07 R181, Table GRD-2). -/
def execGstore (s₀ : State) : Out := s₀.rooted "GSTORE" <|
  match s₀.start 52 0x41 with
  | none => never "GSTORE"
  | some (p, s) =>
    let (off, len) := guardSpan p.pkt
    if guardSpanBad off len then .next (s.pktBad p.id 52 0)
    else
      let (b, s) := s.sramRead2 off len
      match s.vwrite (fenceWho 52 p) p.pkt.a0 b false with
      | (.ok _, s) => .next (s.finish52 p.id 0)
      | (.error v, s) => if v.e.cause = C.HOST_WAIT then s₀.waitOr s "GSTORE" else .next (s.pktVErr p.id 52 v)

/-- ARM (07 R182, R183). -/
def execArmPacket (s : State) : Out := s.rooted "ARM" <|
  match s.start 52 0x42 with
  | none => never "ARM"
  | some (p, s) =>
    let off := bits p.pkt.a0 20 0
    if off % 64 ≠ 0 then .next (s.pktBad p.id 52 0)
    else if s.gState = G.RUNNING then .next { s with gd := { s.gd with waitArm := some (off, p.id) } }
    else .next (s.tryArm off p.id id)

/-- DISARM (07 Table GRD-7). -/
def execDisarmPacket (s : State) : Out := s.rooted "DISARM" <|
  match s.start 52 0x43 with
  | none => never "DISARM"
  | some (p, s) =>
    if s.gState = G.RUNNING then .next { s with gd := { s.gd with waitDisarm := some p.id } }
    else .next (s.disarm.finish52 p.id 0)

/-- SELFTEST (07 R195). -/
def execGuardSelftest (s : State) : Out := s.rooted "SELFTEST" <|
  match s.start 52 0x44 with
  | none => never "SELFTEST"
  | some (p, s) =>
    if s.gState = G.DISARMED || s.gState = G.FAILED then .next (s.beginTest p.id)
    else if s.gState = G.RESTARTING || s.testFits then .next { s with gd := { s.gd with waitTest := some p.id } }
    else .next (s.skipTest p.id)

/-- ARM_COMPLETE (07 R183). -/
def execArmComplete (s : State) : Out := s.rooted "ARM_COMPLETE" <|
  match s.gd.arming with
  | some p =>
    if s.gState = G.ARMING then
      let s := { s with gd := { s.gd with arming := none, watchdog := true } }
      .next (((s.setWarm 0).finish52 p 0).enterIdle.settlePin)
    else never "ARM_COMPLETE"
  | none => never "ARM_COMPLETE"

/-- A write of 1 to GD_WAKE.WAKE (07 R186). -/
def State.wrGdWake (s : State) (val : BitVec 32) : State := if bitOf val 0 then s.wake else s

/-- Publish a run's verdict (07 R188, R189). -/
def State.runVerdict (s : State) (raw conf payload cycles : Nat) : State :=
  let w := min (s.gWarm + 1) 255
  let warmup := w < s.field R.GD_HIST_LEN 7 0
  let forced := s.bit R.GD_CTRL 0
  let low := raw ≤ 1 && conf < s.field R.GD_CONF_MIN 7 0
  let v := if warmup || forced || low then 2 else raw
  let status := w * 2 ^ 24 + conf * 2 ^ 16 + b2n forced * 2 ^ 8 + b2n s.gd.delayed * 2 ^ 7 + b2n low * 2 ^ 6 + b2n warmup * 2 ^ 4 + raw * 4 + v
  let s := ((s.setWarm w).setStale false).inc R.GD_VERDICT_COUNT
  let s := { s with gd := { s.gd with watchdog := true, delayed := false } }
  let s := if (s.reg R.GD_MAX_RUN_CYCLES).toNat < cycles then s.setRegN R.GD_MAX_RUN_CYCLES cycles else s
  let s := s.publish status payload cycles s.gd.arrived
  let s := match s.gd.hdr with
    | some h => if h.inAp = 0xFF then s else s.apConsume h.inAp h.consume
    | none => s
  s.settlePin.afterPublish

/-- The cycle in which VERDICT ends a run: every counter and every write of the run is complete (09 R264). -/
def Pod.verdictEnd (p : Pod) (i : Ins) : Nat := ((p.tm.sb.flatMap id) ++ [p.tm.busy]).foldl max (p.issueAt 0x06 i + 1)

/-- VERDICT (09 R264): once every counter and every write of the run is complete, it ends the run. -/
def execVerdict (r : PodRef) (i : Ins) (s : State) : Out :=
  issue "VERDICT" 0x06 r i s (fun s p _ =>
    let (cyc, s) := s.cycles r p 0x06 i
    let fin := p.verdictEnd i
    let bound := (s.gd.hdr.map (·.bound)).getD 0
    if bound < fin then .wait
    else if p.sv i cyc i.a % 4 = 3 then .done (s.guardFault 0x64 none) 0
    else .done (s.runVerdict (p.sv i cyc i.a % 4) (p.sv i cyc i.b % 256) (p.sv i cyc i.c) fin) 0)

/-- Does the run reach BOUND_CYCLES before its next instruction, or before VERDICT ends it (07 R187)? A run without a pea that can run does. -/
def State.boundReached (s : State) : Bool :=
  match s.gd.pod, s.gd.hdr with
  | some p, some h =>
    p.runnable == 0 || h.bound ≤ p.tm.nxt ||
      (match (s.fetch .guard p p.pc).1 with
       | .word w =>
         let op := bits w 49 42
         let i := insOf w 0
         opDefined op && (h.bound ≤ p.issueAt op i || (op == 0x06 && predOk p i && h.bound < p.verdictEnd i))
       | _ => false)
  | _, _ => false

/-- BOUND_EXCEEDED (07 R187). -/
def execBoundExceeded (s : State) : Out := s.rooted "BOUND_EXCEEDED" <| when' "BOUND_EXCEEDED" (s.gState == G.RUNNING && s.boundReached) (s.guardFault 0x61 none)

/-- A publication that finds no run in progress starts a self-test that waits (07 R195). -/
def State.testAtPublication (s : State) : State :=
  match s.gd.waitTest with
  | some p => if s.gState = G.IDLE then s.beginTest p else s
  | none => s

/-- STALE_EXPIRY (07 R191). What IN_ARRIVED of a stale record holds, no run having started, the spec does not say where IN_AP names an aperture: a free
value; it is 0 where IN_AP is 0xFF (Table GRD-6). -/
def execStaleExpiry (s : State) : Out := s.rooted "STALE_EXPIRY" <|
  when' "STALE_EXPIRY" (s.gd.watchdog && (s.gState == G.IDLE || s.gState == G.RUNNING))
    (let s := { s with gd := { s.gd with watchdog := false } }
     let s := (s.setStale true).setWarm 0
     let (v, s) := s.draw
     let s := s.publish (0x2E + b2n (s.bit R.GD_CTRL 0) * 2 ^ 8) 0 0 (if s.gd.hdr.any (·.inAp == 0xFF) then 0 else v % 2 ^ 32)
     ((s.inc R.GD_STALE_COUNT).event 1 [tagGF]).settlePin.testAtPublication)

/-- Enter FAILED (07 R194, R196): a self-test that waits runs at once (R195). -/
def State.enterFailed (s : State) : State :=
  let s := { s with gd := { s.gd with pod := none, watchdog := false } }
  let s := (s.setG G.FAILED).settlePin
  match s.gd.waitTest with
  | some p => s.beginTest p
  | none => s

/-- A restart ends in IDLE (07 R194): a self-test that came in RESTARTING and is not allowed is skipped (R195). -/
def State.restartIdle (s : State) : State :=
  let s := { s with gd := { s.gd with watchdog := true } }
  let s := match s.gd.waitTest with
    | some p => if s.testFits then s else s.skipTest p
    | none => s
  s.enterIdle.settlePin

/-- RESTART_END (07 R194, steps 3 to 5): the code region rechecked, the state region zeroed, the count and vector 1; then IDLE or FAILED. -/
def execRestartEnd (s : State) : Out := s.rooted "RESTART_END" <|
  match s.gd.hdr with
  | none => never "RESTART_END"
  | some h =>
    when' "RESTART_END" (s.gState == G.RESTARTING)
      (let (c, s) := s.codeCrc h
       let ok := c = h.crc
       let s := (((s.sramZero h.stateOff h.stateSize).inc R.GD_RESTART_COUNT).event 1 [tagGF]).setWarm 0
       if ok then s.restartIdle
       else
         let s := (s.guardOnion 0x65 32 none).2
         { s with gd := { s.gd with hdr := none } }.enterFailed)

/-- GUARD_SELFTEST_END (07 R196): `pass` is the test's outcome. -/
def execGuardSelftestEnd (pass : Bool) (s : State) : Out := s.rooted "GUARD_SELFTEST_END" <|
  match s.gd.testPkt with
  | none => never "GUARD_SELFTEST_END"
  | some p =>
    let s := { s with gd := { s.gd with testPkt := none } }.clrBits R.GD_ST_STATUS 0x11
    let s := s.finish52 p 0
    if !pass then .next (((s.setBits R.GD_ST_STATUS 4).guardOnion 0x66 32 none).2.enterFailed)
    else
      let s := s.setBits R.GD_ST_STATUS 0x10
      if s.gPending && s.gState == G.IDLE then
        .next ((((s.setPendingWake false).setBits R.GD_ST_STATUS 2).inc R.GD_ST_DELAY_COUNT).runStart true)
      else .next s

/-- GUARD_CLK_LOSS (07 R179). -/
def execGuardClkLoss (s : State) : Out := .next ({ s with gd := { s.gd with clkSeen := false } }.settlePin)

/-- A write of GD_PERIOD, GD_STALE_LIMIT or GD_HIST_LEN (07 R184). -/
def State.wrGdConfig (s : State) (off val low : Nat) : State :=
  if (s.gState = G.DISARMED || s.gState = G.FAILED) && low ≤ val then s.setRegN off val else s.viol

/-- A write of GD_RING_CTRL (07 Table GRD-10). -/
def State.wrGdRing (s : State) (val : BitVec 32) : State :=
  let v := val &&& 0xF01
  if bitOf v 0 && (fld v 11 8 < 4 || 12 < fld v 11 8) then s.viol else s.setReg R.GD_RING_CTRL v

end Sys2Proof.Machine
end

