-- ==== Sys2Proof/Machine/Power.lean ====
section
/-! DEFINITION. Performance points, tiers and thermal control, power domains and the AO regulator (16 R390 to R418; 21 R491 to R493). -/

namespace Sys2Proof.Machine

/-- Set a bit of PWR_EVT: vector 2 (16 Table PWR-11). -/
def State.pwrEvt (s : State) (i : Nat) : State := (s.setBits R.PWR_EVT (2 ^ i)).event 2 []

/-! ### Performance points -/

/-- Fields of CLK_PP_STATUS (16 Table PWR-10). -/
def State.ppCur (s : State) : Nat := s.field R.CLK_PP_STATUS 2 0
def State.ppTarget (s : State) : Nat := s.field R.CLK_PP_STATUS 6 4

/-- A row of 16 Table PWR-3: ratios of the core, tile and NoC dividers, and the VDD_CORE target in millivolts. -/
structure PpRow where
  core : Nat
  tile : Nat
  noc : Nat
  mv : Nat
deriving DecidableEq, Repr

/-- A performance point (16 Table PWR-3). -/
def ppRow (pp : Nat) : PpRow :=
  [⟨3, 4, 5, 900⟩, ⟨4, 5, 6, 850⟩, ⟨5, 6, 8, 800⟩, ⟨6, 8, 10, 760⟩, ⟨8, 10, 12, 720⟩, ⟨12, 16, 16, 700⟩].getD pp ⟨12, 16, 16, 700⟩

/-- Frequency in MHz that a divider makes of ROOT, 4,800 MHz (16 Table PWR-2). -/
def rootDiv (ratio : Nat) : Nat := 4800 / ratio

/-- CORE_CLK, TILE_CLK and NOC_CLK in MHz at the point that is current; 0 while the root PLL is out of lock (16 R390, R392, R393). -/
def State.clkMhz (s : State) (d : PpRow → Nat) : Nat := if s.rootLock then rootDiv (d (ppRow s.ppCur)) else 0
def State.coreMhz (s : State) : Nat := s.clkMhz (·.core)
def State.tileMhz (s : State) : Nat := s.clkMhz (·.tile)
def State.nocMhz (s : State) : Nat := s.clkMhz (·.noc)

/-- The 7-bit PMBus address of the core regulator (21 R492, R498). -/
def regulatorAddr : Nat := 0x40 + Config.pmbAddr.toNat

/-- The value of VOUT_COMMAND that sets a performance point's voltage, round(V * 2^N) for the exponent -N of VOUT_MODE (21 R492). -/
def voutCommand (n pp : Nat) : Nat := ((ppRow pp).mv * 2 ^ n * 2 + 1000) / 2000

/-- The target that the core regulator holds, in millivolts and as it was written over PMBus (16 R393, 21 R492). -/
def State.vddCore (s : State) : Nat := (ppRow s.ao.pwr.volt).mv
def State.voutWritten (s : State) : Nat := voutCommand Config.voutExponent s.ao.pwr.volt

/-- The ceiling of a tier (16 Table PWR-4). -/
def tierCeil (t : Nat) : Nat := [0, 2, 4, 5].getD t 5

/-- LEVEL bit of a threshold of a sensor (16 Table PWR-12). -/
def State.thmLevel (s : State) (sensor thr : Nat) : Bool := s.bit (R.THM_STAT + 4 * sensor) thr

/-- Is LEVEL of a threshold 1 at any sensor? -/
def State.thmAny (s : State) (thr : Nat) : Bool := (List.range 24).any (fun n => s.thmLevel n thr)

/-- THERM_ALERT_N is low (16 R415, R416). -/
def State.thermAlert (s : State) : Bool := s.thmAny 0

/-- AOREG in low-power mode or switching (16 R408). -/
def State.modeLp (s : State) : Bool := s.bit R.PWR_AOREG 8
def State.aoSwitching (s : State) : Bool := s.bit R.PWR_AOREG 9
def State.inLp (s : State) : Bool := s.modeLp || s.aoSwitching

/-- A move ends (16 R395). -/
def State.ppEnd (s : State) : State :=
  ((s.modPwr (fun p => { p with pp := none })).inc R.CLK_PP_CHANGE_COUNT).pwrEvt 1

/-- Does a raise wait to be made, one whose write has not failed (16 R396)? -/
def State.ppRaise (s : State) : Bool := s.ppTarget < s.ppCur && s.ao.pwr.failed ≠ some s.ppTarget

/-- Does a voltage change wait to be made? -/
def State.ppNeed (s : State) : Bool :=
  s.ppRaise || (s.ao.pwr.pmbus = 1 && s.ao.pwr.volt ≠ s.ppCur && s.ao.pwr.failed ≠ some s.ppCur)

/-- BUSY follows: a move from its start to its end (16 R395). -/
def State.ppBusy (s : State) : State :=
  let b := match s.ao.pwr.pp with
    | some m => m.kind ≠ .boot || s.ppNeed
    | none => s.ppNeed
  s.setField R.CLK_PP_STATUS 16 16 (b2n b)

/-- Start the voltage change that is due, when no other runs and PMBus can be used (16 R395, R396; Table PWR-8; 21 R492, R493). -/
def State.ppKick (s : State) : State :=
  let p := s.ao.pwr
  if p.pp.isSome || p.pmbus = 0 || s.inLp || !s.ppNeed then s.ppBusy
  else if s.ppRaise then
    if p.pmbus = 2 then ((s.modPwr (fun p => { p with failed := some s.ppTarget })).pwrEvt 9).ppEnd.ppBusy
    else (s.modPwr (fun p => { p with pp := some { kind := .raise, pp := s.ppTarget } })).ppBusy
  else (s.modPwr (fun p => { p with pp := some { kind := .lower, pp := s.ppCur } })).ppBusy

/-- The target PP is evaluated again after one of its terms changed (16 R394 to R396); `cap`: the count of the ceiling that changed. -/
def State.ppEval (s : State) (cap : Option Nat) : State :=
  let tc := tierCeil (s.field R.PWR_TIER 1 0)
  let th := if s.thmAny 1 then s.field R.CLK_THROTTLE_PP 2 0 else 0
  let rq := s.field R.CLK_PP_REQ 2 0
  let t := max rq (max tc th)
  let old := s.ppTarget
  let s := ((s.setField R.CLK_PP_STATUS 10 8 tc).setField R.CLK_PP_STATUS 14 12 th).setField R.CLK_PP_STATUS 6 4 t
  let s := match cap with
    | some k => if old < t then s.inc k else s
    | none => s
  let s := if t = old then s else s.modPwr (fun p => { p with failed := none })
  if s.ppCur < t then
    let s := s.setField R.CLK_PP_STATUS 2 0 t
    if s.ao.pwr.pmbus = 2 && s.ao.pwr.pp.isNone then s.ppEnd.ppKick else s.ppKick
  else s.ppKick

/-- A write of CLK_PP_REQ (16 R394, Table PWR-10). -/
def State.wrPpReq (s : State) (v : Nat) : State := if 5 < v then s.viol else (s.setRegN R.CLK_PP_REQ v).ppEval none

/-- A write of CLK_THROTTLE_PP (16 R394, Table PWR-10). -/
def State.wrThrottle (s : State) (v : Nat) : State :=
  if v < 1 || 5 < v then s.viol else (s.setRegN R.CLK_THROTTLE_PP v).ppEval (some R.CLK_THERM_CAP_COUNT)

/-- A write of CLK_VSETTLE (16 Table PWR-10). -/
def State.wrVsettle (s : State) (v : Nat) : State := if v < 10 || 1000 < v then s.viol else s.setRegN R.CLK_VSETTLE v

/-- PMBUS_WRITE_COMPLETE (16 R395, 21 R492). -/
def execPmbusWriteComplete (s : State) : Out :=
  match s.ao.pwr.pp with
  | none => never "PMBUS_WRITE_COMPLETE"
  | some m =>
    if m.settling then never "PMBUS_WRITE_COMPLETE"
    else
      let s := s.modPwr (fun p => { p with volt := m.pp })
      match m.kind with
      | .boot => .next (s.modPwr (fun p => { p with pp := none, pmbus := 1 })).ppKick
      | .lower => .next s.ppEnd.ppKick
      | .raise =>
        if s.ppTarget < s.ppCur then .next (s.modPwr (fun p => { p with pp := some { m with settling := true } })).ppBusy
        else .next s.ppEnd.ppKick

/-- PMBUS_FAIL (21 R493): a write fails; with `mode`, reading VOUT_MODE has failed for good. -/
def execPmbusFail (mode : Bool) (s : State) : Out :=
  match s.ao.pwr.pp with
  | none => never "PMBUS_FAIL"
  | some m =>
    if m.settling || (mode && m.kind ≠ .boot) then never "PMBUS_FAIL"
    else if mode then .next ((s.modPwr (fun p => { p with pp := none, pmbus := 2 })).pwrEvt 9).ppKick
    else if !m.again then .next (s.modPwr (fun p => { p with pp := some { m with again := true } }))
    else
      let s := (s.modPwr (fun p => { p with failed := some m.pp })).pwrEvt 9
      if m.kind = .boot then .next (s.modPwr (fun p => { p with pp := none, pmbus := 1 })).ppKick else .next s.ppEnd.ppKick

/-- VSETTLE_EXPIRY (16 R395, R396): the dividers switch to the faster point, or to a slower one that became the target meanwhile. -/
def execVsettleExpiry (s : State) : Out :=
  match s.ao.pwr.pp with
  | none => never "VSETTLE_EXPIRY"
  | some m =>
    if !m.settling then never "VSETTLE_EXPIRY"
    else
      let n := max m.pp s.ppTarget
      .next (if n < s.ppCur then s.setField R.CLK_PP_STATUS 2 0 n else s).ppEnd.ppKick

/-- The root PLL loses lock (16 R392). -/
def State.rootUnlock (s : State) : State := ((s.clrBits R.CLK_PP_STATUS 0x20000).inc R.CLK_ROOT_UNLOCK_COUNT).pwrEvt 8

/-- ROOT_UNLOCK (16 R392). -/
def execRootUnlock (s : State) : Out := when' "ROOT_UNLOCK" s.rootLock s.rootUnlock

/-- ROOT_RELOCK (16 R392). -/
def execRootRelock (s : State) : Out := when' "ROOT_RELOCK" (!s.rootLock && s.ao.rst.held ≠ 2 && !s.ao.pwr.refLost) (s.setBits R.CLK_PP_STATUS 0x20000)

/-- The board power tier changes or is confirmed (16 R398). -/
def State.setTier (s : State) (t : Nat) (lost : Bool) : State :=
  let old := s.field R.PWR_TIER 1 0
  let s := s.setRegN R.PWR_TIER (t + b2n lost * 16)
  let s := if t = old then s else (s.inc R.PWR_TIER_CHANGE_COUNT).pwrEvt 2
  s.ppEval (some R.CLK_TIER_CAP_COUNT)

/-! ### Domains -/

/-- The domain that a register belongs to (16 Table PWR-6); c: its copy. -/
def regDom (off c : Nat) : Nat :=
  if 0x1000000 ≤ off || off = R.CORE_CHSEL || off = R.RTU_CHSEL then D.HM
  else match off / 0x10000 with
    | 0 | 0xD | 0xE | 0xF | 0x10 | 0x11 => D.AO
    | 6 => D.GD
    | 7 => D.CL + c % 32 / 4
    | 8 => D.BN
    | 9 => D.RT
    | 0xA => if off ≤ R.CE_CODEC_CLEAR then D.L2N else D.CE
    | 0xB => D.CE
    | 0xC => D.FAB
    | _ => D.HM

/-- The event and violation counters of the HIF, MMU, QM, GX and PT blocks and of the doorbell pages. No register description puts one on HM's save list
(00 R16). -/
def hmCounter (off : Nat) : Bool :=
  if 0x1100000 ≤ off then [R.GDB_ACCEPT_COUNT, R.GDB_REFUSE_COUNT, R.GDB_DONE_COUNT].contains (0x1100000 + off % 0x1000)
  else
    [R.HIF_BAR2_VIOL_COUNT, R.HIF_OUT_GEN_STALL_COUNT, R.HIF_OUT_MARK_STALL_COUNT, R.HIF_IN_STAGE_FULL_COUNT, R.HIF_IN_CREDIT_HOLD_COUNT, R.HIF_AP_XCOUNT,
      R.HIF_AP_DROP_COUNT, R.MMU_INV_DONE_COUNT, R.MMU_INV_REJECT_COUNT, R.MMU_BCAST_FULL_COUNT, R.MMU_FAULT_COUNT, R.MMU_COLD_MISS_COUNT,
      R.MMU_RUN_CLAMP_COUNT, R.QM_ONION_DROP_COUNT, R.QM_OBJ_REJECT_COUNT, R.QM_JOB_ABORT_COUNT, R.QM_FENCE_ERR_COUNT, R.QM_Q_DELAY_COUNT,
      R.QM_Q_REFUSE_COUNT, R.QM_Q_TIMEOUT_COUNT, R.QM_Q_KILL_COUNT, R.QM_Q_ERR_COUNT, R.GX_LAUNCH_COUNT, R.GX_DONE_COUNT, R.GX_REFUSE_COUNT,
      R.GX_HOLD_COUNT, R.PT_ST_SKIP_COUNT, R.PT_SCHED_FRAME_COUNT].contains off ||
    (R.MMU_WALK_COUNT ≤ off && off < R.MMU_WALK_COUNT + 256) || (R.PT_ST_DELAY_COUNT ≤ off && off < R.PT_ST_DELAY_COUNT + 16) ||
    (R.PT_P_RING_FULL_COUNT ≤ off && off ≤ R.PT_P_MISMATCH_COUNT)

/-- Is a register on the save list of its domain (16 R404; 07 R197; 08, 12, 13, 14 register sections)? The spec lists nothing for HM, and says of its
performance counters that they are not on it: the model keeps what is no counter (DESIGN CHOICE, notes/assumptions/40.md). -/
def saved (off : Nat) : Bool :=
  match off / 0x10000 with
  | 6 => [R.GD_CTRL, R.GD_PERIOD, R.GD_STALE_LIMIT, R.GD_HIST_LEN, R.GD_CONF_MIN, R.GD_RING_BASE_LO, R.GD_RING_BASE_HI, R.GD_RING_CTRL].contains off
  | 7 => off ≠ R.CORE_LAST_TRAP
  | 8 => off ≠ R.RAS_STATUS
  | 9 => off ≠ R.RTU_NODE_LIMIT
  | 0xA => [R.CE_GWIN_CTRL, R.CE_GWIN_BASE, R.CE_GWIN_SIZE].contains off
  | 0xB | 0xC => false
  | _ => !(R.DBG_PC_LO ≤ off && off < R.DBG_PC_LO + 64) && off ≠ R.HIF_LINK_STATUS && !hmCounter off

/-- Chosen registers take their reset values. -/
def State.clearRegs (s : State) (p : Nat → Nat → Bool) : State :=
  { s with regs := s.regs.filter (fun k => !p (k.1 % copyStride) (k.1 / copyStride)) }

/-- Registers of DBG that the AO island holds beside the monitor (20 R475): HM's state does not touch them. -/
def monHeld (off : Nat) : Bool := R.DBG_MON_STATUS ≤ off && off ≤ R.DBG_UNLOCK_FAIL_COUNT

/-- The registers of a domain are lost; with `save` the image keeps those on the save list. Halves that a requester has staged for a pair of the domain
(00 R11) stay: the spec does not say what becomes of them (DESIGN CHOICE, notes/assumptions/40.md). -/
def State.domRegs (s : State) (d : Nat) (save : Bool) : State :=
  s.clearRegs (fun off c => regDom off c == d && !monHeld off && !(save && saved off))

/-- Parent of a domain (16 Table PWR-6). -/
def parent (d : Nat) : Nat :=
  if d = D.GD || d = D.HM then D.AO else if d = D.L2N || (D.MEM ≤ d && d < D.CE) || d = D.FEC then D.HM else D.L2N

/-- The domains other than AO that the variant has. -/
def State.domains (s : State) : List Nat := (List.range 21).filter (fun d => d ≠ 0 && s.present d)

/-- OFF or RET. -/
def State.low (s : State) (d : Nat) : Bool := s.dom d < 2

/-- Is every domain other than AO OFF or RET (16 R408)? -/
def State.allLow (s : State) : Bool := s.domains.all s.low

/-- The guard-only configuration (16 R407). -/
def State.guardOnly (s : State) : Bool := s.domains.all (fun d => d = D.GD || d = D.HM || s.low d)

/-- Set SPEED and WIDTH of a link that is up. -/
def State.setLink (s : State) (l : Nat × Nat) : State :=
  if s.dlUp then (s.setField R.HIF_LINK_STATUS 3 0 l.1).setField R.HIF_LINK_STATUS 6 4 l.2 else s

/-- GUARD_ONLY follows the domains, and the link its bit (16 R407, 02 R33). -/
def State.settleOnly (s : State) : State :=
  let g := s.guardOnly
  if g = s.bit R.PWR_STATE_HI 31 then s
  else (s.setField R.PWR_STATE_HI 31 31 (b2n g)).setLink (if g then (1, 1) else s.ao.pwr.best)

/-- A range of a memory loses its contents, but for the banks of a mask (16 R403). -/
def loseBanks (m : Mem) (banks size keep e : Nat) : Mem :=
  ((List.range banks).filter (fun b => !keep.testBit b)).foldl (fun m b => m.lose (size * b) size e) m

/-- A loss number. -/
def State.newLoss (s : State) : Nat × State := (s.free, { s with free := s.free + 1 })

/-- Holders of a domain empty their TLBs and acknowledge (16 R402). -/
def State.holdersOff (s : State) (d : Nat) : State := ((List.range 64).filter (fun h => holderDom h == d)).foldl (fun s h => s.holderOff h) s

/-- A core loses its power: what it held is gone, tile store banks of a mask excepted (16 R402, R403). -/
def State.coreOff (s : State) (c keep : Nat) : State :=
  let s := s.l1CleanBy c (fun _ => true)
  let (e, s) := s.newLoss
  s.modCore c (fun co => { vrf := co.vrf.lose 0 (2 ^ 18) e, ts := loseBanks co.ts 16 32768 keep e })

/-- Work of cluster n ends (16 R401): packets started on its scheduler and work on its cores. -/
def State.leaveCl (s : State) (n keep : Nat) : State :=
  let cs := (List.range 4).map (4 * n + ·)
  let hit := s.allPkts.filter (fun x => (x.1 / 4 == n && x.1 < 32 && x.2.started && x.2.fin.isNone) || cs.any (s.workOn x.2.id))
  let s := s.workEnds hit cs (64 + n) (0x80 + D.CL + n)
  let s := { s with disps := s.disps.filter (·.cluster ≠ n) }
  cs.foldl (fun s c => s.coreOff c keep) s

/-- GD leaves ON (07 R197, 14 R356, 16 R403). -/
def State.leaveGd (s : State) (keep : Nat) : State :=
  let s := ((s.queue 52).pkts.filter (fun p => p.started && p.fin.isNone)).foldl (fun s p => s.pktFault p.id ⟨73, C.DOMAIN_OFF, 0x80 + D.GD, none⟩ 0x80) s
  let s := s.disarm
  let (e, s) := s.newLoss
  let lost := fun (c : CopyDesc) => if c.gsram && !c.isMoved then { c with gLost := true } else c
  { s with
    gd := { sram := loseBanks s.gd.sram 8 262144 keep e, vrf := s.gd.vrf.lose 0 32768 e, clkSeen := s.gd.clkSeen, pin := s.gd.pin }
    copies := s.copies.map (fun (j : CopyJob) => { j with busy := j.busy.map lost }) }

/-- RT leaves ON (13 R341). -/
def State.leaveRt (s : State) : State :=
  let s := (List.range 16).foldl (fun s u =>
    ((s.rtu u).queries.filterMap (·.pkt)).eraseDups.foldl (fun s id => s.pktFault id ⟨38 + u, C.DOMAIN_OFF, 0x40 + u, none⟩ 0x80) s) s
  { s with rtus := List.replicate 16 {} }

/-- CE leaves ON (14 R369, 16 R401). -/
def State.leaveCe (s : State) : State :=
  let s := s.copies.foldl (fun s j => s.pktFault j.pkt ⟨34 + j.eng, C.DOMAIN_OFF, 0x80 + D.CE, none⟩ 0x80) s
  ({ s with copies := [] }.crcOff).clrBits R.PT_ST_STATUS 15

/-- BN leaves ON (12 R322). -/
def State.leaveBn (s : State) : State :=
  match s.pass with
  | none => s
  | some a => { s.pktFault a.pkt ⟨33, C.DOMAIN_OFF, 0x80 + D.BN, none⟩ 0x80 with pass := some { a with tiles := [] } }

/-- A stack loses its power (16 R402): L2 writes back and drops its lines. -/
def State.leaveMem (s : State) (k : Nat) : State :=
  let (e, s) := (s.flushStack k).newLoss
  { s with ms := { s.ms with
    dram := s.ms.dram.lose (k * 2 ^ 40) (2 ^ 34) e
    ue := s.ms.ue.filter (fun g => g / 2 ^ 35 ≠ k)
    ce := s.ms.ce.filter (fun g => g / 2 ^ 35 ≠ k) } }

/-- FEC leaves ON: the RAMs of its cores are lost (16 R403). -/
def State.leaveFec (s : State) : State :=
  let (e, s) := s.newLoss
  let s := s.modRst (fun r => { r with fecs := r.fecs.map (fun f =>
    { f with iram := f.iram.lose 0 (2 ^ 18) e, dram := f.dram.lose 0 (2 ^ 16) e, waitFlash := false, boot := false, imaged := false }) })
  (s.setStage 0 0).setStage 1 0

/-- HM leaves ON (16 R401): every job but those of queue 52 ends. -/
def State.leaveHm (s : State) : State :=
  let hit := s.allPkts.filter (fun x => x.1 < 52 && x.2.open)
  let s := s.workEnds hit [] 74 (0x80 + D.HM)
  (s.qm.slots.map (·.id)).foldl (fun s l => if (s.slot? l).all (fun x => x.abort.isSome) then s else s.launchFault l ⟨74, C.DOMAIN_OFF, 0x80 + D.HM, none⟩ 0x80) s

/-- FAB leaves ON: no port is reachable any more (15 R389). -/
def State.leaveFab (s : State) : State :=
  let s := (s.setDom D.FAB 3).fabLost
  { s with fab := { s.fab with routes := [], wins := [], grps := [], jobs := [], txRem := [0, 0, 0, 0], rxRem := [0, 0, 0, 0] } }

/-- What is kept of a domain's banks on entry to RET (16 R403). -/
def State.retMask (s : State) (d : Nat) : Nat :=
  if d = D.GD then s.field R.PWR_RETMASK_GD 7 0 else s.field (R.PWR_RETMASK_CL + 4 * (d - D.CL)) 15 0

/-- A domain that is ON begins to leave it (16 R401, R402): its work ends, its data is written back, its contents are lost. L2N, and in a CRIT shutdown the stacks, follow
when its transition ends. -/
def State.leave (s : State) (d target : Nat) : State :=
  let keep := if target = 1 then s.retMask d else 0
  let s :=
    if d = D.GD then s.leaveGd keep
    else if D.CL ≤ d && d < D.BN then s.leaveCl (d - D.CL) keep
    else if d = D.BN then s.leaveBn
    else if d = D.RT then s.leaveRt
    else if d = D.CE then s.leaveCe
    else if d = D.FEC then s.leaveFec
    else if d = D.HM then s.leaveHm
    else if d = D.FAB then s.leaveFab
    else if D.MEM ≤ d && d < D.CE then s.leaveMem (d - D.MEM)
    else s
  if d = D.L2N || d = D.HM then s else (s.holdersOff d).domRegs d (target = 0)

/-- L2N has left ON (16 R402): dirty lines go to the stacks that are ON, the rest is discarded. -/
def State.goneL2n (s : State) : State :=
  let s := s.flushL2
  (({ s with ms := { s.ms with l2 := [], l2r := [], l2c := [] }, mmu := { s.mmu with pwc := [], roots := [] } }).holdersOff D.L2N).domRegs D.L2N false

/-- The controllers of HM as reset leaves them: queues, launches, partitions, translation, ingress. -/
def State.hmReset (s : State) : State :=
  { s with
    qm := { nextId := s.qm.nextId }
    pt := {}
    mmu := {}
    stage := []
    hs := { s.hs with lane := [], asks := [], withheld := [] } }

/-- HM has left ON: the link is down (16 R419). In OFF its image keeps its registers and what its controllers hold (notes/assumptions/40.md). -/
def State.goneHm (s : State) (target : Nat) : State :=
  let s := (s.holdersOff D.HM).domRegs D.HM (target = 0)
  let s := { s with ao := { s.ao with perfRem := List.replicate 8 0 } }
  if target = 0 then s else s.hmReset

/-- Has every abort ended (16 R401: onions, fence errors and completions are written before L2N or HM goes off)? -/
def State.abortsOver (s : State) : Bool := s.allPkts.all (fun x => x.2.abort.isNone) && s.qm.slots.all (fun l => l.abort.isNone)

/-- Mark a save image valid or not (16 R404). -/
def State.setImage (s : State) (d : Nat) (v : Bool) : State := s.setField R.PWR_IMAGE_VALID d d (b2n v)

/-- A domain has entered OFF: its image, and saved link parameters (16 R404, R406); banks that RET had kept are lost. -/
def State.enterOff (s : State) (d : Nat) : State :=
  let s := (s.setDom d 0).setImage d true
  let s := s.modPwr (fun p => { p with links := if [13, 14, 15, 16, 19, 20].contains d then (d :: p.links).eraseDups else p.links })
  let (e, s) := s.newLoss
  if d = D.GD then { s with gd := { s.gd with sram := s.gd.sram.lose 0 (2 ^ 21) e } }
  else if D.CL ≤ d && d < D.BN then
    (List.range 4).foldl (fun s i => s.modCore (4 * (d - D.CL) + i) (fun co => { co with ts := co.ts.lose 0 (2 ^ 19) e })) s
  else s

/-- A domain has returned to ON (16 R404, R406). A restored link that does not come up is lost. Control cores reload their images; their boot ROM
measures first when a warm reset found them without power (notes/assumptions/46.md). -/
def State.arrive (s : State) (d left : Nat) (linkUp : Bool) : State :=
  let s := s.setDom d 2
  let s := if left = 0 && !s.bit R.PWR_IMAGE_VALID d then s.domRegs d false else s
  let down := left = 0 && s.ao.pwr.links.contains d && !linkUp
  let s := if !down then s
    else if d = D.HM then s.setBits R.GLB_LINK_STATUS 2
    else if d = D.FAB then s.setBits R.GLB_LINK_STATUS 8
    else if D.MEM ≤ d && d < D.CE then s.setBits R.GLB_STACK_STATUS (2 ^ (12 + d - D.MEM))
    else s
  if d = D.HM then s.lateEvents
  else if d ≠ D.FEC then s else if (s.slot 0).valid then (s.fecReload 0 (s.fec 0).why).fecReload 1 (s.fec 1).why else s.romBegin.romFlash

/-! ### Thermal sensors -/

/-- THM_VALID: is a sensor readable (16 R412)? -/
def State.sensorOn (s : State) (n : Nat) : Bool :=
  if n < 18 then true else if n < 22 then s.present (D.MEM + n - 18) && s.dom (D.MEM + n - 18) == 2
  else n < 24 && s.present D.FAB && s.dom D.FAB == 2

/-- Sensors that became unreadable: LEVEL bits fall without a crossing (16 R412). -/
def State.sensorsOff (s : State) : State :=
  let gone := (List.range 24).filter (fun n => !s.sensorOn n)
  let s := gone.foldl (fun s n => s.clrBits (R.THM_STAT + 4 * n) 15) s
  (s.modPwr (fun p => { p with seen := p.seen.filter (!gone.contains ·), dwell := p.dwell.filter (fun x => !gone.contains (x.1 / 4)) })).ppEval
    (some R.CLK_THERM_CAP_COUNT)

/-! ### Transitions -/

/-- Start a transition (16 R400, R401, R407); a command that takes a domain to ON clears LP_ARM (R409). -/
def State.startMove (s : State) (d target : Nat) (req : Option Nat) : State :=
  let left := s.dom d
  let s := if target = 2 && req.isSome then s.clrBits R.PWR_AOREG 2 else s
  let s := if left = 2 then s.leave d target else s
  let s := s.modPwr (fun p => { p with
    move := some ⟨d, left, target, req⟩, linger := if left = 2 && (d = D.L2N || d = D.HM) then [d] else [] })
  ((s.setDom d 3).settleOnly).settlePin

/-- AOREG begins to switch to the mode that PWR_AOREG.LP asks for (16 R408). -/
def State.aoSwitch (s : State) (lp : Bool) : State :=
  let s := s.setField R.PWR_AOREG 0 0 (b2n lp)
  s.setField R.PWR_AOREG 9 9 (b2n (lp ≠ s.modeLp || s.aoSwitching))

/-- HM returns to ON by itself (16 R411, R418), once AOREG is in normal mode and no transition runs. -/
def State.hmReturn (s : State) : State :=
  let s := s.modPwr (fun p => { p with wakeHm := true })
  if s.inLp || s.ao.pwr.move.isSome || s.ao.pwr.crit ≠ .none then (if s.modeLp && !s.aoSwitching then s.aoSwitch false else s)
  else
    let s := s.modPwr (fun p => { p with wakeHm := false })
    if s.low D.HM then s.startMove D.HM 2 none else s

/-- Every CRIT LEVEL has returned to 0 after a CRIT shutdown (16 R418). -/
def State.critRecover (s : State) : State :=
  if s.ao.pwr.critOff && s.ao.pwr.crit = .none && !s.thmAny 2 then (s.modPwr (fun p => { p with critOff := false })).hmReturn else s

/-- A CRIT shutdown begins (16 R417): work of every domain that goes OFF ends. -/
def State.critBegin (s : State) : State :=
  let ds := s.domains.filter (fun d => d ≠ D.GD && s.dom d ≠ 0)
  let was := ds.filter (fun d => s.dom d = 2)
  let late := was.filter (fun d => d = D.L2N || d = D.HM || (D.MEM ≤ d && d < D.CE))
  let order := (was.filter (fun d => d ≠ D.FEC && !late.contains d)) ++ (was.filter (· = D.FEC)) ++ (was.filter (· = D.HM))
  let s := order.foldl (fun s d => s.leave d 0) s
  let s := ds.foldl (fun s d => s.setDom d 3) s
  ((s.modPwr (fun p => { p with crit := .running, critOff := true, linger := late })).settleOnly).settlePin

/-- GD goes OFF at GDLIM (16 R415). -/
def State.gdLimit (s : State) : State :=
  if !s.thmLevel 15 3 || s.dom D.GD = 0 || s.dom D.GD = 3 then s
  else
    let left := s.dom D.GD
    let s := if left = 2 then s.leave D.GD 0 else s
    (s.enterOff D.GD).settlePin

/-- HM is back after a wake: its source and PWR_EVT.WAKE show (16 R411). -/
def State.wakeShow (s : State) : State :=
  match s.ao.pwr.wakeBy with
  | some i => if s.on D.HM then ((s.modPwr (fun p => { p with wakeBy := none })).setRegN R.PWR_WAKE_CAUSE (2 ^ i)).pwrEvt 7 else s
  | none => s

/-- What follows the end of a transition (16 R407, R409, R411, R412, R415, R417, R418). -/
def State.afterMove (s : State) : State :=
  let s := ((s.settleOnly).sensorsOff.settlePin).gdLimit.wakeShow
  if s.ao.pwr.crit = .due then s.critBegin
  else
    let s := if s.bit R.PWR_AOREG 1 && s.allLow then (s.clrBits R.PWR_AOREG 2).aoSwitch true else s
    let s := if s.ao.pwr.wakeHm then s.hmReturn else s
    s.critRecover

/-- Result of a PWR_DCMD, by the first condition of Table PWR-7 that holds. -/
def State.dcmdResult (s : State) (d t : Nat) : Nat :=
  if s.ao.pwr.move.isSome || s.ao.pwr.crit ≠ .none then 1
  else if d = 0 then 2
  else if d ≤ 20 && !s.present d then 3
  else if d ≤ 20 && t = 2 && s.dom (parent d) ≠ 2 then 4
  else if d ≤ 20 && t < 2 && s.domains.any (fun c => parent c = d && s.dom c = 2) then 5
  else if t = 2 && s.inLp then 6
  else if t = 2 && (s.thmAny 2 || (d = D.GD && s.thmLevel 15 3)) then 7
  else if 20 < d || t = 3 || (s.dom d = 0 && t = 1) then 8
  else 0

/-- A write of PWR_DCMD (16 R400). -/
def State.wrDcmd (s : State) (req : Req) (val : BitVec 32) : State :=
  let d := fld val 4 0
  let t := fld val 9 8
  let r := s.dcmdResult d t
  let own := match s.ao.pwr.move with | some m => m.req = some req.num | none => false
  let res := fun (s : State) (busy : Bool) => s.setRegN (rk R.PWR_DCMD_RESULT req.num) (d + r * 2 ^ 8 + b2n busy * 2 ^ 16)
  if r ≠ 0 then
    let s := (res s own).inc R.PWR_REFUSE_COUNT
    if r = 8 then s.viol else s
  else if s.dom d = t then res s false
  else (res s true).startMove d t (some req.num)

/-- DOMAIN_TRANSITION_DONE (16 R400 to R407): the transition in progress ends; `linkUp` says whether a link that it restores comes up. -/
def execDomainTransitionDone (linkUp : Bool) (s : State) : Out :=
  match s.ao.pwr.move with
  | none => never "DOMAIN_TRANSITION_DONE"
  | some m =>
    if !s.ao.pwr.linger.isEmpty && !s.abortsOver then never "DOMAIN_TRANSITION_DONE"
    else
      let s := if m.left = 2 && m.dom = D.L2N then s.goneL2n else s
      let s := s.modPwr (fun p => { p with move := none, linger := [] })
      let s := if m.left = 2 && m.dom = D.HM then s.goneHm m.target else s
      let s := if m.target = 0 then s.enterOff m.dom else if m.target = 2 then s.arrive m.dom m.left linkUp else s.setDom m.dom 1
      let s := match m.req with
        | some q => ((s.clrBits (rk R.PWR_DCMD_RESULT q) 0x10000).inc R.PWR_TRANSITION_COUNT).pwrEvt 0
        | none => s
      .next s.afterMove

/-- CRIT_SHUTDOWN_DONE (16 R417). -/
def execCritShutdownDone (s : State) : Out :=
  if s.ao.pwr.crit ≠ .running || !s.abortsOver then never "CRIT_SHUTDOWN_DONE"
  else
    let late := s.ao.pwr.linger
    let s := if late.contains D.L2N then s.goneL2n else s
    let s := ((List.range 4).filter (fun k => late.contains (D.MEM + k))).foldl (fun s k => (s.leaveMem k).holdersOff (D.MEM + k)) s
    let s := s.modPwr (fun p => { p with linger := [], crit := .none })
    let s := if late.contains D.HM then s.goneHm 0 else s
    let s := (s.domains.filter (fun d => s.dom d = 3)).foldl (fun s d => s.enterOff d) s
    .next ((s.inc R.PWR_CRIT_OFF_COUNT).pwrEvt 4).afterMove

/-! ### The AO regulator -/

/-- A write of PWR_AOREG (16 R408, R409). -/
def State.wrAoreg (s : State) (val : BitVec 32) : State :=
  let s := s.setField R.PWR_AOREG 1 1 (fld val 1 1)
  if !bitOf val 0 then (if s.bit R.PWR_AOREG 0 then s.aoSwitch false else s)
  else if s.bit R.PWR_AOREG 0 then s
  else if s.allLow then s.aoSwitch true
  else s.inc R.PWR_REFUSE_COUNT

/-- A wake source acts in low-power mode (16 R411): bit i of PWR_WAKE_EN. -/
def State.lpWake (s : State) (i : Nat) : State :=
  if s.modeLp && !s.aoSwitching && s.bit R.PWR_WAKE_EN i then
    ((s.aoSwitch false).modPwr (fun p => { p with wakeBy := some i })).hmReturn
  else s

/-- WAKE_TIMER_EXPIRY (16 R411). -/
def execWakeTimerExpiry (s : State) : Out :=
  when' "WAKE_TIMER_EXPIRY" (s.modeLp && !s.aoSwitching && s.bit R.PWR_WAKE_EN 2 && s.field R.PWR_WAKE_TIMER 23 0 ≠ 0) (s.lpWake 2)

/-! ### Samples and levels -/

/-- Thresholds in 1/8 degree (16 R414). -/
def thmThr (k : Nat) : Int := [760, 840, 920, 1000].getD k 0

/-- The thresholds of a sensor. -/
def thmKinds (n : Nat) : List Nat := if n = 15 then [0, 1, 2, 3] else [0, 1, 2]

/-- Consecutive samples toward the next change of a LEVEL. -/
def State.dwell (s : State) (n k : Nat) : Nat := ((s.ao.pwr.dwell.find? (·.1 == 4 * n + k)).map (·.2)).getD 0

/-- Is a change of a LEVEL due (16 R414)? -/
def State.levelDue (s : State) (n k : Nat) : Bool := 32 ≤ s.dwell n k

/-- One sample of a sensor (16 R413, R414). -/
def State.sample (s : State) (n : Nat) (raw : BitVec 16) : State :=
  let f0 := asInt 16 (s.field (R.THM_TEMP + 4 * n) 15 0)
  let f := if s.ao.pwr.seen.contains n then f0 + (raw.toInt - f0) / 4 else raw.toInt
  let s := s.setRegN (R.THM_TEMP + 4 * n) (raw.toNat * 2 ^ 16 + ofInt 16 f)
  let upd := fun (p : Pwr) (k : Nat) =>
    let ok := if s.thmLevel n k then f ≤ thmThr k - 24 else thmThr k ≤ f
    { p with dwell := storePut (fun _ v => v == 0) (4 * n + k) (if ok then s.dwell n k + 1 else 0) p.dwell }
  s.modPwr (fun p => (thmKinds n).foldl upd { p with seen := (n :: p.seen).eraseDups })

/-- THERMAL_SAMPLE (16 R413): the raw values of sensors 0 to 23; those of sensors that are not readable are not used. -/
def execThermalSample (raws : List (BitVec 16)) (s : State) : Out :=
  if (List.range 24).any (fun n => (thmKinds n).any (s.levelDue n)) || raws.length ≠ 24 then never "THERMAL_SAMPLE"
  else .next (raws.zipIdx.foldl (fun s x => if s.sensorOn x.2 then s.sample x.2 x.1 else s) s)

/-- A LEVEL changes (16 R414): UP or DOWN, the crossing count, and the actions of R415. -/
def State.levelTo (s : State) (n k : Nat) (up : Bool) : State :=
  let s := s.setField (R.THM_STAT + 4 * n) k k (b2n up)
  let m := 2 ^ ((if up then 8 else 16) + k)
  let s := ((s.setBits (R.THM_STAT + 4 * n) m).setBits R.THM_SUMMARY m).inc (R.THM_XCOUNT_WARN + 4 * k)
  let s := s.modPwr (fun p => { p with dwell := p.dwell.filter (·.1 ≠ 4 * n + k) })
  let s := if up then s.pwrEvt 3 else s
  match k with
  | 1 => s.ppEval (some R.CLK_THERM_CAP_COUNT)
  | 2 =>
    if !up then s.critRecover
    else if s.ao.pwr.crit ≠ .none then s
    else if s.ao.pwr.move.isSome then s.modPwr (fun p => { p with crit := .due })
    else s.critBegin
  | 3 => if up then s.gdLimit.pwrEvt 5 else s
  | _ => s

/-- THERMAL_LEVEL_UP (16 R414, R415). -/
def execThermalLevelUp (sensor thr : Nat) (s : State) : Out :=
  when' "THERMAL_LEVEL_UP" (sensor < 24 && (thmKinds sensor).contains thr && s.levelDue sensor thr && !s.thmLevel sensor thr)
    (s.levelTo sensor thr true)

/-- THERMAL_LEVEL_DOWN (16 R414, R418). -/
def execThermalLevelDown (sensor thr : Nat) (s : State) : Out :=
  when' "THERMAL_LEVEL_DOWN" (sensor < 24 && (thmKinds sensor).contains thr && s.levelDue sensor thr && s.thmLevel sensor thr)
    (s.levelTo sensor thr false)

end Sys2Proof.Machine
end

