-- ==== Sys2Proof/Machine/Reset.lean ====
section
/-! DEFINITION. Reset classes, sources and boot (17 R419 to R431; 01 R18; 20 R475, R484; 21 R492, R497). -/

namespace Sys2Proof.Machine

/-- The monitor after a reset (20 R475, R484): locked unless its fuse opens it, 115,200 baud, echo on. -/
def State.monReset (s : State) : State :=
  let s := s.modMon (fun m => { tx := m.tx })
  s.setRegN R.DBG_MON_STATUS (if s.fuses.monOpen then 0x300 else 0x101)

/-- Registers that a cold reset leaves alone (17 Table BOT-3, 18 R462): RST_CAUSE, RST_HOLD_MS, RST_STATUS, the RST counters, the log's count, and PSD. -/
def coldKeeps (off : Nat) : Bool :=
  off / 0x10000 = 0x11 ||
    [R.RST_CAUSE, R.RST_STATUS, R.RST_HOLD_MS, R.RST_FEC_RESTART_COUNT, R.RST_FEC_RESTART_COUNT + 4, R.RST_GLITCH_COUNT, R.RST_STUCK_COUNT,
      R.RST_BOOT_DONE_COUNT, R.RST_LOG_COUNT].contains off

/-- The counters of the monitor, which a warm reset leaves alone (20 "DBG registers"). -/
def monCounter (off : Nat) : Bool := R.DBG_MON_CMD_COUNT ≤ off && off ≤ R.DBG_UNLOCK_FAIL_COUNT

/-- Registers that a warm reset resets (17 Table BOT-3; 02 R56): every block but those of AO, and what Table BOT-3 does not keep of RST. HIF_LINK_STATUS is
among them: LINK_UP shows the link again (notes/assumptions/44.md). -/
def warmResets (off : Nat) : Bool := (off / 0x10000 = 0x10 && !coldKeeps off) || (regDom off 0 ≠ D.AO && !monCounter off)

/-- The control cores as a reset leaves them. -/
def State.fecsReset (s : State) (lose : Bool) : State :=
  let (e, s) := s.newLoss
  let s := s.modRst (fun r => { r with
    doe := {}, slots := List.replicate 8 {}
    fecs := r.fecs.map (fun f => if lose then { iram := f.iram.lose 0 (2 ^ 18) e, dram := f.dram.lose 0 (2 ^ 16) e } else { iram := f.iram, dram := f.dram }) })
  (s.setRegN R.RST_FEC_STATUS 0).setRegN (R.RST_FEC_STATUS + 4) 0

/-- Every engine, pod, walk and line stops at once (17 R422); with `lose` the contents of the cores and the guard go with their power. -/
def State.engineReset (s : State) (lose : Bool) : State :=
  let (e, s) := s.newLoss
  let core := fun (co : Core) => if lose then ({ vrf := co.vrf.lose 0 (2 ^ 18) e, ts := co.ts.lose 0 (2 ^ 19) e } : Core) else { vrf := co.vrf, ts := co.ts }
  { s with
    stage := []
    hs := { mem := s.hs.mem, d3hot := s.hs.d3hot, cfg := s.hs.cfg, cpl := s.hs.cpl, fecRd := s.hs.fecRd, outside := s.hs.outside }
    mmu := {}
    qm := { nextId := s.qm.nextId }
    pt := {}
    fab := { nextReq := s.fab.nextReq, sent := s.fab.sent }
    crc := List.replicate 8 {}
    cores := s.cores.map core
    disps := []
    rtus := List.replicate 16 {}
    pass := none
    copies := []
    gd := { sram := if lose then s.gd.sram.lose 0 (2 ^ 21) e else s.gd.sram, ue := if lose then [] else s.gd.ue, ce := if lose then [] else s.gd.ce
            vrf := if lose then s.gd.vrf.lose 0 32768 e else s.gd.vrf, clkSeen := s.gd.clkSeen } }

/-- What a cold reset does as it begins (17 R421): every domain but AO is OFF. -/
def State.coldBegin (s : State) : State :=
  let s := s.engineReset true
  let (e, s) := s.newLoss
  let s := { s with
    ms := { dram := (List.range 4).foldl (fun m k => m.lose (k * 2 ^ 40) (2 ^ 34) e) s.ms.dram }
    hs := { mem := s.hs.mem, cpl := s.hs.cpl, outside := s.hs.outside }
    ao := { s.ao with pwr := { volt := s.ao.pwr.volt, lpPerst := s.ao.pwr.lpPerst, refLost := s.ao.pwr.refLost, aoOff := s.ao.pwr.aoOff, bad := s.ao.pwr.bad }
                      perfRem := List.replicate 8 0 } }
  ((s.clearRegs (fun off _ => !coldKeeps off)).fecsReset true).monReset

/-- What a warm reset does as it begins (17 R422): dirty L1 lines are discarded, L2 is written back, images lose their registers. -/
def State.warmBegin (s : State) : State :=
  let s := s.engineReset false
  let s := s.flushL2
  let s := { s with ms := { s.ms with l2 := [], l2r := [], l2c := [] }, ao := { s.ao with perfRem := List.replicate 8 0 } }
  let s := (s.clearRegs (fun off _ => warmResets off)).setRegN R.PWR_IMAGE_VALID 0
  (s.fecsReset false).monReset.settleOnly

/-- The boot after a cold reset (17 R424, R430; 01 R18; 21 R492): links train, domains come up, FEC0 measures and reads the flash. -/
def State.coldBoot (s : State) : State :=
  let ok := fun (k : Nat) => !s.ao.pwr.bad.contains k
  let s := (s.setBits R.CLK_PP_STATUS 0x20000).setBits R.GLB_LINK_STATUS 1
  let s := { s with gd := { s.gd with clkSeen := true } }
  let s := ((s.setDom D.HM 2).setDom D.FEC 2).romBegin
  let s := s.setDom D.L2N 2
  let s := (List.range s.fuses.stacks).foldl (fun s k =>
    if ok k then (s.setBits R.GLB_STACK_STATUS (2 ^ (4 + k))).setDom (D.MEM + k) 2 else s.setBits R.GLB_STACK_STATUS (2 ^ (8 + k))) s
  let s := if s.fuses.fio then (if ok 4 then s.setBits R.GLB_LINK_STATUS 4 else s).setDom D.FAB 2 else s
  (s.modPwr (fun p => { p with pp := some { kind := .boot, pp := 5 } })).romFlash.ppBusy

/-- The boot after a warm reset (17 R430): FEC0 measures and reads the flash, where the control cores have power. -/
def State.warmBoot (s : State) : State := if s.on D.FEC then s.romBegin.romFlash else s

/-- Begin a reset of a class (2 cold, 3 warm) for a source (17 R421, Tables BOT-9, BOT-10). -/
def State.resetBegin (s : State) (cls src : Nat) : State :=
  let s := if cls = 2 then s.coldBegin else s.warmBegin
  let s := s.setRegN R.RST_CAUSE (cls + src * 2 ^ 8)
  let s := s.rstLog cls src 0
  s.modRst (fun r => { r with held := cls })

/-- A request is merged into the reset in progress (17 R420). -/
def State.resetMerge (s : State) (src : Nat) : State := (s.setBits R.RST_CAUSE 0x10000).rstLog 0x13 src 0

/-- The reset in progress ends once nothing holds it (17 R420, R424). -/
def State.resetEnd (s : State) : State :=
  let r := s.ao.rst
  if r.held = 0 || r.perst || r.button then s
  else
    let s := s.modRst (fun r => { r with held := 0 })
    if r.held = 3 then s.warmBoot else s.coldBoot

/-- A reset is requested (17 R420). -/
def State.resetReq (s : State) (cls src : Nat) : State :=
  let h := s.ao.rst.held
  if h = 0 || cls < h then s.resetBegin cls src else s.resetMerge src

/-- A write of RST_CTRL (17 Table BOT-10): COLD governs, and WARM merges. -/
def State.wrRstCtrl (s : State) (val : BitVec 32) : State :=
  let s := if bitOf val 1 then s.resetReq 2 4 else s
  (if bitOf val 0 then s.resetReq 3 4 else s).resetEnd

/-- An AO power-on reset (17 Table BOT-3, R421; 18 R462): PERST_N low or high at its end. -/
def State.aoPor (s : State) (perst : Bool) : State :=
  let s := s.coldBegin
  let s := { s with
    regs := []
    ticks := 0
    ao := { s.ao with
      pwr := { volt := s.ao.pwr.volt, refLost := s.ao.pwr.refLost, bad := s.ao.pwr.bad }
      rst := { flash := s.ao.rst.flash, perst := perst, log := [], fecs := s.ao.rst.fecs }
      psd := {}
      mon := {} } }
  let s := (s.monReset).rstLog 1 1 0
  s.resetEnd

/-- AO_POWER_ON (17 R421): VIO_AO has come back; PERST_N is low or high then. -/
def execAoPowerOn (perst : Bool) (bad : List Nat) (s : State) : Out :=
  when' "AO_POWER_ON" s.ao.pwr.aoOff ((s.modPwr (fun p => { p with bad := bad })).aoPor perst)

/-- PERST_ASSERT (17 R420): a cold reset is held. -/
def execPerstAssert (s : State) : Out :=
  if s.ao.rst.perst then never "PERST_ASSERT"
  else
    let w := s.modeLp && s.bit R.PWR_WAKE_EN 0
    let s := s.modRst (fun r => { r with perst := true })
    .next ((s.resetReq 2 2).modPwr (fun p => { p with lpPerst := w }))

/-- PERST_RELEASE (17 R424, 16 R411): `bad`: the die-to-die links that fail training when the cold boot follows. -/
def execPerstRelease (bad : List Nat) (s : State) : Out :=
  if !s.ao.rst.perst then never "PERST_RELEASE"
  else
    let w := s.ao.pwr.lpPerst
    let s := (s.modRst (fun r => { r with perst := false })).modPwr (fun p => { p with bad := bad, lpPerst := false })
    let s := s.resetEnd
    .next (if w then (s.setRegN R.PWR_WAKE_CAUSE 1).pwrEvt 7 else s)

/-- RESET_N_PRESS (17 R427, R428): RESET_N has been low for 20 ms. -/
def execResetNPress (s : State) : Out :=
  if s.ao.rst.button then never "RESET_N_PRESS"
  else
    let s := s.modRst (fun r => { r with button := true, hold := 500000, escalated := false, stuckDone := false })
    .next (((s.setRegN R.RST_HOLD_MS 20).setBits R.RST_STATUS 1).resetReq 3 3)

/-- RESET_N_GLITCH (17 R427). -/
def execResetNGlitch (s : State) : Out := when' "RESET_N_GLITCH" (!s.ao.rst.button) (s.inc R.RST_GLITCH_COUNT)

/-- RESET_N_RELEASE (17 R427): RESET_N has been high for 20 ms; `bad` as for PERST_RELEASE. -/
def execResetNRelease (bad : List Nat) (s : State) : Out :=
  if !s.ao.rst.button then never "RESET_N_RELEASE"
  else
    let s := (s.modRst (fun r => { r with button := false })).modPwr (fun p => { p with bad := bad })
    .next ((s.clrBits R.RST_STATUS 1).resetEnd)

/-- Set RST_HOLD_MS when the count reaches a number of milliseconds. -/
def State.holdTo (s : State) (ms : Nat) : State :=
  (s.modRst (fun r => { r with hold := max r.hold (ms * 25000) })).setRegN R.RST_HOLD_MS (max ms (s.reg R.RST_HOLD_MS).toNat)

/-- RESET_ESCALATE (17 R428). -/
def execResetEscalate (s : State) : Out :=
  when' "RESET_ESCALATE" (s.ao.rst.button && !s.ao.rst.escalated)
    (((s.holdTo 6000).modRst (fun r => { r with escalated := true })).resetReq 2 3)

/-- RESET_STUCK (17 R429). -/
def execResetStuck (s : State) : Out :=
  when' "RESET_STUCK" (s.ao.rst.button && s.ao.rst.escalated && !s.ao.rst.stuckDone)
    (let s := (s.holdTo 60000).modRst (fun r => { r with stuckDone := true })
     ((s.setBits R.RST_STATUS 2).rstLog 0x10 0 (s.reg R.RST_HOLD_MS).toNat).inc R.RST_STUCK_COUNT)

/-- Configuration space goes back to its reset state (17 R423), after a Function Level Reset but for Max Payload Size (PRESUMED from PCI Express,
notes/assumptions/15.md). -/
def State.cfgReset (s : State) (flr : Bool) : State :=
  { s with hs := { s.hs with d3hot := false, cfg := { mps := if flr then s.hs.cfg.mps else 0 } } }

/-- The PCIe link is down. -/
def State.linkGone (s : State) : State :=
  { s with hs := { s.hs with advH := 0, advD := 0, credH := 0, credD := 0 } }.setRegN R.HIF_LINK_STATUS 0

/-- FUNCTION_LEVEL_RESET (02 R32, 17 R423). -/
def execFunctionLevelReset (s : State) : Out := when' "FUNCTION_LEVEL_RESET" s.dlUp (((s.resetReq 3 5).cfgReset true).resetEnd)

/-- HOT_RESET (17 R423): the link goes through its training again. -/
def execHotReset (s : State) : Out := when' "HOT_RESET" s.dlUp (((s.resetReq 3 6).cfgReset false).linkGone.resetEnd)

/-- LINK_DOWN (17 R419): the link goes down while HM is ON and in no transition. -/
def execLinkDown (s : State) : Out := when' "LINK_DOWN" (s.dlUp && s.dom D.HM == 2) (((s.resetReq 3 7).cfgReset false).linkGone.resetEnd)

/-- Clusters of a partition that a partition reset reaches: those that no other enabled partition has. -/
def State.resetClusters (s : State) (p : Nat) : List Nat :=
  (Machine.setBits 8 (s.pClusters p)).filter (fun n => s.on (D.CL + n) && (s.otherParts p).all (fun o => !(s.pClusters o).testBit n))

/-- A write of RST_PRESET (17 R425). -/
def State.wrPreset (s : State) (req : Req) (p : Nat) : State :=
  if s.pState p = .active || s.pState p = .quiescing then s.rstResult req p 1
  else
    let cs := (s.resetClusters p).flatMap (fun n => (List.range 4).map (4 * n + ·))
    let (e, s) := s.newLoss
    let s := cs.foldl (fun s c =>
      ((s.l1CleanBy c (fun _ => true)).modCore c (fun co => { vrf := co.vrf.lose 0 (2 ^ 18) e, ts := co.ts })).emptyTlb c) s
    (s.rstResult req p 0).rstLog 4 0 p

/-- Has an engine named by RST_ERESET no packet in flight and no query slot busy (17 R426)? -/
def State.engineIdle (s : State) (e : Nat) : Bool :=
  if e = 33 then s.pass.isNone && s.executing 32 == 0
  else if e < 38 then s.executing (36 + 4 * (e - 34)) == 0
  else (s.rtu (e - 38)).queries.isEmpty

/-- A write of RST_ERESET (17 R426, R436, R437). -/
def State.wrEreset (s : State) (req : Req) (e : Nat) (load : Bool) : State :=
  if e = 75 || e = 76 then s.wrFecReset req (e - 75) load
  else if e < 33 || 53 < e then (s.rstResult req e 5).viol
  else if !s.engineIdle e then s.rstResult req e 1
  else
    let s := s.emptyTlb e
    let s := if 38 ≤ e then { s with rtus := s.rtus.modify (e - 38) (fun u => { u with cache := [] }) } else s
    (s.rstResult req e 0).rstLog 5 0 e

/-- A halted control core is restarted by its watchdog (17 R440, R437). -/
def State.haltRestart (s : State) (n : Nat) : Option State :=
  if n ≤ 1 && s.fecStage n = 4 && s.on D.FEC then some (s.fecRestart n (s.field (R.RST_FEC_STATUS + 4 * n) 11 8)) else none

/-- REFCLK_LOSS (21 R497, 16 R392). -/
def execRefclkLoss (s : State) : Out :=
  if s.ao.pwr.refLost then never "REFCLK_LOSS"
  else
    let s := s.modPwr (fun p => { p with refLost := true })
    .next ((if s.rootLock then s.rootUnlock else s).settlePin)

/-- REFCLK_RETURN (21 R497): the detector releases the pin. -/
def execRefclkReturn (s : State) : Out := when' "REFCLK_RETURN" s.ao.pwr.refLost ((s.modPwr (fun p => { p with refLost := false })).settlePin)

/-- AO_SUPPLY_LOSS (21 R490, "When VIO_AO falls"). -/
def execAoSupplyLoss (s : State) : Out :=
  when' "AO_SUPPLY_LOSS" (!s.ao.pwr.aoOff) { s.modPwr (fun p => { p with aoOff := true }) with gd := { s.gd with pin := false } }

end Sys2Proof.Machine
end

