-- ==== Sys2Proof/Machine/Psd.lean ====
section
/-! DEFINITION. The pack sense die and the isolated link (18 R441 to R462). -/

namespace Sys2Proof.Machine

/-! ### Codes and levels -/

/-- The code of a voltage in units of 10 mV (18 R443). -/
def vCode (v : Nat) : Nat := (v * 131072 + 500) / 1000

/-- A configuration index. -/
def PsdDie.ix (d : PsdDie) (i : Nat) : Nat := d.cfg.getD i 0

/-- Threshold codes (18 Table PCK-3). -/
def PsdDie.ovCode (d : PsdDie) : Nat := vCode (250 + d.ix 2)
def PsdDie.uvCode (d : PsdDie) : Nat := vCode (150 + d.ix 3)
def PsdDie.tierCode (d : PsdDie) (t : Nat) : Nat := vCode (200 + d.ix (6 + t))
def PsdDie.backCode (d : PsdDie) (t : Nat) : Nat := vCode (200 + d.ix (6 + t) + d.ix 10)

/-- Is an NTC input in use (18 Table PCK-3)? -/
def PsdDie.ntcOn (d : PsdDie) (m : Nat) : Bool := (d.ix 15).testBit m

/-- Minutes since the die's power-on reset (18 Table PCK-4). -/
def PsdDie.minutes (d : PsdDie) : Nat := d.cycle / 150000 % 65536

/-- Write a log entry (18 R459). -/
def PsdDie.note (d : PsdDie) (kind detail : Nat) : PsdDie := { d with log := d.log.set d.head ⟨kind, detail, d.minutes⟩, head := (d.head + 1) % 16 }

/-- VMIN and the cell that holds it, the lowest on a tie (18 R452). -/
def PsdDie.vmin (d : PsdDie) : Nat × Nat :=
  (List.range d.cells).foldl (fun (b : Nat × Nat) n => if d.code.getD n 0 < b.1 then (d.code.getD n 0, n) else b) (d.code.getD 0 0, 0)

/-- A count of consecutive conversions. -/
def streak (n : Nat) (c : Bool) : Nat := if c then n + 1 else 0

/-- Conversion of a cell counts toward the next change of its levels (18 R445); UV holds while SETTLING (18 R444). -/
def PsdDie.seeCell (d : PsdDie) (l : PsdLevel) (c : Nat) : PsdLevel :=
  let ov := d.ovCode
  let uv := d.uvCode
  { l with
    hiN := streak l.hiN (if l.hi then c + 655 ≤ ov else ov < c)
    loN := if d.settling then l.loN else streak l.loN (if l.lo then uv + 655 ≤ c else c < uv) }

/-- Conversion of an NTC input: OT in `hi`, UT in `lo` (18 R446). -/
def PsdDie.seeNtc (d : PsdDie) (l : PsdLevel) (c : Nat) : PsdLevel :=
  let hot := c ≤ d.ix 5
  let cold := d.ix 6 ≤ c || 0xFDE8 ≤ c
  { l with hiN := streak l.hiN (hot != l.hi), loN := streak l.loN (cold != l.lo) }

/-- Bits of the cells' OV and UV levels, and OT or UT of any NTC input. -/
def PsdDie.ovBits (d : PsdDie) : Nat := maskOf ((List.range 16).filter (fun n => (d.lv.getD n {}).hi))
def PsdDie.uvBits (d : PsdDie) : Nat := maskOf ((List.range 16).filter (fun n => (d.lv.getD n {}).lo))
def PsdDie.anyOt (d : PsdDie) : Bool := d.nlv.any (·.hi)
def PsdDie.anyUt (d : PsdDie) : Bool := d.nlv.any (·.lo)

/-- Enabled fault conditions that hold (18 R447). -/
def PsdDie.holds (d : PsdDie) : Nat :=
  let e := fun i (c : Bool) => if c && (d.ix 4).testBit i then 2 ^ i else 0
  e 0 (d.ovBits ≠ 0) + e 1 (d.uvBits ≠ 0) + e 2 d.anyOt + e 3 d.anyUt + e 4 d.refFail

/-- PACK_FAULT_N goes high (18 R447, Table PCK-8). -/
def PsdDie.release (d : PsdDie) : PsdDie := if d.pin then { d with pin := false }.note 5 0 else d

/-- PACK_FAULT_N follows its conditions (18 R447). -/
def PsdDie.settle (d : PsdDie) : PsdDie :=
  let h := d.holds
  let d := (Machine.setBits 5 h).foldl (fun d i => if d.conds.testBit i then d else d.note 4 i) d
  let d := { d with conds := h }
  if h ≠ 0 then { d with pin := true } else if (d.ix 4).testBit 8 then d else d.release

/-- The reported tier changes (18 R452). -/
def PsdDie.toTier (d : PsdDie) (t : Nat) : PsdDie := if t = d.tier then d else { d with tier := t, better := 0 }.note 7 t

/-! ### Balancing and the STATUS frame -/

/-- Is cell n's switch closed (18 R449)? -/
def PsdDie.bleeds (d : PsdDie) (n : Nat) : Bool :=
  (d.ix 11).testBit n && d.ix (16 + n) ≠ 0 && n < d.cells && !(d.lv.getD n {}).lo && !d.anyOt

/-- Source and destination of active balancing (18 R451). -/
def PsdDie.balPair (d : PsdDie) : Nat × Nat :=
  let k := bits (d.ix 12) 3 0
  if (d.ix 12).testBit 4 then (k, k + 1) else (k + 1, k)

/-- Does the source's code exceed the destination's by more than ABAL_STOP (18 R451)? -/
def PsdDie.balApart (d : PsdDie) : Bool :=
  let (a, b) := d.balPair
  d.ix 13 * 65536 + d.code.getD b 0 * 5000 < d.code.getD a 0 * 5000

/-- Does the transfer run in this cycle (18 R451)? -/
def PsdDie.transfers (d : PsdDie) : Bool :=
  let (a, b) := d.balPair
  (d.ix 12).testBit 15 && d.balApart && !(d.lv.getD a {}).lo && !(d.lv.getD b {}).hi && !d.anyOt

/-- Set a configuration index. -/
def PsdDie.setIx (d : PsdDie) (i v : Nat) : PsdDie := { d with cfg := d.cfg.set i v }

/-- Active balancing ends when the difference is small enough (18 R451). -/
def PsdDie.balStop (d : PsdDie) : PsdDie :=
  if (d.ix 12).testBit 15 && !d.balApart then (d.setIx 12 (d.ix 12 - 2 ^ 15)).note 8 (bits (d.ix 12) 3 0) else d

/-- The CRC-8 of the link (18 R455). -/
def psdCrc (bs : List Byte) : Byte := BitVec.ofNat 8 (crcOf ⟨8, 0x2F, 0xFF, false, 0xFF⟩ bs)

/-- Close a frame with its CRC. -/
def psdSeal (bs : List Byte) : List Byte := bs ++ [psdCrc bs]

/-- The 3 bytes of a log entry (18 Table PCK-4). -/
def PsdLog.word (l : PsdLog) : Nat := l.detail + l.kind * 16 + l.time * 256

/-- The STATUS frame of the cycle that has ended (18 Table PCK-4). -/
def PsdDie.compose (d : PsdDie) : PsdDie :=
  let d := { d with
    bal := if d.chk then 0 else maskOf ((List.range 16).filter d.bleeds)
    active := !d.chk && d.transfers }
  let seq := (d.cycle + 255) % 256
  let flags := d.tier + b2n d.settling * 4 + b2n d.chk * 8 + b2n d.pin * 16 + b2n d.por * 32 + b2n d.refFail * 64
  let act := d.ix 12 % 32 + b2n d.active * 32 + b2n d.anyOt * 64 + b2n d.anyUt * 128
  let body := [0xA5, 1, BitVec.ofNat 8 seq, BitVec.ofNat 8 flags] ++ leBytes 2 d.ovBits ++ leBytes 2 d.uvBits ++
    d.code.flatMap (leBytes 2) ++ d.ntc.flatMap (leBytes 2) ++ leBytes 2 d.vmin.1 ++ leBytes 1 (d.vmin.2 + d.head * 16) ++
    leBytes 1 d.next ++ leBytes 2 d.bal ++ leBytes 1 act ++ leBytes 1 d.rxerr ++ leBytes 1 (seq % 32) ++ leBytes 1 (seq % 16) ++
    leBytes 2 (d.ix (seq % 32)) ++ leBytes 3 (d.log.getD (seq % 16) {}).word
  { d with frame := some (psdSeal body) }

/-! ### Cycles -/

/-- Is a change of a level due? -/
def PsdLevel.due (l : PsdLevel) : Bool := 4 ≤ l.hiN || 4 ≤ l.loN

/-- The tier that the dwell counts call for (18 R452). -/
def PsdDie.tierDue (d : PsdDie) : Option Nat :=
  if d.settling || d.refFail then none
  else
    match [3, 2, 1].find? (fun t => d.tier < t && 25 ≤ d.worse.getD (t - 1) 0) with
    | some t => some t
    | none => if 0 < d.tier && 2500 ≤ d.better then some (d.tier - 1) else none

/-- Does something that belongs to the cycle that has ended remain to be done? -/
def PsdDie.due (d : PsdDie) : Bool := d.lv.any (·.due) || d.nlv.any (·.due) || (d.settling && d.left == 0) || d.tierDue.isSome

/-- Is a reference check to run in the coming cycle (18 R453)? -/
def PsdDie.checkDue (d : PsdDie) : Bool := d.refPend || (d.ix 14 ≠ 0 && d.cycle ≠ 0 && d.cycle % (d.ix 14 * 2500) == 0)

/-- A cycle of 400 µs ends. -/
def PsdDie.tick (d : PsdDie) (chk : Bool) : PsdDie := { d with cycle := d.cycle + 1, left := if d.settling then d.left - 1 else d.left, chk := chk }

/-- Dwell counts of the tier decision (18 R452). -/
def PsdDie.dwell (d : PsdDie) : PsdDie :=
  if d.settling then d
  else if d.refFail then { d with worse := [0, 0, 0], better := 0 }
  else
    let v := d.vmin.1
    { d with
      worse := [1, 2, 3].map (fun t => streak (d.worse.getD (t - 1) 0) (v < d.tierCode t))
      better := streak d.better (d.tier ≠ 0 && d.backCode d.tier ≤ v) }

/-- CONVERSION_CYCLE (18 R443 to R446, R449, R451, R452): the codes of the 16 cell slots and the 4 NTC slots. -/
def execConversionCycle (cells ntc : List Nat) (s : State) : Out :=
  let d := s.ao.die
  if !d.powered || d.due || d.refRun || d.checkDue || cells.length ≠ 16 || ntc.length ≠ 4 then never "CONVERSION_CYCLE"
  else
    let code := cells.zipIdx.map (fun x => if x.2 < d.cells then x.1 % 65536 else 0)
    let ntc := ntc.map (· % 65536)
    let d := { d with
      code := code
      ntc := ntc
      lv := d.lv.zipIdx.map (fun (x : PsdLevel × Nat) => if x.2 < d.cells then d.seeCell x.1 (code.getD x.2 0) else {})
      nlv := d.nlv.zipIdx.map (fun (x : PsdLevel × Nat) => if d.ntcOn x.2 then d.seeNtc x.1 (ntc.getD x.2 0) else {}) }
    .next (s.modDie (fun _ => ((d.balStop.dwell).tick false).compose))

/-- A level changes: the pin follows, and the cycle's frame carries it. -/
def PsdDie.moved (d : PsdDie) : PsdDie := d.settle.compose

/-- OV_LEVEL_CHANGE (18 R445, R447). -/
def execOvLevelChange (cell : Nat) (s : State) : Out :=
  let d := s.ao.die
  when' "OV_LEVEL_CHANGE" (d.powered && 4 ≤ (d.lv.getD cell {}).hiN)
    (s.modDie (fun d => { d with lv := d.lv.modify cell (fun l => { l with hi := !l.hi, hiN := 0 }) }.moved))

/-- UV_LEVEL_CHANGE (18 R445, R447). -/
def execUvLevelChange (cell : Nat) (s : State) : Out :=
  let d := s.ao.die
  when' "UV_LEVEL_CHANGE" (d.powered && 4 ≤ (d.lv.getD cell {}).loN)
    (s.modDie (fun d => { d with lv := d.lv.modify cell (fun l => { l with lo := !l.lo, loN := 0 }) }.moved))

/-- NTC_LEVEL_CHANGE (18 R446, R447): OT, or with `ut` UT, of an input. -/
def execNtcLevelChange (m : Nat) (ut : Bool) (s : State) : Out :=
  let l := s.ao.die.nlv.getD m {}
  let f := fun (l : PsdLevel) => if ut then { l with lo := !l.lo, loN := 0 } else { l with hi := !l.hi, hiN := 0 }
  when' "NTC_LEVEL_CHANGE" (s.ao.die.powered && 4 ≤ (if ut then l.loN else l.hiN)) (s.modDie (fun d => { d with nlv := d.nlv.modify m f }.moved))

/-- SETTLING_END (18 R444, R452): the first decision takes the tier directly. -/
def execSettlingEnd (s : State) : Out :=
  let d := s.ao.die
  let v := d.vmin.1
  let t := if d.refFail then 3 else ([1, 2, 3].find? (fun t => d.tierCode t ≤ v)).elim 3 (· - 1)
  when' "SETTLING_END" (d.powered && d.settling && d.left == 0)
    (s.modDie (fun d => ({ d with settling := false, worse := [0, 0, 0], better := 0 }.toTier t).compose))

/-- TIER_DECISION (18 R452). -/
def execTierDecision (s : State) : Out :=
  match s.ao.die.tierDue with
  | some t => when' "TIER_DECISION" s.ao.die.powered (s.modDie (fun d => (d.toTier t).compose))
  | none => never "TIER_DECISION"

/-- PBAL_MINUTE (18 R449): the cells whose timer has run another whole minute since the write that set it. -/
def execPbalMinute (cells : BitVec 16) (s : State) : Out :=
  when' "PBAL_MINUTE" s.ao.die.powered
    (s.modDie (fun d => (Machine.setBits 16 (cells.toNat &&& d.ix 11)).foldl (fun d n => d.setIx (16 + n) (d.ix (16 + n) - 1)) d))

/-- REFCHK_START (18 R453). -/
def execRefchkStart (s : State) : Out :=
  let d := s.ao.die
  when' "REFCHK_START" (d.powered && !d.due && !d.refRun && d.checkDue)
    (s.modDie (fun d => { d with refPend := false, refRun := true, bal := 0, active := false }))

/-! ### Commands at the die -/

/-- Whole cycles of filter settling (18 Table PCK-2). -/
def settleCycles (f : Nat) : Nat := [128, 13, 4, 1].getD f 1

/-- Is a value of an index allowed (18 Table PCK-3, R456)? -/
def PsdDie.allowed (d : PsdDie) (i v : Nat) : Bool :=
  match i with
  | 1 => v ≤ 3
  | 2 => v ≤ 210
  | 3 => v ≤ 200
  | 4 => v &&& 0x11F == v
  | 5 | 6 | 11 => true
  | 7 => v ≤ 255 && d.ix 8 < v
  | 8 => d.ix 9 < v && v < d.ix 7
  | 9 => v < d.ix 8
  | 10 => v ≤ 50
  | 12 => v &&& 0x8F1F == v && v % 16 + 2 ≤ d.cells
  | 13 => 1 ≤ v && v ≤ 255
  | 14 => v ≤ 3600
  | 15 => v ≤ 15
  | _ => v ≤ 480

/-- A WRITE that passes the counter: result and die (18 R456, Table PCK-6). -/
def PsdDie.write (d : PsdDie) (i v : Nat) : Nat × PsdDie :=
  if i = 0 || 32 ≤ i then (3, d)
  else if !d.allowed i v then (4, d)
  else
    let old := d.ix i
    let d := d.setIx i v
    if i = 1 then (0, if v = old then d else { d with settling := true, left := settleCycles v })
    else if i = 4 then (0, d.settle)
    else if i = 15 then (0, { d with nlv := d.nlv.zipIdx.map (fun (x : PsdLevel × Nat) => if d.ntcOn x.2 then x.1 else {}) }.settle)
    else (0, d)

/-- An ACTION that passes the counter (18 Table PCK-7); `delayed`: it arrived during a reference check, which satisfies REFCHK_NOW (18 R453). -/
def PsdDie.act (d : PsdDie) (code : Nat) (delayed : Bool) : Nat × PsdDie :=
  if code = 0x40 then (if d.conds ≠ 0 then (5, d) else (0, d.release))
  else if code = 0x41 then (0, { d with refPend := d.refPend || !delayed })
  else if code = 0x42 then (0, { d with por := false })
  else (3, d)

/-- The die applies a WRITE or ACTION frame and answers it (18 R456, Table PCK-5). -/
def PsdDie.command (d : PsdDie) (f : List Byte) (delayed : Bool) : PsdDie :=
  let wr := f.getD 1 0 == 0x10
  let cnt := (f.getD 2 0).toNat
  let i := (f.getD 3 0).toNat
  let (r, d) :=
    if cnt = d.next then
      let (r, d) := if wr then d.write i (fieldAt f 4 2) else d.act i delayed
      (r, { d with next := (d.next + 1) % 256 })
    else if (cnt + 1) % 256 = d.next then (1, d)
    else (2, d)
  let held := if wr && i < 32 then d.ix i else 0
  let ack := psdSeal ([0xA5, 2, BitVec.ofNat 8 cnt, BitVec.ofNat 8 (r + b2n delayed * 128), BitVec.ofNat 8 i] ++ leBytes 2 held)
  { d with acks := d.acks ++ [ack] }

/-- REFCHK_END (18 R453, R454): the errors of the 16 readings against the trimmed value, in µV. -/
def execRefchkEnd (errs : List Int) (s : State) : Out :=
  let d := s.ao.die
  if !d.powered || !d.refRun || errs.length ≠ 16 then never "REFCHK_END"
  else
    let d := { d with refRun := false }.tick true
    let bad := (List.range 16).find? (fun n => 3000 < (errs.getD n 0).natAbs)
    let d := match bad with
      | some n => ({ { d with refFail := true }.note 6 n with worse := [0, 0, 0], better := 0 }).toTier 3
      | none => if d.refFail then { d with refFail := false, worse := [0, 0, 0], better := 0 } else d
    let d := d.settle
    let d := d.held.foldl (fun d f => d.command f true) { d with held := [] }
    .next (s.modDie (fun _ => d.compose))

/-- What arrives of a frame; `err` are the bits that the lane flipped (empty: none), and a short list cuts the frame. -/
def psdHear (f err : List Byte) : List Byte := if err.isEmpty then f else List.zipWith (· ^^^ ·) f err

/-- Is a frame whole (18 R455)? -/
def psdWhole (f : List Byte) (n : Nat) (sync : Byte) : Bool :=
  f.length == n && f.getD 0 0 == sync && f.getD (n - 1) 0 == psdCrc (f.take (n - 1))

/-- The die receives the oldest frame on the down lane (18 R454 to R457). -/
def PsdDie.receive (d : PsdDie) (f : List Byte) : PsdDie :=
  let k := (f.getD 1 0).toNat
  if !psdWhole f 8 0x5A || k < 0x10 || 0x13 < k then { d with rxerr := (d.rxerr + 1) % 256 }
  else
    let d := { d with quiet := false }
    if k = 0x12 then d
    else if k = 0x13 then d.note 2 0
    else if d.refRun then { d with held := d.held ++ [f] }
    else d.command f false

/-- The oldest frame on the down lane reaches the die when it is of the right kind. -/
def State.downFrame (s : State) (event : String) (kind : Nat → Nat → Bool) (err : List Byte) : Out :=
  match s.ao.psd.down with
  | [] => never event
  | f :: rest =>
    if !s.ao.die.powered || !kind (f.getD 1 0).toNat (f.getD 3 0).toNat then never event
    else .next ((s.modPsd (fun p => { p with down := rest })).modDie (·.receive (psdHear f err)))

/-- PSD_WRITE (18 R456): a WRITE frame, or an ACTION frame of no known code. -/
def execPsdWrite (err : List Byte) (s : State) : Out :=
  s.downFrame "PSD_WRITE" (fun k i => k == 0x10 || (k == 0x11 && (i < 0x40 || 0x42 < i))) err

/-- CLEAR_FAULT (18 R447). -/
def execClearFault (err : List Byte) (s : State) : Out := s.downFrame "CLEAR_FAULT" (fun k i => k == 0x11 && i == 0x40) err

/-- REFCHK_NOW (18 R453). -/
def execRefchkNow (err : List Byte) (s : State) : Out := s.downFrame "REFCHK_NOW" (fun k i => k == 0x11 && i == 0x41) err

/-- CLEAR_POR (18 R441). -/
def execClearPor (err : List Byte) (s : State) : Out := s.downFrame "CLEAR_POR" (fun k i => k == 0x11 && i == 0x42) err

/-- KEEPALIVE (18 R457). -/
def execKeepalive (err : List Byte) (s : State) : Out := s.downFrame "KEEPALIVE" (fun k _ => k == 0x12) err

/-- BROWNOUT (18 R457). -/
def execBrownout (err : List Byte) (s : State) : Out := s.downFrame "BROWNOUT" (fun k _ => k == 0x13) err

/-- HIO_SILENT (18 R457). -/
def execHioSilent (s : State) : Out :=
  when' "HIO_SILENT" (s.ao.die.powered && !s.ao.die.quiet) (s.modDie (fun d => { d with quiet := true }.note 3 0))

/-- PSD_POR (18 R441, R442): the straps as wired. -/
def execPsdPor (straps : BitVec 4) (s : State) : Out :=
  let n := if straps.toNat ≤ 2 then 4 else straps.toNat + 1
  when' "PSD_POR" (!s.ao.die.powered)
    (s.modDie (fun _ => ({ strap := straps.toNat, cells := n } : PsdDie).setIx 0 n))

/-- PSD_VPACK_LOSS (18 R448, 21 "When PSD_VPACK sags"): PACK_FAULT_N is released, and frames on the way to or from the die are lost. -/
def execPsdVpackLoss (s : State) : Out :=
  when' "PSD_VPACK_LOSS" s.ao.die.powered
    ((s.modPsd (fun p => { p with down := [] })).modDie (fun d =>
      { d with powered := false, pin := false, bal := 0, active := false, refRun := false, frame := none, acks := [], held := [] }))

/-! ### The AO side -/

/-- Does the AO logic run (21 R490, R497)? -/
def State.aoRuns (s : State) : Bool := !s.ao.pwr.aoOff && !s.ao.pwr.refLost

/-- A frame goes down the lane; an unpowered die receives nothing. -/
def State.sendDown (s : State) (kind cnt i v : Nat) : State :=
  let f := psdSeal ([0x5A, BitVec.ofNat 8 kind, BitVec.ofNat 8 cnt, BitVec.ofNat 8 i] ++ leBytes 2 v ++ [0])
  if s.ao.die.powered then s.modPsd (fun p => { p with down := p.down ++ [f] }) else s

/-- DOWN_LANE_IDLE (18 R457). -/
def execDownLaneIdle (s : State) : Out := when' "DOWN_LANE_IDLE" (s.aoRuns && !s.inLp && s.ao.psd.down.isEmpty) (s.sendDown 0x12 0 0 0)

/-- Bits of PSD_EVT set: vector 3, and a wake on a new bit that PSD_WAKE_MASK selects (18 R460, 16 R411). -/
def State.psdEvt (s : State) (m : Nat) : State :=
  if m = 0 then s
  else
    let fresh := m &&& ((s.reg R.PSD_EVT).toNat ^^^ 0x7FF)
    let s := (s.setBits R.PSD_EVT m).event 3 []
    if fresh &&& (s.reg R.PSD_WAKE_MASK).toNat ≠ 0 then s.lpWake 1 else s

/-- Send the oldest queued command with Ruwen's counter. -/
def State.psdSend (s : State) : State :=
  match s.ao.psd.queue with
  | [] => s
  | (i, v) :: _ => s.sendDown (if i < 32 then 0x10 else 0x11) s.ao.psd.cnt i v

/-- COMMAND_SEND (18 R458). -/
def execCommandSend (s : State) : Out :=
  let p := s.ao.psd
  if !s.aoRuns || s.inLp || !s.bit R.PSD_LINK_STATUS 0 || p.queue.isEmpty || p.sent.isSome || p.resync then never "COMMAND_SEND"
  else .next (s.psdSend.modPsd (fun p => { p with sent := some { cnt := p.cnt } }))

/-- A write of PSD_CMD (18 R458). -/
def State.wrPsdCmd (s : State) (val : BitVec 32) : State :=
  if 16 ≤ s.ao.psd.queue.length then (s.setBits R.PSD_CMD_STATUS 0x800).viol
  else s.modPsd (fun p => { p with queue := p.queue ++ [(fld val 7 0, fld val 31 16)] })

/-- A command is over. -/
def State.psdDrop (s : State) : State := s.modPsd (fun p => { p with queue := p.queue.tail, sent := none })

/-- A command fails (18 R458). -/
def State.psdFail (s : State) : State :=
  (((s.psdDrop.modPsd (fun p => { p with resync := true })).setBits R.PSD_CMD_STATUS 0x100).inc R.PSD_CMD_FAIL_COUNT).psdEvt 0x200

/-- The counter is set from a STATUS frame, and a command that CNT_ERR refused is sent once more (18 R458). -/
def State.psdResync (s : State) (next : Nat) : State :=
  if !s.ao.psd.resync then s
  else
    let s := s.modPsd (fun p => { p with resync := false, cnt := next })
    match s.ao.psd.sent with
    | some x =>
      if x.wait then (s.psdSend.inc R.PSD_CMD_RETRY_COUNT).modPsd (fun p => { p with sent := some { cnt := next, again := true } }) else s
    | none => s

/-- ACK (18 R455, R458): the oldest ACK frame on the up lane. -/
def execPsdAck (err : List Byte) (s : State) : Out :=
  match s.ao.die.acks with
  | [] => never "ACK"
  | a :: rest =>
    let s := s.modDie (fun d => { d with acks := rest })
    let f := psdHear a err
    if !s.aoRuns then .next s
    else if !psdWhole f 8 0xA5 || f.getD 1 0 ≠ 2 then .next (s.inc R.PSD_RX_CRC_COUNT)
    else
      let i := (f.getD 3 0).toNat
      let r := i % 128
      match s.ao.psd.sent with
      | none => .next s
      | some x =>
        if x.wait || x.cnt ≠ (f.getD 2 0).toNat then .next s
        else
          let s := s.setField R.PSD_CMD_STATUS 23 16 i
          let s := if 128 ≤ i then (s.setBits R.PSD_CMD_STATUS 0x200).inc R.PSD_REFCHK_DELAY_COUNT else s
          let next := s.psdDrop.modPsd (fun p => { p with cnt := (p.cnt + 1) % 256 })
          if r ≤ 1 then
            let k := (f.getD 4 0).toNat
            .next (if k < 32 then next.setRegN (R.PSD_CFG + 4 * k) (fieldAt f 5 2) else next)
          else if r = 2 then
            .next (if x.again then s.psdFail else s.modPsd (fun p => { p with resync := true, sent := some { x with wait := true } }))
          else if r ≤ 5 then .next ((next.setBits R.PSD_CMD_STATUS 0x400).psdEvt 0x400)
          else .next s

/-- ACK_TIMEOUT (18 R458). -/
def execPsdAckTimeout (s : State) : Out :=
  match s.ao.psd.sent with
  | none => never "ACK_TIMEOUT"
  | some x =>
    if x.wait || !s.aoRuns then never "ACK_TIMEOUT"
    else if x.tries < 3 then
      .next ((s.psdSend.inc R.PSD_CMD_RETRY_COUNT).modPsd (fun p => { p with sent := some { x with tries := x.tries + 1 } }))
    else .next s.psdFail

/-- A cell's window copies follow a frame (18 R461, Table PCK-9). -/
def State.psdCell (s : State) (f : List Byte) (n : Nat) : State :=
  let c := fieldAt f (8 + 2 * n) 2
  let act := fieldAt f 0x36 1
  let k := act % 16
  let src := if act.testBit 4 then k else k + 1
  let dst := if act.testBit 4 then k + 1 else k
  let ov := (fieldAt f 4 2).testBit n
  let uv := (fieldAt f 6 2).testBit n
  let key := rk R.PSD_C_STAT n
  let v := b2n ov + b2n uv * 2 + b2n ((fieldAt f 0x34 2).testBit n) * 4 + b2n (n < (s.reg R.PSD_CFG).toNat) * 8 +
    b2n (act.testBit 5 && src = n) * 16 + b2n (act.testBit 5 && dst = n) * 32
  let step := fun (s : State) (i : Nat) (now : Bool) (up cnt : Nat) =>
    if s.bit key i = now then s else (s.setBits key (if now then up else up * 2)).inc (rk cnt n)
  let s := step (step s 0 ov 0x100 R.PSD_C_OV_XCOUNT) 1 uv 0x400 R.PSD_C_UV_XCOUNT
  (s.setField key 5 0 v).setRegN (rk R.PSD_C_VOLT n) (c + (c * 5000 + 32768) / 65536 * 65536)

/-- PSD_NTCm follows a frame: which input is OT or UT follows from the mirrored thresholds and the frame's ACTIVE field. -/
def State.psdNtc (s : State) (f : List Byte) (m : Nat) : State :=
  let c := fieldAt f (0x28 + 2 * m) 2
  let act := fieldAt f 0x36 1
  let on := s.bit (R.PSD_CFG + 60) m
  let ot := on && act.testBit 6 && c ≤ (s.reg (R.PSD_CFG + 20)).toNat
  let opn := on && 0xFDE8 ≤ c
  let ut := on && act.testBit 7 && (opn || (s.reg (R.PSD_CFG + 24)).toNat ≤ c)
  s.setRegN (R.PSD_NTC + 4 * m) (c + b2n ot * 2 ^ 16 + b2n ut * 2 ^ 17 + b2n opn * 2 ^ 18 + b2n on * 2 ^ 19)

/-- A valid STATUS frame is mirrored (18 R459 to R461, 16 R398). -/
def State.psdMirror (s : State) (f : List Byte) : State :=
  let seq := fieldAt f 2 1
  let fl := fieldAt f 3 1
  let ci := fieldAt f 0x38 1 % 32
  let old := (s.reg R.PSD_STATUS).toNat
  let st := fl % 128 + fieldAt f 0x32 1 % 16 * 256 + fieldAt f 0x30 2 * 65536
  let lvls := fun (s : State) => (List.range 16).map (fun n => s.field (rk R.PSD_C_STAT n) 1 0)
  let temps := fun (s : State) => (List.range 4).map (fun m => s.field (R.PSD_NTC + 4 * m) 17 16)
  let head := fieldAt f 0x32 1 / 16
  let wasSync := s.bit R.PSD_LINK_STATUS 0
  let t0 := s
  let s := s.setRegN (R.PSD_CFG + 4 * ci) (fieldAt f 0x3A 2)
  let w := fieldAt f 0x3C 3
  let s := s.setRegN (rk R.PSD_LOG_DATA (fieldAt f 0x39 1 % 16)) (w + b2n (bits w 7 4 ≠ 0) * 2 ^ 31)
  let s := (List.range 16).foldl (fun s n => s.psdCell f n) s
  let s := (List.range 4).foldl (fun s m => s.psdNtc f m) s
  let s := (s.setRegN R.PSD_STATUS st).setRegN R.PSD_PEER_RXERR (fieldAt f 0x37 1)
  let s := if fl.testBit 4 && !old.testBit 4 then s.inc R.PSD_FAULT_COUNT else s
  let s := if fl.testBit 3 then s.inc R.PSD_REFCHK_COUNT else s
  let newHead := head ≠ s.ao.psd.head
  let s := s.modPsd (fun p => { p with seen := if p.seen.contains ci then p.seen else ci :: p.seen, head := head })
  let s := s.setRegN R.PSD_LINK_STATUS (1 + b2n (32 ≤ s.ao.psd.seen.length) * 2 + seq * 2 ^ 8 + fieldAt f 0x33 1 * 2 ^ 16)
  let diff := fun i => old.testBit i != fl.testBit i
  let m := b2n (diff 4) + b2n (old % 4 ≠ fl % 4) * 2 + b2n (lvls t0 ≠ lvls s) * 4 + b2n (temps t0 ≠ temps s) * 8 + b2n (diff 6) * 16 +
    b2n (diff 2) * 32 + b2n (diff 5) * 64 + b2n newHead * 128 + b2n (!wasSync) * 256
  (((s.modPwr (fun p => { p with noTier := false })).psdEvt m).setTier (fl % 4) false).psdResync (fieldAt f 0x33 1)

/-- STATUS_FRAME (18 R455, R459): the frame of the cycle reaches the HIO. -/
def execStatusFrame (err : List Byte) (s : State) : Out :=
  match s.ao.die.frame with
  | none => never "STATUS_FRAME"
  | some f =>
    if s.ao.die.due || !s.aoRuns then never "STATUS_FRAME"
    else
      let s := s.modDie (fun d => { d with frame := none })
      let f := psdHear f err
      if !psdWhole f 64 0xA5 || f.getD 1 0 ≠ 1 then .next (s.inc R.PSD_RX_CRC_COUNT) else .next (s.psdMirror f)

/-- TIER_SOURCE_LOST (16 R398, 18 R460): 10 ms without a valid STATUS frame, be it since reset. -/
def execTierSourceLost (s : State) : Out :=
  when' "TIER_SOURCE_LOST" (s.aoRuns && !s.ao.pwr.noTier)
    (let s := if s.bit R.PSD_LINK_STATUS 0 then (s.clrBits R.PSD_LINK_STATUS 1).psdEvt 0x100 else s
     ((s.modPwr (fun p => { p with noTier := true })).setTier 3 true).pwrEvt 6)

/-- AOREG_BROWNOUT (16 R410, 18 R457): in LP the AO island draws too much and is reset; BROWNOUT goes to the die. -/
def State.brownOut (s : State) : State := (s.aoPor s.ao.rst.perst).sendDown 0x13 0 0 0

/-- AOREG_BROWNOUT (16 R410). -/
def execAoregBrownout (s : State) : Out := when' "AOREG_BROWNOUT" (s.aoRuns && s.modeLp) s.brownOut

end Sys2Proof.Machine
end

