-- ==== Sys2Proof/Machine/RegWrite.lean ====
section
/-! DEFINITION. Reading and writing BAR0 (00 R5 to R16; 02 R35, R43; 16 R399; 20 R482): which access reaches which register, and what a
write of each register does. -/

namespace Sys2Proof.Machine

/-- The copy of a register that an access of a requester reaches (00 R14, R15); none: the channel that the window names is absent. -/
def State.copyOf (s : State) (req : Req) (r : RegRow) : Option Nat :=
  match r.cp with
  | .one => some 0
  | .req => some req.num
  | .win sel n => if s.chan sel req < n then some (s.chan sel req) else none

/-- Can an access reach a register's block now: AO always; another domain only while it is ON and no reset is held (16 R399, 20 R482)? -/
def State.regOpen (s : State) (off c : Nat) : Bool := regDom off c == D.AO || (s.on (regDom off c) && s.ao.rst.held == 0)

/-- The row of a register that the variant has: the FAB block needs an FIO (01 R23). -/
def State.rowAt (s : State) (off : Nat) : Option RegRow :=
  if off / 0x10000 = 0xC && !s.fuses.fio then none else regRow? off

/-- Bits of a register that a write can change. -/
def RegRow.writable (r : RegRow) : Nat := r.rw ||| r.w1c ||| r.wo

/-- Bits of a register that are not reserved. -/
def RegRow.named (r : RegRow) : Nat := r.writable ||| r.ro

/-! ### Reads -/

/-- A word of a pair. -/
def half (v : Nat) (hi : Bool) : Nat := if hi then v / 2 ^ 32 % 2 ^ 32 else v % 2 ^ 32

/-- STATE of a queue (05 Table SUB-16). -/
def QState.code : QState → Nat
  | .disabled => 0
  | .enabled => 1
  | .guilty => 2

/-- Registers of QM that show what a queue holds (05 Tables SUB-15, SUB-16). -/
def State.viewQm (s : State) (off c : Nat) : Option Nat :=
  let u := s.queue c
  if R.QM_CTX_BUSY ≤ off && off < R.QM_CTX_BUSY + 32 then
    some (maskOf ((List.range 32).filter (fun k => s.ctxBusy (8 * (off - R.QM_CTX_BUSY) + k))))
  else if off = R.QM_Q_CTRL then some (b2n (u.st ≠ .disabled && !u.closing))
  else if off = R.QM_Q_STATUS then some ((s.reg (rk off c)).toNat + u.st.code + 2 ^ 8 * (u.pkts.length % 256))
  else if off = R.QM_Q_SUBMIT_LO || off = R.QM_Q_SUBMIT_HI then some (half u.submit (off = R.QM_Q_SUBMIT_HI))
  else if off = R.QM_Q_FETCH_LO || off = R.QM_Q_FETCH_HI then some (half u.fetch (off = R.QM_Q_FETCH_HI))
  else if off = R.QM_Q_DONE_LO || off = R.QM_Q_DONE_HI then some (half u.done (off = R.QM_Q_DONE_HI))
  else if off = R.QM_Q_STRANDS then some u.strandsHeld
  else none

/-- Registers of PT that show what the partition controller holds (06 Tables PRT-8, PRT-9). -/
def State.viewPt (s : State) (off c : Nat) : Option Nat :=
  let e := s.schedEntry (s.field R.PT_SCHED_WIDX 8 8) (s.field R.PT_SCHED_WIDX 7 0)
  if off = R.PT_P_STATUS then some (s.ptStatus c)
  else if off = R.PT_P_FREE then some (s.ptFree c)
  else if off = R.PT_P_RESIDENT then some (s.ptResident c)
  else if off = R.PT_SCHED_WDATA0 then some e.1.toNat
  else if off = R.PT_SCHED_WDATA1 then some e.2.1.toNat
  else if off = R.PT_SCHED_WDATA2 then some e.2.2.toNat
  else none

/-- Registers of CORE that show what a core holds (08 Table COR-10). While its CL is not ON only FENCED and PART of CORE_STATUS can be set. -/
def State.viewCore (s : State) (off c : Nat) : Option Nat :=
  let co := s.core c
  let busy := maskOf (co.pods.map (·.slot))
  let trapped := maskOf ((co.pods.filter (·.trapMode)).map (·.slot))
  if off = R.CORE_STATUS then
    some (b2n (s.fenced c) + 2 * b2n (s.on (D.CL + c / 4)) + 4 * b2n (co.pods.any (·.trapMode)) +
      2 ^ 4 * ((s.clusterOwner (c / 4)).getD 15) + 2 ^ 8 * co.pods.length + 2 ^ 16 * co.wgs.length)
  else if off = R.CORE_SLOT_BUSY_LO || off = R.CORE_SLOT_BUSY_HI then some (half busy (off = R.CORE_SLOT_BUSY_HI))
  else if off = R.CORE_TRAP_MODE_LO || off = R.CORE_TRAP_MODE_HI then some (half trapped (off = R.CORE_TRAP_MODE_HI))
  else none

/-- Registers of PWR, THM, RST and PSD that show other state (16, 17, 18). -/
def State.viewAo (s : State) (req : Req) (off : Nat) : Option Nat :=
  if off = R.PWR_STATE_LO then some ((s.reg off).toNat ||| 2)
  else if off = R.THM_VALID then some (maskOf ((List.range 24).filter s.sensorOn))
  else if off = R.THM_SUMMARY then some ((s.reg off).toNat ||| maskOf ((List.range 4).filter s.thmAny))
  else if off = R.RST_MEAS_INFO then
    let m := s.slot (s.field (rk R.RST_MEAS_SEL req.num) 2 0)
    some (b2n m.valid + 2 ^ 8 * (m.count % 256))
  else if R.RST_MEAS_DATA ≤ off && off < R.RST_MEAS_DATA + 48 then
    some (fieldAt (s.slot (s.field (rk R.RST_MEAS_SEL req.num) 2 0)).digest (off - R.RST_MEAS_DATA) 4)
  else if R.RST_LOG_DATA ≤ off && off < R.RST_LOG_DATA + 16 then
    some (match s.logAt (s.field (rk R.RST_LOG_IDX req.num) 5 0) with
      | some l => fieldAt l.bytes (off - R.RST_LOG_DATA) 4
      | none => 0)
  else if off = R.PSD_CMD_STATUS then
    some ((s.reg off).toNat + b2n (!s.ao.psd.queue.isEmpty) + 2 * s.ao.psd.queue.length)
  else if off = R.PSD_LOG_DATA then some (s.reg (rk off (s.field (rk R.PSD_LOG_IDX req.num) 3 0))).toNat
  else none

/-- Registers that show state held elsewhere. -/
def State.regView (s : State) (req : Req) (off c : Nat) : Option Nat :=
  if 0x1000000 ≤ off then
    if off < 0x1100000 then
      let u := s.queue ((off - 0x1000000) / 0x1000)
      match off % 0x1000 with
      | 0x8 => some (half u.done false)
      | 0xC => some (half u.done true)
      | 0x10 => some ((s.reg off).toNat + 2 * b2n (u.st = .guilty) + 4 * b2n (u.st ≠ .disabled))
      | _ => none
    else none
  else match off / 0x10000 with
    | 0 => s.rdGlb off
    | 2 => if off = R.MMU_HOLDER_PRESENT_HI then some s.presentHi.toNat
      else if off = R.MMU_INV_STATUS then some (s.rdInvStatus req).toNat else none
    | 3 => s.viewQm off c
    | 4 => if off = R.GX_STATUS then some (s.qm.slots.length + 2 ^ 16 * s.qm.fifo.length) else none
    | 5 => s.viewPt off c
    | 7 => s.viewCore off c
    | 9 => if off = R.RTU_STATUS then some (s.rtu c).queries.length else none
    | 0xA => if off = R.CE_STATUS then some (s.executing (36 + 4 * c) + 2 ^ 8 * s.copyLines c) else none
    | 0xC => (s.rdFab off).map (·.toNat)
    | 0xD | 0xF | 0x10 | 0x11 => s.viewAo req off
    | _ => none

/-- The value that a requester's read of an aligned BAR0 offset returns; write-only bits read 0 (00 Table SCP-4, R8, R15). -/
def State.regRead (s : State) (req : Req) (off : Nat) : BitVec 32 :=
  match s.rowAt off with
  | none => 0
  | some r =>
    match s.copyOf req r with
    | none => 0
    | some c =>
      if s.regOpen off c || (off == R.CORE_STATUS && s.regOpen R.CORE_CHSEL 0) then
        BitVec.ofNat 32 ((s.regView req off c).getD (s.reg (rk off c)).toNat) &&& ~~~ BitVec.ofNat 32 r.wo
      else 0

/-- A read as an access: one through a window whose channel is absent is counted (00 R15). -/
def State.readAccess (s : State) (req : Req) (off : Nat) : BitVec 32 × State :=
  (s.regRead req off,
    match s.rowAt off with
    | some r => if (s.copyOf req r).isNone then s.viol else s
    | none => s)

/-! ### Writes -/

/-- A plain register: RW bits take the value, W1C bits written 1 clear (00 Table SCP-4). -/
def State.putPlain (s : State) (r : RegRow) (k : Nat) (val : BitVec 32) : State :=
  let rw := BitVec.ofNat 32 r.rw
  let w1c := BitVec.ofNat 32 r.w1c
  s.modReg k (fun old => ((old &&& ~~~ rw) &&& ~~~ (val &&& w1c)) ||| (val &&& rw))

/-- HIF registers whose write does more than set bits (02 R42, R45, R46). -/
def State.putHif (s : State) (r : RegRow) (off c : Nat) (val : BitVec 32) : State :=
  if off = R.HIF_AP_CTRL then s.wrApCtrl c val
  else if off = R.HIF_AP_BASE || off = R.HIF_AP_SIZE || off = R.HIF_AP_RID then if s.apOn c then s.viol else s.putPlain r (rk off c) val
  else if r.off = R.HIF_MSIX_CTRL then s.msixCtrl ((off - r.off) / 16) val
  else s.putPlain r (rk off c) val

/-- MMU registers (03 R86, R91, Table XLT-14). -/
def State.putMmu (s : State) (req : Req) (r : RegRow) (off c : Nat) (val : BitVec 32) : State :=
  if off = R.MMU_INV_CTRL then (if bitOf val 0 then s.invGo req else s)
  else if off = R.MMU_INV_STATUS then s.wrInvStatus req val
  else if off = R.MMU_BCAST then s.bcast req val
  else s.putPlain r (rk off c) val

/-- QM registers (04 R99; 05 R131 to R133). -/
def State.putQm (s : State) (r : RegRow) (off c : Nat) (val : BitVec 32) : State :=
  if r.off = R.QM_CTX_LOST then s.clearLost ((off - r.off) / 4) val
  else if off = R.QM_Q_CTRL then s.wrQCtrl c val
  else s.putPlain r (rk off c) val

/-- PT registers (06 R156 to R174). -/
def State.putPt (s : State) (req : Req) (r : RegRow) (off c : Nat) (val : BitVec 32) : State :=
  if off = R.PT_ADMIT then s.wrAdmit req val
  else if off = R.PT_REPAIR then s.wrRepair val
  else if off = R.PT_SELFTEST_REQ then s.wrSelftestReq (fld val 3 0)
  else if off = R.PT_SCHED_CTRL then s.wrSchedCtrl val
  else if off = R.PT_SCHED_LEN then s.wrSchedLen val
  else if off = R.PT_SCHED_WDATA2 then s.schedCommit val
  else if off = R.PT_P_CTRL then s.wrPtCtrl c val
  else if off = R.PT_P_CLUSTERS then s.wrPtResize c false val.toNat
  else if off = R.PT_P_CE then s.wrPtResize c true val.toNat
  else if off = R.PT_P_BW then s.wrPtBw c val.toNat
  else if off = R.PT_P_FAV then s.wrPtFav c val.toNat
  else if off = R.PT_P_RING_CTRL then s.wrRingCtrl c val
  else s.putPlain r (rk off c) val

/-- GD registers (07 R179, R184, R186, Table GRD-10). -/
def State.putGd (s : State) (r : RegRow) (off : Nat) (val : BitVec 32) : State :=
  if off = R.GD_CTRL then (s.putPlain r off val).settlePin
  else if off = R.GD_PERIOD then s.wrGdConfig off val.toNat 960
  else if off = R.GD_STALE_LIMIT || off = R.GD_HIST_LEN then s.wrGdConfig off val.toNat 1
  else if off = R.GD_RING_CTRL then s.wrGdRing val
  else if off = R.GD_WAKE then s.wrGdWake val
  else s.putPlain r off val

/-- CE, CRC and RTU registers (13, 14 R348, R368). -/
def State.putUnits (s : State) (r : RegRow) (off c : Nat) (val : BitVec 32) : State :=
  if off = R.RTU_NODE_LIMIT then (if val.toNat < 64 then s.viol else s.putPlain r (rk off c) val)
  else if off = R.CE_CODEC_CLEAR then (if bitOf val 0 then s.setRegN R.CE_CODEC_MAXE 0 else s)
  else if off = R.CRC_CTRL then s.wrCrcCtrl c val
  else if off = R.CRC_FRAME_BYTES then s.wrFrameBytes c val
  else s.putPlain r (rk off c) val

/-- FAB registers (15 R371 to R385). -/
def State.putFab (s : State) (r : RegRow) (off c : Nat) (val : BitVec 32) : State :=
  if off = R.FAB_NODE_ID then s.wrNodeId val
  else if off = R.FAB_RESP_TIMEOUT then s.wrRespTimeout val.toNat
  else if off = R.FAB_LEAVE then s.fabLeave (fld val 10 0)
  else if off = R.FAB_ROUTE_DATA then s.wrRoute val
  else if off = R.FAB_WIN_DATA3 then s.wrWin val
  else if off = R.FAB_GRP_DATA0 || off = R.FAB_GRP_DATA1 || off = R.FAB_GRP_DATA2 then s.wrGrpData ((off - R.FAB_GRP_DATA0) / 4) val
  else if off = R.FAB_GRP_DATA3 then s.wrGrp val
  else if off = R.FAB_P_CTRL then s.wrPortCtrl c val
  else s.putPlain r (rk off c) val

/-- PWR and CLK registers (16 R394 to R409). -/
def State.putPwr (s : State) (req : Req) (r : RegRow) (off : Nat) (val : BitVec 32) : State :=
  if off = R.PWR_DCMD then s.wrDcmd req val
  else if off = R.PWR_AOREG then s.wrAoreg val
  else if off = R.CLK_PP_REQ then s.wrPpReq val.toNat
  else if off = R.CLK_THROTTLE_PP then s.wrThrottle val.toNat
  else if off = R.CLK_VSETTLE then s.wrVsettle val.toNat
  else s.putPlain r off val

/-- RST registers (17 R419 to R440). -/
def State.putRst (s : State) (req : Req) (r : RegRow) (off c : Nat) (val : BitVec 32) : State :=
  if off = R.RST_CTRL then s.wrRstCtrl val
  else if off = R.RST_PRESET then s.wrPreset req (fld val 2 0)
  else if off = R.RST_ERESET then s.wrEreset req (fld val 7 0) (bitOf val 8)
  else if off = R.RST_FEC_KICK then s.wrKick req val
  else if off = R.RST_FLASH_CTRL then s.wrFlash val
  else if r.off = R.RST_FEC_WDT then s.wrWdt ((off - r.off) / 4) val.toNat
  else s.putPlain r (rk off c) val

/-- The monitor locks (20 R487). -/
def State.monLock (s : State) : State := s.setBits R.DBG_MON_STATUS 1

/-- DBG_PCTRL.CLEAR: every performance counter is 0 (20 R489). -/
def State.perfClear (s : State) : State :=
  let s := (List.range 8).foldl (fun s n => s.setPair (R.DBG_PC_LO + 8 * n) 0) s
  { s with ao := { s.ao with perfRem := List.replicate 8 0 } }

/-- DBG registers (20 R487, R489, Table MON-6). -/
def State.putDbg (s : State) (r : RegRow) (off : Nat) (val : BitVec 32) : State :=
  if off = R.DBG_MON_CTRL then (if bitOf val 0 then s.monLock else s)
  else if off = R.DBG_PCTRL then
    let s := s.setField off 0 0 (fld val 0 0)
    if bitOf val 1 then s.perfClear else s
  else if r.off = R.DBG_PSEL then (if 0x11 < fld val 7 0 then s.viol else s.putPlain r off val)
  else s.putPlain r off val

/-- A write of a register that is no half of a pair, its reserved bits taken away. -/
def State.putReg (s : State) (req : Req) (r : RegRow) (off c : Nat) (val : BitVec 32) : State :=
  if 0x1000000 ≤ off then
    if r.off = R.QDB_TAIL then s.queueDoorbell ((off - r.off) / 0x1000) val.toNat else s.putPlain r off val
  else match off / 0x10000 with
    | 1 => s.putHif r off c val
    | 2 => s.putMmu req r off c val
    | 3 => s.putQm r off c val
    | 5 => s.putPt req r off c val
    | 6 => s.putGd r off val
    | 9 | 0xA | 0xB => s.putUnits r off c val
    | 0xC => s.putFab r off c val
    | 0xD | 0xE => s.putPwr req r off val
    | 0x10 => s.putRst req r off c val
    | 0x11 => if off = R.PSD_CMD then s.wrPsdCmd val else s.putPlain r (rk off c) val
    | 0x12 => s.putDbg r off val
    | _ => s.putPlain r (rk off c) val

/-- A write to a half of a pair that another rule discards with both halves, staging nothing (00 R11): how it counts (02 R46; 04 R119; 05 R131,
R134; 06 R158). -/
def State.pairRefused (s : State) (lo c : Nat) : Option State :=
  if lo = R.QM_CTX_TABLE_LO || lo = R.QM_QDESC_TABLE_LO then
    if s.qm.queues.any (fun u => u.st ≠ .disabled) then some (s.inc R.QM_OBJ_REJECT_COUNT) else none
  else if lo = R.GX_GRAPH_TABLE_LO then if s.bit R.GX_CTRL 0 then some (s.inc R.QM_OBJ_REJECT_COUNT) else none
  else if lo = R.HIF_AP_VA_LO then if s.apOn c then some s.viol else none
  else if lo = R.QM_Q_BASE_SEQ_LO then if (s.queue c).st = .disabled then none else some s.viol
  else if lo = R.PT_P_RING_BASE_LO then if s.pState c = .active || s.pState c = .quiescing then some s.viol else none
  else none

/-- The commit of a pair (00 R11). -/
def State.commitPair (s : State) (lo c v : Nat) : State :=
  if 0x1100000 ≤ lo then
    s.launchReq ((lo - 0x1100000) / 0x1000) (bits v 63 48) (bits v 47 6 * 64)
  else if lo = R.HIF_AP_CONSUMED_LO || lo = R.HIF_AP_WM_LO then (s.setPair (rk lo c) v).apEval c
  else if lo = R.PT_P_RING_PUSH_LO then s.ringPush c v
  else if lo = R.PT_P_RING_BASE_LO then s.wrRingBase c v
  else if lo = R.QM_Q_BASE_SEQ_LO then s.wrQBase c v
  else s.setPair (rk lo c) v

/-- A write to half of a pair. -/
def State.putPair (s : State) (req : Req) (r : RegRow) (off c : Nat) (val : BitVec 32) : State :=
  let v := val &&& BitVec.ofNat 32 r.writable
  let lo := if r.pair = .hi then off - 4 else off
  match s.pairRefused lo c with
  | some s => s
  | none =>
    if r.pair = .hi then
      let l := s.staged req (rk lo c)
      (s.unstage req (rk lo c)).commitPair lo c (l.toNat + v.toNat * 2 ^ 32)
    else s.stageLo req (rk lo c) v

/-- A write of a register that can be written, reserved bits discarded. -/
def State.putAny (s : State) (req : Req) (r : RegRow) (off c : Nat) (val : BitVec 32) : State :=
  if r.pair = .none then s.putReg req r off c (val &&& BitVec.ofNat 32 r.named) else s.putPair req r off c val

/-- A write that sets reserved bits is counted once, whatever else it does (00 R8, R10). -/
def State.countRsv (s t : State) (r : RegRow) (val : BitVec 32) : State :=
  if val &&& ~~~ BitVec.ofNat 32 r.named ≠ 0 && t.reg R.GLB_ACCESS_VIOL_COUNT = s.reg R.GLB_ACCESS_VIOL_COUNT then t.viol else t

/-- A requester's write reaches BAR0 (00 R8 to R15). `full`: every byte is enabled. -/
def State.regWrite (s : State) (req : Req) (off : Nat) (val : BitVec 32) (full : Bool) : State :=
  match s.rowAt off with
  | none => s.viol
  | some r =>
    match s.copyOf req r with
    | none => s.viol
    | some c =>
      if !s.regOpen off c then s
      else if !full || r.writable = 0 then s.viol
      else s.countRsv (s.putAny req r off c val) r val

end Sys2Proof.Machine
end

