-- ==== Sys2Proof/Machine/Lane.lean ====
section
/-! DEFINITION. What reaches Ruwen from its requesters and from peers: register writes and their order, writes to apertures, the memory window
(02 R32, R45 to R54; 03 R59, R92; 19 R469, R470), and the walks and line requests that complete. -/

namespace Sys2Proof.Machine

/-- The requester of a number. -/
def reqOf (n : Nat) : Req :=
  match n with
  | 0 => .host
  | 1 => .fec0
  | 2 => .fec1
  | _ => .monitor

/-- Can the host's accesses reach Ruwen: the HIO has its supplies, HM is ON, the HIO's link to the core die is not lost, and the function is not in D3hot
(02 R32; 01 R19)? -/
def State.hostReach (s : State) : Bool := !s.ao.pwr.aoOff && s.on D.HM && !s.bit R.GLB_LINK_STATUS 1 && !s.hs.d3hot

/-- Does a write of MMU_BCAST of a requester wait for the FIFO (03 R92)? -/
def State.holds (s : State) (req : Nat) : Bool := s.mmu.held.any (·.req == req)

/-! ### The memory lane -/

/-- Ask that a BAR2 request in the memory window be counted (02 R54). -/
def State.bar2Viol (s : State) : State := s.inc R.HIF_BAR2_VIOL_COUNT

/-- The local physical address of an offset in the memory window. -/
def State.mwinAddr (s : State) (w : Nat) : Nat := s.pair R.HIF_MWIN_BASE_LO + w

/-- Data of a read completion. -/
def State.complete (s : State) (bs : List Byte) : State := { s.perf 0xF 0 bs.length with hs := { s.hs with cpl := bs } }

/-- A read of the memory window (02 R54, R55). -/
def State.mwinRead (s : State) (w n : Nat) : State :=
  match s.readLoc (s.mwinAddr w) n with
  | (.ok b, s) => s.complete b
  | (.error _, s) => (s.bar2Viol).complete (List.replicate n 0)

/-- A write of the memory window (02 R54, 01 R503). -/
def State.mwinWrite (s : State) (w : Nat) (data : List (Option Byte)) : State :=
  match s.writeMasked (s.mwinAddr w) data false with
  | (.ok _, s) => s
  | (.error _, s) => s.bar2Viol

/-- Enabled bytes of a write. -/
def enabled (data : List (Option Byte)) : List Byte := data.filterMap id

/-- An aperture's write is visible: it counts as arrived, CRC units see it, and the watermark is evaluated (02 R48, R51; 14 R365). -/
def State.apLanded (s : State) (ap : Nat) (data : List (Option Byte)) : State :=
  ((s.bumpPair (rk R.HIF_AP_ARRIVED_LO ap) (enabled data).length).crcFeed ap (enabled data)).apEval ap

/-- The front of the memory lane is done. -/
def State.laneDone (s : State) (ap : Nat) (data : List (Option Byte)) : State :=
  { s with hs := { s.hs with lane := s.hs.lane.tail, asks := [] } }.apLanded ap data

/-- Write the pieces of an aperture write through its translation, until one faults. -/
def State.apPieces (s : State) (c : Nat) (t : Tlb) : List (Nat × Nat) → List (Option Byte) → Option (MErr × Nat) × State
  | [], _ => (none, s)
  | (a, k) :: rest, bs =>
    match s.writeAt ⟨54, 54, c, none, none⟩ a (bs.take k) false (t.apply a) with
    | (.error e, s) => (some (e, a), s)
    | (.ok _, s) => s.apPieces c t rest (bs.drop k)

/-- Perform the aperture write at the front of the lane with its translation (02 R47, R48, R50): all of it or, on a fault, none; a write to another node
is done when it is acknowledged. -/
def State.apPerform (s : State) (ap c va : Nat) (data : List (Option Byte)) (t : Tlb) : State :=
  let n := s.fab.nextReq
  match s.apPieces c t (linePieces va data.length) data with
  | (some (e, a), u) =>
    { u with ms := s.ms, fab := { u.fab with inflight := u.fab.inflight.filter (fun r => r.id < n) } }.apFault ap c a e
  | (none, u) =>
    match (u.fab.inflight.filter (fun r => n ≤ r.id)).map (·.id) with
    | [] => u.laneDone ap data
    | l => { u with hs := { u.hs with asks := l } }

/-- An aperture write is discarded and counted (02 R49). -/
def State.apDrop (s : State) (ap : Nat) : State := s.inc (rk R.HIF_AP_DROP_COUNT ap)

/-- Does the aperture write at the front of the lane wait for a walk? -/
def State.laneWalks (s : State) : Bool := s.mmu.walks.any (·.holder == 54)

/-- Does an aperture's range hold a BAR2 offset? -/
def State.apHolds (s : State) (ap off : Nat) : Bool := s.apBase ap ≤ off && off < s.apBase ap + s.apSize ap

/-- The enabled aperture that a write at a BAR2 offset is in (02 R47). -/
def State.apAt (s : State) (off : Nat) : Option Nat := (List.range 16).find? (fun k => s.apOn k && s.apHolds k off)

/-- A write that reaches the aperture region is discarded and counted, or accepted (02 R47, R49): in guard SRAM it lands at once, else it is answered for the
memory lane. -/
def State.apJudge (s : State) (off rid : Nat) (data : List (Option Byte)) : Option LaneOp × State :=
  match s.apAt off with
  | some ap =>
    let va := s.apVa ap + (off - s.apBase ap)
    if s.bit (rk R.HIF_AP_STATUS ap) 0 || (s.apRidCheck ap && s.field (rk R.HIF_AP_RID ap) 15 0 ≠ rid) then (none, s.apDrop ap)
    else if s.apGuard ap then (none, if s.on D.GD then (s.sramWrite2 va data).apLanded ap data else s.apDrop ap)
    else if s.lost (s.apCtx ap) then (none, s.apDrop ap)
    else (some (.ap ap (s.apCtx ap) va data), s)
  | none =>
    match (List.range 16).find? (fun k => s.apSize k ≠ 0 && s.apHolds k off) with
    | some ap => (none, s.apDrop ap)
    | none => (none, s.bar2Viol)

/-- The aligned words that n bytes at an offset touch, the lower first (00 R9). -/
def wordsAt (off n : Nat) : List Nat := (List.range ((off + n + 3) / 4 - off / 4)).map (fun i => (off / 4 + i) * 4)

/-- A read of n bytes of BAR0 (00 R9, R15): as reads of the words that hold them; the bytes it returns. -/
def State.barRead (s : State) (req : Req) (off n : Nat) : List Byte × State :=
  let (bs, s) := (wordsAt off n).foldl (fun (x : List Byte × State) a =>
    let (v, s) := x.2.readAccess req a
    (x.1 ++ leBytes 4 v.toNat, s)) ([], s)
  ((bs.drop (off % 4)).take n, s)

/-- The front of the memory lane begins, if it does not wait already. -/
def State.laneStart (s : State) (ap c va : Nat) (data : List (Option Byte)) : State :=
  if s.bit (rk R.HIF_AP_STATUS ap) 0 || s.lost c then
    { s with hs := { s.hs with lane := s.hs.lane.tail } }.apDrop ap
  else if 2 ^ 48 ≤ va then (s.xltFault 54 c va ⟨C.XLT_VA_RANGE, 0, 0⟩).apFault ap c va ⟨C.XLT_VA_RANGE, 0, 0⟩
  else match s.tlbFind 54 c va with
    | some t =>
      match s.useErr t .wr with
      | some e => (s.xltFault 54 c va e).apFault ap c va e
      | none => s.apPerform ap c va data t
    | none =>
      let s := s.countWalk 54 c
      { s with mmu := { s.mmu with walks := s.mmu.walks ++ [⟨54, c, va, 0⟩] } }

/-- Serve the lanes in order while their front can go on (19 R469): the writes that wait for a walk or for another node hold those behind them. -/
def State.lanePump : Nat → State → State
  | 0, s => s
  | n + 1, s =>
    if !s.hs.asks.isEmpty || s.laneWalks || s.holds 0 then s
    else match s.hs.lane with
      | [] => s
      | .ap ap c va data :: _ => State.lanePump n (s.laneStart ap c va data)
      | .raw off rid data :: rest =>
        let (o, s) := { s with hs := { s.hs with lane := rest } }.apJudge off rid data
        State.lanePump n (match o with | some o => { s with hs := { s.hs with lane := o :: s.hs.lane } } | none => s)
      | .bar0 off k :: rest =>
        let (bs, s) := { s with hs := { s.hs with lane := rest } }.barRead .host off k
        State.lanePump n (s.complete bs)
      | .window w data :: rest => State.lanePump n ({ s with hs := { s.hs with lane := rest } }.mwinWrite w data)
      | .read off k :: rest => State.lanePump n ({ s with hs := { s.hs with lane := rest } }.mwinRead off k)
      | .reg off val full :: rest => State.lanePump n ({ s with hs := { s.hs with lane := rest } }.regWrite .host off val full)

/-- Serve the lanes. -/
def State.serveLane (s : State) : State := s.lanePump (2 * s.hs.lane.length + 1)

/-- A request joins the memory lane. -/
def State.joinLane (s : State) (o : LaneOp) : State := { s with hs := { s.hs with lane := s.hs.lane ++ [o] } }.serveLane

/-- Bytes of a request that staging holds. -/
def LaneOp.staged : LaneOp → Nat
  | .ap _ _ _ d => d.length
  | .window _ d => d.length
  | .raw _ _ d => d.length
  | _ => 0

/-- A memory-lane write arrives: one that finds 64 KiB of staging full is counted (19 R470). -/
def State.joinMemory (s : State) (o : LaneOp) : State :=
  let used := (s.hs.lane.map LaneOp.staged).sum
  (if 65536 < used + o.staged then s.inc R.HIF_IN_STAGE_FULL_COUNT else s).joinLane o

/-! ### Register writes -/

/-- A write of a requester waits behind a write of MMU_BCAST of its own that a full FIFO holds (03 R92). -/
def State.heldWrite (s : State) (req : Req) (off : Nat) (val : BitVec 32) (full : Bool) : State :=
  if s.holds req.num then { s with mmu := { s.mmu with held := s.mmu.held ++ [⟨req.num, off, val, full⟩] } }
  else s.regWrite req off val full

/-- A requester's write of BAR0: the host's keep their place behind the memory lane (19 R469), and a locked monitor
makes none (20 Table MON-4, R484). -/
def State.cmdWrite (s : State) (req : Req) (off : Nat) (val : BitVec 32) (full : Bool) : State :=
  match req with
  | .host =>
    let reach := s.hostReach
    let s := if reach then s.perf 0x10 0 4 else s
    if !reach then s
    else if s.hs.lane.isEmpty && !s.holds 0 then s.regWrite .host off val full
    else s.joinLane (.reg off val full)
  | .monitor => if s.bit R.DBG_MON_STATUS 0 then s else s.heldWrite .monitor off val full
  | _ => s.heldWrite req off val full

/-- REGISTER_WRITE (00 R5): a write of a register that has no row of its own; a write of any other does what its row does. -/
def execRegisterWrite (req : Req) (off : Nat) (val : W32) (full : Bool) (s : State) : Out := .next (s.cmdWrite req off val full)

/-- Held writes go on while the broadcast FIFO has room, each requester's in order (03 R92). One of MMU_BCAST that comes up behind another and finds the
FIFO full is held, and counted, anew. -/
def State.releaseHeld (s : State) : State :=
  let l := s.mmu.held
  let start := { s with mmu := { s.mmu with held := [] } }
  let (s, kept, _, _) := l.foldl (fun (x : State × List HeldWrite × List Nat × List Nat) h =>
    let (s, kept, blocked, went) := x
    if blocked.contains h.req then (s, kept ++ [h], blocked, went)
    else if h.off == R.MMU_BCAST && 32 ≤ s.mmu.bcast.length then
      (if went.contains h.req then s.inc R.MMU_BCAST_FULL_COUNT else s, kept ++ [h], h.req :: blocked, went)
    else (s.regWrite (reqOf h.req) h.off h.val h.full, kept, blocked, h.req :: went)) (start, [], [], [])
  { s with mmu := { s.mmu with held := kept ++ s.mmu.held } }.serveLane

/-- BCAST_SERVE (03 R91): Ruwen takes the oldest broadcast request. -/
def execBcastServe (s : State) : Out := s.rooted "BCAST_SERVE" <|
  match s.mmu.bcast with
  | b :: rest =>
    if s.mmu.serving.isSome then never "BCAST_SERVE"
    else .next (({ s with mmu := { s.mmu with bcast := rest } }.bcastServe b).releaseHeld)
  | [] => never "BCAST_SERVE"

/-! ### BAR2 -/

/-- Do requests to BAR2 reach Ruwen: as the host's do, with the link up and no reset held? -/
def State.bar2Reach (s : State) : Bool := s.hostReach && s.dlUp && s.ao.rst.held == 0

/-- Does a write of a register wait in the lanes, which a write behind it must not pass (19 R469)? -/
def State.regWaits (s : State) : Bool := s.holds 0 || s.hs.lane.any (fun o => match o with | .reg _ _ _ => true | _ => false)

/-- A write to the aperture region arrives (02 R47, R49; 19 R469): one to an enabled guard aperture takes effect on arrival, any other is judged behind
the writes of registers that came before it (DESIGN CHOICE, notes/assumptions/67.md). -/
def State.apArrive (s : State) (off rid : Nat) (data : List (Option Byte)) : State :=
  if s.regWaits && !(match s.apAt off with | some ap => s.apGuard ap | none => false) then s.joinMemory (.raw off rid data)
  else match s.apJudge off rid data with
    | (some o, s) => s.joinMemory o
    | (none, s) => s

/-- AP_WRITE (02 R47 to R50, 19 R469): a peer's write of at most one 4 KiB page of the aperture region; `rid` is its Requester ID. -/
def execApWrite (off rid : Nat) (data : List (Option Byte)) (s : State) : Out :=
  if data.isEmpty || 4096 < off % 4096 + data.length || 0xF0000000 ≤ off then never "AP_WRITE"
  else if !s.bar2Reach then .next s
  else .next ((s.perf 0x10 0 data.length).apArrive off rid data)

/-- BAR2_READ (02 R49): a read inside the aperture region. -/
def execBar2Read (off n : Nat) (s : State) : Out :=
  if n = 0 || 0xF0000000 < off + n then never "BAR2_READ"
  else if !s.bar2Reach then .next s
  else .next (s.bar2Viol.complete (List.replicate n 0))

/-- MWIN_READ (02 R54): a read of the memory window, in PCIe order behind the writes before it. -/
def execMwinRead (w n : Nat) (s : State) : Out :=
  if n = 0 || 4096 < w % 4096 + n || 2 ^ 28 ≤ w then never "MWIN_READ"
  else if !s.bar2Reach then .next s
  else .next (s.joinLane (.read w n))

/-- MWIN_WRITE (02 R54). -/
def execMwinWrite (w : Nat) (data : List (Option Byte)) (s : State) : Out :=
  if data.isEmpty || 4096 < w % 4096 + data.length || 2 ^ 28 ≤ w then never "MWIN_WRITE"
  else if !s.bar2Reach then .next s
  else .next ((s.perf 0x10 0 data.length).joinMemory (.window w data))

/-! ### Walks and line requests -/

/-- Result of a walk for a line request of a core (03 R59, 08 R228). -/
def State.walkLine (s : State) (c : Nat) (w : Walk) : State :=
  match (s.core c).lines.find? (fun l => l.x.isNone && l.ctx == w.ctx && l.va + l.lo == w.va) with
  | none => s
  | some l =>
    match s.walkFor c w.ctx w.va (fun _ => l.kind.acc) with
    | (.error e, s) => (s.dropLine c l.id).lineFault c l e
    | (.ok t, s) =>
      let x := t.apply w.va
      s.lineGo c l (if x.comp = 0 then { x with addr := x.addr - l.lo } else { x with off := x.off - l.lo })

/-- A line request is done with; what waited for it goes on: requests to other nodes, and the end of its packet (08 R204, R227). -/
def State.lineSettle (s : State) (c : Nat) (l : LineReq) : State :=
  let s := s.askRemotes c
  match l.pkt with
  | some id => s.dispSettle id
  | none => s

/-- Result of a walk for a query of a ray unit. -/
def State.walkQuery (s : State) (u : Nat) (w : Walk) : State :=
  match (s.rtu u).queries.find? (fun q => q.x.isNone && q.bytes.isNone && q.ctx == w.ctx && q.cur.any (fun e => e.va == w.va)) with
  | none => s
  | some q =>
    match q.cur with
    | none => s
    | some e =>
      match s.walkFor (38 + u) w.ctx w.va (fun _ => .rd) with
      | (.error err, s) => s.rayXlated u q e (.error err)
      | (.ok t, s) => s.rayXlated u q e (.ok (t.apply w.va))

/-- Result of a walk for the aperture write at the front of the lane (02 R50). -/
def State.walkLane (s : State) (w : Walk) : State :=
  match s.hs.lane.head? with
  | some (.ap ap c va data) =>
    match s.walkFor 54 w.ctx w.va (fun _ => .wr) with
    | (.error e, s) => s.apFault ap c va e
    | (.ok t, s) => s.apPerform ap c va data t
  | _ => s

/-- WALK_COMPLETE (03 R59, R60, R89): the k-th of the walks in flight finishes, of which the oldest 16 run. One that an invalidation discards brings nothing
and is made again. -/
def execWalkComplete (k : Nat) (s : State) : Out := s.rooted "WALK_COMPLETE" <|
  match ((s.mmu.walks.zipIdx.filter (fun x => x.1.active))[k]?) with
  | some (w, i) =>
    if 16 ≤ k then never "WALK_COMPLETE"
    else if w.redo ≠ 0 then
      let r := (w.redo &&& 10) ||| ((w.redo &&& 5) * 2)
      .next { s with mmu := { s.mmu with walks := s.mmu.walks.set i { w with redo := r } } }
    else
      let s := { s with mmu := { s.mmu with walks := s.mmu.walks.eraseIdx i } }
      if w.holder < 32 then .next (s.walkLine w.holder w)
      else if w.holder = 54 then .next ((s.walkLane w).serveLane)
      else .next (s.walkQuery (w.holder - 38) w)
  | none => never "WALK_COMPLETE"

/-- LINE_REQUEST_COMPLETE (08 R209): a line request of a core whose translation and remote answer have come, and that no earlier one of its lane at the
same byte precedes, is performed. `ev1`, `ev2`: lines that L1 and L2 gave up before; `ue`, `ce`: granules of DRAM in which an uncorrectable or a
correctable error has come up (01 R20, R21). -/
def execLineRequestComplete (core id : Nat) (ev1 ev2 ue ce : List Nat) (s : State) : Out := s.rooted "LINE_REQUEST_COMPLETE" <|
  match (s.core core).lines.find? (·.id == id) with
  | none => never "LINE_REQUEST_COMPLETE"
  | some l =>
    match l.x with
    | none => never "LINE_REQUEST_COMPLETE"
    | some x =>
      if (match x.dest with | .remote _ => l.ans.isEmpty | _ => false) || s.lineWaits core l then never "LINE_REQUEST_COMPLETE"
      else
        match ((s.spoil ue ce).evictLines core ev1 ev2).linePerform core l x with
        | (.error e, s) =>
          if e.cause = C.HOST_WAIT then never "LINE_REQUEST_COMPLETE" else .next (((s.dropLine core id).lineFault core l e).lineSettle core l)
        | (.ok vs, s) =>
          let s := s.dropLine core id
          match (s.core core).ops.find? (·.id == l.op) with
          | some o => .next (((s.deliver core o vs).opStep core l.op).lineSettle core l)
          | none => .next (s.lineSettle core l)

end Sys2Proof.Machine
end

