-- ==== Sys2Proof/Machine/FabRows.lean ====
section
/-! DEFINITION. Packets of other nodes, and the ports of the fabric link (15 R371, R376 to R389). -/

namespace Sys2Proof.Machine

/-- Is the FIO there, trained, linked and powered? -/
def State.fioUp (s : State) : Bool := s.fuses.fio && s.on D.FAB && s.bit R.GLB_LINK_STATUS 2 && !s.bit R.GLB_LINK_STATUS 3 && s.ao.rst.held == 0

/-- Can a packet arrive at a port? -/
def State.portOpen (s : State) (p : Nat) : Bool := s.fioUp && p < 4 && s.portUp p

/-- What waited for a remote node goes on: ingress, member arrays being read, copy engines, partitions that quiesce. -/
def State.fabSettle (s : State) : State := s.serveLane.fabJobsRun.copiesRun.quiesceSettle

/-- PORT_UP (15 R371): a port finishes training. -/
def execPortUp (port : Nat) (s : State) : Out :=
  when' "PORT_UP" (s.fioUp && port < 4 && s.bit (rk R.FAB_P_STATUS port) 1) (s.setRegN (rk R.FAB_P_STATUS port) 1)

/-- PORT_DOWN (15 R380). -/
def execPortDown (port : Nat) (s : State) : Out := when' "PORT_DOWN" (s.portOpen port) ((s.portLost port).fabSettle)

/-- The port of a response to a node: its route's, else the one the request came by (notes/assumptions/33.md). -/
def State.backPort (s : State) (node port : Nat) : Nat :=
  let r := s.route node
  if bitOf r 0 && s.portUp (fld r 2 1) then fld r 2 1 else port

/-- Answer a request: the response, or a refusal with its DETAIL (15 R377, R382). -/
def State.fabReply (s : State) (port src id : Nat) (k : FabKind) (a : Except Nat (List Byte)) : State :=
  let p := s.backPort src port
  match a with
  | .ok b => s.fabSend ⟨p, src, k, id, 0, b, none⟩
  | .error d => s.fabSend ⟨p, src, .refuse, id, d, [], none⟩

/-- READ_REQ (15 R377, R379, R381, R382). -/
def execFabReadReq (port src id addr n : Nat) (s : State) : Out := s.rooted "READ_REQ" <|
  if !s.portOpen port || n = 0 || 128 < n || 2048 ≤ src then never "READ_REQ"
  else
    let (a, s) := (s.fabArrive port .readReq []).serveRead src addr n
    .next (s.fabReply port src id .readRsp a)

/-- WRITE (15 R377, R381, R382): a byte that its mask leaves out is none. -/
def execFabWrite (port src id addr : Nat) (data : List (Option Byte)) (s : State) : Out := s.rooted "WRITE" <|
  if !s.portOpen port || data.isEmpty || 128 < data.length || 2048 ≤ src then never "WRITE"
  else
    match (s.fabArrive port .write (enabled data)).serveWrite src addr data with
    | (.ok _, s) => .next (s.fabReply port src id .writeAck (.ok []))
    | (.error d, s) => .next (s.fabReply port src id .writeAck (.error d))

/-- The atomics that an ATOMIC packet carries, lane by lane: offset from the request's address and operand, and the lanes' compare values (15 R376, R378). -/
def atomLanes (op : Nat) (wide ftz : Bool) (a : List (Nat × Nat)) (b : List Nat) : List (Nat × AtomOp) :=
  a.zipIdx.map (fun (l, k) => (l.1, ⟨op, wide, l.2, b.getD k 0, ftz⟩))

/-- ATOMIC (15 R376, R378, 09 Table ISA-15): the atomics of a line request, in lane order. -/
def execFabAtomic (port src id addr op : Nat) (wide ftz : Bool) (a : List (Nat × Nat)) (b : List Nat) (s : State) : Out := s.rooted "ATOMIC" <|
  let os := atomLanes op wide ftz a b
  let n := if wide then 8 else 4
  if !s.portOpen port || 2048 ≤ src || 10 < op || a.isEmpty || 32 < a.length ||
      a.any (fun l => (addr + l.1) % n ≠ 0 || 128 ≤ addr % 128 + l.1) then never "ATOMIC"
  else
    let (r, s) := (s.fabArrive port .atomic (RemOp.payload (.atm os))).serveAtom src addr os
    .next (s.fabReply port src id .atomicRsp r)

/-- The remote request that a response answers. -/
def State.fabReq? (s : State) (id : Nat) : Option FabReq := s.fab.inflight.find? (·.id == id)

/-- A response has come for a request: whoever made it goes on (15 R377). Read data that no line request awaits is kept until its unit takes it up. -/
def State.fabAnswer (s : State) (r : FabReq) (data : List Byte) : State :=
  let s' := s.dropReq r.id
  match s.laneAsk r.id, s.lineOf r with
  | some (ap, _), _ =>
    let s := { s' with hs := { s'.hs with asks := s'.hs.asks.filter (· ≠ r.id) } }
    if s.hs.asks.isEmpty then
      match s.hs.lane.head? with
      | some (.ap _ _ _ d) => s.laneDone ap d
      | _ => s
    else s
  | none, some l => s'.putLine r.holder { l with ans := l.ans ++ [(r.id, data)] }
  | none, none => if r.kind = .readReq then { s' with fab := { s'.fab with got := s'.fab.got ++ [⟨r, data, none⟩] } } else s'

/-- A response arrives: one that nothing waits for is late (15 R380). -/
def State.fabResponse (s : State) (event : String) (port id : Nat) (k of : FabKind) (data : List Byte) : Out :=
  if !s.portOpen port then never event
  else
    match s.fabReq? id with
    | none => .next ((s.fabArrive port k data).inc R.FAB_LATE_RSP_COUNT)
    | some r => if r.kind = of then .next ((s.fabArrive port k data).fabAnswer r data).fabSettle else never event

/-- READ_RSP (15 R377, R380). -/
def execFabReadRsp (port id : Nat) (data : List Byte) (s : State) : Out := s.rooted "READ_RSP" <| s.fabResponse "READ_RSP" port id .readRsp .readReq data

/-- WRITE_ACK (15 R377). -/
def execFabWriteAck (port id : Nat) (s : State) : Out := s.rooted "WRITE_ACK" <| s.fabResponse "WRITE_ACK" port id .writeAck .write []

/-- ATOMIC_RSP (15 R378). -/
def execFabAtomicRsp (port id : Nat) (data : List Byte) (s : State) : Out := s.rooted "ATOMIC_RSP" <| s.fabResponse "ATOMIC_RSP" port id .atomicRsp .atomic data

/-- REFUSE (15 R382): the access faults with REMOTE_REFUSED and the DETAIL of the refusal. -/
def execFabRefuse (port id detail : Nat) (s : State) : Out := s.rooted "REFUSE" <|
  if !s.portOpen port then never "REFUSE"
  else
    match s.fabReq? id with
    | none => .next ((s.fabArrive port .refuse []).inc R.FAB_LATE_RSP_COUNT)
    | some r => .next (((s.fabArrive port .refuse []).fabFault r ⟨C.REMOTE_REFUSED, detail, 0⟩).fabSettle)

/-- The valid group entry of a GROUP_ID: its context. -/
def State.groupCtx (s : State) (g : Nat) : Option Nat := (s.validGroups.find? (fun x => fld x.2.d0 15 0 == g)).map (·.1)

/-- ABORT (15 R387). -/
def execFabAbort (port group cause origin seq : Nat) (s : State) : Out := s.rooted "ABORT" <|
  if !s.portOpen port || 2048 ≤ origin then never "ABORT"
  else
    let s := s.fabArrive port .abort []
    match s.groupCtx group with
    | none => .next (s.inc R.FAB_ABORT_IGNORED_COUNT)
    | some c =>
      let t := s.inc R.FAB_ABORT_RX_COUNT
      .next (if s.lost c then t else (t.groupAbort c C.REMOTE_FAULT cause (origin + seq % 2 ^ 48 * 2 ^ 16) false false).fabSettle)

/-- RESPONSE_TIMEOUT (15 R380). -/
def execFabResponseTimeout (id : Nat) (s : State) : Out := s.rooted "RESPONSE_TIMEOUT" <|
  match s.fabReq? id with
  | none => never "RESPONSE_TIMEOUT"
  | some r => .next (((s.inc R.FAB_TIMEOUT_COUNT).fabFault r ⟨C.NODE_LEFT, 2, 0⟩).fabSettle)

end Sys2Proof.Machine
end

