-- ==== Sys2Proof/Machine/HifRows.lean ====
section
/-! DEFINITION. The PCI Express link, the host's credits, configuration space, and the die-to-die links (01 R19; 02 R29 to R34, R504; 19 R467). -/

namespace Sys2Proof.Machine

/-- Is a die-to-die link (01 Table PKG-3: 0 to 3 stacks, 4 HIO, 5 FIO) trained, powered and not lost? -/
def State.linkOn (s : State) (k : Nat) : Bool :=
  if k < 4 then s.present (D.MEM + k) && s.on (D.MEM + k) && s.bit R.GLB_STACK_STATUS (4 + k) && !s.stackLost k
  else if k = 4 then s.bit R.GLB_LINK_STATUS 0 && !s.bit R.GLB_LINK_STATUS 1
  else k == 5 && s.fuses.fio && s.on D.FAB && s.bit R.GLB_LINK_STATUS 2 && !s.bit R.GLB_LINK_STATUS 3

/-- FLIT_RETRY (01 R19): a flit that failed is retried; `again`: it is the one that the latest retry did not deliver. Each retry of a flit counts (DESIGN
CHOICE, notes/assumptions/72.md). -/
def execFlitRetry (link : Nat) (again : Bool) (s : State) : Out :=
  let n := if again then s.ms.retries.getD link 0 + 1 else 1
  when' "FLIT_RETRY" (s.linkOn link && n ≤ 32)
    { s.inc (R.GLB_D2D_RETRY_COUNT + 4 * link) with ms := { s.ms with retries := s.ms.retries.set link n } }

/-- LINK_LOST (01 R19): 32 retries of one flit have failed. What uses a lost stack link faults as it comes to it; with the FIO every fabric job fails
(15 R389). -/
def execLinkLost (link : Nat) (s : State) : Out :=
  if !s.linkOn link || s.ms.retries.getD link 0 ≠ 32 then never "LINK_LOST"
  else if link < 4 then .next (s.setBits R.GLB_STACK_STATUS (2 ^ (12 + link)))
  else if link = 4 then .next (s.setBits R.GLB_LINK_STATUS 2)
  else .next (((s.setBits R.GLB_LINK_STATUS 8).fabLost).serveLane)

/-- D_STATE_CHANGE (02 R32): the host moves the function between D0, power state 00, and D3hot, 11; a write of another power state changes nothing (PCI
Express, notes/assumptions/15.md). -/
def execDStateChange (hi lo : Bool) (s : State) : Out :=
  when' "D_STATE_CHANGE" (s.dlUp && s.dom D.HM == 2) (if hi = lo then { s with hs := { s.hs with d3hot := hi } }.drain else s)

/-- L1_EXIT (02 R33): the link leaves L1.1 or L1.2 because a write to host memory is pending. -/
def execL1Exit (s : State) : Out :=
  when' "L1_EXIT" (s.dlUp && 2 ≤ s.field R.HIF_LINK_STATUS 9 8 && !s.hs.waiting.isEmpty) (s.setField R.HIF_LINK_STATUS 9 8 0).drain

/-- The marker reserve for an advertisement (19 R467). -/
def markerReserve (h d : Nat) : Nat × Nat := if h < 16 || d < 64 then (max 1 (h / 2), max 4 (d / 2)) else (8, 32)

/-- LINK_UP (02 R504, R33; 19 R467, R474): the data link layer comes up with a rate, a width and the host's credit advertisement. -/
def execLinkUp (speed width advH advD : Nat) (s : State) : Out :=
  if s.dlUp || s.dom D.HM ≠ 2 || s.ao.rst.held = 2 || s.ao.pwr.aoOff || speed = 0 || 5 < speed || !([1, 2, 4].contains width) then never "LINK_UP"
  else
    let (rh, rd) := markerReserve advH advD
    let s := s.modPwr (fun p => { p with best := (speed, width) })
    let s := (s.setRegN R.HIF_LINK_STATUS (2 ^ 10)).setLink (if s.bit R.PWR_STATE_HI 31 then (1, 1) else (speed, width))
    let s := s.setRegN R.HIF_OUT_RESERVE (rh % 256 + 2 ^ 8 * (rd % 256))
    .next { s with hs := { s.hs with advH := advH, advD := advD, credH := advH, credD := advD } }.drain

/-- HOST_CREDIT_RETURN (19 R467): waiting marker writes go before general ones. -/
def execHostCreditReturn (h d : Nat) (s : State) : Out :=
  when' "HOST_CREDIT_RETURN" (s.dlUp && s.hs.credH + h ≤ s.hs.advH && s.hs.credD + d ≤ s.hs.advD)
    { s with hs := { s.hs with credH := s.hs.credH + h, credD := s.hs.credD + d } }.drain

/-! ### What the operations table has no row for (notes/assumptions/67.md) -/

/-- A base address register as it reads (02 R34, Table HST-3): BAR0 is 64 MiB of 64-bit memory, BAR2 4 GiB of 64-bit prefetchable memory; BAR1 and BAR3 are
their upper halves, BAR4 and BAR5 read 0. -/
def HostCfg.bar (c : HostCfg) (n : Nat) : Nat :=
  match n with
  | 0 => c.bar0 % 2 ^ 32 + 4
  | 1 => c.bar0 / 2 ^ 32
  | 2 => c.bar2 % 2 ^ 32 + 12
  | 3 => c.bar2 / 2 ^ 32
  | _ => 0

/-- Software writes half of a base address: the bits below the BAR's size stay 0. -/
def HostCfg.setBar (c : HostCfg) (n v : Nat) : HostCfg :=
  match n with
  | 0 => { c with bar0 := (c.bar0 / 2 ^ 32 * 2 ^ 32 + v % 2 ^ 32) / 2 ^ 26 * 2 ^ 26 }
  | 1 => { c with bar0 := c.bar0 % 2 ^ 32 + v % 2 ^ 32 * 2 ^ 32 }
  | 2 => { c with bar2 := c.bar2 / 2 ^ 32 * 2 ^ 32 }
  | 3 => { c with bar2 := v % 2 ^ 32 * 2 ^ 32 }
  | _ => c

/-- A field of configuration space, its width in bytes first (02 R29, R30, R34, Table HST-2). -/
def State.cfgField (s : State) (f : CfgField) : Nat × Nat :=
  match f with
  | .vendorId => (2, Config.vendorId.toNat)
  | .deviceId => (2, 0x5A00 + s.fuses.variant)
  | .classCode => (3, 0x120000)
  | .headerType => (1, 0)
  | .subVendorId => (2, s.fuses.subVendor.toNat)
  | .subId => (2, s.fuses.subId.toNat)
  | .bar n => (4, s.hs.cfg.bar n)
  | .serial => (8, s.fuses.serial)
  | .maxPayload => (1, s.hs.cfg.mps)
  | .maxReadReq => (1, s.hs.cfg.mrrs)
  | .ecrc => (1, b2n s.hs.cfg.ecrcGen + 2 * b2n s.hs.cfg.ecrcChk)
  | .msix => (1, b2n s.hs.cfg.msixMask + 2 * b2n s.hs.cfg.msixEn)
  | .power => (1, if s.hs.d3hot then 3 else 0)

/-- The host writes a field of configuration space. Max Payload Size stands for 128 to 512 bytes and Max Read Request Size for 128 to 4,096 (02 Table HST-2):
other codes are not taken. The power state has its own command; the other fields are read-only. -/
def State.cfgPut (s : State) (f : CfgField) (v : Nat) : State :=
  let c := s.hs.cfg
  let put := fun (c : HostCfg) => { s with hs := { s.hs with cfg := c } }
  match f with
  | .bar n => put (c.setBar n v)
  | .maxPayload => if v ≤ 2 then put { c with mps := v } else s
  | .maxReadReq => if v ≤ 5 then put { c with mrrs := v } else s
  | .ecrc => put { c with ecrcGen := v.testBit 0, ecrcChk := v.testBit 1 }
  | .msix => s.msixConfig (v.testBit 1) (v.testBit 0)
  | _ => s

/-- Do configuration requests reach the function? In D3hot they do (02 R32). -/
def State.cfgReach (s : State) : Bool := !s.ao.pwr.aoOff && s.on D.HM && s.dlUp

/-- A host write of bytes to BAR0 comes as writes of the 32-bit words that it touches, the lower first; a word of which a byte is not enabled is discarded
(00 R9, R10). -/
def State.barWrite (s : State) (off : Nat) (data : List (Option Byte)) : State :=
  (wordsAt off data.length).foldl (fun s a =>
    let bs := (List.range 4).map (fun i => if a + i < off then none else (data[a + i - off]?).getD none)
    s.cmdWrite .host a (BitVec.ofNat 32 (leNat (bs.map (·.getD 0)))) (bs.all Option.isSome)) s

/-- Is a control core running, so that its firmware can ask? -/
def State.fecRuns (s : State) (n : Nat) : Bool := s.on D.FEC && s.field (R.RST_FEC_STATUS + 4 * n) 2 0 == 3 && s.ao.rst.held == 0

/-- An access from outside (00 R9, R15; 02 R29 to R34): what a control core reads goes to the core. -/
def State.serveEvt (s : State) (e : HostEvt) : State :=
  match e with
  | .read .host off n => if s.hostReach && s.dlUp then s.joinLane (.bar0 off n) else s
  | .read .monitor _ _ => s
  | .read req off n =>
    let k := req.num - 1
    if s.fecRuns k then
      let (bs, s) := s.barRead req off n
      { s with hs := { s.hs with fecRd := s.hs.fecRd.set k bs } }
    else s
  | .write off data => if s.hostReach && s.dlUp then s.barWrite off data else s
  | .cfgRead f => if s.cfgReach then s.complete (leBytes (s.cfgField f).1 (s.cfgField f).2) else s
  | .cfgWrite f v => if s.cfgReach then s.cfgPut f v else s
  | .linkPm pm => if s.cfgReach then (s.setField R.HIF_LINK_STATUS 9 8 pm.toNat).drain else s

/-- The accesses from outside that wait are taken up. -/
def State.serveOutside (s : State) : State :=
  s.hs.outside.foldl (fun s e => s.serveEvt e) { s with hs := { s.hs with outside := [] } }

end Sys2Proof.Machine
end

