-- ==== Sys2Proof/Machine/IsaFloat.lean ====
section
/-! DEFINITION. The floating-point group (09 R247, Table ISA-12; 10 R276 to R278). -/

namespace Sys2Proof.Machine

/-- A source of w bits under its modifiers: MOD[3] takes the absolute value, then MOD[k] negates (09 R247). -/
def srcMod (w m k v : Nat) : Nat :=
  let v := if m.testBit 3 then v % 2 ^ (w - 1) else v
  if m.testBit k then v ^^^ 2 ^ (w - 1) else v

/-- Write the results of lanes and raise their flags. -/
def State.fpDone (s : State) (r : PodRef) (p : Pod) (op : Nat) (i : Ins) (wide : Bool) (out : List (Nat × FR)) : State :=
  let s := out.foldl (fun s x =>
    let s := s.vput r p i.d x.1 (x.2.w % 2 ^ 32)
    if wide then s.vput r p (i.d + 1) x.1 (x.2.w / 2 ^ 32) else s) s
  s.raise r p (p.pc + insLen op i) (out.map (fun x => (x.1, x.2.fl)))

/-- An FP32 instruction: sources under the modifiers, FTZ and rounding mode of FPCTRL. -/
def f32Op (ev : String) (op : Nat) (r : PodRef) (i : Ins) (s : State) (f : Nat → Bool → Nat → Nat → Nat → FR) : Out :=
  issue ev op r i s (fun s p e =>
    let (cyc, s) := s.cycles r p op i
    let out := (lanesOf e).map (fun l => (l, f p.arith p.ftz (srcMod 32 i.m 0 (s.vget r p i.a l))
      (srcMod 32 i.m 1 (s.vb r p i cyc l)) (srcMod 32 i.m 2 (s.vget r p i.c l))))
    .done (s.fpDone r p op i false out) (latOf op))

/-- Operand b of an FP64 instruction in a lane. -/
def State.vb64 (s : State) (r : PodRef) (p : Pod) (i : Ins) (lane : Nat) : Nat :=
  if i.m.testBit 4 then p.sv64 i i.b else s.vget64 r p i.b lane

/-- An FP64 instruction. -/
def f64Op (ev : String) (op : Nat) (r : PodRef) (i : Ins) (s : State) (f : Nat → Bool → Nat → Nat → Nat → FR) : Out :=
  issue ev op r i s (fun s p e =>
    let out := (lanesOf e).map (fun l => (l, f p.arith p.ftz (srcMod 64 i.m 0 (s.vget64 r p i.a l))
      (srcMod 64 i.m 1 (s.vb64 r p i l)) (srcMod 64 i.m 2 (s.vget64 r p i.c l))))
    .done (s.fpDone r p op i true out) (latOf op))

/-- A compare: the mask and the flags of each lane. -/
def cmpOp (ev : String) (op : Nat) (r : PodRef) (i : Ins) (s : State) (f : Fmt) (a b : State → Pod → Nat → Nat → Nat) : Out :=
  issue ev op r i s (fun s p e =>
    let (cyc, s) := s.cycles r p op i
    let out := (lanesOf e).map (fun l => (l, fpCond f p.ftz i.m (a s p cyc l) (b s p cyc l)))
    let s := s.modPod r (fun q => q.sput i.d (maskOf ((out.filter (fun x => x.2.1)).map (·.1))))
    .done (s.raise r p (p.pc + insLen op i) (out.map (fun x => (x.1, x.2.2)))) (latOf op))

/-- VFADD. -/
def execVfadd (r : PodRef) (i : Ins) (s : State) : Out := f32Op "VFADD" 0x40 r i s (fun m z a b _ => fp32.add m z a b)

/-- VFMUL. -/
def execVfmul (r : PodRef) (i : Ins) (s : State) : Out := f32Op "VFMUL" 0x41 r i s (fun m z a b _ => fp32.mul m z a b)

/-- VFFMA. -/
def execVffma (r : PodRef) (i : Ins) (s : State) : Out := f32Op "VFFMA" 0x42 r i s (fun m z a b c => fp32.fma m z a b c)

/-- VFMIN. -/
def execVfmin (r : PodRef) (i : Ins) (s : State) : Out := f32Op "VFMIN" 0x43 r i s (fun _ z a b _ => fp32.minMax z false a b)

/-- VFMAX. -/
def execVfmax (r : PodRef) (i : Ins) (s : State) : Out := f32Op "VFMAX" 0x44 r i s (fun _ z a b _ => fp32.minMax z true a b)

/-- VFDIV. -/
def execVfdiv (r : PodRef) (i : Ins) (s : State) : Out := f32Op "VFDIV" 0x45 r i s (fun m z a b _ => fp32.div m z a b)

/-- VFSQRT. -/
def execVfsqrt (r : PodRef) (i : Ins) (s : State) : Out := f32Op "VFSQRT" 0x46 r i s (fun m z a _ _ => fp32.sqrt m z a)

/-- VFRCP. -/
def execVfrcp (r : PodRef) (i : Ins) (s : State) : Out := f32Op "VFRCP" 0x47 r i s (fun _ z a _ _ => vfrcp z a)

/-- VFRSQ. -/
def execVfrsq (r : PodRef) (i : Ins) (s : State) : Out := f32Op "VFRSQ" 0x48 r i s (fun _ z a _ _ => vfrsq z a)

/-- VFCMP. -/
def execVfcmp (r : PodRef) (i : Ins) (s : State) : Out :=
  cmpOp "VFCMP" 0x49 r i s fp32 (fun s p _ l => s.vget r p i.a l) (fun s p cyc l => s.vb r p i cyc l)

/-- VFEXP2. -/
def execVfexp2 (r : PodRef) (i : Ins) (s : State) : Out := f32Op "VFEXP2" 0x4A r i s (fun _ z a _ _ => vfexp2 z a)

/-- VFLOG2. -/
def execVflog2 (r : PodRef) (i : Ins) (s : State) : Out := f32Op "VFLOG2" 0x4B r i s (fun _ z a _ _ => vflog2 z a)

/-- An FMA of both 16-bit halves, each modifier applied to both (09 R247, 10 R277). -/
def halfOp (ev : String) (op : Nat) (f : Fmt) (r : PodRef) (i : Ins) (s : State) : Out :=
  issue ev op r i s (fun s p e =>
    let (cyc, s) := s.cycles r p op i
    let half := fun (a b c k : Nat) => f.fma p.arith p.ftz (srcMod 16 i.m 0 (a >>> k % 2 ^ 16)) (srcMod 16 i.m 1 (b >>> k % 2 ^ 16))
      (srcMod 16 i.m 2 (c >>> k % 2 ^ 16))
    let out := (lanesOf e).map (fun l =>
      let a := s.vget r p i.a l
      let b := s.vb r p i cyc l
      let c := s.vget r p i.c l
      let lo := half a b c 0
      let hi := half a b c 16
      (l, FR.mk (lo.w + hi.w * 2 ^ 16) (lo.fl ||| hi.fl) false))
    .done (s.fpDone r p op i false out) 4)

/-- VHFMA. -/
def execVhfma (r : PodRef) (i : Ins) (s : State) : Out := halfOp "VHFMA" 0x50 fp16 r i s

/-- VBFMA. -/
def execVbfma (r : PodRef) (i : Ins) (s : State) : Out := halfOp "VBFMA" 0x51 bf16 r i s

/-- VDADD. -/
def execVdadd (r : PodRef) (i : Ins) (s : State) : Out := f64Op "VDADD" 0x52 r i s (fun m z a b _ => fp64.add m z a b)

/-- VDMUL. -/
def execVdmul (r : PodRef) (i : Ins) (s : State) : Out := f64Op "VDMUL" 0x53 r i s (fun m z a b _ => fp64.mul m z a b)

/-- VDFMA. -/
def execVdfma (r : PodRef) (i : Ins) (s : State) : Out := f64Op "VDFMA" 0x54 r i s (fun m z a b c => fp64.fma m z a b c)

/-- VDDIV. -/
def execVddiv (r : PodRef) (i : Ins) (s : State) : Out := f64Op "VDDIV" 0x55 r i s (fun m z a b _ => fp64.div m z a b)

/-- VDSQRT. -/
def execVdsqrt (r : PodRef) (i : Ins) (s : State) : Out := f64Op "VDSQRT" 0x56 r i s (fun m z a _ _ => fp64.sqrt m z a)

/-- VDCMP. -/
def execVdcmp (r : PodRef) (i : Ins) (s : State) : Out :=
  cmpOp "VDCMP" 0x57 r i s fp64 (fun s p _ l => s.vget64 r p i.a l) (fun s p _ l => s.vb64 r p i l)

end Sys2Proof.Machine
end

