-- ==== Sys2Proof/Machine/Mon.lean ====
section
/-! DEFINITION. The Stolelm monitor: lines, replies, commands, challenge and lock (20 R475 to R487). -/

namespace Sys2Proof.Machine

/-! ### Text -/

/-- The bytes of an ASCII text. -/
def ascii (t : String) : List Byte := t.toList.map (fun c => BitVec.ofNat 8 c.toNat)

/-- An uppercase hexadecimal digit. -/
def hexDigit (d : Nat) : Byte := BitVec.ofNat 8 (if d % 16 < 10 then 48 + d % 16 else 55 + d % 16)

/-- n hexadecimal digits of a value. -/
def hexN : Nat → Nat → List Byte
  | 0, _ => []
  | n + 1, v => hexN n (v / 16) ++ [hexDigit v]

/-- A 32-bit value as 8 digits (20 R479). -/
def hex32 (v : Nat) : List Byte := hexN 8 v

/-- n decimal digits of a value, leading zeros kept. -/
def decN : Nat → Nat → List Byte
  | 0, _ => []
  | n + 1, v => decN n (v / 10) ++ [BitVec.ofNat 8 (48 + v % 10)]

/-- A value in decimal without leading zeros. -/
def decimal (v : Nat) : List Byte :=
  match (decN 10 v).dropWhile (fun c => c == 48) with
  | [] => [48]
  | l => l

/-- Words of a line with a space between each two. -/
def spaced : List (List Byte) → List Byte
  | [] => []
  | [w] => w
  | w :: t => w ++ 32 :: spaced t

/-- Bytes as 32-bit values, least significant byte first, in groups of 8 digits. -/
def groups (bs : List Byte) : List (List Byte) := (List.range (bs.length / 4)).map (fun k => hex32 (fieldAt bs (4 * k) 4))

abbrev CRLF : List Byte := [13, 10]

/-- An error's name (20 Table MON-3). -/
def monErrName (code : Nat) : String :=
  ["", "SYNTAX", "LOCKED", "RANGE", "OFF", "RESET", "BAD_SIG", "NO_CHAL", "NO_KEY", "LONG", "FRAMING"].getD code ""

abbrev E.SYNTAX : Nat := 1
abbrev E.LOCKED : Nat := 2
abbrev E.RANGE : Nat := 3
abbrev E.OFF : Nat := 4
abbrev E.RESET : Nat := 5
abbrev E.BAD_SIG : Nat := 6
abbrev E.NO_CHAL : Nat := 7
abbrev E.NO_KEY : Nat := 8
abbrev E.LONG : Nat := 9
abbrev E.FRAMING : Nat := 10

/-- The status line and the prompt (20 R479). -/
def monEnd (err : Option Nat) : List Byte :=
  (match err with
    | none => ascii "OK"
    | some c => ascii "ER " ++ hexN 2 c ++ [32] ++ ascii (monErrName c)) ++ CRLF ++ ascii "> "

/-! ### Lines in -/

/-- Characters sent. -/
def State.monSay (s : State) (bs : List Byte) : State := s.modMon (fun m => { m with tx := m.tx ++ bs })

/-- A reply leaves: data lines, status line, prompt; until its end no character is accepted (20 R479, R480). -/
def State.monReply (s : State) (lines : List (List Byte)) (err : Option Nat) : State :=
  let s := if err.isSome then s.inc R.DBG_MON_ERR_COUNT else s
  (s.monSay ((lines.map (· ++ CRLF)).flatten ++ monEnd err)).modMon (fun m => { m with cmd := none, busy := true })

/-- An error reply. -/
def State.monErr (s : State) (code : Nat) : State := s.monReply [] (some code)

/-- Fold case. -/
def upper (c : Byte) : Byte := if 97 ≤ c.toNat && c.toNat ≤ 122 then c - 32 else c

/-- Tokens of a line (20 R479). -/
def tokens : List Byte → List Byte → List (List Byte)
  | [], [] => []
  | [], w => [w]
  | c :: t, w => if c = 32 then (if w.isEmpty then tokens t [] else w :: tokens t []) else tokens t (w ++ [upper c])

/-- Value of a hexadecimal digit. -/
def hexVal (c : Byte) : Option Nat :=
  if 48 ≤ c.toNat && c.toNat ≤ 57 then some (c.toNat - 48) else if 65 ≤ c.toNat && c.toNat ≤ 70 then some (c.toNat - 55) else none

/-- A number of digits in a base. -/
def number (base : Nat) : List Byte → Nat → Option Nat
  | [], v => some v
  | c :: t, v =>
    match hexVal c with
    | some d => if d < base then number base t (v * base + d) else none
    | none => none

/-- An offset, address or value: 1 to 8 hexadecimal digits. -/
def hexArg (w : List Byte) : Option Nat := if w.length = 0 || 8 < w.length then none else number 16 w 0

/-- A count, slot, index or rate: decimal. -/
def decArg (w : List Byte) : Option Nat := if w.length = 0 || 10 < w.length then none else number 10 w 0

/-- A malformed argument. -/
def syn (o : Option α) : Except Nat α :=
  match o with
  | some a => .ok a
  | none => .error E.SYNTAX

/-- An argument that must be allowed. -/
def within (c : Bool) (m : MonCmd) : Except Nat MonCmd := if c then .ok m else .error E.RANGE

/-- The rates of Table MON-2. -/
abbrev monRates : List Nat := [115200, 230400, 460800, 921600, 1000000, 2000000, 3000000]

/-- Their actual values. -/
abbrev monActual : List Nat := [115207, 230415, 460829, 921659, 1000000, 2000000, 3007519]

/-- Offset or address, and a count that is 1 when absent (20 Table MON-4). -/
def withCount (mk : Nat → Nat → MonCmd) : List (List Byte) → Except Nat MonCmd
  | [a] => do let a ← syn (hexArg a); .ok (mk a 1)
  | [a, n] => do
    let a ← syn (hexArg a)
    let n ← syn (decArg n)
    within (1 ≤ n && n ≤ 64) (mk a n)
  | _ => .error E.SYNTAX

/-- Two hexadecimal arguments. -/
def twoHex (mk : Nat → Nat → MonCmd) : List (List Byte) → Except Nat MonCmd
  | [a, b] => do
    let a ← syn (hexArg a)
    let b ← syn (hexArg b)
    .ok (mk a b)
  | _ => .error E.SYNTAX

/-- One decimal argument below a limit. -/
def oneDec (lim : Nat) (mk : Nat → MonCmd) : List (List Byte) → Except Nat MonCmd
  | [a] => do
    let n ← syn (decArg a)
    within (n < lim) (mk n)
  | _ => .error E.SYNTAX

/-- None or one decimal argument below a limit. -/
def optDec (lim : Nat) (mk : Option Nat → MonCmd) : List (List Byte) → Except Nat MonCmd
  | [] => .ok (mk none)
  | l => oneDec lim (fun n => mk (some n)) l

/-- The 24 groups of a signature. -/
def signature (l : List (List Byte)) : Except Nat MonCmd :=
  if l.length = 24 && l.all (fun w => w.length == 8 && (number 16 w 0).isSome) then
    .ok (.unlock (l.flatMap (fun w => leBytes 4 ((number 16 w 0).getD 0))))
  else .error E.SYNTAX

/-- No argument. -/
def noArg (m : MonCmd) : List (List Byte) → Except Nat MonCmd
  | [] => .ok m
  | _ => .error E.SYNTAX

/-- A rate. -/
def rateArg : List (List Byte) → Except Nat MonCmd
  | [a] => do
    let r ← syn (decArg a)
    match monRates.findIdx? (· == r) with
    | some ix => .ok (.baud ix)
    | none => .error E.RANGE
  | _ => .error E.SYNTAX

/-- What a line asks, or its error (20 Tables MON-3, MON-4). -/
def parseLine (line : List Byte) : Except Nat MonCmd :=
  match tokens line [] with
  | [] => .error E.SYNTAX
  | c :: args =>
    if c = ascii "ID" then noArg .id args
    else if c = ascii "STAT" then noArg .stat args
    else if c = ascii "RD" then withCount .rd args
    else if c = ascii "WR" then twoHex .wr args
    else if c = ascii "MRD" then withCount .mrd args
    else if c = ascii "MWR" then twoHex .mwr args
    else if c = ascii "MEAS" then optDec 7 .meas args
    else if c = ascii "LOG" then optDec 64 .log args
    else if c = ascii "PLOG" then noArg .plog args
    else if c = ascii "CNT" then noArg .cnt args
    else if c = ascii "CHAL" then oneDec 2 .chal args
    else if c = ascii "UNLOCK" then signature args
    else if c = ascii "LOCK" then noArg .lock args
    else if c = ascii "BAUD" then rateArg args
    else if c = ascii "ECHO" then oneDec 2 (fun n => .echo (n == 1)) args
    else .error E.SYNTAX

/-- The line received ends: it is answered with its error, or its command waits to be served (20 R477 to R480). -/
def State.monLine (s : State) : State :=
  let m := s.ao.mon
  let s := (s.modMon (fun m => { m with line := [], bad := false })).inc R.DBG_MON_CMD_COUNT
  if m.bad then s.monErr E.FRAMING
  else if 255 < m.line.length then s.monErr E.LONG
  else match parseLine m.line with
    | .error c => s.monErr c
    | .ok c => s.modMon (fun m => { m with cmd := some c, locked := s.bit R.DBG_MON_STATUS 0, revert := false })

/-- Does the monitor echo? -/
def State.monEcho (s : State) : Bool := s.bit R.DBG_MON_STATUS 8

/-- Is the monitor between a line's end and its prompt's? -/
def State.monBusy (s : State) : Bool := s.ao.mon.busy || s.ao.mon.cmd.isSome

/-- UART_CHAR (20 R479, R480; 16 R410): a character arrives, perhaps with a framing error; without AO_CLK or its supply nothing hears it. -/
def execUartChar (ch : Byte) (framing : Bool) (s : State) : Out :=
  if !s.aoRuns then .next s
  else if s.modeLp then .next s.brownOut
  else if s.monBusy then .next (s.inc R.DBG_MON_RX_ERR_COUNT)
  else if framing then .next ((s.inc R.DBG_MON_RX_ERR_COUNT).modMon (fun m => { m with bad := true }))
  else if ch = 10 then .next s
  else if ch = 13 then .next ((if s.monEcho then s.monSay CRLF else s).monLine)
  else
    let s := if s.monEcho then s.monSay [ch] else s
    .next (s.modMon (fun m => { m with line := if m.line.length ≤ 255 then m.line ++ [ch] else m.line }))

/-- The pending challenge ends. -/
def State.chalEnd (s : State) : State := (s.modMon (fun m => { m with chal := none })).clrBits R.DBG_MON_STATUS 6

/-- BREAK (20 R478, R485; 16 R410): a line that it cuts is answered with FRAMING. -/
def execUartBreak (s : State) : Out :=
  if !s.aoRuns then .next s
  else if s.modeLp then .next s.brownOut
  else
    let cut := !s.monBusy && (s.ao.mon.bad || !s.ao.mon.line.isEmpty)
    let s := ((s.inc R.DBG_MON_RX_ERR_COUNT).chalEnd).modMon (fun m => { m with line := [], bad := false, newBaud := none, revert := false })
    let s := (s.setField R.DBG_MON_STATUS 6 4 0).setBits R.DBG_MON_STATUS 0x100
    .next (if cut then (s.inc R.DBG_MON_CMD_COUNT).monErr E.FRAMING else s)

/-- BAUD_REVERT (20 R477): 5 s have passed since a change of rate without a line that passed its checks. -/
def execBaudRevert (s : State) : Out :=
  when' "BAUD_REVERT" (s.aoRuns && s.ao.mon.revert) ((s.modMon (fun m => { m with revert := false })).setField R.DBG_MON_STATUS 6 4 0)

/-- CHALLENGE_EXPIRY (20 R485). -/
def execChallengeExpiry (s : State) : Out := when' "CHALLENGE_EXPIRY" (s.aoRuns && s.ao.mon.chal.isSome) s.chalEnd

/-- PROMPT_END (20 R477, R480). -/
def execPromptEnd (s : State) : Out :=
  if !s.aoRuns || !s.ao.mon.busy then never "PROMPT_END"
  else match s.ao.mon.newBaud with
    | some ix => .next ((s.modMon (fun m => { m with busy := false, newBaud := none, revert := true })).setField R.DBG_MON_STATUS 6 4 ix)
    | none => .next (s.modMon (fun m => { m with busy := false }))

/-- AOREG_SWITCH_DONE (16 R408, R411). A monitor that is sending when low-power mode begins draws too much (R410, Table PWR-8). -/
def execAoregSwitchDone (s : State) : Out :=
  if !s.aoSwitching then never "AOREG_SWITCH_DONE"
  else
    let lp := s.bit R.PWR_AOREG 0
    let s := (s.setField R.PWR_AOREG 8 8 (b2n lp)).clrBits R.PWR_AOREG 0x200
    if lp then .next (if s.ao.mon.busy then s.brownOut else s)
    else .next (if s.ao.pwr.wakeHm then s.hmReturn else s).ppKick

/-! ### Commands -/

/-- Serve the command that waits, if it is of a kind; the monitor's accesses wait behind its own held write (03 R92). In low-power mode the characters of
the reply brown AOREG out (16 R410). -/
def State.monServe (s : State) (event : String) (f : MonCmd → Option State) : Out :=
  if !s.aoRuns || s.holds Req.monitor.num then never event
  else match s.ao.mon.cmd with
    | some c => orNever event (if s.modeLp then (f c).map (fun _ => s.brownOut) else f c)
    | none => never event

/-- Is the monitor locked (20 R484)? -/
def State.monLocked (s : State) : Bool := s.bit R.DBG_MON_STATUS 0

/-- Was the monitor locked when the line of the command in progress ended? A host's LOCK after that does not touch the command (20 "When the host relocks the
monitor in the middle of a command"). -/
def State.cmdLocked (s : State) : Bool := s.ao.mon.locked

/-- ID (20 Table MON-4). -/
def execMonId (s : State) : Out :=
  s.monServe "ID" fun
    | .id => some (s.monReply [ascii "ZENOLO RUWEN 1.0 VARIANT " ++ decimal s.fuses.variant ++ ascii " SERIAL " ++
        spaced [hex32 (s.fuses.serial / 2 ^ 32), hex32 s.fuses.serial, ascii (if s.monLocked then "LOCKED" else "UNLOCKED")]] none)
    | _ => none

/-- STAT (20 Table MON-4). -/
def execMonStat (s : State) : Out :=
  s.monServe "STAT" fun
    | .stat => some (s.monReply [spaced ([R.RST_STATUS, R.RST_HOLD_MS, R.PWR_STATE_LO, R.PWR_STATE_HI, R.PWR_AOREG].map
        (fun o => hex32 (s.regRead .monitor o).toNat))] none)
    | _ => none

/-- Why the monitor cannot reach a register now (20 R482). -/
def State.monBlocked (s : State) (off : Nat) : Option Nat :=
  let c := match s.rowAt off with
    | some r => (s.copyOf .monitor r).getD 0
    | none => 0
  let d := regDom off c
  if d = D.AO then none
  else if s.ao.rst.held ≠ 0 then some E.RESET
  else if !s.on d then some E.OFF
  else none

/-- Is a register offset misaligned or outside BAR0? -/
def monRange (off n : Nat) : Bool := off % 4 ≠ 0 || 0x4000000 < off + 4 * n

/-- Read registers in rising order. -/
def State.monRead (s : State) : List Nat → List (List Byte) × State
  | [] => ([], s)
  | o :: t =>
    let (v, s) := s.readAccess .monitor o
    let (l, s) := s.monRead t
    (hex32 v.toNat :: l, s)

/-- RD (20 R481, R482). -/
def execMonRd (s : State) : Out :=
  s.monServe "RD" fun
    | .rd off n =>
      let offs := (List.range n).map (fun k => off + 4 * k)
      some (if monRange off n then s.monErr E.RANGE
        else match offs.findSome? s.monBlocked with
          | some e => s.monErr e
          | none => let (l, s) := s.monRead offs; s.monReply l none)
    | _ => none

/-- The reply to a write, unless the write has reset the monitor. -/
def State.monWrote (s : State) : State := if s.ao.mon.cmd.isSome then s.monReply [] none else s

/-- WR (20 R481, R482). -/
def execMonWr (s : State) : Out :=
  s.monServe "WR" fun
    | .wr off val => some (if s.cmdLocked then s.monErr E.LOCKED
        else if monRange off 1 then s.monErr E.RANGE
        else match s.monBlocked off with
          | some e => s.monErr e
          | none => (s.heldWrite .monitor off (BitVec.ofNat 32 val) true).monWrote)
    | _ => none

/-- Why MRD and MWR do not reach an address (20 R483, Table MON-3). -/
def State.monMemErr (s : State) (a n : Nat) : Option Nat :=
  if s.cmdLocked then some E.LOCKED
  else if a % 4 ≠ 0 || s.fuses.memSize < a + 4 * n then some E.RANGE
  else if (s.rangeErr a (4 * n)).isSome then some E.OFF
  else if s.ao.rst.held ≠ 0 then some E.RESET
  else none

/-- Read words of memory; one with an uncorrectable error shows 0 (notes/assumptions/36.md). -/
def State.monWords (s : State) : List Nat → List (List Byte) × State
  | [] => ([], s)
  | a :: t =>
    let (v, s) := match s.readLoc a 4 with
      | (.ok b, s) => (leNat b, s)
      | (.error _, s) => (0, s)
    let (l, s) := s.monWords t
    (hex32 v :: l, s)

/-- MRD (20 R483). -/
def execMonMrd (s : State) : Out :=
  s.monServe "MRD" fun
    | .mrd a n => some (match s.monMemErr a n with
        | some e => s.monErr e
        | none => let (l, s) := s.monWords ((List.range n).map (fun k => a + 4 * k)); s.monReply l none)
    | _ => none

/-- MWR (20 R483). -/
def execMonMwr (s : State) : Out :=
  s.monServe "MWR" fun
    | .mwr a v => some (match s.monMemErr a 1 with
        | some e => s.monErr e
        | none => ((s.writeLoc a (leBytes 4 v) false).2).monReply [] none)
    | _ => none

/-- The line of a measurement slot. -/
def State.measLine (s : State) (k : Nat) : List Byte :=
  spaced ([decimal k, decimal (b2n (s.slot k).valid), decimal ((s.slot k).count % 256)] ++ groups (s.slot k).digest)

/-- MEAS (20 Table MON-4). -/
def execMonMeas (s : State) : Out :=
  s.monServe "MEAS" fun
    | .meas (some k) => some (s.monReply [s.measLine k] none)
    | .meas none => some (s.monReply ((List.range 7).map s.measLine) none)
    | _ => none

/-- The line of a reset log entry. -/
def logLine (i : Nat) (l : RstLog) : List Byte :=
  spaced [decN 2 i, hex32 l.time, hexN 2 l.kind, hexN 2 l.detail, hex32 (l.info / 2 ^ 32), hex32 l.info]

/-- LOG (20 Table MON-4): the entry that is the n-th newest, or the 16 newest. -/
def execMonLog (s : State) : Out :=
  s.monServe "LOG" fun
    | .log n => some (s.monReply ((((s.ao.rst.log.take 64).zipIdx.filter (fun x => match n with | some k => x.2 == k | none => x.2 < 16))).map
        (fun x => logLine x.2 x.1)) none)
    | _ => none

/-- PLOG (20 Table MON-4): the PSD log mirror as PSD_LOG_DATA shows it. -/
def execMonPlog (s : State) : Out :=
  s.monServe "PLOG" fun
    | .plog => some (s.monReply ((List.range 16).map (fun i => spaced [decN 2 i, hex32 (s.reg (rk R.PSD_LOG_DATA i)).toNat])) none)
    | _ => none

/-- The counters of Table MON-5: name, offset, spacing and number of an array. -/
def monCounters : List (String × Nat × Nat × Nat) := [
  ("GLB_ACCESS_VIOL_COUNT", R.GLB_ACCESS_VIOL_COUNT, 0, 1), ("HIF_BAR2_VIOL_COUNT", R.HIF_BAR2_VIOL_COUNT, 0, 1),
  ("HIF_AP_DROP_COUNT", R.HIF_AP_DROP_COUNT, 0, 1), ("MMU_RUN_CLAMP_COUNT", R.MMU_RUN_CLAMP_COUNT, 0, 1),
  ("MMU_INV_REJECT_COUNT", R.MMU_INV_REJECT_COUNT, 0, 1), ("MMU_BCAST_FULL_COUNT", R.MMU_BCAST_FULL_COUNT, 0, 1),
  ("QM_OBJ_REJECT_COUNT", R.QM_OBJ_REJECT_COUNT, 0, 1), ("QM_ONION_DROP_COUNT", R.QM_ONION_DROP_COUNT, 0, 1),
  ("QM_Q_REFUSE_COUNT", R.QM_Q_REFUSE_COUNT, 0, 1), ("QM_Q_DELAY_COUNT", R.QM_Q_DELAY_COUNT, 0, 1),
  ("GX_REFUSE_COUNT", R.GX_REFUSE_COUNT, 0, 1), ("GDB_REFUSE_COUNT", R.GDB_REFUSE_COUNT, 0x1000, 256),
  ("GX_HOLD_COUNT", R.GX_HOLD_COUNT, 0, 1), ("PT_P_MISMATCH_COUNT", R.PT_P_MISMATCH_COUNT, 0, 1),
  ("PT_P_SHARE_OVERRUN_COUNT", R.PT_P_SHARE_OVERRUN_COUNT, 0, 1), ("PT_P_SLOT_OVERRUN_COUNT", R.PT_P_SLOT_OVERRUN_COUNT, 0, 1),
  ("PT_P_ADMIT_REFUSE_COUNT", R.PT_P_ADMIT_REFUSE_COUNT, 0, 1), ("PT_P_RING_FULL_COUNT", R.PT_P_RING_FULL_COUNT, 0, 1)] ++ [
  ("PT_P_RING_EMPTY_COUNT", R.PT_P_RING_EMPTY_COUNT, 0, 1), ("PT_ST_SKIP_COUNT", R.PT_ST_SKIP_COUNT, 0, 1),
  ("PT_ST_DELAY_COUNT", R.PT_ST_DELAY_COUNT, 4, 4), ("GD_ARM_REFUSE_COUNT", R.GD_ARM_REFUSE_COUNT, 0, 1),
  ("GD_WAKE_MERGE_COUNT", R.GD_WAKE_MERGE_COUNT, 0, 1), ("GD_RING_DROP_COUNT", R.GD_RING_DROP_COUNT, 0, 1),
  ("GD_ST_SKIP_COUNT", R.GD_ST_SKIP_COUNT, 0, 1), ("GD_ST_DELAY_COUNT", R.GD_ST_DELAY_COUNT, 0, 1),
  ("CORE_HAZARD_COUNT", R.CORE_HAZARD_COUNT, 0, 1), ("CORE_SB_FULL_COUNT", R.CORE_SB_FULL_COUNT, 0, 1),
  ("CORE_UNLK_NOT_OWNER_COUNT", R.CORE_UNLK_NOT_OWNER_COUNT, 0, 1), ("RAS_PRIM_REJECT_COUNT", R.RAS_PRIM_REJECT_COUNT, 0, 1),
  ("RTU_BADRAY_COUNT", R.RTU_BADRAY_COUNT, 0, 1), ("RTU_LIMIT_COUNT", R.RTU_LIMIT_COUNT, 0, 1),
  ("CE_CODEC_BAD_COUNT", R.CE_CODEC_BAD_COUNT, 0, 1), ("CE_OUTLIMIT_COUNT", R.CE_OUTLIMIT_COUNT, 0, 1),
  ("CE_STREAM_BAD_COUNT", R.CE_STREAM_BAD_COUNT, 0, 1), ("CRC_MISMATCH_COUNT", R.CRC_MISMATCH_COUNT, 0, 1)] ++ [
  ("FAB_LATE_RSP_COUNT", R.FAB_LATE_RSP_COUNT, 0, 1), ("FAB_ABORT_IGNORED_COUNT", R.FAB_ABORT_IGNORED_COUNT, 0, 1),
  ("CLK_TIER_CAP_COUNT", R.CLK_TIER_CAP_COUNT, 0, 1), ("CLK_THERM_CAP_COUNT", R.CLK_THERM_CAP_COUNT, 0, 1),
  ("PWR_REFUSE_COUNT", R.PWR_REFUSE_COUNT, 0, 1), ("RST_GLITCH_COUNT", R.RST_GLITCH_COUNT, 0, 1),
  ("RST_STUCK_COUNT", R.RST_STUCK_COUNT, 0, 1), ("PSD_RX_CRC_COUNT", R.PSD_RX_CRC_COUNT, 0, 1),
  ("PSD_CMD_FAIL_COUNT", R.PSD_CMD_FAIL_COUNT, 0, 1), ("DBG_MON_ERR_COUNT", R.DBG_MON_ERR_COUNT, 0, 1),
  ("DBG_MON_RX_ERR_COUNT", R.DBG_MON_RX_ERR_COUNT, 0, 1), ("DBG_UNLOCK_FAIL_COUNT", R.DBG_UNLOCK_FAIL_COUNT, 0, 1)]

/-- The values of a counter, every element of an array and every instance of a window, each instance read through the monitor's own select copy (20 R481). -/
def State.cntValues (s : State) (c : String × Nat × Nat × Nat) : List (List Byte) :=
  (List.range c.2.2.2).flatMap (fun i =>
    let off := c.2.1 + c.2.2.1 * i
    match (regRow? off).map (fun r => r.cp) with
    | some (Copies.win sel n) => (List.range n).map (fun k => hex32 ((s.setRegN (rk sel 3) k).regRead .monitor off).toNat)
    | _ => [hex32 (s.regRead .monitor off).toNat])

/-- CNT (20 R481, Table MON-5). -/
def execMonCnt (s : State) : Out :=
  s.monServe "CNT" fun
    | .cnt => some (s.monReply (monCounters.map (fun c => spaced (ascii c.1 :: s.cntValues c))) none)
    | _ => none

/-- CHAL (20 R485, R487). -/
def execMonChal (s : State) : Out :=
  s.monServe "CHAL" fun
    | .chal k => some (if s.ao.rst.held ≠ 0 then s.monErr E.RESET
        else if !s.fuses.unlockKeys.testBit k then s.monErr E.NO_KEY
        else
          let (n, s) := s.drawBytes 16
          let s := s.modMon (fun m => { m with chal := some (n, k) })
          (s.setField R.DBG_MON_STATUS 2 1 (1 + 2 * k)).monReply [spaced (groups n)] none)
    | _ => none

/-- The message that an unlock signature covers (20 R486). -/
def State.unlockMsg (s : State) (nonce : List Byte) (k : Nat) : List Byte :=
  leBytes 8 s.fuses.serial ++ nonce ++ [BitVec.ofNat 8 k] ++ List.replicate 7 0

/-- UNLOCK (20 R486, R487). -/
def execMonUnlock (s : State) : Out :=
  s.monServe "UNLOCK" fun
    | .unlock sig => some (if s.ao.rst.held ≠ 0 then s.monErr E.RESET
        else match s.ao.mon.chal with
          | none => s.monErr E.NO_CHAL
          | some (nonce, k) =>
            let s := s.chalEnd
            if Config.unlockVerify k (s.unlockMsg nonce k) sig then
              (((s.slotExtend 5 unlockConst).clrBits R.DBG_MON_STATUS 1).inc R.DBG_UNLOCK_COUNT).monReply [] none
            else (s.inc R.DBG_UNLOCK_FAIL_COUNT).monErr E.BAD_SIG)
    | _ => none

/-- LOCK (20 R487). -/
def execMonLock (s : State) : Out :=
  s.monServe "LOCK" fun
    | .lock => some (s.monLock.monReply [] none)
    | _ => none

/-- BAUD (20 R477): the rate changes after the prompt. -/
def execMonBaud (s : State) : Out :=
  s.monServe "BAUD" fun
    | .baud ix => some ((s.monReply [decimal (monActual.getD ix 0)] none).modMon (fun m => { m with newBaud := some ix }))
    | _ => none

/-- ECHO (20 R479). -/
def execMonEcho (s : State) : Out :=
  s.monServe "ECHO" fun
    | .echo on => some ((s.setField R.DBG_MON_STATUS 8 8 (b2n on)).monReply [] none)
    | _ => none

end Sys2Proof.Machine
end

