-- ==== Sys2Proof/Machine/RegRows.lean ====
section
/-! DEFINITION. The commands that are writes of one register: each is the write that its row names, with the fields that the row fixes; what the write
does is the register's (RegWrite). -/

namespace Sys2Proof.Machine

/-- AP_ENABLE (02 R45): a write of HIF_AP_CTRL with ENABLE 1. -/
def execApEnable (req : Req) (val : W32) (s : State) : Out := .next (s.cmdWrite req R.HIF_AP_CTRL (val ||| 1) true)

/-- AP_CTRL_UPDATE (02 R46): a write of HIF_AP_CTRL that leaves ENABLE at 1. -/
def execApCtrlUpdate (req : Req) (val : W32) (s : State) : Out := .next (s.cmdWrite req R.HIF_AP_CTRL (val ||| 1) true)

/-- AP_DISABLE (02 R51): a write of HIF_AP_CTRL with ENABLE 0. -/
def execApDisable (req : Req) (val : W32) (s : State) : Out := .next (s.cmdWrite req R.HIF_AP_CTRL (val &&& ~~~1) true)

/-- AP_CONSUMED_WRITE (02 R53): the commit of HIF_AP_CONSUMED. -/
def execApConsumedWrite (req : Req) (val : W32) (s : State) : Out := .next (s.cmdWrite req R.HIF_AP_CONSUMED_HI val true)

/-- AP_WM_WRITE (02 R51): the commit of HIF_AP_WM. -/
def execApWmWrite (req : Req) (val : W32) (s : State) : Out := .next (s.cmdWrite req R.HIF_AP_WM_HI val true)

/-- INV_GO (03 R86 to R88): GO is written 1. -/
def execInvGo (req : Req) (s : State) : Out := .next (s.cmdWrite req R.MMU_INV_CTRL 1 true)

/-- BCAST_REQUEST (03 R91, R92): a write of MMU_BCAST. -/
def execBcastRequest (req : Req) (val : W32) (s : State) : Out := .next (s.cmdWrite req R.MMU_BCAST val true)

/-- CTX_LOST_CLEAR (04 R99): a write to word `ix` of QM_CTX_LOST. -/
def execCtxLostClear (req : Req) (ix : BitVec 3) (val : W32) (s : State) : Out := .next (s.cmdWrite req (R.QM_CTX_LOST + 4 * ix.toNat) val true)

/-- RING_PUSH (04 R103, R104): the commit of PT_P_RING_PUSH. -/
def execRingPush (req : Req) (val : W32) (s : State) : Out := .next (s.cmdWrite req R.PT_P_RING_PUSH_HI val true)

/-- QUEUE_DOORBELL (05 R128): a write of QDB_TAIL in doorbell page q. -/
def execQueueDoorbell (req : Req) (q : BitVec 8) (tail : W32) (s : State) : Out := .next (s.cmdWrite req (R.QDB_TAIL + 0x1000 * q.toNat) tail true)

/-- QUEUE_ENABLE (05 R131): ENABLE is written 1. -/
def execQueueEnable (req : Req) (s : State) : Out := .next (s.cmdWrite req R.QM_Q_CTRL 1 true)

/-- QUEUE_DISABLE (05 R132): ENABLE is written 0. -/
def execQueueDisable (req : Req) (s : State) : Out := .next (s.cmdWrite req R.QM_Q_CTRL 0 true)

/-- QUEUE_RESET (05 R133): RESET is written 1, with ENABLE as `en`. -/
def execQueueReset (req : Req) (en : Bool) (s : State) : Out := .next (s.cmdWrite req R.QM_Q_CTRL (BitVec.ofNat 32 (2 + b2n en)) true)

/-- GRAPH_DOORBELL (05 R136): the commit of the graph doorbell of a context. -/
def execGraphDoorbell (req : Req) (ctx : BitVec 8) (val : W32) (s : State) : Out := .next (s.cmdWrite req (R.GDB_LAUNCH_HI + 0x1000 * ctx.toNat) val true)

/-- PARTITION_ENABLE (06 R156): a write of PT_P_CTRL with ENABLE 1. -/
def execPartitionEnable (req : Req) (val : W32) (s : State) : Out := .next (s.cmdWrite req R.PT_P_CTRL (val ||| 1) true)

/-- PARTITION_DISABLE (06 R159): a write of PT_P_CTRL with ENABLE 0. -/
def execPartitionDisable (req : Req) (val : W32) (s : State) : Out := .next (s.cmdWrite req R.PT_P_CTRL (val &&& ~~~1) true)

/-- PARTITION_QUIESCE (06 R157): a write of PT_P_CTRL with QUIESCE 1. -/
def execPartitionQuiesce (req : Req) (val : W32) (s : State) : Out := .next (s.cmdWrite req R.PT_P_CTRL (val ||| 2) true)

/-- PARTITION_RESUME (06 R157): a write of PT_P_CTRL with QUIESCE 0. -/
def execPartitionResume (req : Req) (val : W32) (s : State) : Out := .next (s.cmdWrite req R.PT_P_CTRL (val &&& ~~~2) true)

/-- PARTITION_RESIZE (06 R158): a write of PT_P_CE or PT_P_CLUSTERS. -/
def execPartitionResize (req : Req) (ce : Bool) (val : W32) (s : State) : Out := .next (s.cmdWrite req (if ce then R.PT_P_CE else R.PT_P_CLUSTERS) val true)

/-- PARTITION_FEC_SELECT (06 R158): a write of PT_P_CTRL that names a control core. -/
def execPartitionFecSelect (req : Req) (val : W32) (s : State) : Out := .next (s.cmdWrite req R.PT_P_CTRL val true)

/-- RING_ENABLE (06 R160): a write of PT_P_RING_CTRL with ENABLE 1. -/
def execRingEnable (req : Req) (val : W32) (s : State) : Out := .next (s.cmdWrite req R.PT_P_RING_CTRL (val ||| 1) true)

/-- RING_DISABLE (06 R160): a write of PT_P_RING_CTRL with ENABLE 0. -/
def execRingDisable (req : Req) (val : W32) (s : State) : Out := .next (s.cmdWrite req R.PT_P_RING_CTRL (val &&& ~~~1) true)

/-- ADMIT (06 R163): PT_ADMIT is written with OP 1. -/
def execAdmitCtx (req : Req) (ctx : BitVec 8) (s : State) : Out := .next (s.cmdWrite req R.PT_ADMIT (BitVec.ofNat 32 (2 ^ 8 + ctx.toNat)) true)

/-- EVICT (06 R164): PT_ADMIT is written with OP 2. -/
def execEvict (req : Req) (ctx : BitVec 8) (s : State) : Out := .next (s.cmdWrite req R.PT_ADMIT (BitVec.ofNat 32 (2 * 2 ^ 8 + ctx.toNat)) true)

/-- SCHED_COMMIT (06 R167): a write of PT_SCHED_WDATA2. -/
def execSchedCommit (req : Req) (val : W32) (s : State) : Out := .next (s.cmdWrite req R.PT_SCHED_WDATA2 val true)

/-- SCHED_RUN (06 R168): RUN is written 1. -/
def execSchedRun (req : Req) (switch : Bool) (s : State) : Out := .next (s.cmdWrite req R.PT_SCHED_CTRL (BitVec.ofNat 32 (1 + 2 * b2n switch)) true)

/-- SCHED_STOP (06 R168): RUN is written 0. -/
def execSchedStop (req : Req) (switch : Bool) (s : State) : Out := .next (s.cmdWrite req R.PT_SCHED_CTRL (BitVec.ofNat 32 (2 * b2n switch)) true)

/-- SCHED_SWITCH (06 R169): SWITCH is written 1. -/
def execSchedSwitch (req : Req) (run : Bool) (s : State) : Out := .next (s.cmdWrite req R.PT_SCHED_CTRL (BitVec.ofNat 32 (2 + b2n run)) true)

/-- FAV_WRITE (06 R169): a write of PT_P_FAV. -/
def execFavWrite (req : Req) (val : W32) (s : State) : Out := .next (s.cmdWrite req R.PT_P_FAV val true)

/-- SELFTEST_REQ (06 R171): a write of PT_SELFTEST_REQ. -/
def execSelftestReq (req : Req) (val : W32) (s : State) : Out := .next (s.cmdWrite req R.PT_SELFTEST_REQ val true)

/-- CORE_SELFTEST (06 R173): PT_REPAIR is written with OP 1. -/
def execCoreSelftest (req : Req) (core : BitVec 5) (s : State) : Out := .next (s.cmdWrite req R.PT_REPAIR (BitVec.ofNat 32 (2 ^ 8 + core.toNat)) true)

/-- FENCE_CORE (06 R174): PT_REPAIR is written with OP 2. -/
def execFenceCore (req : Req) (core : BitVec 5) (s : State) : Out := .next (s.cmdWrite req R.PT_REPAIR (BitVec.ofNat 32 (2 * 2 ^ 8 + core.toNat)) true)

/-- UNFENCE_CORE (06 R174): PT_REPAIR is written with OP 3. -/
def execUnfenceCore (req : Req) (core : BitVec 5) (s : State) : Out := .next (s.cmdWrite req R.PT_REPAIR (BitVec.ofNat 32 (3 * 2 ^ 8 + core.toNat)) true)

/-- GD_WAKE (07 R186): a write of GD_WAKE. -/
def execGdWake (req : Req) (wake : Bool) (s : State) : Out := .next (s.cmdWrite req R.GD_WAKE (BitVec.ofNat 32 (b2n wake)) true)

/-- CLEAR_MAXE (14 R348): CLEAR_MAXE is written 1. -/
def execClearMaxe (req : Req) (s : State) : Out := .next (s.cmdWrite req R.CE_CODEC_CLEAR 1 true)

/-- CRC_ENABLE (14 R368): a write of CRC_CTRL with ENABLE 1. -/
def execCrcEnable (req : Req) (val : W32) (s : State) : Out := .next (s.cmdWrite req R.CRC_CTRL (val ||| 1) true)

/-- CRC_DISABLE (14 R368): a write of CRC_CTRL with ENABLE 0. -/
def execCrcDisable (req : Req) (val : W32) (s : State) : Out := .next (s.cmdWrite req R.CRC_CTRL (val &&& ~~~1) true)

/-- NODE_ID_WRITE (15 R373): a write of FAB_NODE_ID. -/
def execNodeIdWrite (req : Req) (val : W32) (s : State) : Out := .next (s.cmdWrite req R.FAB_NODE_ID val true)

/-- ROUTE_COMMIT (15 R374): a write of FAB_ROUTE_DATA. -/
def execRouteCommit (req : Req) (val : W32) (s : State) : Out := .next (s.cmdWrite req R.FAB_ROUTE_DATA val true)

/-- NODE_LEAVE (15 R375, R388): a write of FAB_LEAVE. -/
def execNodeLeave (req : Req) (val : W32) (s : State) : Out := .next (s.cmdWrite req R.FAB_LEAVE val true)

/-- WINDOW_COMMIT (15 R383): a write of FAB_WIN_DATA3. -/
def execWindowCommit (req : Req) (val : W32) (s : State) : Out := .next (s.cmdWrite req R.FAB_WIN_DATA3 val true)

/-- GROUP_COMMIT (15 R385): a write of FAB_GRP_DATA3. -/
def execGroupCommit (req : Req) (val : W32) (s : State) : Out := .next (s.cmdWrite req R.FAB_GRP_DATA3 val true)

/-- PORT_ENABLE (15 R371): FAB_P_CTRL.ENABLE is written 1. -/
def execPortEnable (req : Req) (s : State) : Out := .next (s.cmdWrite req R.FAB_P_CTRL 1 true)

/-- PP_REQUEST (16 R394): a write of CLK_PP_REQ. -/
def execPpRequest (req : Req) (val : W32) (s : State) : Out := .next (s.cmdWrite req R.CLK_PP_REQ val true)

/-- DOMAIN_TO_ON (16 R400): PWR_DCMD is written with TARGET ON. -/
def execDomainToOn (req : Req) (domain : BitVec 5) (s : State) : Out := .next (s.cmdWrite req R.PWR_DCMD (BitVec.ofNat 32 (2 * 2 ^ 8 + domain.toNat)) true)

/-- DOMAIN_TO_RET (16 R400, R403): PWR_DCMD is written with TARGET RET. -/
def execDomainToRet (req : Req) (domain : BitVec 5) (s : State) : Out := .next (s.cmdWrite req R.PWR_DCMD (BitVec.ofNat 32 (2 ^ 8 + domain.toNat)) true)

/-- DOMAIN_TO_OFF (16 R400, R404): PWR_DCMD is written with TARGET OFF. -/
def execDomainToOff (req : Req) (domain : BitVec 5) (s : State) : Out := .next (s.cmdWrite req R.PWR_DCMD (BitVec.ofNat 32 domain.toNat) true)

/-- AOREG_LP (16 R408): PWR_AOREG is written with LP 1. -/
def execAoregLp (req : Req) (arm : Bool) (s : State) : Out := .next (s.cmdWrite req R.PWR_AOREG (BitVec.ofNat 32 (1 + 2 * b2n arm)) true)

/-- AOREG_NORMAL (16 R408): PWR_AOREG is written with LP 0. -/
def execAoregNormal (req : Req) (arm : Bool) (s : State) : Out := .next (s.cmdWrite req R.PWR_AOREG (BitVec.ofNat 32 (2 * b2n arm)) true)

/-- AOREG_LP_ARM (16 R409): PWR_AOREG.LP_ARM is written. -/
def execAoregLpArm (req : Req) (lp arm : Bool) (s : State) : Out := .next (s.cmdWrite req R.PWR_AOREG (BitVec.ofNat 32 (b2n lp + 2 * b2n arm)) true)

/-- RST_CTRL_WARM (17 R422): WARM is written 1. -/
def execRstCtrlWarm (req : Req) (s : State) : Out := .next (s.cmdWrite req R.RST_CTRL 1 true)

/-- RST_CTRL_COLD (17 R421): COLD is written 1; `bad`: the die-to-die links that fail training in the boot that follows. -/
def execRstCtrlCold (req : Req) (bad : List Nat) (s : State) : Out := .next ((s.modPwr (fun p => { p with bad := bad })).cmdWrite req R.RST_CTRL 2 true)

/-- PARTITION_RESET (17 R425): a write of RST_PRESET. -/
def execPartitionReset (req : Req) (val : W32) (s : State) : Out := .next (s.cmdWrite req R.RST_PRESET val true)

/-- ENGINE_RESET (17 R426): a write of RST_ERESET with LOAD 0. -/
def execEngineReset (req : Req) (target : BitVec 8) (s : State) : Out := .next (s.cmdWrite req R.RST_ERESET (BitVec.ofNat 32 target.toNat) true)

/-- FEC_LOAD (17 R436): a write of RST_ERESET with LOAD 1. -/
def execFecLoad (req : Req) (target : BitVec 8) (s : State) : Out := .next (s.cmdWrite req R.RST_ERESET (BitVec.ofNat 32 (2 ^ 8 + target.toNat)) true)

/-- WATCHDOG_KICK (17 R440): KICK is written 1. -/
def execWatchdogKick (req : Req) (s : State) : Out := .next (s.cmdWrite req R.RST_FEC_KICK 1 true)

/-- FLASH_RELEASE (17 R432): a write of RST_FLASH_CTRL. -/
def execFlashRelease (req : Req) (val : W32) (s : State) : Out := .next (s.cmdWrite req R.RST_FLASH_CTRL val true)

/-- PSD_CMD (18 R458): a write of PSD_CMD. -/
def execPsdCmd (req : Req) (val : W32) (s : State) : Out := .next (s.cmdWrite req R.PSD_CMD val true)

/-- MON_HOST_LOCK (20 R487): LOCK is written 1. -/
def execMonHostLock (req : Req) (s : State) : Out := .next (s.cmdWrite req R.DBG_MON_CTRL 1 true)

/-- PERF_RUN (20 R489): RUN is written. -/
def execPerfRun (req : Req) (run : Bool) (s : State) : Out := .next (s.cmdWrite req R.DBG_PCTRL (BitVec.ofNat 32 (b2n run)) true)

/-- PERF_CLEAR (20 R489): CLEAR is written 1, with RUN as `run`. -/
def execPerfClear (req : Req) (run : Bool) (s : State) : Out := .next (s.cmdWrite req R.DBG_PCTRL (BitVec.ofNat 32 (2 + b2n run)) true)

/-- FEC_RESTART (17 R437, R440): a write of RST_ERESET with LOAD 0 that names a control core, or the restart of a halted core. -/
def execFecRestart (n : Nat) (req : Option Req) (s : State) : Out :=
  match req with
  | some r => when' "FEC_RESTART" (n ≤ 1) (s.cmdWrite r R.RST_ERESET (BitVec.ofNat 32 (75 + n)) true)
  | none => orNever "FEC_RESTART" (s.haltRestart n)

end Sys2Proof.Machine
end

