-- ==== Sys2Proof/Machine/Dispatch.lean ====
section
/-! DEFINITION. The meaning of each command: one arm per row of the operations table. -/

namespace Sys2Proof.Machine

/-- The effect of a command on everything but the queue. -/
def exec (i : Instr) (s : State) : Host.Outcome State Fault Refusal :=
  match i with
  | .registerWrite req off val full => Sys2Proof.Machine.execRegisterWrite req off val full s
  | .flitRetry link again => Sys2Proof.Machine.execFlitRetry link again s
  | .linkLost link => Sys2Proof.Machine.execLinkLost link s
  | .lineRequestComplete core id ev1 ev2 ue ce => Sys2Proof.Machine.execLineRequestComplete core id ev1 ev2 ue ce s
  | .functionLevelReset => Sys2Proof.Machine.execFunctionLevelReset s
  | .dStateChange hi lo => Sys2Proof.Machine.execDStateChange hi lo s
  | .l1Exit => Sys2Proof.Machine.execL1Exit s
  | .linkUp speed width advH advD => Sys2Proof.Machine.execLinkUp speed width advH advD s
  | .linkDown => Sys2Proof.Machine.execLinkDown s
  | .hotReset => Sys2Proof.Machine.execHotReset s
  | .apEnable req val => Sys2Proof.Machine.execApEnable req val s
  | .apCtrlUpdate req val => Sys2Proof.Machine.execApCtrlUpdate req val s
  | .apDisable req val => Sys2Proof.Machine.execApDisable req val s
  | .apWrite off rid data => Sys2Proof.Machine.execApWrite off rid data s
  | .bar2Read off n => Sys2Proof.Machine.execBar2Read off n s
  | .apConsumedWrite req val => Sys2Proof.Machine.execApConsumedWrite req val s
  | .apWmWrite req val => Sys2Proof.Machine.execApWmWrite req val s
  | .mwinRead w n => Sys2Proof.Machine.execMwinRead w n s
  | .mwinWrite w data => Sys2Proof.Machine.execMwinWrite w data s
  | .walkComplete k => Sys2Proof.Machine.execWalkComplete k s
  | .invGo req => Sys2Proof.Machine.execInvGo req s
  | .holderInvAck h => Sys2Proof.Machine.execHolderInvAck h s
  | .bcastRequest req val => Sys2Proof.Machine.execBcastRequest req val s
  | .bcastServe => Sys2Proof.Machine.execBcastServe s
  | .bcastDone => Sys2Proof.Machine.execBcastDone s
  | .ctxLostClear req ix val => Sys2Proof.Machine.execCtxLostClear req ix val s
  | .ringPush req val => Sys2Proof.Machine.execRingPush req val s
  | .abortStopped seq => Sys2Proof.Machine.execAbortStopped seq s
  | .packetFetch q => Sys2Proof.Machine.execPacketFetch q s
  | .nopPacket q => Sys2Proof.Machine.execNopPacket q s
  | .dispatch q => Sys2Proof.Machine.execDispatch q s
  | .renderPass q => Sys2Proof.Machine.execRenderPass q s
  | .copyPacket q => Sys2Proof.Machine.execCopyPacket q s
  | .semSignal q => Sys2Proof.Machine.execSemSignal q s
  | .semWait q => Sys2Proof.Machine.execSemWait q s
  | .fencePoll q => Sys2Proof.Machine.execFencePoll q s
  | .packetComplete q => Sys2Proof.Machine.execPacketComplete q s
  | .queueDoorbell req q tail => Sys2Proof.Machine.execQueueDoorbell req q tail s
  | .queueEnable req => Sys2Proof.Machine.execQueueEnable req s
  | .queueDisable req => Sys2Proof.Machine.execQueueDisable req s
  | .queueReset req en => Sys2Proof.Machine.execQueueReset req en s
  | .graphDoorbell req ctx val => Sys2Proof.Machine.execGraphDoorbell req ctx val s
  | .launchSlot => Sys2Proof.Machine.execLaunchSlot s
  | .strandPost => Sys2Proof.Machine.execStrandPost s
  | .packetTimeout id => Sys2Proof.Machine.execPacketTimeout id s
  | .drainWindowEnd timeout n => Sys2Proof.Machine.execDrainWindowEnd timeout n s
  | .bwWindowEnd mask => Sys2Proof.Machine.execBwWindowEnd mask s
  | .partitionEnable req val => Sys2Proof.Machine.execPartitionEnable req val s
  | .partitionDisable req val => Sys2Proof.Machine.execPartitionDisable req val s
  | .partitionQuiesce req val => Sys2Proof.Machine.execPartitionQuiesce req val s
  | .partitionResume req val => Sys2Proof.Machine.execPartitionResume req val s
  | .partitionResize req ce val => Sys2Proof.Machine.execPartitionResize req ce val s
  | .partitionFecSelect req val => Sys2Proof.Machine.execPartitionFecSelect req val s
  | .ringEnable req val => Sys2Proof.Machine.execRingEnable req val s
  | .ringDisable req val => Sys2Proof.Machine.execRingDisable req val s
  | .admitCtx req ctx => Sys2Proof.Machine.execAdmitCtx req ctx s
  | .evict req ctx => Sys2Proof.Machine.execEvict req ctx s
  | .schedCommit req val => Sys2Proof.Machine.execSchedCommit req val s
  | .schedRun req switch => Sys2Proof.Machine.execSchedRun req switch s
  | .schedStop req switch => Sys2Proof.Machine.execSchedStop req switch s
  | .schedSwitch req run => Sys2Proof.Machine.execSchedSwitch req run s
  | .schedEntryStart => Sys2Proof.Machine.execSchedEntryStart s
  | .favWrite req val => Sys2Proof.Machine.execFavWrite req val s
  | .selftestReq req val => Sys2Proof.Machine.execSelftestReq req val s
  | .ceSelftestEnd n pass => Sys2Proof.Machine.execCeSelftestEnd n pass s
  | .coreSelftest req core => Sys2Proof.Machine.execCoreSelftest req core s
  | .coreSelftestEnd pass => Sys2Proof.Machine.execCoreSelftestEnd pass s
  | .fenceCore req core => Sys2Proof.Machine.execFenceCore req core s
  | .unfenceCore req core => Sys2Proof.Machine.execUnfenceCore req core s
  | .guardClkLoss => Sys2Proof.Machine.execGuardClkLoss s
  | .gload => Sys2Proof.Machine.execGload s
  | .gstore => Sys2Proof.Machine.execGstore s
  | .armPacket => Sys2Proof.Machine.execArmPacket s
  | .disarmPacket => Sys2Proof.Machine.execDisarmPacket s
  | .guardSelftest => Sys2Proof.Machine.execGuardSelftest s
  | .armComplete => Sys2Proof.Machine.execArmComplete s
  | .gdWake req wake => Sys2Proof.Machine.execGdWake req wake s
  | .verdict r x => Sys2Proof.Machine.execVerdict r x s
  | .boundExceeded => Sys2Proof.Machine.execBoundExceeded s
  | .staleExpiry => Sys2Proof.Machine.execStaleExpiry s
  | .restartEnd => Sys2Proof.Machine.execRestartEnd s
  | .guardSelftestEnd pass => Sys2Proof.Machine.execGuardSelftestEnd pass s
  | .workgroupLaunch pkt core slots => Sys2Proof.Machine.execWorkgroupLaunch pkt core slots s
  | .podRetire core slot => Sys2Proof.Machine.execPodRetire core slot s
  | .trapEntry core slot => Sys2Proof.Machine.execTrapEntry core slot s
  | .nop r x => Sys2Proof.Machine.execNop r x s
  | .exit r x => Sys2Proof.Machine.execExit r x s
  | .trap r x => Sys2Proof.Machine.execTrap r x s
  | .tret r x => Sys2Proof.Machine.execTret r x s
  | .bar r x => Sys2Proof.Machine.execBar r x s
  | .fence r x => Sys2Proof.Machine.execFence r x s
  | .jmp r x => Sys2Proof.Machine.execJmp r x s
  | .jz r x => Sys2Proof.Machine.execJz r x s
  | .jnz r x => Sys2Proof.Machine.execJnz r x s
  | .call r x => Sys2Proof.Machine.execCall r x s
  | .jmpr r x => Sys2Proof.Machine.execJmpr r x s
  | .sadd r x => Sys2Proof.Machine.execSadd r x s
  | .ssub r x => Sys2Proof.Machine.execSsub r x s
  | .smul r x => Sys2Proof.Machine.execSmul r x s
  | .sand r x => Sys2Proof.Machine.execSand r x s
  | .sor r x => Sys2Proof.Machine.execSor r x s
  | .sxor r x => Sys2Proof.Machine.execSxor r x s
  | .sandn r x => Sys2Proof.Machine.execSandn r x s
  | .sshl r x => Sys2Proof.Machine.execSshl r x s
  | .sshr r x => Sys2Proof.Machine.execSshr r x s
  | .smin r x => Sys2Proof.Machine.execSmin r x s
  | .smax r x => Sys2Proof.Machine.execSmax r x s
  | .smov r x => Sys2Proof.Machine.execSmov r x s
  | .spopc r x => Sys2Proof.Machine.execSpopc r x s
  | .sffs r x => Sys2Proof.Machine.execSffs r x s
  | .scmp r x => Sys2Proof.Machine.execScmp r x s
  | .sadd64 r x => Sys2Proof.Machine.execSadd64 r x s
  | .viadd r x => Sys2Proof.Machine.execViadd r x s
  | .visub r x => Sys2Proof.Machine.execVisub r x s
  | .vimul r x => Sys2Proof.Machine.execVimul r x s
  | .vimulhi r x => Sys2Proof.Machine.execVimulhi r x s
  | .vimad r x => Sys2Proof.Machine.execVimad r x s
  | .vand r x => Sys2Proof.Machine.execVand r x s
  | .vor r x => Sys2Proof.Machine.execVor r x s
  | .vxor r x => Sys2Proof.Machine.execVxor r x s
  | .vshl r x => Sys2Proof.Machine.execVshl r x s
  | .vshr r x => Sys2Proof.Machine.execVshr r x s
  | .vimin r x => Sys2Proof.Machine.execVimin r x s
  | .vimax r x => Sys2Proof.Machine.execVimax r x s
  | .vmov r x => Sys2Proof.Machine.execVmov r x s
  | .vsel r x => Sys2Proof.Machine.execVsel r x s
  | .vicmp r x => Sys2Proof.Machine.execVicmp r x s
  | .vshfl r x => Sys2Proof.Machine.execVshfl r x s
  | .vfadd r x => Sys2Proof.Machine.execVfadd r x s
  | .vfmul r x => Sys2Proof.Machine.execVfmul r x s
  | .vffma r x => Sys2Proof.Machine.execVffma r x s
  | .vfmin r x => Sys2Proof.Machine.execVfmin r x s
  | .vfmax r x => Sys2Proof.Machine.execVfmax r x s
  | .vfdiv r x => Sys2Proof.Machine.execVfdiv r x s
  | .vfsqrt r x => Sys2Proof.Machine.execVfsqrt r x s
  | .vfrcp r x => Sys2Proof.Machine.execVfrcp r x s
  | .vfrsq r x => Sys2Proof.Machine.execVfrsq r x s
  | .vfcmp r x => Sys2Proof.Machine.execVfcmp r x s
  | .vfexp2 r x => Sys2Proof.Machine.execVfexp2 r x s
  | .vflog2 r x => Sys2Proof.Machine.execVflog2 r x s
  | .vhfma r x => Sys2Proof.Machine.execVhfma r x s
  | .vbfma r x => Sys2Proof.Machine.execVbfma r x s
  | .vdadd r x => Sys2Proof.Machine.execVdadd r x s
  | .vdmul r x => Sys2Proof.Machine.execVdmul r x s
  | .vdfma r x => Sys2Proof.Machine.execVdfma r x s
  | .vddiv r x => Sys2Proof.Machine.execVddiv r x s
  | .vdsqrt r x => Sys2Proof.Machine.execVdsqrt r x s
  | .vdcmp r x => Sys2Proof.Machine.execVdcmp r x s
  | .vcvt r x => Sys2Proof.Machine.execVcvt r x s
  | .vbfe r x => Sys2Proof.Machine.execVbfe r x s
  | .vbfi r x => Sys2Proof.Machine.execVbfi r x s
  | .vpopc r x => Sys2Proof.Machine.execVpopc r x s
  | .ld r x => Sys2Proof.Machine.execLd r x s
  | .st r x => Sys2Proof.Machine.execSt r x s
  | .sld r x => Sys2Proof.Machine.execSld r x s
  | .sst r x => Sys2Proof.Machine.execSst r x s
  | .ldt r x => Sys2Proof.Machine.execLdt r x s
  | .stt r x => Sys2Proof.Machine.execStt r x s
  | .atomt r x => Sys2Proof.Machine.execAtomt r x s
  | .atom r x => Sys2Proof.Machine.execAtom r x s
  | .lkwait r x => Sys2Proof.Machine.execLkwait r x s
  | .unlk r x => Sys2Proof.Machine.execUnlk r x s
  | .tmma r x => Sys2Proof.Machine.execTmma r x s
  | .tcvt r x => Sys2Proof.Machine.execTcvt r x s
  | .tensorStart core => Sys2Proof.Machine.execTensorStart core s
  | .tensorComplete core => Sys2Proof.Machine.execTensorComplete core s
  | .pixlock r x => Sys2Proof.Machine.execPixlock r x s
  | .pixunlk r x => Sys2Proof.Machine.execPixunlk r x s
  | .rayq r x => Sys2Proof.Machine.execRayq r x s
  | .batchBegin pkt => Sys2Proof.Machine.execBatchBegin pkt s
  | .batchCommit pkt => Sys2Proof.Machine.execBatchCommit pkt s
  | .primitiveBin => Sys2Proof.Machine.execPrimitiveBin s
  | .flushResume => Sys2Proof.Machine.execFlushResume s
  | .tileDispatch cluster => Sys2Proof.Machine.execTileDispatch cluster s
  | .pixelPodLaunch core set slot => Sys2Proof.Machine.execPixelPodLaunch core set slot s
  | .tileWriteOut core set => Sys2Proof.Machine.execTileWriteOut core set s
  | .passPageReturn => Sys2Proof.Machine.execPassPageReturn s
  | .nodeReadComplete unit query => Sys2Proof.Machine.execNodeReadComplete unit query s
  | .nodeLimit unit query => Sys2Proof.Machine.execNodeLimit unit query s
  | .copyDescriptor pkt => Sys2Proof.Machine.execCopyDescriptor pkt s
  | .fillDescriptor pkt => Sys2Proof.Machine.execFillDescriptor pkt s
  | .descriptorComplete pkt k => Sys2Proof.Machine.execDescriptorComplete pkt k s
  | .clearMaxe req => Sys2Proof.Machine.execClearMaxe req s
  | .crcEnable req val => Sys2Proof.Machine.execCrcEnable req val s
  | .crcDisable req val => Sys2Proof.Machine.execCrcDisable req val s
  | .crcFrameCompare unit => Sys2Proof.Machine.execCrcFrameCompare unit s
  | .nodeIdWrite req val => Sys2Proof.Machine.execNodeIdWrite req val s
  | .routeCommit req val => Sys2Proof.Machine.execRouteCommit req val s
  | .nodeLeave req val => Sys2Proof.Machine.execNodeLeave req val s
  | .windowCommit req val => Sys2Proof.Machine.execWindowCommit req val s
  | .groupCommit req val => Sys2Proof.Machine.execGroupCommit req val s
  | .portEnable req => Sys2Proof.Machine.execPortEnable req s
  | .portUp port => Sys2Proof.Machine.execPortUp port s
  | .portDown port => Sys2Proof.Machine.execPortDown port s
  | .fabReadReq port src id addr n => Sys2Proof.Machine.execFabReadReq port src id addr n s
  | .fabWrite port src id addr data => Sys2Proof.Machine.execFabWrite port src id addr data s
  | .fabAtomic port src id addr op wide ftz a b => Sys2Proof.Machine.execFabAtomic port src id addr op wide ftz a b s
  | .fabReadRsp port id data => Sys2Proof.Machine.execFabReadRsp port id data s
  | .fabWriteAck port id => Sys2Proof.Machine.execFabWriteAck port id s
  | .fabAtomicRsp port id data => Sys2Proof.Machine.execFabAtomicRsp port id data s
  | .fabRefuse port id detail => Sys2Proof.Machine.execFabRefuse port id detail s
  | .fabAbort port group cause origin seq => Sys2Proof.Machine.execFabAbort port group cause origin seq s
  | .fabResponseTimeout id => Sys2Proof.Machine.execFabResponseTimeout id s
  | .rootUnlock => Sys2Proof.Machine.execRootUnlock s
  | .rootRelock => Sys2Proof.Machine.execRootRelock s
  | .ppRequest req val => Sys2Proof.Machine.execPpRequest req val s
  | .pmbusWriteComplete => Sys2Proof.Machine.execPmbusWriteComplete s
  | .pmbusFail mode => Sys2Proof.Machine.execPmbusFail mode s
  | .vsettleExpiry => Sys2Proof.Machine.execVsettleExpiry s
  | .tierSourceLost => Sys2Proof.Machine.execTierSourceLost s
  | .domainToOn req domain => Sys2Proof.Machine.execDomainToOn req domain s
  | .domainToRet req domain => Sys2Proof.Machine.execDomainToRet req domain s
  | .domainToOff req domain => Sys2Proof.Machine.execDomainToOff req domain s
  | .domainTransitionDone linkUp => Sys2Proof.Machine.execDomainTransitionDone linkUp s
  | .aoregLp req arm => Sys2Proof.Machine.execAoregLp req arm s
  | .aoregNormal req arm => Sys2Proof.Machine.execAoregNormal req arm s
  | .aoregLpArm req lp arm => Sys2Proof.Machine.execAoregLpArm req lp arm s
  | .aoregSwitchDone => Sys2Proof.Machine.execAoregSwitchDone s
  | .aoregBrownout => Sys2Proof.Machine.execAoregBrownout s
  | .wakeTimerExpiry => Sys2Proof.Machine.execWakeTimerExpiry s
  | .thermalSample raws => Sys2Proof.Machine.execThermalSample raws s
  | .thermalLevelUp sensor thr => Sys2Proof.Machine.execThermalLevelUp sensor thr s
  | .thermalLevelDown sensor thr => Sys2Proof.Machine.execThermalLevelDown sensor thr s
  | .critShutdownDone => Sys2Proof.Machine.execCritShutdownDone s
  | .aoPowerOn perst bad => Sys2Proof.Machine.execAoPowerOn perst bad s
  | .perstAssert => Sys2Proof.Machine.execPerstAssert s
  | .perstRelease bad => Sys2Proof.Machine.execPerstRelease bad s
  | .rstCtrlWarm req => Sys2Proof.Machine.execRstCtrlWarm req s
  | .rstCtrlCold req bad => Sys2Proof.Machine.execRstCtrlCold req bad s
  | .resetNPress => Sys2Proof.Machine.execResetNPress s
  | .resetNGlitch => Sys2Proof.Machine.execResetNGlitch s
  | .resetNRelease bad => Sys2Proof.Machine.execResetNRelease bad s
  | .resetEscalate => Sys2Proof.Machine.execResetEscalate s
  | .resetStuck => Sys2Proof.Machine.execResetStuck s
  | .bootImageLoaded n => Sys2Proof.Machine.execBootImageLoaded n s
  | .partitionReset req val => Sys2Proof.Machine.execPartitionReset req val s
  | .engineReset req target => Sys2Proof.Machine.execEngineReset req target s
  | .fecLoad req target => Sys2Proof.Machine.execFecLoad req target s
  | .fecRestart n req => Sys2Proof.Machine.execFecRestart n req s
  | .fecException n pc status sp handler => Sys2Proof.Machine.execFecException n pc status sp handler s
  | .fecWatchdogExpiry n => Sys2Proof.Machine.execFecWatchdogExpiry n s
  | .watchdogKick req => Sys2Proof.Machine.execWatchdogKick req s
  | .flashRelease req val => Sys2Proof.Machine.execFlashRelease req val s
  | .getVersion msg => Sys2Proof.Machine.execGetVersion msg s
  | .getCapabilities msg => Sys2Proof.Machine.execGetCapabilities msg s
  | .negotiateAlgorithms msg => Sys2Proof.Machine.execNegotiateAlgorithms msg s
  | .getDigests msg => Sys2Proof.Machine.execGetDigests msg s
  | .getCertificate msg => Sys2Proof.Machine.execGetCertificate msg s
  | .challenge msg => Sys2Proof.Machine.execChallenge msg s
  | .getMeasurements msg => Sys2Proof.Machine.execGetMeasurements msg s
  | .psdPor straps => Sys2Proof.Machine.execPsdPor straps s
  | .conversionCycle cells ntc => Sys2Proof.Machine.execConversionCycle cells ntc s
  | .ovLevelChange cell => Sys2Proof.Machine.execOvLevelChange cell s
  | .uvLevelChange cell => Sys2Proof.Machine.execUvLevelChange cell s
  | .ntcLevelChange m ut => Sys2Proof.Machine.execNtcLevelChange m ut s
  | .settlingEnd => Sys2Proof.Machine.execSettlingEnd s
  | .tierDecision => Sys2Proof.Machine.execTierDecision s
  | .pbalMinute cells => Sys2Proof.Machine.execPbalMinute cells s
  | .refchkStart => Sys2Proof.Machine.execRefchkStart s
  | .refchkEnd errs => Sys2Proof.Machine.execRefchkEnd errs s
  | .statusFrame err => Sys2Proof.Machine.execStatusFrame err s
  | .psdWrite err => Sys2Proof.Machine.execPsdWrite err s
  | .clearFault err => Sys2Proof.Machine.execClearFault err s
  | .refchkNow err => Sys2Proof.Machine.execRefchkNow err s
  | .clearPor err => Sys2Proof.Machine.execClearPor err s
  | .keepalive err => Sys2Proof.Machine.execKeepalive err s
  | .brownout err => Sys2Proof.Machine.execBrownout err s
  | .hioSilent => Sys2Proof.Machine.execHioSilent s
  | .downLaneIdle => Sys2Proof.Machine.execDownLaneIdle s
  | .psdCmd req val => Sys2Proof.Machine.execPsdCmd req val s
  | .commandSend => Sys2Proof.Machine.execCommandSend s
  | .psdAck err => Sys2Proof.Machine.execPsdAck err s
  | .psdAckTimeout => Sys2Proof.Machine.execPsdAckTimeout s
  | .hostCreditReturn h d => Sys2Proof.Machine.execHostCreditReturn h d s
  | .uartChar ch framing => Sys2Proof.Machine.execUartChar ch framing s
  | .uartBreak => Sys2Proof.Machine.execUartBreak s
  | .baudRevert => Sys2Proof.Machine.execBaudRevert s
  | .challengeExpiry => Sys2Proof.Machine.execChallengeExpiry s
  | .monId => Sys2Proof.Machine.execMonId s
  | .monStat => Sys2Proof.Machine.execMonStat s
  | .monRd => Sys2Proof.Machine.execMonRd s
  | .monWr => Sys2Proof.Machine.execMonWr s
  | .monMrd => Sys2Proof.Machine.execMonMrd s
  | .monMwr => Sys2Proof.Machine.execMonMwr s
  | .monMeas => Sys2Proof.Machine.execMonMeas s
  | .monLog => Sys2Proof.Machine.execMonLog s
  | .monPlog => Sys2Proof.Machine.execMonPlog s
  | .monCnt => Sys2Proof.Machine.execMonCnt s
  | .monChal => Sys2Proof.Machine.execMonChal s
  | .monUnlock => Sys2Proof.Machine.execMonUnlock s
  | .monLock => Sys2Proof.Machine.execMonLock s
  | .monBaud => Sys2Proof.Machine.execMonBaud s
  | .monEcho => Sys2Proof.Machine.execMonEcho s
  | .monHostLock req => Sys2Proof.Machine.execMonHostLock req s
  | .perfRun req run => Sys2Proof.Machine.execPerfRun req run s
  | .perfClear req run => Sys2Proof.Machine.execPerfClear req run s
  | .refclkLoss => Sys2Proof.Machine.execRefclkLoss s
  | .refclkReturn => Sys2Proof.Machine.execRefclkReturn s
  | .aoSupplyLoss => Sys2Proof.Machine.execAoSupplyLoss s
  | .psdVpackLoss => Sys2Proof.Machine.execPsdVpackLoss s
  | .promptEnd => Sys2Proof.Machine.execPromptEnd s
  | .doeDiscovery index => Sys2Proof.Machine.execDoeDiscovery index s

end Sys2Proof.Machine
end

