-- ==== Sys2Proof/Machine/Tick.lean ====
section
/-! DEFINITION. What passes by itself with a cycle of AO_CLK: clocks, counters of time, and whatever can go on without an event (07 R191; 17 R428; 19
R468; 20 R489). -/

namespace Sys2Proof.Machine

/-- CORE_CLK cycles of ON cores, per owner of their cluster (20 Table MON-6). -/
def State.perfCores (s : State) : State :=
  (List.range 8).foldl (fun s n => if s.dom (D.CL + n) = 2 then s.perf 2 ((s.clusterOwner n).getD 16) (4 * s.coreMhz) else s) s

/-- GD_TIME advances by 24 cycles of GUARD_CLK; the pin is driven again once its edges are seen (07 R179, R191). -/
def State.guardTime (s : State) : State :=
  if s.on D.GD && s.rootLock then
    let s := s.bumpPair R.GD_TIME_LO 24
    if s.gd.clkSeen then s else { s with gd := { s.gd with clkSeen := true } }.settlePin
  else s

/-- RST_HOLD_MS counts while a press lasts (17 R428); the milliseconds 6,000 and 60,000 come with their own events. -/
def State.holdTime (s : State) : State :=
  let r := s.ao.rst
  if !r.button then s
  else
    let n := r.hold + 1
    let cap := if !r.escalated then 5999 else if !r.stuckDone then 59999 else 0xFFFFFFFF
    (s.modRst (fun r => { r with hold := n })).setRegN R.RST_HOLD_MS (max (min (n / 25000) cap) (s.reg R.RST_HOLD_MS).toNat)

/-- Does a general write wait only because of the marker reserve (19 R468)? -/
def State.genStalled (s : State) : Bool :=
  s.canSend && (match firstGeneral [] s.hs.waiting with
    | some (w, _) => !s.creditsFor w && 1 ≤ s.hs.credH && w.credits ≤ s.hs.credD
    | none => false)

/-- Does a marker write wait for host credits? -/
def State.markStalled (s : State) : Bool :=
  s.canSend && (match freeMarker [] s.hs.waiting with
    | some (w, _) => !s.creditsFor w
    | none => false)

/-- Each microsecond: the stall counters (19 R468). -/
def State.stallTime (s : State) : State :=
  if s.ticks % 25 ≠ 0 then s
  else
    let s := if s.genStalled then s.inc R.HIF_OUT_GEN_STALL_COUNT else s
    if s.markStalled then s.inc R.HIF_OUT_MARK_STALL_COUNT else s

/-- A counter of what the environment or the timing of single cycles brings advances by any amount while it may (notes/assumptions/62.md). -/
def State.noise (s : State) (may : Bool) (k cap : Nat) : State :=
  if may then (let (v, s) := s.draw; s.bump k (v % cap)) else s

/-- Link-level retries of the fabric (15 R371), and in each microsecond requests that yielded (19 R464) and ingress credits withheld (19 R470). -/
def State.noiseTime (s : State) : State :=
  let s := (List.range 4).foldl (fun s p => s.noise (s.fuses.fio && s.portUp p) (rk R.FAB_P_RETRY_COUNT p) (2 ^ 32)) s
  if s.ticks % 25 ≠ 0 then s
  else (s.noise (s.on D.L2N) R.GLB_NOC_REQ_YIELD_COUNT 2).noise (!s.hs.lane.isEmpty) R.HIF_IN_CREDIT_HOLD_COUNT 2

/-- Errors come up in memory (01 R20, R21; 07 R176). -/
def State.errorsRise (s : State) (n : Nat) : State :=
  let s := s.spoil (Config.dramErrors n) (Config.dramSingles n)
  { s with gd := { s.gd with
    ue := s.gd.ue ++ (Config.sramErrors n).filter (fun w => !s.gd.ue.contains w)
    ce := s.gd.ce ++ (Config.sramSingles n).filter (fun w => !s.gd.ce.contains w) } }

/-- What waited for a walker, the host link or another node goes on where it can: ingress, copy engines, member arrays being read, remote requests of cores,
fences of pods (notes/assumptions/65.md). -/
def State.goOn (s : State) : State := ((List.range 32).foldl (fun s c => s.askRemotes c) s.fabSettle).fencesSettle

/-- Watchdogs of the control cores count (17 R440). -/
def State.fecTime (s : State) : State :=
  s.modRst (fun r => { r with fecs := r.fecs.map (fun f => { f with wd := f.wd + 1 }) })

/-- One cycle of AO_CLK, 40 ns (notes/assumptions/1.md): what waits outside is taken up first, and what comes next from there is free. Nothing of it comes
about without the AO supply or its clock, and the units that the root PLL clocks stand still while it is out of lock (16 R392). -/
def State.tick (s : State) : State :=
  if !s.aoRuns then s
  else
    let n := s.ticks
    let s := ((s.serveOutside.errorsRise n).guardTime.holdTime).fecTime
    let s := if s.rootLock then ((((s.perf 1 16 16).perfCores).stallTime).noiseTime).goOn else s
    { s with ticks := n + 1, hs := { s.hs with outside := Config.outside n } }

end Sys2Proof.Machine
end

