-- ==== Sys2Proof/WellFormed.lean ====
section
/-! DEFINITION. Which commands are well formed: the operands lie in the ranges that the spec gives what they name. It says nothing
of the state; a command that is not well formed has no effect of its own or cannot come about. -/

namespace Sys2Proof

/-- A pod reference names the guard core or one of 48 slots of 32 shader cores (08 R201, R204). -/
def PodRef.legal (r : PodRef) : Bool :=
  match r with
  | .guard => true
  | .slot core k => decide (core < 32 ∧ k < 48)

/-- Is a command well formed? The constructors' rules say what the operands are (Syntax). -/
def Instr.wellFormed (c : Instr) : Bool :=
  match c with
  | .registerWrite _ off _ _ => decide (off % 4 = 0 ∧ off < 2 ^ 26)
  | .flitRetry link _ => decide (link < 6)
  | .linkLost link => decide (link < 6)
  | .lineRequestComplete core _ _ _ _ _ => decide (core < 32)
  | .dStateChange _ _ => true
  | .linkUp speed width advH advD => decide (1 ≤ speed ∧ speed ≤ 5 ∧ width ∈ [1, 2, 4] ∧ advH < 256 ∧ advD < 4096)
  | .apEnable _ _ => true
  | .apCtrlUpdate _ _ => true
  | .apDisable _ _ => true
  | .apWrite off rid data => decide (off < 0xF0000000 ∧ rid < 2 ^ 16 ∧ data ≠ [] ∧ off % 4096 + data.length ≤ 4096)
  | .bar2Read off n => decide (0 < n ∧ off + n ≤ 0xF0000000)
  | .apConsumedWrite _ _ => true
  | .apWmWrite _ _ => true
  | .mwinRead w n => decide (0 < n ∧ w % 4096 + n ≤ 4096 ∧ w < 2 ^ 28)
  | .mwinWrite w data => decide (data ≠ [] ∧ w % 4096 + data.length ≤ 4096 ∧ w < 2 ^ 28)
  | .walkComplete k => decide (k < 16)
  | .invGo _ => true
  | .holderInvAck h => decide (h < 58)
  | .bcastRequest _ _ => true
  | .ctxLostClear _ _ _ => true
  | .ringPush _ _ => true
  | .abortStopped _ => true
  | .packetFetch q => decide (q < 256)
  | .nopPacket q => decide (q < 256)
  | .dispatch q => decide (q < 256)
  | .renderPass q => decide (q < 256)
  | .copyPacket q => decide (q < 256)
  | .semSignal q => decide (q < 256)
  | .semWait q => decide (q < 256)
  | .fencePoll q => decide (q < 256)
  | .packetComplete q => decide (q < 256)
  | .queueDoorbell _ _ _ => true
  | .queueEnable _ => true
  | .queueDisable _ => true
  | .queueReset _ _ => true
  | .graphDoorbell _ _ _ => true
  | .packetTimeout _ => true
  | .drainWindowEnd _ _ => true
  | .bwWindowEnd _ => true
  | .partitionEnable _ _ => true
  | .partitionDisable _ _ => true
  | .partitionQuiesce _ _ => true
  | .partitionResume _ _ => true
  | .partitionResize _ _ _ => true
  | .partitionFecSelect _ _ => true
  | .ringEnable _ _ => true
  | .ringDisable _ _ => true
  | .admitCtx _ _ => true
  | .evict _ _ => true
  | .schedCommit _ _ => true
  | .schedRun _ _ => true
  | .schedStop _ _ => true
  | .schedSwitch _ _ => true
  | .favWrite _ _ => true
  | .selftestReq _ _ => true
  | .ceSelftestEnd n _ => decide (n < 4)
  | .coreSelftest _ _ => true
  | .coreSelftestEnd _ => true
  | .fenceCore _ _ => true
  | .unfenceCore _ _ => true
  | .gdWake _ _ => true
  | .verdict r _ => decide (r.legal = true)
  | .guardSelftestEnd _ => true
  | .workgroupLaunch _ core slots => decide (core < 32 ∧ slots ≠ [] ∧ slots.Nodup ∧ ∀ k ∈ slots, k < 48)
  | .podRetire core slot => decide (core < 32 ∧ slot < 48)
  | .trapEntry core slot => decide (core < 32 ∧ slot < 48)
  | .nop r _ => decide (r.legal = true)
  | .exit r _ => decide (r.legal = true)
  | .trap r _ => decide (r.legal = true)
  | .tret r _ => decide (r.legal = true)
  | .bar r _ => decide (r.legal = true)
  | .fence r _ => decide (r.legal = true)
  | .jmp r _ => decide (r.legal = true)
  | .jz r _ => decide (r.legal = true)
  | .jnz r _ => decide (r.legal = true)
  | .call r _ => decide (r.legal = true)
  | .jmpr r _ => decide (r.legal = true)
  | .sadd r _ => decide (r.legal = true)
  | .ssub r _ => decide (r.legal = true)
  | .smul r _ => decide (r.legal = true)
  | .sand r _ => decide (r.legal = true)
  | .sor r _ => decide (r.legal = true)
  | .sxor r _ => decide (r.legal = true)
  | .sandn r _ => decide (r.legal = true)
  | .sshl r _ => decide (r.legal = true)
  | .sshr r _ => decide (r.legal = true)
  | .smin r _ => decide (r.legal = true)
  | .smax r _ => decide (r.legal = true)
  | .smov r _ => decide (r.legal = true)
  | .spopc r _ => decide (r.legal = true)
  | .sffs r _ => decide (r.legal = true)
  | .scmp r _ => decide (r.legal = true)
  | .sadd64 r _ => decide (r.legal = true)
  | .viadd r _ => decide (r.legal = true)
  | .visub r _ => decide (r.legal = true)
  | .vimul r _ => decide (r.legal = true)
  | .vimulhi r _ => decide (r.legal = true)
  | .vimad r _ => decide (r.legal = true)
  | .vand r _ => decide (r.legal = true)
  | .vor r _ => decide (r.legal = true)
  | .vxor r _ => decide (r.legal = true)
  | .vshl r _ => decide (r.legal = true)
  | .vshr r _ => decide (r.legal = true)
  | .vimin r _ => decide (r.legal = true)
  | .vimax r _ => decide (r.legal = true)
  | .vmov r _ => decide (r.legal = true)
  | .vsel r _ => decide (r.legal = true)
  | .vicmp r _ => decide (r.legal = true)
  | .vshfl r _ => decide (r.legal = true)
  | .vfadd r _ => decide (r.legal = true)
  | .vfmul r _ => decide (r.legal = true)
  | .vffma r _ => decide (r.legal = true)
  | .vfmin r _ => decide (r.legal = true)
  | .vfmax r _ => decide (r.legal = true)
  | .vfdiv r _ => decide (r.legal = true)
  | .vfsqrt r _ => decide (r.legal = true)
  | .vfrcp r _ => decide (r.legal = true)
  | .vfrsq r _ => decide (r.legal = true)
  | .vfcmp r _ => decide (r.legal = true)
  | .vfexp2 r _ => decide (r.legal = true)
  | .vflog2 r _ => decide (r.legal = true)
  | .vhfma r _ => decide (r.legal = true)
  | .vbfma r _ => decide (r.legal = true)
  | .vdadd r _ => decide (r.legal = true)
  | .vdmul r _ => decide (r.legal = true)
  | .vdfma r _ => decide (r.legal = true)
  | .vddiv r _ => decide (r.legal = true)
  | .vdsqrt r _ => decide (r.legal = true)
  | .vdcmp r _ => decide (r.legal = true)
  | .vcvt r _ => decide (r.legal = true)
  | .vbfe r _ => decide (r.legal = true)
  | .vbfi r _ => decide (r.legal = true)
  | .vpopc r _ => decide (r.legal = true)
  | .ld r _ => decide (r.legal = true)
  | .st r _ => decide (r.legal = true)
  | .sld r _ => decide (r.legal = true)
  | .sst r _ => decide (r.legal = true)
  | .ldt r _ => decide (r.legal = true)
  | .stt r _ => decide (r.legal = true)
  | .atomt r _ => decide (r.legal = true)
  | .atom r _ => decide (r.legal = true)
  | .lkwait r _ => decide (r.legal = true)
  | .unlk r _ => decide (r.legal = true)
  | .tmma r _ => decide (r.legal = true)
  | .tcvt r _ => decide (r.legal = true)
  | .tensorStart core => decide (core < 32)
  | .tensorComplete core => decide (core < 32)
  | .pixlock r _ => decide (r.legal = true)
  | .pixunlk r _ => decide (r.legal = true)
  | .rayq r _ => decide (r.legal = true)
  | .batchBegin _ => true
  | .batchCommit _ => true
  | .tileDispatch cluster => decide (cluster < 8)
  | .pixelPodLaunch core set slot => decide (core < 32 ∧ set < 2 ∧ slot < 48)
  | .tileWriteOut core set => decide (core < 32 ∧ set < 2)
  | .nodeReadComplete unit _ => decide (unit < 16)
  | .nodeLimit unit _ => decide (unit < 16)
  | .copyDescriptor _ => true
  | .fillDescriptor _ => true
  | .descriptorComplete _ _ => true
  | .clearMaxe _ => true
  | .crcEnable _ _ => true
  | .crcDisable _ _ => true
  | .crcFrameCompare unit => decide (unit < 8)
  | .nodeIdWrite _ _ => true
  | .routeCommit _ _ => true
  | .nodeLeave _ _ => true
  | .windowCommit _ _ => true
  | .groupCommit _ _ => true
  | .portEnable _ => true
  | .portUp port => decide (port < 4)
  | .portDown port => decide (port < 4)
  | .fabReadReq port src _ _ n => decide (port < 4 ∧ src < 2048 ∧ 0 < n ∧ n ≤ 128)
  | .fabWrite port src _ _ data => decide (port < 4 ∧ src < 2048 ∧ data ≠ [] ∧ data.length ≤ 128)
  | .fabAtomic port src _ addr op wide _ a _ => decide (port < 4 ∧ src < 2048 ∧ op ≤ 10 ∧ 0 < a.length ∧ a.length ≤ 32 ∧
      a.all (fun l => (addr + l.1) % (if wide then 8 else 4) == 0 && addr % 128 + l.1 < 128) = true)
  | .fabReadRsp port _ _ => decide (port < 4)
  | .fabWriteAck port _ => decide (port < 4)
  | .fabAtomicRsp port _ _ => decide (port < 4)
  | .fabRefuse port _ _ => decide (port < 4)
  | .fabAbort port _ _ origin _ => decide (port < 4 ∧ origin < 2048)
  | .fabResponseTimeout _ => true
  | .ppRequest _ _ => true
  | .pmbusFail _ => true
  | .domainToOn _ _ => true
  | .domainToRet _ _ => true
  | .domainToOff _ _ => true
  | .domainTransitionDone _ => true
  | .aoregLp _ _ => true
  | .aoregNormal _ _ => true
  | .aoregLpArm _ _ _ => true
  | .thermalSample raws => decide (raws.length = 24)
  | .thermalLevelUp sensor _ => decide (sensor < 24)
  | .thermalLevelDown sensor _ => decide (sensor < 24)
  | .aoPowerOn _ _ => true
  | .perstRelease _ => true
  | .rstCtrlWarm _ => true
  | .rstCtrlCold _ _ => true
  | .resetNRelease _ => true
  | .bootImageLoaded n => decide (n < 2)
  | .partitionReset _ _ => true
  | .engineReset _ _ => true
  | .fecLoad _ _ => true
  | .fecRestart n _ => decide (n < 2)
  | .fecException n _ _ _ _ => decide (n < 2)
  | .fecWatchdogExpiry n => decide (n < 2)
  | .watchdogKick _ => true
  | .flashRelease _ _ => true
  | .getVersion _ => true
  | .getCapabilities _ => true
  | .negotiateAlgorithms _ => true
  | .getDigests _ => true
  | .getCertificate _ => true
  | .challenge _ => true
  | .getMeasurements _ => true
  | .psdPor _ => true
  | .conversionCycle cells ntc => decide (cells.length = 16 ∧ ntc.length = 4)
  | .ovLevelChange cell => decide (cell < 16)
  | .uvLevelChange cell => decide (cell < 16)
  | .ntcLevelChange m _ => decide (m < 4)
  | .pbalMinute _ => true
  | .refchkEnd errs => decide (errs.length = 16)
  | .statusFrame _ => true
  | .psdWrite _ => true
  | .clearFault _ => true
  | .refchkNow _ => true
  | .clearPor _ => true
  | .keepalive _ => true
  | .brownout _ => true
  | .psdCmd _ _ => true
  | .psdAck _ => true
  | .hostCreditReturn _ _ => true
  | .uartChar _ _ => true
  | .monHostLock _ => true
  | .perfRun _ _ => true
  | .perfClear _ _ => true
  | .doeDiscovery _ => true
  | .functionLevelReset => true
  | .l1Exit => true
  | .linkDown => true
  | .hotReset => true
  | .bcastServe => true
  | .bcastDone => true
  | .launchSlot => true
  | .strandPost => true
  | .schedEntryStart => true
  | .guardClkLoss => true
  | .gload => true
  | .gstore => true
  | .armPacket => true
  | .disarmPacket => true
  | .guardSelftest => true
  | .armComplete => true
  | .boundExceeded => true
  | .staleExpiry => true
  | .restartEnd => true
  | .primitiveBin => true
  | .flushResume => true
  | .passPageReturn => true
  | .rootUnlock => true
  | .rootRelock => true
  | .pmbusWriteComplete => true
  | .vsettleExpiry => true
  | .tierSourceLost => true
  | .aoregSwitchDone => true
  | .aoregBrownout => true
  | .wakeTimerExpiry => true
  | .critShutdownDone => true
  | .perstAssert => true
  | .resetNPress => true
  | .resetNGlitch => true
  | .resetEscalate => true
  | .resetStuck => true
  | .settlingEnd => true
  | .tierDecision => true
  | .refchkStart => true
  | .hioSilent => true
  | .downLaneIdle => true
  | .commandSend => true
  | .psdAckTimeout => true
  | .uartBreak => true
  | .baudRevert => true
  | .challengeExpiry => true
  | .monId => true
  | .monStat => true
  | .monRd => true
  | .monWr => true
  | .monMrd => true
  | .monMwr => true
  | .monMeas => true
  | .monLog => true
  | .monPlog => true
  | .monCnt => true
  | .monChal => true
  | .monUnlock => true
  | .monLock => true
  | .monBaud => true
  | .monEcho => true
  | .refclkLoss => true
  | .refclkReturn => true
  | .aoSupplyLoss => true
  | .psdVpackLoss => true
  | .promptEnd => true

end Sys2Proof
end

