-- ==== Sys2Proof/Safety.lean ====
section
/-! DEFINITION. What claims are stated in: a command that completes, what a run must not come to, the canonical form of the state, when a register
write reaches its register at once, and the state in which an issued instruction has its effect. -/

namespace Sys2Proof.Machine

/-- A command completes: it has a next state. -/
def Completes (c : Instr) (s : State) : Prop := ∃ t, exec c s = .next t

/-- A step is safe when it comes to a next state: no event was put to a state in which it cannot come about. -/
def SafeStep (s : State) : Prop := ∃ t, step s = .next t

/-- The register file and the staged halves are in canonical form: keys strictly rising, and no register listed at its reset value. -/
def State.regsWf (s : State) : Bool := storeWf regPlain s.regs && storeWf (fun _ _ => false) s.stage

/-- What every step keeps of a state `s` in which it starts with its command taken off the queue: the fuses, the commands behind it, and the
canonical form of the registers. -/
structure Keeps (s t : State) : Prop where
  fuses : t.fuses = s.fuses
  pending : t.pending = s.pending
  regs : storeWf regPlain s.regs = true → storeWf regPlain t.regs = true

/-- Does a requester's write of BAR0 reach its register at once: it waits for no write of MMU_BCAST and for no ingress, the host's reaches Ruwen, and the
monitor is not locked (02 R32; 03 R92; 19 R469; 20 R484)? -/
def State.direct (s : State) (req : Req) : Bool :=
  !s.holds req.num && (match req with
    | .host => s.hostReach && s.hs.lane.isEmpty
    | .monitor => !s.bit R.DBG_MON_STATUS 0
    | _ => true)

/-- The state in which a requester's write arrives: the host's counts as bytes received over PCIe (20 Table MON-6). -/
def State.arriving (s : State) (req : Req) : State :=
  match req with
  | .host => s.perf 0x10 0 4
  | _ => s

/-- A requester's write of `val`, which sets no reserved bit, reaches copy `c` of the writable register at BAR0 offset `off` at once. -/
def State.reaches (s : State) (req : Req) (off c : Nat) (val : W32) : Bool :=
  let u := s.arriving req
  s.direct req && (match u.rowAt off with
    | some r => u.copyOf req r == some c && u.regOpen off c && r.writable != 0 && val &&& ~~~ BitVec.ofNat 32 r.named == 0
    | none => false)

/-- Command `c` of a requester is the write of `val` at `off`, which reaches its register, and its effect is `f` of the state in which the write arrives and the
register's copy. -/
def WritesTo (c : Instr) (req : Req) (off : Nat) (val : W32) (f : State → Nat → State) : Prop :=
  ∀ (s : State) (n : Nat), s.reaches req off n val = true → exec c s = .next (f (s.arriving req) n)

/-- The offsets of the registers, beside the halves of pairs, whose write does more or other than set and clear bits: each has a rule of its own. -/
def governedRows : List Nat :=
  [R.HIF_AP_CTRL, R.HIF_AP_BASE, R.HIF_AP_SIZE, R.HIF_AP_RID, R.HIF_MSIX_CTRL, R.MMU_INV_CTRL, R.MMU_INV_STATUS, R.MMU_BCAST, R.QM_CTX_LOST, R.QM_Q_CTRL] ++
  [R.PT_ADMIT, R.PT_REPAIR, R.PT_SELFTEST_REQ, R.PT_SCHED_CTRL, R.PT_SCHED_LEN, R.PT_SCHED_WDATA2, R.PT_P_CTRL, R.PT_P_CLUSTERS, R.PT_P_CE, R.PT_P_BW, R.PT_P_FAV,
    R.PT_P_RING_CTRL] ++
  [R.GD_CTRL, R.GD_PERIOD, R.GD_STALE_LIMIT, R.GD_HIST_LEN, R.GD_RING_CTRL, R.GD_WAKE, R.RTU_NODE_LIMIT, R.CE_CODEC_CLEAR, R.CRC_CTRL, R.CRC_FRAME_BYTES] ++
  [R.FAB_NODE_ID, R.FAB_RESP_TIMEOUT, R.FAB_LEAVE, R.FAB_ROUTE_DATA, R.FAB_WIN_DATA3, R.FAB_GRP_DATA0, R.FAB_GRP_DATA1, R.FAB_GRP_DATA2, R.FAB_GRP_DATA3, R.FAB_P_CTRL] ++
  [R.PWR_DCMD, R.PWR_AOREG, R.CLK_PP_REQ, R.CLK_THROTTLE_PP, R.CLK_VSETTLE, R.RST_CTRL, R.RST_PRESET, R.RST_ERESET, R.RST_FEC_KICK, R.RST_FLASH_CTRL, R.RST_FEC_WDT] ++
  [R.PSD_CMD, R.DBG_MON_CTRL, R.DBG_PCTRL, R.DBG_PSEL, R.QDB_TAIL]

/-- Does a write of the register at an offset set and clear the bits that its row names, and nothing more: is it no half of a pair, and governed by no other rule? -/
def plainAt (r : RegRow) (off : Nat) : Bool := r.pair == .none && !governedRows.contains r.off && !governedRows.contains off

/-- Every register but those under some keys reads as before. -/
def SameRegsBut (s t : State) (keys : List Nat) : Prop := ∀ k, k ∉ keys → t.reg k = s.reg k

/-- Nothing but the register file differs. -/
def OnlyRegs (s t : State) : Prop := t = { s with regs := t.regs }

/-! ### Instructions of pods -/

/-- The state after the words at a pod's PC were read, when they spell an instruction that is legal and that its pod can take up now. -/
def State.spelled (s : State) (r : PodRef) (p : Pod) (op : Nat) (i : Ins) : Option State :=
  if s.podReady r p op i && opDefined op && (illegal (r == .guard) p.pixel op i).isNone then
    match s.fetch r p p.pc with
    | (.word w, u) =>
      if w ≠ insWord op i then none
      else if insLen op i = 8 then some u
      else match u.fetch r p (p.pc + 8) with
        | (.word x, v) => if x = i.ext.toNat then some v else none
        | _ => none
    | _ => none
  else none

/-- Nothing holds the issue of an instruction on a shader core: no register that it reads or writes is pending, and the counter that it names has room
(08 R206 to R208). -/
def Pod.freeFor (p : Pod) (r : PodRef) (op : Nat) (i : Ins) : Bool :=
  r == .guard || (!((p.keysNow op i).any p.pend.contains || p.fixedHazard op i (p.issueCycle r op i)) &&
    !(predOk p i && i.inc.toNat < 6 && 63 ≤ p.sbAt i.inc.toNat (p.issueCycle r op i)))

/-- An instruction executes: its predicate lets it, some lane is enabled where it acts on lanes, and its vector registers lie in the pod's range. -/
def Pod.executes (p : Pod) (op : Nat) (i : Ins) : Bool :=
  predOk p i && (!laneOp op || p.m0 ≠ 0) && (regRange p.vregs op i).isNone

/-- `IssuesAt s r p op i u`: pod `p` under reference `r` issues and executes instruction `i` of opcode `op` now; `u` is the state after its words
were read, which hold the pod as before, and its core has room for its line requests. -/
def IssuesAt (s : State) (r : PodRef) (p : Pod) (op : Nat) (i : Ins) (u : State) : Prop :=
  s.pod? r = some p ∧ s.spelled r p op i = some u ∧ u.pod? r = some p ∧ p.freeFor r op i = true ∧
    p.executes op i = true ∧ u.lineRoom r op = true

/-- The state in which an issued instruction has its effect: the pod's PC has moved past it and the core has counted it. -/
def State.moved (s : State) (r : PodRef) (p : Pod) (op : Nat) (i : Ins) : State :=
  (s.modPod r (fun q => { q with pc := p.pc + insLen op i, stalled := [] })).issueCount r p.ctx

/-- The end of an issued instruction of some latency: its pod accounts the cycles (08 R207; 09 R232, R261, R262). -/
def State.ended (s : State) (r : PodRef) (p : Pod) (op : Nat) (i : Ins) (lat : Nat) : State :=
  s.modPod r (fun q => q.account op i (p.issueCycle r op i) (latHere r op lat))

/-- Where the vector registers of a pod are: the guard core's own, or those of a shader core. -/
def podHome : PodRef → Option Nat
  | .guard => none
  | .slot c _ => some c

/-- The vector register storage that a pod's registers lie in. -/
def State.vrf (s : State) (r : PodRef) : Mem :=
  match r with
  | .guard => s.gd.vrf
  | .slot c _ => (s.core c).vrf

/-- Where vector register n of a pod begins in its storage. -/
def Pod.vbase (p : Pod) (r : PodRef) (n : Nat) : Nat :=
  match r with
  | .guard => n * 128
  | .slot _ _ => p.regBase + n * 128

/-- The registers that count issued instructions: those of the pod's core (08 Table COR-10) and the performance counters (20 Table MON-7). -/
def countKey (r : PodRef) (k : Nat) : Bool :=
  (R.DBG_PC_LO ≤ k && k < R.DBG_PC_LO + 64) || (match r with
    | .guard => false
    | .slot c _ => k == rk R.CORE_ISSUE_COUNT_LO c || k == rk R.CORE_ISSUE_COUNT_LO c + 4)

/-- Nothing differs but the pod, the vector registers of its core, and the counters of issued instructions. -/
structure PodOnly (u t : State) (r : PodRef) : Prop where
  rest : t = { u with regs := t.regs, cores := t.cores, gd := t.gd, ao := t.ao, free := t.free }
  pods : ∀ r', r' ≠ r → t.pod? r' = u.pod? r'
  cores : ∀ c, { t.core c with pods := (u.core c).pods, vrf := (u.core c).vrf } = u.core c
  guard : { t.gd with pod := u.gd.pod, vrf := u.gd.vrf } = u.gd
  vrfs : ∀ r', podHome r' ≠ podHome r → t.vrf r' = u.vrf r'
  ao : { t.ao with perfRem := u.ao.perfRem } = u.ao
  regs : ∀ k, countKey r k = false → t.reg k = u.reg k

/-- No byte of vector register storage differs but those of n registers from register d on. -/
def VregsBut (u t : State) (r : PodRef) (p : Pod) (d n : Nat) : Prop :=
  ∀ a, ¬(p.vbase r d ≤ a ∧ a < p.vbase r (d + n)) → (t.vrf r).get a = (u.vrf r).get a

/-- The pod after an instruction: `p'` moved past it, with its cycle account. -/
def PodAfter (t : State) (r : PodRef) (p p' : Pod) (op : Nat) (i : Ins) : Prop :=
  ∃ q, t.pod? r = some q ∧ q = { p' with pc := p.pc + insLen op i, stalled := [], tm := q.tm }

/-- The value that CYCLES has for an instruction: the cycle of its issue (09 Table ISA-5). -/
def CyclesAt (r : PodRef) (p : Pod) (op : Nat) (i : Ins) (cyc : Nat) : Prop :=
  (keysOf op i).contains (256 + 0x89) = true → cyc = p.issueCycle r op i % 2 ^ 32

/-- An instruction of the scalar ALU group completes: scalar DST takes f of the two operands, and nothing else differs but the PC and the counters. -/
def ScalarResult (c : PodRef → Ins → Instr) (op : Nat) (f : Ins → Nat → Nat → Nat) : Prop :=
  ∀ (s u : State) (r : PodRef) (p : Pod) (i : Ins), IssuesAt s r p op i u → ∃ t cyc, exec (c r i) s = .next t ∧ CyclesAt r p op i cyc ∧
    PodAfter t r p (p.sput i.d (f i (p.sv i cyc i.a) (p.sv i cyc i.b) % 2 ^ 32)) op i ∧ PodOnly u t r ∧ t.vrf r = u.vrf r

/-- A vector instruction of 32-bit lanes completes: in each lane of the effective mask vector register DST takes f of the lane's vector registers
(`get`), operand b (`b`), the scalars (`sc`) and the lane; the other lanes and registers keep theirs. -/
def VectorResult (c : PodRef → Ins → Instr) (op : Nat) (f : Ins → (Nat → Nat → Nat) → (Nat → Nat) → (Nat → Nat) → Nat → Nat) : Prop :=
  ∀ (s u : State) (r : PodRef) (p : Pod) (i : Ins), IssuesAt s r p op i u → (u.vrf r).wf = true → ∃ t cyc, exec (c r i) s = .next t ∧ CyclesAt r p op i cyc ∧
    (i.d ≠ 255 → ∀ l, l < 32 → t.vget r p i.d l =
      if p.m0.testBit l then f i (u.vget r p) (u.vb r p i cyc) (p.sv i cyc) l % 2 ^ 32 else u.vget r p i.d l) ∧
    VregsBut u t r p i.d (if i.d = 255 then 0 else 1) ∧ PodAfter t r p p op i ∧ PodOnly u t r

/-- A vector compare completes: scalar DST takes the mask of the lanes of the effective mask in which f holds. -/
def MaskResult (c : PodRef → Ins → Instr) (op : Nat) (f : Ins → (Nat → Nat → Nat) → (Nat → Nat) → Nat → Bool) : Prop :=
  ∀ (s u : State) (r : PodRef) (p : Pod) (i : Ins), IssuesAt s r p op i u → ∃ t cyc, exec (c r i) s = .next t ∧ CyclesAt r p op i cyc ∧
    PodAfter t r p (p.sput i.d (maskOf ((lanesOf p.m0).filter (f i (u.vget r p) (u.vb r p i cyc))))) op i ∧ PodOnly u t r ∧ t.vrf r = u.vrf r

/-- The flags that the lanes of the effective mask raise together. -/
def laneFlags (p : Pod) (f : Nat → FR) : Nat := ((lanesOf p.m0).map (fun l => (f l).fl)).foldl (· ||| ·) 0

/-- A floating-point instruction whose lanes raise no flag that TRAP_EN enables completes: each lane of the effective mask takes its result (`wide`:
in two registers), and FPSTAT gathers the flags. `g` and `b` read vector operands: of 32 bits, or of 64 where `wide`. -/
def FloatResult (c : PodRef → Ins → Instr) (op : Nat) (wide : Bool) (f : Pod → Ins → (Nat → Nat → Nat) → (Nat → Nat) → Nat → FR) : Prop :=
  ∀ (s u : State) (r : PodRef) (p : Pod) (i : Ins), IssuesAt s r p op i u → (u.vrf r).wf = true → ∃ cyc, CyclesAt r p op i cyc ∧
    (let g := fun n l => if wide then u.vget64 r p n l else u.vget r p n l
     let b := fun l => if wide then u.vb64 r p i l else u.vb r p i cyc l
     (∀ l, p.m0.testBit l → l < 32 → (f p i g b l).fl &&& p.trapEn = 0) → ∃ t, exec (c r i) s = .next t ∧
      (i.d ≠ 255 → ∀ l, l < 32 → t.vget r p i.d l = if p.m0.testBit l then (f p i g b l).w % 2 ^ 32 else u.vget r p i.d l) ∧
      (wide = true → i.d + 1 ≠ 255 → ∀ l, l < 32 → t.vget r p (i.d + 1) l =
        if p.m0.testBit l then (f p i g b l).w / 2 ^ 32 % 2 ^ 32 else u.vget r p (i.d + 1) l) ∧
      VregsBut u t r p i.d (if i.d = 255 then 0 else if wide then 2 else 1) ∧
      PodAfter t r p { p with fpstat := p.fpstat ||| laneFlags p (f p i g b) } op i ∧ PodOnly u t r)

end Sys2Proof.Machine
end

