-- ==== Sys2Proof/Certificates/Slice0/Obligations.lean ====
section
/-! DEFINITION. The statements for the provers. -/


open Sys2Proof Sys2Proof.Machine

/-! ### The machine's step and its state -/

/-- The command at the front of the queue takes effect on the state with the rest of the queue behind it. -/
def Obligations.StepRunsFront : Prop :=
  ∀ (s : State) (c : Instr) (rest : List Instr), s.pending = c :: rest → step s = exec c { s with pending := rest }

/-- With no command waiting a step is one AO_CLK cycle, where AO_CLK runs: it completes, no command appears, and the fuses stay (the model's choice: log entry 1). -/
def Obligations.IdleStep : Prop :=
  ∀ (s : State), s.pending = [] → ∃ t, step s = .next t ∧ t.ticks = (if s.aoRuns then s.ticks + 1 else s.ticks) ∧ t.pending = [] ∧ t.fuses = s.fuses

/-- The invariant of every step: the register file and the staged halves stay in canonical form, the fuses never change, and the commands behind the one that
runs stay as they are. -/
def Obligations.StepKeepsInvariant : Prop :=
  ∀ (s t : State), s.regsWf = true → step s = .next t → t.regsWf = true ∧ t.fuses = s.fuses ∧ t.pending = s.pending.tail

/-- The state after reset is canonical, has no command waiting, and every register but the count of the reset log, which holds its first entry, reads its reset
value (where the spec gives none, the value that log entries 2, 3 and 5 name: the model's). -/
def Obligations.ResetState : Prop :=
  State.reset.regsWf = true ∧ State.reset.pending = [] ∧ (∀ k, k ≠ R.RST_LOG_COUNT → State.reset.reg k = regReset k) ∧ State.reset.reg R.RST_LOG_COUNT = 1 ∧
    State.reset.ao.rst.held = 2 ∧ State.reset.hs.lane = [] ∧ State.reset.mmu.walks = []

/-- A memory write of any length keeps the canonical form of a byte memory, is read back, and leaves every other byte alone. -/
def Obligations.MemoryWrites : Prop :=
  ∀ (m : Mem) (a : Nat) (bs : List Byte), m.wf = true → (m.write a bs).wf = true ∧ (m.write a bs).read a bs.length = bs ∧
    ∀ b, (b < a ∨ a + bs.length ≤ b) → (m.write a bs).get b = m.get b

/-! ### Register writes -/

/-- 00 R5, R8, R10, Table SCP-4: REGISTER_WRITE, in every state and for every offset. A write of a register that no other rule governs: RW bits take the value, W1C bits
that are written 1 clear, other bits stay, no other register changes but GLB_ACCESS_VIOL_COUNT, which advances when reserved bits are set. 02 R32, 03 R92, 19 R469, 20 R484: a
write of the host that does not reach Ruwen, and one of the locked monitor, do nothing; one that must wait joins the requests that wait; any other is made at once, and one of a
register that another rule governs, or of half of a pair, then does what that register's write does. -/
def Obligations.PlainRegisterWrite : Prop :=
  (∀ (s : State) (req : Req) (off c : Nat) (val : W32) (r : RegRow),
    let u := s.arriving req
    s.direct req = true → storeWf regPlain u.regs = true → u.rowAt off = some r → u.copyOf req r = some c → u.regOpen off c = true → r.writable ≠ 0 →
    plainAt r off = true → rk off c ≠ R.GLB_ACCESS_VIOL_COUNT →
    ∃ t, exec (.registerWrite req off val true) s = .next t ∧
      (∀ i, i < 32 → (t.reg (rk off c)).getLsbD i =
        if r.rw.testBit i then val.getLsbD i else if r.w1c.testBit i && val.getLsbD i then false else (u.reg (rk off c)).getLsbD i) ∧
      (∀ k, k ≠ rk off c → k ≠ R.GLB_ACCESS_VIOL_COUNT → t.reg k = u.reg k) ∧
      t.reg R.GLB_ACCESS_VIOL_COUNT = u.reg R.GLB_ACCESS_VIOL_COUNT + (if val &&& ~~~ BitVec.ofNat 32 r.named = 0 then 0 else 1) ∧ OnlyRegs u t) ∧
  (∀ (s : State) (req : Req) (off : Nat) (val : W32) (full : Bool),
    let held := { s with mmu := { s.mmu with held := s.mmu.held ++ [HeldWrite.mk req.num off val full] } }
    (s.direct req = true → exec (.registerWrite req off val full) s = .next ((s.arriving req).regWrite req off val full)) ∧
    (req = .host → s.hostReach = false → exec (.registerWrite req off val full) s = .next s) ∧
    (req = .host → s.hostReach = true → s.direct req = false →
      exec (.registerWrite req off val full) s = .next ((s.perf 0x10 0 4).joinLane (.reg off val full))) ∧
    (req = .monitor → s.bit R.DBG_MON_STATUS 0 = true → exec (.registerWrite req off val full) s = .next s) ∧
    (req ≠ .host → (req = .monitor → s.bit R.DBG_MON_STATUS 0 = false) → s.direct req = false → exec (.registerWrite req off val full) s = .next held))

/-- 00 R8, R9, R10, R15: a write to an offset that has no register, through a window whose channel is absent, to a register that is read only, or with disabled bytes is
discarded and counted once; nothing else changes. One to a block whose domain cannot be reached does nothing. -/
def Obligations.DiscardedWrites : Prop :=
  ∀ (s : State) (req : Req) (off : Nat) (val : W32) (full : Bool), s.direct req = true →
    let u := s.arriving req
    let counted := exec (.registerWrite req off val full) s = .next (u.setReg R.GLB_ACCESS_VIOL_COUNT (u.reg R.GLB_ACCESS_VIOL_COUNT + 1))
    (u.rowAt off = none → counted) ∧ (∀ r, u.rowAt off = some r → u.copyOf req r = none → counted) ∧
    (∀ r c, u.rowAt off = some r → u.copyOf req r = some c → u.regOpen off c = true → (full = false ∨ r.writable = 0) → counted) ∧
    (∀ r c, u.rowAt off = some r → u.copyOf req r = some c → u.regOpen off c = false → exec (.registerWrite req off val full) s = .next u)

/-- 00 R11 to R13, for HIF_MWIN_BASE, whose write has no other effect: a requester's write to the low half stages it for that requester alone and changes no register; its
write to the high half commits the staged half (the register's own where none is staged) with the written one in one step, and uses it up. -/
def Obligations.PairStaging : Prop :=
  ∀ (s : State) (req : Req) (val : W32),
    let u := s.arriving req
    (s.reaches req R.HIF_MWIN_BASE_LO 0 val = true → storeWf (fun _ _ => false) u.stage = true →
      ∃ t, exec (.registerWrite req R.HIF_MWIN_BASE_LO val true) s = .next t ∧ t = { u with stage := t.stage } ∧ t.staged req R.HIF_MWIN_BASE_LO = val ∧
        ∀ other, other ≠ req → t.staged other R.HIF_MWIN_BASE_LO = u.staged other R.HIF_MWIN_BASE_LO) ∧
    (s.reaches req R.HIF_MWIN_BASE_HI 0 val = true → storeWf regPlain u.regs = true → storeWf (fun _ _ => false) u.stage = true →
      ∃ t, exec (.registerWrite req R.HIF_MWIN_BASE_HI val true) s = .next t ∧ t = { u with regs := t.regs, stage := t.stage } ∧
        t.pair R.HIF_MWIN_BASE_LO = (u.staged req R.HIF_MWIN_BASE_LO).toNat + val.toNat * 2 ^ 32 ∧ t.staged req R.HIF_MWIN_BASE_LO = t.reg R.HIF_MWIN_BASE_LO ∧
        ∀ k, k ≠ R.HIF_MWIN_BASE_LO → k ≠ R.HIF_MWIN_BASE_HI → t.reg k = u.reg k)

/-- 20 R484, Table MON-4: while the monitor is locked its register writes have no effect. -/
def Obligations.LockedMonitorWrites : Prop :=
  ∀ (s : State) (off : Nat) (val : W32) (full : Bool), s.bit R.DBG_MON_STATUS 0 = true → exec (.registerWrite .monitor off val full) s = .next s

/-! ### Apertures, the memory lane and the host link -/

/-- 02 R45, R46, R51, R53: a write of HIF_AP_CTRL with ENABLE 1 enables a descriptor whose range, address and action are right, as an aperture below its watermark, and
refuses any other with CFG_ERR and a counted violation, ENABLE staying 0; on an enabled descriptor it changes ACTION, IRQ and ENABLE alone, and a change of another field
is counted; ACTION 3 is refused there too, with CFG_ERR and one count, and the aperture keeps its action; ENABLE 0 disables it. HIF_AP_CONSUMED and HIF_AP_WM commit with both halves, and the watermark is evaluated. 02 R51, R52, 19 R472: the watermark. When the unconsumed amount of an enabled aperture comes to the watermark or over, LEVEL and UP set and the crossing is counted;
when it falls below, LEVEL clears and DOWN sets; the action and the event follow an up-crossing alone. -/
def Obligations.Apertures : Prop :=
  ((∀ (s : State) (req : Req) (ap : Nat) (val : W32),
    let u := s.arriving req
    let k := rk R.HIF_AP_CTRL ap
    let b := u.apBase ap
    let n := u.apSize ap
    let va := u.apVa ap
    let fit := 0 < b ∧ 0 < n ∧ b % 65536 = 0 ∧ n % 65536 = 0 ∧ n ≤ 2 ^ 30 ∧ b + n ≤ 0xF0000000 ∧
      (∀ o, o < 16 → o ≠ ap → u.apOn o = true → ¬(b < u.apBase o + u.apSize o ∧ u.apBase o < b + n)) ∧
      (if val.getLsbD 1 then va + n ≤ 2 ^ 21 else va % 4096 = 0 ∧ va + n ≤ 2 ^ 48) ∧ val.toNat / 4 % 4 ≠ 3
    (s.reaches req R.HIF_AP_CTRL ap (val ||| 1) = true → u.apOn ap = false → fit →
      exec (.apEnable req val) s = .next (((u.setReg k (val ||| 1)).clrBits (rk R.HIF_AP_WM_STAT ap) 1).apEval ap)) ∧
    (s.reaches req R.HIF_AP_CTRL ap (val ||| 1) = true → u.apOn ap = false → ¬fit →
      exec (.apEnable req val) s = .next (((u.setReg k ((val ||| 1) &&& ~~~ 1)).setBits (rk R.HIF_AP_STATUS ap) 2).viol)) ∧
    (s.reaches req R.HIF_AP_CTRL ap (val ||| 1) = true → u.apOn ap = true → val.toNat / 4 % 4 ≠ 3 → (val ^^^ u.reg k) &&& 0xFF22 = 0 →
      exec (.apCtrlUpdate req val) s = .next (u.setReg k (u.reg k &&& 0xFF22 ||| (val ||| 1) &&& 0x1D))) ∧
    (s.reaches req R.HIF_AP_CTRL ap (val ||| 1) = true → u.apOn ap = true → val.toNat / 4 % 4 ≠ 3 → (val ^^^ u.reg k) &&& 0xFF22 ≠ 0 →
      exec (.apCtrlUpdate req val) s = .next ((u.setReg k (u.reg k &&& 0xFF22 ||| (val ||| 1) &&& 0x1D)).viol)) ∧
    (s.reaches req R.HIF_AP_CTRL ap (val ||| 1) = true → u.apOn ap = true → val.toNat / 4 % 4 = 3 →
      exec (.apCtrlUpdate req val) s = .next (((u.setReg k (u.reg k &&& 0xFF2E ||| (val ||| 1) &&& 0x11)).setBits (rk R.HIF_AP_STATUS ap) 2).viol))) ∧
  (∀ req val, WritesTo (.apDisable req val) req R.HIF_AP_CTRL (val &&& ~~~ 1)
    (fun u ap => (u.setReg (rk R.HIF_AP_CTRL ap) (val &&& ~~~ 1)).clrBits (rk R.HIF_AP_WM_STAT ap) 1)) ∧
  (∀ req val, WritesTo (.apConsumedWrite req val) req R.HIF_AP_CONSUMED_HI val (fun u ap =>
    let k := rk R.HIF_AP_CONSUMED_LO ap
    ((u.unstage req k).setPair k ((u.staged req k).toNat + val.toNat * 2 ^ 32)).apEval ap)) ∧
  (∀ req val, WritesTo (.apWmWrite req val) req R.HIF_AP_WM_HI val (fun u ap =>
    let k := rk R.HIF_AP_WM_LO ap
    ((u.unstage req k).setPair k ((u.staged req k).toNat + val.toNat * 2 ^ 32)).apEval ap))) ∧
  (∀ (s : State) (ap : Nat),
    let k := rk R.HIF_AP_WM_STAT ap
    let reached := s.pair (rk R.HIF_AP_WM_LO ap) ≤
      (BitVec.ofInt 64 ((s.pair (rk R.HIF_AP_ARRIVED_LO ap) : Int) - s.pair (rk R.HIF_AP_CONSUMED_LO ap))).toInt.toNat
    (s.apOn ap = false → s.apEval ap = s) ∧
    (s.apOn ap = true → reached → s.bit k 0 = true → s.apEval ap = s) ∧
    (s.apOn ap = true → ¬reached → s.bit k 0 = false → s.apEval ap = s) ∧
    (s.apOn ap = true → ¬reached → s.bit k 0 = true → s.apEval ap = ((s.setBits k 4).inc (rk R.HIF_AP_XCOUNT ap)).clrBits k 1) ∧
    (s.apOn ap = true → reached → s.bit k 0 = false →
      let t := ((s.setBits k 2).inc (rk R.HIF_AP_XCOUNT ap)).setBits k 1
      let v := if t.apAction ap = 1 then t.launchReq (t.apCtx ap) (t.reg (rk R.HIF_AP_GRAPH ap)).toNat (t.pair (rk R.HIF_AP_PARAM_LO ap))
        else if t.apAction ap = 2 then t.wake else t
      s.apEval ap = if v.apIrq ap then v.event 6 [] else v))

/-- 02 R47 to R49, R54, 19 R469: writes and reads of BAR2 that reach Ruwen. Where no write of a register waits before it, a write inside an enabled aperture whose bytes may arrive
joins the memory lane behind those before it, or in guard SRAM lands at once; one that its Requester ID or a fault forbids, and one inside a disabled descriptor, is discarded
and counted there; one outside every descriptor is counted as a violation. Behind a waiting write of a register a write of the region waits to be judged, but one to an enabled
guard aperture (the model's choice: log entry 67). A read of the aperture region is a violation that returns zeros. Reads and writes of the memory window take their place in
the lane. -/
def Obligations.MemoryLaneArrivals : Prop :=
  ∀ (s : State) (off n w rid ap : Nat) (data : List (Option Byte)),
    let u := s.perf 0x10 0 data.length
    let page := data ≠ [] ∧ off % 4096 + data.length ≤ 4096 ∧ off < 0xF0000000
    s.bar2Reach = true →
    (page → ap < 16 → u.apHolds ap off = true → u.apOn ap = true → (∀ k, k < ap → u.apOn k = true → u.apHolds k off = false) →
      let barred := u.bit (rk R.HIF_AP_STATUS ap) 0 = true ∨ (u.apRidCheck ap = true ∧ u.field (rk R.HIF_AP_RID ap) 15 0 ≠ rid) ∨
        (if u.apGuard ap then u.on D.GD = false else u.lost (u.apCtx ap) = true)
      (u.regWaits = false ∨ u.apGuard ap = true → barred → exec (.apWrite off rid data) s = .next (u.inc (rk R.HIF_AP_DROP_COUNT ap))) ∧
      (u.regWaits = false → ¬barred → u.apGuard ap = false →
        exec (.apWrite off rid data) s = .next (u.joinMemory (.ap ap (u.apCtx ap) (u.apVa ap + (off - u.apBase ap)) data))) ∧
      (¬barred → u.apGuard ap = true →
        exec (.apWrite off rid data) s = .next ((u.sramWrite2 (u.apVa ap + (off - u.apBase ap)) data).apLanded ap data))) ∧
    (page → u.regWaits = false → (∀ k, k < 16 → u.apOn k = true → u.apHolds k off = false) → ap < 16 → u.apHolds ap off = true →
      (∀ k, k < ap → u.apHolds k off = false) → exec (.apWrite off rid data) s = .next (u.inc (rk R.HIF_AP_DROP_COUNT ap))) ∧
    (page → u.regWaits = false → (∀ k, k < 16 → u.apHolds k off = false) → exec (.apWrite off rid data) s = .next (u.inc R.HIF_BAR2_VIOL_COUNT)) ∧
    (page → u.regWaits = true → (∀ k, k < 16 → u.apHolds k off = true → u.apOn k = true → u.apGuard k = false) →
      exec (.apWrite off rid data) s = .next (u.joinMemory (.raw off rid data))) ∧
    (0 < n → off + n ≤ 0xF0000000 →
      exec (.bar2Read off n) s = .next ((s.inc R.HIF_BAR2_VIOL_COUNT).complete (List.replicate n 0))) ∧
    (0 < n → w % 4096 + n ≤ 4096 → w < 2 ^ 28 → exec (.mwinRead w n) s = .next (s.joinLane (.read w n))) ∧
    (data ≠ [] → w % 4096 + data.length ≤ 4096 → w < 2 ^ 28 → exec (.mwinWrite w data) s = .next (u.joinMemory (.window w data)))

/-- 01 R19; 02 R32, R33, R504; 19 R467: the links. A die-to-die retry is counted; the 32nd in a row loses the link. The host moves the function between D0 and
D3hot; a waiting write brings the link back from L1 to L0; a link that comes up takes its rate, width, credits and marker reserve; returned credits let writes leave. -/
def Obligations.HostLink : Prop :=
  ∀ (s : State),
    (∀ k again, s.linkOn k = true → (again = true → s.ms.retries.getD k 0 < 32) →
      exec (.flitRetry k again) s = .next { s.inc (R.GLB_D2D_RETRY_COUNT + 4 * k) with
        ms := { s.ms with retries := s.ms.retries.set k (if again then s.ms.retries.getD k 0 + 1 else 1) } }) ∧
    (∀ k, k < 4 → s.linkOn k = true → s.ms.retries.getD k 0 = 32 → exec (.linkLost k) s = .next (s.setBits R.GLB_STACK_STATUS (2 ^ (12 + k)))) ∧
    (s.linkOn 4 = true → s.ms.retries.getD 4 0 = 32 → exec (.linkLost 4) s = .next (s.setBits R.GLB_LINK_STATUS 2)) ∧
    (s.linkOn 5 = true → s.ms.retries.getD 5 0 = 32 → exec (.linkLost 5) s = .next (((s.setBits R.GLB_LINK_STATUS 8).fabLost).serveLane)) ∧
    (∀ d3, s.dlUp = true → s.dom D.HM = 2 → exec (.dStateChange d3 d3) s = .next { s with hs := { s.hs with d3hot := d3 } }.drain ∧
      exec (.dStateChange d3 (!d3)) s = .next s) ∧
    (s.dlUp = true → 2 ≤ s.field R.HIF_LINK_STATUS 9 8 → s.hs.waiting ≠ [] → exec .l1Exit s = .next (s.setField R.HIF_LINK_STATUS 9 8 0).drain) ∧
    (∀ h d, s.dlUp = true → s.hs.credH + h ≤ s.hs.advH → s.hs.credD + d ≤ s.hs.advD →
      exec (.hostCreditReturn h d) s = .next { s with hs := { s.hs with credH := s.hs.credH + h, credD := s.hs.credD + d } }.drain) ∧
    (∀ speed width h d, s.dlUp = false → s.dom D.HM = 2 → s.ao.rst.held ≠ 2 → s.ao.pwr.aoOff = false → 1 ≤ speed → speed ≤ 5 → width ∈ [1, 2, 4] →
      let t := s.modPwr (fun p => { p with best := (speed, width) })
      let t := (t.setRegN R.HIF_LINK_STATUS (2 ^ 10)).setLink (if t.bit R.PWR_STATE_HI 31 then (1, 1) else (speed, width))
      let r := if h < 16 ∨ d < 64 then (max 1 (h / 2), max 4 (d / 2)) else (8, 32)
      let t := t.setRegN R.HIF_OUT_RESERVE (r.1 % 256 + 2 ^ 8 * (r.2 % 256))
      exec (.linkUp speed width h d) s = .next { t with hs := { t.hs with advH := h, advD := d, credH := h, credD := d } }.drain)

/-! ### Translation -/

/-- 03 R86 to R92: range invalidation and broadcast. A write of GO while an invalidation runs is rejected and counted; one with a bad range is refused and counted; any other
starts: BUSY with its requester, DONE clear, entries removed, and the holders that need not wait acknowledged at once. A holder acknowledges once nothing of its own is held
back; the last sets DONE, counts and raises event 7. A broadcast request enters the FIFO, or waits where 32 fill it; they are served one at a time, oldest first. 03 R89: what an invalidation removes. Of every holder that is present, ON and not fenced the entries that it names go, and no others; the table pointers that it names go;
node caches give up the contexts that it names; translations of other holders stay. -/
def Obligations.Invalidation : Prop :=
  (∀ (s : State),
    (∀ req, s.reaches req R.MMU_INV_CTRL 0 1 = true →
      let u := s.arriving req
      let n := req.num
      let c := u.field (rk R.MMU_INV_CTX n) 7 0
      let va := u.pair (rk R.MMU_INV_VA_LO n)
      let len := u.pair (rk R.MMU_INV_LEN_LO n)
      let bad := va % 4096 ≠ 0 ∨ len = 0 ∨ len % 4096 ≠ 0 ∨ 2 ^ 48 < va + len
      (u.bit R.MMU_INV_STATUS 0 = true →
        exec (.invGo req) s = .next ((u.setBits (rk R.MMU_INV_STATUS n) 4).inc R.MMU_INV_REJECT_COUNT)) ∧
      (u.bit R.MMU_INV_STATUS 0 = false → bad → exec (.invGo req) s = .next ((u.setBits (rk R.MMU_INV_STATUS n) 8).viol)) ∧
      (u.bit R.MMU_INV_STATUS 0 = false → ¬bad →
        let v := { u with mmu := { u.mmu with inv := some (c, va, len) } }
        let v := ((v.setBits R.MMU_INV_STATUS 1).clrBits R.MMU_INV_STATUS 2).setField R.MMU_INV_STATUS 7 6 n
        let acks := maskOf ((List.range 64).filter v.exempt)
        let w := v.invalidate 0 (fun t => t.ctx == c && overlaps t.va (t.size * 2 ^ t.run) va len)
          (fun p => p.ctx == c && overlaps p.va (span p.level) va len) (fun k a => k == c && va ≤ a && a < va + len) (fun k => k == c)
        exec (.invGo req) s = .next ((w.setRegN R.MMU_INV_ACK_LO acks).setRegN R.MMU_INV_ACK_HI (acks / 2 ^ 32)).invSettle)) ∧
    (∀ h, s.rootLock = true → s.bit R.MMU_INV_STATUS 0 = true → h < 58 → s.acked h = false → s.invHeld 0 h = false →
      exec (.holderInvAck h) s =
        .next (((if h < 32 then s.setBits R.MMU_INV_ACK_LO (2 ^ h) else s.setBits R.MMU_INV_ACK_HI (2 ^ (h - 32))).rewalk 0 (· == h)).invSettle)) ∧
    (s.bit R.MMU_INV_STATUS 0 = true → s.reg R.MMU_INV_ACK_LO = 0xFFFFFFFF → s.reg R.MMU_INV_ACK_HI = 0xFFFFFFFF →
      s.invSettle = ((({ s with mmu := { s.mmu with inv := none } }.clrBits R.MMU_INV_STATUS 1).setBits R.MMU_INV_STATUS 2).inc R.MMU_INV_DONE_COUNT).event 7 []) ∧
    (s.reg R.MMU_INV_ACK_LO ≠ 0xFFFFFFFF ∨ s.reg R.MMU_INV_ACK_HI ≠ 0xFFFFFFFF → s.invSettle = s) ∧
    (∀ req val, s.reaches req R.MMU_BCAST 0 val = true →
      let u := s.arriving req
      let name := if val.getLsbD 8 then 256 else val.toNat % 256
      (u.mmu.bcast.length < 32 →
        exec (.bcastRequest req val) s = .next ({ u with mmu := { u.mmu with bcast := u.mmu.bcast ++ [name] } }.inc R.MMU_BCAST_ISSUED)) ∧
      (32 ≤ u.mmu.bcast.length → exec (.bcastRequest req val) s =
        .next ({ u with mmu := { u.mmu with held := u.mmu.held ++ [HeldWrite.mk req.num R.MMU_BCAST val true] } }.inc R.MMU_BCAST_FULL_COUNT))) ∧
    (∀ b rest, s.rootLock = true → s.mmu.bcast = b :: rest → s.mmu.serving = none →
      let v := { s with mmu := { s.mmu with bcast := rest, serving := some b, roots := s.mmu.roots.filter (fun r => !(b == 256 || b == r.1)) } }
      exec .bcastServe s = .next (v.invalidate 1 (fun t => b == 256 || b == t.ctx) (fun p => b == 256 || b == p.ctx) (fun c _ => b == 256 || b == c)
        (fun c => b == 256 || b == c)).releaseHeld) ∧
    (∀ b, s.rootLock = true → s.mmu.serving = some b → (∀ h, h < 58 → s.invHeld 1 h = false) →
      exec .bcastDone s = .next ((({ s with mmu := { s.mmu with serving := none } }.rewalk 1 (fun _ => true)).inc R.MMU_BCAST_DONE).event 7 []))) ∧
  (∀ (s : State) (b : Nat) (meet : Tlb → Bool) (pmeet : Pwc → Bool) (hit : Nat → Nat → Bool) (cs : Nat → Bool),
    let t := s.invalidate b meet pmeet hit cs
    t.mmu.pwc = s.mmu.pwc.filter (fun p => !pmeet p) ∧ t.mmu.roots = s.mmu.roots ∧ t.mmu.bcast = s.mmu.bcast ∧
    ∀ h, t.mmu.tlbs.getD h [] =
      if h < 58 ∧ s.exempt h = false then (s.mmu.tlbs.getD h []).filter (fun e => !meet e) else s.mmu.tlbs.getD h [])

/-- 03 R59, R60, R89: a walk in flight ends. A walk that an invalidation discards is made again and brings nothing; any other leaves the list of walks, and its result goes to
what waits for it: a line request of a core, the memory lane, or a query of a ray unit. 08 R209, 01 R20, R21: a line request whose translation and answers have come, and that no earlier one at its byte precedes, is performed: it leaves its core; on an
error it faults, else its data go to the operation that made it, and what waited for it goes on. -/
def Obligations.WalksAndLineRequestsEnd : Prop :=
  (∀ (s : State) (k i : Nat) (w : Walk), k < 16 → (s.mmu.walks.zipIdx.filter (fun x => x.1.active))[k]? = some (w, i) →
    let u := { s with mmu := { s.mmu with walks := s.mmu.walks.eraseIdx i } }
    s.rootLock = true →
    (w.redo ≠ 0 → exec (.walkComplete k) s =
      .next { s with mmu := { s.mmu with walks := s.mmu.walks.set i { w with redo := (w.redo &&& 10) ||| ((w.redo &&& 5) * 2) } } }) ∧
    (w.redo = 0 → w.holder < 32 → exec (.walkComplete k) s = .next (u.walkLine w.holder w)) ∧
    (w.redo = 0 → w.holder = 54 → exec (.walkComplete k) s = .next (u.walkLane w).serveLane) ∧
    (w.redo = 0 → 32 ≤ w.holder → w.holder ≠ 54 → exec (.walkComplete k) s = .next (u.walkQuery (w.holder - 38) w))) ∧
  (∀ (s : State) (core id : Nat) (ev1 ev2 ue ce : List Nat) (l : LineReq) (x : XAddr),
    (s.core core).lines.find? (·.id == id) = some l → l.x = some x → (∀ n, x.dest = .remote n → l.ans ≠ []) → s.lineWaits core l = false → s.rootLock = true →
    let u := (s.spoil ue ce).evictLines core ev1 ev2
    (∀ e t, u.linePerform core l x = (.error e, t) → e.cause ≠ C.HOST_WAIT →
      exec (.lineRequestComplete core id ev1 ev2 ue ce) s = .next (((t.dropLine core id).lineFault core l e).lineSettle core l)) ∧
    (∀ vs t o, u.linePerform core l x = (.ok vs, t) → ((t.dropLine core id).core core).ops.find? (·.id == l.op) = some o →
      exec (.lineRequestComplete core id ev1 ev2 ue ce) s = .next ((((t.dropLine core id).deliver core o vs).opStep core l.op).lineSettle core l)) ∧
    (∀ vs t, u.linePerform core l x = (.ok vs, t) → ((t.dropLine core id).core core).ops.find? (·.id == l.op) = none →
      exec (.lineRequestComplete core id ev1 ev2 ue ce) s = .next ((t.dropLine core id).lineSettle core l)))

/-! ### Queues, packets and launches -/

/-- 05 R128, R131 to R133, 04 R99: the registers of queues. A doorbell of a disabled queue and one that asks for more than its ring are refused and counted; any other adds its
packets to what the queue will fetch. ENABLE 1 reads the descriptor and starts the queue at BASE_SEQ with its completion area written; ENABLE 0 closes it; RESET takes a guilty queue back to
enabled. A lost bit clears where its context is not busy. -/
def Obligations.QueueRegisters : Prop :=
  (∀ (s : State) (req : Req) (q : BitVec 8) (tail : W32), s.reaches req (R.QDB_TAIL + 0x1000 * q.toNat) 0 tail = true →
    let u := s.arriving req
    let n := q.toNat
    let old := (u.queue n).submit
    let d := ((tail.toNat : Int) - (old % 2 ^ 32 : Nat)) % 2 ^ 32
    let full := 2 ^ (u.queue n).log2 < ((old : Int) + d - (u.queue n).done) % 2 ^ 64
    ((u.queue n).st = .disabled →
      exec (.queueDoorbell req q tail) s = .next ((u.setBits (rk R.QM_Q_STATUS n) 0x80).inc (rk R.QM_Q_REFUSE_COUNT n))) ∧
    ((u.queue n).st ≠ .disabled → d = 0 → exec (.queueDoorbell req q tail) s = .next u) ∧
    ((u.queue n).st ≠ .disabled → d ≠ 0 → full → exec (.queueDoorbell req q tail) s =
      .next (((u.setBits (rk R.QM_Q_STATUS n) 0x20).setBits (R.QDB_STATUS + 0x1000 * n) 1).inc (rk R.QM_Q_REFUSE_COUNT n))) ∧
    ((u.queue n).st ≠ .disabled → d ≠ 0 → ¬full → exec (.queueDoorbell req q tail) s =
      .next (u.modQueue n (fun k => { k with submit := (k.submit + d.toNat) % 2 ^ 64, feed := k.feed ++ [.ring d.toNat] })))) ∧
  (∀ (s : State) (req : Req) (q : Nat), s.reaches req R.QM_Q_CTRL q 1 = true →
    let u := s.arriving req
    ((u.queue q).st ≠ .disabled → exec (.queueEnable req) s = .next (u.modQueue q (fun k => { k with closing := false }))) ∧
    (∀ b t, (u.queue q).st = .disabled → u.readLoc (u.pair R.QM_QDESC_TABLE_LO + 64 * q) 64 = (.ok b, t) →
      let base := t.pair (rk R.QM_Q_BASE_SEQ_LO q)
      (qdescBad q b = true → exec (.queueEnable req) s = .next (t.setBits (rk R.QM_Q_STATUS q) 0x10)) ∧
      (qdescBad q b = false → exec (.queueEnable req) s = .next ((t.modQueue q (fun k => { k with
        st := .enabled, closing := false, submit := base, fetch := base, done := base, ring := bits (fieldAt b 0 8) 47 12 * 4096
        ringSys := (fieldAt b 0 8).testBit 63, log2 := fieldAt b 8 1, compl := bits (fieldAt b 0x10 8) 47 3 * 8, lastErr := 0 })).completionArea q []))) ∧
    (∀ e t, (u.queue q).st = .disabled → u.readLoc (u.pair R.QM_QDESC_TABLE_LO + 64 * q) 64 = (.error e, t) →
      exec (.queueEnable req) s = .next (t.setBits (rk R.QM_Q_STATUS q) 0x10))) ∧
  (∀ req, WritesTo (.queueDisable req) req R.QM_Q_CTRL 0 (fun u q =>
    if (u.queue q).st = .disabled then u else (u.modQueue q (fun k => { k with closing := true })).closeQueue q)) ∧
  (∀ req, WritesTo (.queueReset req true) req R.QM_Q_CTRL 3 (fun u q => (u.queueReset q).queueEnable q)) ∧
  (∀ req, WritesTo (.queueReset req false) req R.QM_Q_CTRL 2 (fun u q => (u.queueReset q).queueDisable q)) ∧
  (∀ (s : State) (q : Nat),
    ((s.queue q).st = .guilty → s.queueReset q = (s.modQueue q (fun k => { k with st := .enabled })).closeQueue q) ∧
    ((s.queue q).st ≠ .guilty → s.queueReset q = s.inc R.QM_OBJ_REJECT_COUNT)) ∧
  (∀ (req : Req) (ix : BitVec 3) (val : W32), WritesTo (.ctxLostClear req ix val) req (R.QM_CTX_LOST + 4 * ix.toNat) val (fun u _ =>
    ((List.range 32).filter val.getLsbD).foldl (fun v k =>
      if v.ctxBusy (32 * ix.toNat + k) then (if v.lost (32 * ix.toNat + k) then v.inc R.QM_OBJ_REJECT_COUNT else v)
      else v.clrBits (R.QM_CTX_LOST + 4 * ix.toNat) (2 ^ k)) u))

/-- 05 R136 to R139, 04 R103, R104: launches and the page ring. A launch request that GX, the FIFO, its handle, its context or its parameter address forbids is refused with its
reason, recorded, counted and raised on event 61; any other advances the graph's count in memory, is counted, and joins the FIFO. 05 R139, R140: launches run. The oldest launch takes a free slot once those before it have posted their strands, and reads its parameter block and graph: its strands, patches with their values and semaphores
of 0; one whose graph is invalid fails with GRAPH_INVALID. Then every strand is posted to the queue of its engine and priority, or the launch is counted once as held where a queue holds 32 strands. -/
def Obligations.GraphLaunches : Prop :=
  ((∀ (req : Req) (ctx : BitVec 8) (val : W32), WritesTo (.graphDoorbell req ctx val) req (R.GDB_LAUNCH_HI + 0x1000 * ctx.toNat) val (fun u _ =>
    let k := R.GDB_LAUNCH_LO + 0x1000 * ctx.toNat
    let v := (u.staged req k).toNat + val.toNat * 2 ^ 32
    (u.unstage req k).launchReq ctx.toNat (v / 2 ^ 48) (v / 64 % 2 ^ 42 * 64))) ∧
  (∀ (req : Req) (val : W32), WritesTo (.ringPush req val) req R.PT_P_RING_PUSH_HI val (fun u p =>
    let k := rk R.PT_P_RING_PUSH_LO p
    (u.unstage req k).ringPush p ((u.staged req k).toNat + val.toNat * 2 ^ 32))) ∧
  (∀ (s : State) (c handle param : Nat),
    let page := 0x1000 * c
    let refused := fun (t : State) (reason : Nat) =>
      let h := handle % 2 ^ 16 * 2 ^ 16
      (((((t.setBits (R.GDB_STATUS + page) 1).setRegN (R.GDB_LAST_REFUSE + page) (reason + h)).setRegN R.GX_LAST_REFUSE (reason + c * 2 ^ 8 + h)).inc
        (R.GDB_REFUSE_COUNT + page)).inc R.GX_REFUSE_COUNT).event 61 [c]
    (s.bit R.GX_CTRL 0 = false → s.launchReq c handle param = refused s 4) ∧
    (s.bit R.GX_CTRL 0 = true → 256 ≤ s.qm.fifo.length → s.launchReq c handle param = refused s 1) ∧
    (s.bit R.GX_CTRL 0 = true → s.qm.fifo.length < 256 → 2 ^ 16 ≤ handle → s.launchReq c handle param = refused s 2) ∧
    (s.bit R.GX_CTRL 0 = true → s.qm.fifo.length < 256 → handle < 2 ^ 16 →
      ∀ e t, s.readLoc (s.pair R.GX_GRAPH_TABLE_LO + 32 * (handle % 2 ^ 12)) 32 = (.error e, t) → s.launchReq c handle param = refused t 2) ∧
    (s.bit R.GX_CTRL 0 = true → s.qm.fifo.length < 256 → handle < 2 ^ 16 →
      let a := s.pair R.GX_GRAPH_TABLE_LO + 32 * (handle % 2 ^ 12)
      ∀ b t, s.readLoc a 32 = (.ok b, t) →
        let w := fieldAt b 8 4
        let known := w.testBit 12 = true ∧ w / 2 ^ 8 % 16 = handle / 2 ^ 12 ∧ w % 2 ^ 8 = c
        let n := (fieldAt b 16 8 + 1) % 2 ^ 64
        let v := (((t.writeLoc (a + 16) (leBytes 8 n) true).2.inc (R.GDB_ACCEPT_COUNT + page)).inc R.GX_LAUNCH_COUNT)
        (¬known → s.launchReq c handle param = refused t 2) ∧
        (known → (t.adm? c).isNone = true → s.launchReq c handle param = refused t 3) ∧
        (known → (t.adm? c).isNone = false → param % 64 ≠ 0 → s.launchReq c handle param = refused t 4) ∧
        (known → (t.adm? c).isNone = false → param % 64 = 0 → s.launchReq c handle param = { v with qm := { v.qm with fifo := v.qm.fifo ++
          [{ ctx := c, handle := handle, param := param, header := fieldAt b 0 8 / 64 % 2 ^ 42 * 64, count := n }] } })))) ∧
  ((∀ (s t : State) (l : Launch) (rest : List Launch) (b : List Byte),
    let w : RemWho := ⟨57, 72, l.ctx, none, none⟩
    let sl : Slot := { id := s.qm.nextId, l := l, doneVA := fieldAt b 0 8, irq := fieldAt b 8 4 % 2 == 1 }
    let u := { t with qm := { t.qm with fifo := rest, nextId := s.qm.nextId + 1, slots := t.qm.slots ++ [sl] } }
    s.rootLock = true → s.qm.fifo = l :: rest → s.qm.slots.length < 64 → (∀ k ∈ s.qm.slots, k.posted = true) → s.vread w l.param 16 = (.ok b, t) →
    fieldAt b 0 8 % 16 = 0 → fieldAt b 8 4 < 2 →
    (∀ st ps sems vs v x, u.readGraph w l = (.ok (st, ps, sems), v) → v.readValues w l.param ps [] = (.ok vs, x) →
      exec .launchSlot s = .next (x.modSlot s.qm.nextId (fun k =>
        { k with strands := st, patches := vs, sems := List.replicate sems 0, left := (st.map (·.count)).sum }))) ∧
    (∀ d a v, u.readGraph w l = (.bad d a, v) → exec .launchSlot s = .next (v.launchFail s.qm.nextId ⟨72, C.GRAPH_INVALID, d, some a⟩ 0x22))) ∧
  (∀ (s : State) (sl : Slot), s.rootLock = true → s.qm.slots.find? (fun k => !k.posted) = some sl →
    ((∀ t ∈ sl.strands, (s.queue t.queue).strandsHeld < 32) →
      exec .strandPost s = .next ((sl.strands.zipIdx.foldl (fun v x => v.modQueue x.1.queue (fun u => { u with feed := u.feed ++ [.strand sl.id x.2 0] })) s).modSlot
        sl.id (fun k => { k with posted := true }))) ∧
    ((∃ t ∈ sl.strands, 32 ≤ (s.queue t.queue).strandsHeld) → sl.held = false →
      exec .strandPost s = .next ((s.modSlot sl.id (fun k => { k with held := true })).inc R.GX_HOLD_COUNT))))

/-- 05 R120, R122, R123, R141, R147, R508: a queue that may fetch (enabled, fewer than 4 packets fetched and not started, none timed out) takes its next packet: of its ring, whose count of fetched packets advances, or of a posted strand, with the patches of its launch. The packet
enters the queue with the fields of Table SUB-3. -/
def Obligations.PacketFetches : Prop :=
  ∀ (s t : State) (q : Nat) (rest : List Feed) (b : List Byte),
    let u := s.queue q
    let k := (u.fetch + 1) % 2 ^ 64
    s.rootLock = true → u.st = .enabled → u.closing = false → (u.pkts.filter (fun p => !p.started)).length < 4 → (∀ p ∈ u.pkts, p.timedOut = false) →
    (∀ n, u.feed = .ring n :: rest → s.ringRead u k = (.ok b, t) →
      exec (.packetFetch q) s = .next ((t.modQueue q (fun v => { v with fetch := k, feed := popFeed v.feed })).enter q (.ring k) (parsePacket b).ctx (parsePacket b) none)) ∧
    (∀ l st i sl, u.feed = .strand l st i :: rest → s.slot? l = some sl → s.strandRead sl st i = (.ok b, t) →
      exec (.packetFetch q) s = .next (((t.modQueue q (fun v => { v with feed := popFeed v.feed })).trimFeed q).enter q (.strand l st i) sl.l.ctx (parsePacket b)
        (some sl.sems.length)))

/-- 05 R124, R125, 07 R181, 12, 14: a packet starts. In each queue that the engine chooses, the oldest packet that may start does so, and the waits of the others are counted. A packet without work
of its engine has finished then; a SEM_SIGNAL has added to its semaphore. 05 R126, R127, 04 R107, R112: the head of a queue whose work has finished, and whose writes to remote nodes are acknowledged, completes: a packet that succeeded and signals writes its fence first, waits for
its acknowledgement where the fence is remote, and faults when it cannot. The fence that a packet waits for is read: at its target or over, the packet is ready; errored, the
packet fails; below, it waits on. -/
def Obligations.PacketsStartAndComplete : Prop :=
  (∀ (s t : State) (q : Nat) (p : QPkt),
    let begins := fun op => s.rootLock = true ∧ s.engineOn q = true ∧ s.start q op = some (p, t)
    (begins 0 → exec (.nopPacket q) s = .next (t.finish p.id)) ∧
    (begins 5 → exec (.semWait q) s = .next (t.finish p.id)) ∧
    (∀ l a b, begins 4 → p.src = .strand l a b →
      exec (.semSignal q) s = .next ((t.modSlot l (fun sl =>
        { sl with sems := sl.sems.modify (p.pkt.a0 % 32) (fun v => (v + p.pkt.a1 % 2 ^ 32) % 2 ^ 32) })).finish p.id)) ∧
    (∀ op, s.startable q = some p → p.pkt.op = op → s.executing q < qRoom q → s.selfTest q = false → (s.candidates q).head? = some q →
      s.start q op = some (p, ((s.candidates q).tail.foldl (fun v k => v.inc (rk R.QM_Q_DELAY_COUNT k)) s).modPkt p.id (fun p => { p with started := true })))) ∧
  ((∀ (s : State) (q st : Nat) (p : QPkt) (rest : List QPkt), s.rootLock = true → (s.queue q).pkts = p :: rest → p.fin = some st → p.abort = none →
    p.timedOut = false → s.remoteOpen p.id = false →
    ((st ≠ 0 ∨ p.pkt.signal = false ∨ p.signalled = true) → exec (.packetComplete q) s = .next (s.retire q p st)) ∧
    (∀ r t, st = 0 → p.pkt.signal = true → p.signalled = false → s.fenceSignal (fenceWho q p) p.pkt.sigVA p.pkt.sigVal = (.ok r, t) →
      exec (.packetComplete q) s = .next (if t.remoteOpen p.id then t.modPkt p.id (fun k => { k with signalled := true }) else t.retire q p 0)) ∧
    (∀ v t, st = 0 → p.pkt.signal = true → p.signalled = false → s.fenceSignal (fenceWho q p) p.pkt.sigVA p.pkt.sigVal = (.error v, t) →
      exec (.packetComplete q) s = .next (t.pktFault p.id (v.at (accEng q)) 0x80))) ∧
  (∀ (s t : State) (q v : Nat) (p : QPkt) (first : Bool), s.rootLock = true → (s.queue q).oldest = some (p, first) → p.pkt.wait = true → p.abort = none →
    p.fin = none → p.timedOut = false → (s.queue q).st ≠ .guilty → s.fenceRead (fenceWho q p) p.pkt.waitVA = (.ok v, t) →
    (2 ^ 63 ≤ v → exec (.fencePoll q) s = .next (t.pktFault p.id ⟨qEng q, C.FENCE_ERRORED, 0, none⟩ C.FENCE_ERRORED)) ∧
    (v < 2 ^ 63 → p.pkt.waitTgt ≤ v → exec (.fencePoll q) s = .next (t.modPkt p.id (fun k => { k with ready := true }))) ∧
    (v < 2 ^ 63 → v < p.pkt.waitTgt → exec (.fencePoll q) s = .next (t.modPkt p.id (fun k => { k with ready := false })))))

/-! ### Kernels, aborts and copy engines -/

/-- 08 R200 to R204, R216, R217: kernels, workgroups and pods. A DISPATCH packet whose descriptor and arguments are right starts: with an empty grid it has finished, else its workgroups are due on its
cluster. A workgroup takes free slots, registers and tile store of a core, and its pods begin at the kernel's code. A pod whose lanes have all exited retires once its counters are 0, and the core
settles. A trap enters its handler with the record written, or fails the job where there is no handler or the pod is in trap mode. 08 R201 to R203, 06 R166, 10 R273: what a launch of a workgroup does. It completes where it is the packet's turn on its cluster scheduler, the core is ON and takes work, workgroups are left, every slot named is one of the context's and free, no slot twice, the
context's limit holds, and registers and tile store fit: the workgroup is counted, its pods stand in the slots in order with the kernel's context, code and trap handler, and the next workgroup is due. -/
def Obligations.KernelsAndPods : Prop :=
  ((∀ (s t u v : State) (q : Nat) (p : QPkt) (k args : List Byte), s.rootLock = true → s.start q 1 = some (p, t) → p.pkt.a0 % 64 = 0 →
    t.vread (fenceWho q p) p.pkt.a0 64 = (.ok k, u) →
    (∀ d, kernelErr k p.pkt.a2 ((u.adm? p.ctx).getD {}) = some d → exec (.dispatch q) s = .next (u.pktFault p.id ⟨qEng q, C.PKT_INVALID, d, none⟩ 0x21)) ∧
    (let n := fieldAt k 7 1
     let fl := fieldAt k 0x1C 4
     let x := p.pkt.a1 % 2 ^ 16
     let y := p.pkt.a1 / 2 ^ 16 % 2 ^ 16
     let z := p.pkt.a1 / 2 ^ 32 % 2 ^ 16
     kernelErr k p.pkt.a2 ((u.adm? p.ctx).getD {}) = none →
      (if n = 0 then (.ok [], u) else u.vread (fenceWho q p) p.pkt.a2 (4 * n)) = (.ok args, v) →
      (x * y * z = 0 → exec (.dispatch q) s = .next (v.finish p.id)) ∧
      (x * y * z ≠ 0 → exec (.dispatch q) s = .next { v with disps := v.disps ++ [{
        pkt := p.id, ctx := p.ctx, cluster := q / 4, pods := fieldAt k 6 1, args := (List.range n).map (fun j => fieldAt args (4 * j) 4)
        code := fieldAt k 8 8 / 8 % 2 ^ 45 * 8, trapVA := fieldAt k 0x10 8 / 8 % 2 ^ 45 * 8, vregs := fieldAt k 0x18 2, shared := fieldAt k 0x1A 2
        fp := fl % 1024, view := if fl.testBit 10 then 1 else 0, nx := x, ny := y, nz := z, argVA := p.pkt.a2 }] }))) ∧
  (∀ (s t : State) (q : Nat) (p : QPkt), s.rootLock = true → s.start q 1 = some (p, t) → p.pkt.a0 % 64 ≠ 0 →
    exec (.dispatch q) s = .next (t.pktFault p.id ⟨qEng q, C.PKT_INVALID, 0x10, none⟩ 0x21)) ∧
  (∀ (s : State) (core slot : Nat) (p : Pod), s.rootLock = true → s.pod? (.slot core slot) = some p → p.live = 0 → (∀ n ∈ p.sb, n = 0) →
    (p.pkt = none → exec (.podRetire core slot) s = .next (s.removePod core p)) ∧
    (∀ id, p.pkt = some id → p.pixel = false → exec (.podRetire core slot) s = .next ((s.removePod core p).dispSettle id)) ∧
    (∀ id, p.pkt = some id → p.pixel = true → exec (.podRetire core slot) s = .next ((s.removePod core p).pixRetire core p.tile p.uid))) ∧
  (∀ (s : State) (core slot : Nat) (p : Pod) (t : Trap), s.rootLock = true → s.pod? (.slot core slot) = some p → p.trap = some t → p.dead = false → (∀ n ∈ p.sb, n = 0) →
    (p.trapVA ≠ 0 → p.trapMode = false → exec (.trapEntry core slot) s = .next (((((s.modCore core (fun co =>
      { co with ts := co.ts.write (trapRecord slot) (trapBytes p t) })).modPod (.slot core slot) (fun q =>
      { q with trap := q.lateTraps.head?, lateTraps := q.lateTraps.tail, trapMode := true, pc := q.trapVA, m := q.m.set 0 q.runnable })).inc (rk R.CORE_TRAP_COUNT core)).setRegN (rk R.CORE_LAST_TRAP core)
        (t.cause + slot * 2 ^ 8 + p.ctx * 2 ^ 16 + t.detail % 256 * 2 ^ 24)))) ∧
    (p.trapVA = 0 ∨ p.trapMode = true → t.cause ≠ 3 → t.cause ≠ 5 →
      exec (.trapEntry core slot) s = .next (s.podStop (.slot core slot) core p C.SHADER_TRAP t.cause none)) ∧
    (p.trapVA = 0 ∨ p.trapMode = true → t.cause = 3 ∨ t.cause = 5 → exec (.trapEntry core slot) s = .next (s.podStop (.slot core slot) core p C.SHADER_TRAP t.cause
      (match t.va with
        | some a => some a
        | none => ((List.range 32).find? t.lanes.testBit).map (fun l => t.addrs.getD l 0)))))) ∧
  (∀ (s : State) (pkt core q : Nat) (slots regs : List Nat) (ts : Nat) (d : Disp) (p : QPkt),
    let co := s.core core
    let a := (s.adm? d.ctx).getD {}
    let shared := if d.view = 0 then d.shared else 0
    s.rootLock = true → s.disps.find? (·.pkt == pkt) = some d → s.wgTurn d = true → s.findPkt pkt = some (q, p) → core < 32 → s.cores.length = 32 → core / 4 = d.cluster → s.on (D.CL + d.cluster) = true →
    s.closed core = false → d.next < d.nx * d.ny * d.nz → p.abort = none → p.timedOut = false → slots.length = d.pods → slots.Nodup →
    (∀ k ∈ slots, k ∈ a.slots ∧ ∀ x ∈ co.pods, x.slot ≠ k) → (co.pods.filter (·.ctx == d.ctx)).length + d.pods ≤ a.pods →
    firstFits a.regLo a.regKib (d.vregs / 8) d.pods co.regsTaken = some regs → firstFit a.tsLo a.tsKib shared co.tilesTaken = some ts → storeWf regPlain s.regs = true →
    ∃ t, exec (.workgroupLaunch pkt core slots) s = .next t ∧ t.reg (rk R.CORE_WG_LAUNCH_COUNT core) = s.reg (rk R.CORE_WG_LAUNCH_COUNT core) + 1 ∧
      (t.core core).wgs = (s.core core).wgs ++ [Workgroup.mk s.qm.nextId pkt d.ctx slots (regs.map (fun r => (r, d.vregs / 8))) (ts, shared)] ∧
      (∀ c, c ≠ core → (t.core c).pods = (s.core c).pods) ∧
      (∃ new, (t.core core).pods = (s.core core).pods ++ new ∧ new.map (·.slot) = slots ∧
        ∀ x ∈ new, x.ctx = d.ctx ∧ x.pkt = some pkt ∧ x.pc = d.code ∧ x.trapVA = d.trapVA ∧ x.vregs = d.vregs) ∧
      (t.disps.map (·.next) = s.disps.map (fun e => if e.pkt = pkt then d.next + 1 else e.next)))

/-- 04 R111, R112, 05 R146 to R148: the end of aborted and timed-out work. A running timer that expires marks its packet; at the end of its drain the packet is killed, its queue is guilty, the timeout is counted, and
the kill where it ended any work, and the job is aborted with TIMEOUT_KILLED; at the end of an abort's drain its packets are killed; once nothing of it runs, its fences are errored and its packets complete. -/
def Obligations.AbortsAndTimeouts : Prop :=
  (∀ (s : State) (id q : Nat) (p : QPkt), s.rootLock = true → s.findPkt id = some (q, p) →
    (s.timerRuns q p = true → exec (.packetTimeout id) s = .next (s.modPkt id (fun k => { k with timedOut := true }))) ∧
    (p.timedOut = true →
      let ended := (∃ co ∈ s.cores, ∃ x ∈ co.pods, x.pkt = some p.id) ∨ (∃ u ∈ s.rtus, ∃ x ∈ u.queries, x.pkt = p.id) ∨
        (∃ a, s.pass = some a ∧ a.pkt = p.id ∧ a.tiles ≠ []) ∨ (∃ j ∈ s.copies, j.pkt = p.id ∧ j.busy ≠ [])
      let t := ((s.kill p.id).modQueue q (fun u => { u with st := .guilty })).inc (rk R.QM_Q_TIMEOUT_COUNT q)
      let t := fun (k : Bool) => (if k then t.inc (rk R.QM_Q_KILL_COUNT q) else t).modPkt p.id (fun k => { k with timedOut := false })
      let aborts := fun (g : Nat × State) => g.2.abortFrom p.ctx (g.2.pktOnion q p g.1 ⟨qEng q, C.TIMEOUT_KILLED, 0, none⟩)
        (if p.open then some (p.job, 0x20, fun x => if x.id = p.id || x.started then 0x20 else 0x81) else none)
      (ended → exec (.drainWindowEnd true id) s = .next (aborts ((t true).ctxGen p.ctx))) ∧
      (¬ended → exec (.drainWindowEnd true id) s = .next (aborts ((t false).ctxGen p.ctx))))) ∧
  (∀ (s : State) (n : Nat), s.rootLock = true → s.aborted n ≠ [] → exec (.drainWindowEnd false n) s = .next ((s.aborted n).foldl (fun t x => t.kill x.2.id) s)) ∧
  (∀ (s t : State) (seq : Nat), s.rootLock = true → s.aborted seq ≠ [] ∨ s.abortedSlots seq ≠ [] → (∀ x ∈ s.aborted seq, s.hasWork x.2.id = false) →
    s.abortFinish seq = (true, t) → exec (.abortStopped seq) s = .next t)

/-- 14 R351 to R362, 11 R297 to R301: copy engines. A COPY packet with a bad list faults, an empty one has finished, any other joins the engine's packets. A descriptor is read and checked: a bad one faults with
its DETAIL and moves nothing; a good one moves its rows, and stands in flight until all is moved, its writes are visible and it completes: its CRCs are compared, its report is
written, DONE last, and with the last descriptor the packet's work has finished. A batch descriptor does its checks and work in one step. CLEAR_MAXE zeroes CE_CODEC_MAXE. -/
def Obligations.CopyEngines : Prop :=
  (∀ (s t : State) (q : Nat) (p : QPkt), s.rootLock = true → s.on D.CE = true → 36 ≤ q → q < 52 → s.start q 3 = some (p, t) →
    let ok := p.pkt.a0 % 64 = 0 ∧ p.pkt.a1 < 2 ^ 16 ∧ p.pkt.a2 = 0
    (¬ok → exec (.copyPacket q) s = .next (t.pktFault p.id ⟨34 + (q - 36) / 4, C.COPY_DESC_INVALID, 9, some p.pkt.a0⟩ 0x80)) ∧
    (ok → p.pkt.a1 = 0 → exec (.copyPacket q) s = .next (t.finish p.id)) ∧
    (ok → p.pkt.a1 ≠ 0 → exec (.copyPacket q) s =
      .next { t with copies := t.copies ++ [{ pkt := p.id, ctx := p.ctx, eng := (q - 36) / 4, list := p.pkt.a0, count := p.pkt.a1 }] })) ∧
  (∀ (s t : State) (pkt : Nat) (j : CopyJob) (b : List Byte), s.rootLock = true → s.copy? pkt = some j → s.descNext j = some (.ok b, t) →
    let d := parseDesc b
    let takes := fun (c : Instr) =>
      (∀ n, t.descBad d j.ctx = some n → exec c s = .next (t.pktFault pkt ⟨34 + j.eng, C.COPY_DESC_INVALID, n, some (j.list + 64 * j.next)⟩ 0x80)) ∧
      (∀ u, t.descBad d j.ctx = none → t.descRun j d = (.ok (), u) → exec c s = .next u) ∧
      (∀ v u, t.descBad d j.ctx = none → t.descRun j d = (.error v, u) → v.e.cause ≠ C.HOST_WAIT → exec c s = .next (u.descFault j v))
    (d.kind ≠ 2 → d.kind ≠ 0x20 → d.kind ≠ 0x21 → (d.kind = 1 → d.order = true → j.busy = []) → takes (.copyDescriptor pkt)) ∧
    (d.kind = 2 → (d.order = true → j.busy = []) → takes (.fillDescriptor pkt))) ∧
  (∀ (s t u : State) (pkt k : Nat) (j : CopyJob) (c : CopyDesc) (r w : Option (Nat × Bool)), s.rootLock = true → s.copy? pkt = some j → j.busy[k]? = some c →
    c.isMoved = true → s.descOpen j c = false → s.descCrc (0x10 + j.eng) c.id c.crcR = (r, t) → t.descCrc (0x14 + j.eng) c.id c.crcW = (w, u) →
    (c.report = none → exec (.descriptorComplete pkt k) s = .next (u.descDone j c.id)) ∧
    (∀ va v, c.report = some va → c.reported = false → u.writeReport j c va r w = (.ok (), v) →
      (v.descRemote j c = true → exec (.descriptorComplete pkt k) s = .next (v.putDesc j.pkt { c with reported := true })) ∧
      (∀ x, v.descRemote j c = false → v.vwrite (j.whoD c.id) va (leBytes 4 1) true = (.ok (), x) →
        exec (.descriptorComplete pkt k) s = .next (x.descDone j c.id)) ∧
      (∀ e x, v.descRemote j c = false → v.vwrite (j.whoD c.id) va (leBytes 4 1) true = (.error e, x) → e.e.cause ≠ C.HOST_WAIT →
        exec (.descriptorComplete pkt k) s = .next (x.descFault j e))) ∧
    (∀ va x, c.report = some va → c.reported = true → s.vwrite (j.whoD c.id) va (leBytes 4 1) true = (.ok (), x) →
      exec (.descriptorComplete pkt k) s = .next (x.descDone j c.id)) ∧
    (∀ va e v, c.report = some va → c.reported = false → u.writeReport j c va r w = (.error e, v) → e.e.cause ≠ C.HOST_WAIT →
      exec (.descriptorComplete pkt k) s = .next (v.descFault j e))) ∧
  (∀ (s t u v : State) (pkt kind : Nat) (j : CopyJob) (d : List Byte) (b : Batch) (es : List SeqEntry), s.rootLock = true → s.copy? pkt = some j → s.descNext j = some (.ok d, t) →
    fieldAt d 0 1 = kind → j.busy = [] →
    (∀ n, t.batchCheck j.who (t.ctxPart j.ctx) d (kind == 0x20) = (.error (.bad n), u) →
      (kind = 0x20 → exec (.batchBegin pkt) s = .next (u.pktFault pkt ⟨34 + j.eng, C.COPY_DESC_INVALID, n, some (j.list + 64 * j.next)⟩ 0x80)) ∧
      (kind = 0x21 → exec (.batchCommit pkt) s = .next (u.pktFault pkt ⟨34 + j.eng, C.COPY_DESC_INVALID, n, some (j.list + 64 * j.next)⟩ 0x80))) ∧
    (let done := fun (v : State) => { v with qm := { v.qm with nextId := v.qm.nextId + 1 } }.modCopy pkt (fun k => { k with next := k.next + 1, busy := [{ id := v.qm.nextId, taken := true }] })
     t.batchCheck j.who (t.ctxPart j.ctx) d (kind == 0x20) = (.ok (b, es), u) →
      (kind = 0x20 → u.batchBegin j.who (t.ctxPart j.ctx) b es = (.ok (), v) → exec (.batchBegin pkt) s = .next (done v)) ∧
      (kind = 0x21 → u.batchCommit j.who (t.ctxPart j.ctx) b es = (.ok (), v) → exec (.batchCommit pkt) s = .next (done v)))) ∧
  (∀ req, WritesTo (.clearMaxe req) req R.CE_CODEC_CLEAR 1 (fun u _ => u.setReg R.CE_CODEC_MAXE 0))

/-! ### Partitions, admission and the schedule -/

/-- 06 R155 to R160, R169: the control registers of a partition. An enable needs clusters that are ON, clusters and copy engines that no other enabled partition has, and shares of at most 64; a refused one
sets CFG_ERR, counts, and changes nothing else. A disable is refused while a context is resident. QUIESCE holds an active partition and its clearing releases it; the FEC field is fixed while the partition runs. Clusters and copy
engines change while it is disabled, or quiesced under the check of an enable. The page ring and the favoured context have their own conditions. At the end of a window of
10 us an enabled partition that moved more DRAM bytes than its share of the variant's bandwidth while a request of another waited is counted (R155). -/
def Obligations.PartitionControl : Prop :=
  (∀ (s : State) (req : Req) (p : Nat) (val : W32),
    let u := s.arriving req
    let k := rk R.PT_P_CTRL p
    let w := u.setField k 2 1 (val.toNat / 2 % 4)
    let fits := 0 < u.pClusters p ∧ (∀ o, o < 8 → o ≠ p → u.pEnabled o = true → u.pClusters o &&& u.pClusters p = 0 ∧ u.pCe o &&& u.pCe p = 0) ∧
      (∀ n, n < 8 → (u.pClusters p).testBit n = true → u.on (D.CL + n) = true) ∧ u.pBw p + ((u.otherParts p).map u.pBw).sum ≤ 64
    (s.reaches req R.PT_P_CTRL p (val ||| 1) = true → u.pState p = .disabled →
      (¬fits → exec (.partitionEnable req val) s = .next ((u.setBits (rk R.PT_P_STATUS p) 4).viol)) ∧
      (fits → val.getLsbD 1 = false → exec (.partitionEnable req val) s = .next (((w.setField k 0 0 1).setPState p .active).recountForeign)) ∧
      (fits → val.getLsbD 1 = true → exec (.partitionEnable req val) s =
        .next ((((w.setField k 0 0 1).setPState p .active).setPState p .quiescing).quiesceSettle.recountForeign))) ∧
    (s.reaches req R.PT_P_CTRL p (val &&& ~~~ 1) = true →
      (u.pState p = .disabled → exec (.partitionDisable req val) s = .next w) ∧
      (u.pState p ≠ .disabled → u.residents p ≠ [] → exec (.partitionDisable req val) s = .next (u.setBits (rk R.PT_P_STATUS p) 4)) ∧
      (u.pState p ≠ .disabled → u.residents p = [] → exec (.partitionDisable req val) s =
        .next (((((u.wrQuiesce p (val &&& ~~~ 1)).setPState p .disabled).setField k 0 0 0).setField (rk R.PT_P_RING_CTRL p) 0 0 0).recountForeign))) ∧
    (let v := if val.getLsbD 2 = u.bit k 2 then u else u.viol
     (s.reaches req R.PT_P_CTRL p (val ||| 2) = true → val.getLsbD 0 = true → u.pState p = .active →
       exec (.partitionQuiesce req val) s = .next (((v.setField k 1 1 1).setPState p .quiescing).quiesceSettle)) ∧
     (s.reaches req R.PT_P_CTRL p (val &&& ~~~ 2) = true → val.getLsbD 0 = true → u.pState p = .quiescing →
       exec (.partitionResume req val) s = .next ((v.setField k 1 1 0).setPState p .active))) ∧
    (s.reaches req R.PT_P_CTRL p (val &&& ~~~ 2) = true → val.getLsbD 0 = true → u.pState p = .quiesced →
      exec (.partitionResume req val) s = .next (((u.setField k 2 2 (val.toNat / 4 % 2)).setField k 1 1 0).setPState p .active)) ∧
    (s.reaches req R.PT_P_CTRL p val = true →
      (u.pState p = .disabled → val.getLsbD 0 = false → exec (.partitionFecSelect req val) s = .next w) ∧
      (u.pState p = .quiesced → val.getLsbD 0 = true → val.getLsbD 1 = true →
        exec (.partitionFecSelect req val) s = .next ((u.setField k 2 2 (val.toNat / 4 % 2)).setField k 1 1 1)))) ∧
  (∀ (req : Req) (ce : Bool) (val : W32), WritesTo (.partitionResize req ce val) req (if ce then R.PT_P_CE else R.PT_P_CLUSTERS) val (fun u p =>
    let old := u.pClusters p
    match u.pState p with
    | .disabled => u.setReg (rk (if ce then R.PT_P_CE else R.PT_P_CLUSTERS) p) val
    | .active | .quiescing => u.viol
    | .quiesced =>
      if u.partFits p (if ce then old else val.toNat) (if ce then val.toNat else u.pCe p) then
        if ce then u.setReg (rk R.PT_P_CE p) val
        else ((coresOf (old ^^^ val.toNat)).foldl (fun v c => v.coreLose c) (u.setReg (rk R.PT_P_CLUSTERS p) val)).recountForeign
      else u.setBits (rk R.PT_P_STATUS p) 4)) ∧
  (∀ (s : State) (req : Req) (p : Nat) (val : W32),
    let u := s.arriving req
    let k := rk R.PT_P_RING_CTRL p
    let n := val.toNat / 2 ^ 8 % 16
    let b := u.pair (rk R.PT_P_RING_BASE_LO p)
    (s.reaches req R.PT_P_RING_CTRL p (val ||| 1) = true → u.bit k 0 = false →
      (4 ≤ n → b % (8 * 2 ^ n) = 0 → u.ringOut p < 2 ^ n → exec (.ringEnable req val) s =
        .next ((({ u with pt := { u.pt with rings := u.pt.rings.set p (b, n) } }.setRegN k (1 + 2 ^ 8 * n)).setRegN (rk R.PT_P_RING_POS p) 0).setRegN (rk R.PT_P_RING_OCC p) 0)) ∧
      (n < 4 ∨ b % (8 * 2 ^ n) ≠ 0 ∨ 2 ^ n ≤ u.ringOut p → exec (.ringEnable req val) s = .next u.viol)) ∧
    (s.reaches req R.PT_P_RING_CTRL p (val ||| 1) = true → u.bit k 0 = true → exec (.ringEnable req val) s = .next (u.setRegN k (1 + 2 ^ 8 * n))) ∧
    (s.reaches req R.PT_P_RING_CTRL p (val &&& ~~~ 1) = true → exec (.ringDisable req val) s = .next (u.setRegN k (2 ^ 8 * n)))) ∧
  (∀ req val, WritesTo (.favWrite req val) req R.PT_P_FAV val (fun u p =>
    if u.bit R.PT_SCHED_CTRL 0 ∨ (31 < val.toNat ∧ val.toNat ≠ 0xFF) then u.viol else u.setReg (rk R.PT_P_FAV p) val)) ∧
  (∀ (s : State) (mask : BitVec 8), s.rootLock = true →
    let overs := fun p => mask.getLsbD p && s.pEnabled p && decide (s.fuses.stacks * 1365000 * s.pBw p / 64 < s.ms.bw.getD p 0)
    let t := ((List.range 8).filter overs).foldl (fun t p => t.inc (rk R.PT_P_SHARE_OVERRUN_COUNT p)) s
    exec (.bwWindowEnd mask) s = .next { t with ms := { t.ms with bw := List.replicate 8 0 } })

/-- 06 R163 to R165, Table PRT-4: admission and eviction. An admission reads the descriptor and reports the first condition that it breaks; a context that breaks none holds its reservation. An eviction is
refused while the context is busy or not admitted, else its reservation goes and nothing else does. -/
def Obligations.Admission : Prop :=
  (∀ (s t : State) (req : Req) (ctx : BitVec 8) (b : List Byte), s.reaches req R.PT_ADMIT 0 (0x100 + ctx.setWidth 32) = true →
    let u := s.arriving req
    let k := rk R.PT_ADMIT_RESULT req.num
    let c := ctx.toNat
    (∀ e, u.readLoc (u.ctxDesc c) 64 = (.error e, t) → exec (.admitCtx req ctx) s = .next (t.setRegN k (2 ^ 8 + c))) ∧
    (u.readLoc (u.ctxDesc c) 64 = (.ok b, t) →
      (∀ r, t.admitResult c b = (r, none) → r ≠ 5 → exec (.admitCtx req ctx) s = .next (t.setRegN k (r * 2 ^ 8 + c))) ∧
      (t.admitResult c b = (5, none) →
        exec (.admitCtx req ctx) s = .next ((t.setRegN k (5 * 2 ^ 8 + c)).inc (rk R.PT_P_ADMIT_REFUSE_COUNT (fieldAt b 0 4 / 2 ^ 8 % 16)))) ∧
      (∀ a, t.admitResult c b = (0, some a) →
        let v := t.setRegN k c
        exec (.admitCtx req ctx) s = .next ({ v with qm := { v.qm with adm := storePut (fun _ _ => false) c a v.qm.adm } }.recountForeign)))) ∧
  (∀ (s : State) (c : Nat) (b : List Byte),
    let w := fieldAt b 0 4
    let p := w / 2 ^ 8 % 16
    let ix := w / 2 ^ 16 % 32
    let r := fieldAt b 0x10 2
    let t := fieldAt b 0x12 2
    let n := fieldAt b 0x14 1
    let good := w.testBit 0 = true ∧ p ≤ 8 ∧ 4 ≤ r ∧ r ≤ 256 ∧ r % 4 = 0 ∧ t ≤ 512 ∧ t % 4 = 0 ∧ 1 ≤ n ∧ n ≤ 48
    (¬good → s.admitResult c b = (1, none)) ∧ (good → (s.adm? c).isSome = true → s.admitResult c b = (2, none)) ∧
    (good → s.adm? c = none → p < 8 → s.pState p = .disabled → s.admitResult c b = (3, none)) ∧
    (good → s.adm? c = none → p < 8 → s.pState p ≠ .disabled → (∃ x ∈ s.residents p, x.2.resIdx = ix) → s.admitResult c b = (4, none)) ∧
    (good → s.adm? c = none → p < 8 → s.pState p ≠ .disabled → (∀ x ∈ s.residents p, x.2.resIdx ≠ ix) →
      (place (s.residents p) r t n = none → s.admitResult c b = (5, none)) ∧
      (∀ a, place (s.residents p) r t n = some a → s.admitResult c b = (0, some { a with part := p, resIdx := ix }))) ∧
    (good → s.adm? c = none → p = 8 → s.on D.GD = false → s.admitResult c b = (3, none)) ∧
    (good → s.adm? c = none → p = 8 → s.on D.GD = true → (s.residents 8 ≠ [] ∨ ix ≠ 0) → s.admitResult c b = (4, none)) ∧
    (good → s.adm? c = none → p = 8 → s.on D.GD = true → s.residents 8 = [] → ix = 0 → s.admitResult c b = (0, some { part := 8, gen := fieldAt b 4 4 }))) ∧
  (∀ (s : State) (req : Req) (ctx : BitVec 8), s.reaches req R.PT_ADMIT 0 (0x200 + ctx.setWidth 32) = true →
    let u := s.arriving req
    let k := rk R.PT_ADMIT_RESULT req.num
    let c := ctx.toNat
    (u.ctxBusy c = true → exec (.evict req ctx) s = .next (u.setRegN k (6 * 2 ^ 8 + c))) ∧
    (u.ctxBusy c = false → u.adm? c = none → exec (.evict req ctx) s = .next (u.setRegN k (2 * 2 ^ 8 + c))) ∧
    (u.ctxBusy c = false → (u.adm? c).isSome = true →
      exec (.evict req ctx) s = .next ({ u with qm := { u.qm with adm := u.qm.adm.filter (·.1 ≠ c) } }.setRegN k c)))

/-- 06 R167 to R170: the cyclic schedule. An entry is written to the bank and index of WIDX unless its duration is 0, a favoured context is out of range, or its bank runs. RUN 1 starts entry 0 of the active
bank where it has one; RUN 0 stops it and drops a pending switch; SWITCH waits for the frame to end while the schedule runs, and a write of SWITCH towards an empty bank is discarded
whole and counted. Each entry counts the contexts that overran and gives way to the next; after the
last a frame is counted, and the banks switch if that is pending. -/
def Obligations.Schedule : Prop :=
  (∀ req val, WritesTo (.schedCommit req val) req R.PT_SCHED_WDATA2 val (fun u _ =>
    let e := (u.reg R.PT_SCHED_WDATA0 &&& 0xFFFFF, u.reg R.PT_SCHED_WDATA1, val)
    let bank := u.field R.PT_SCHED_WIDX 8 8
    if e.1.toNat % 2 ^ 16 = 0 ∨ (∃ p ∈ List.range 8, 31 < favOf e p ∧ favOf e p ≠ 0xFF) ∨ (u.bit R.PT_SCHED_CTRL 0 = true ∧ bank = u.field R.PT_SCHED_CTRL 2 2) then u.viol
    else { u with pt := { u.pt with sched := storePut (fun _ _ => false) (bank * 256 + u.field R.PT_SCHED_WIDX 7 0) e u.pt.sched } }.setReg R.PT_SCHED_WDATA2 val)) ∧
  (∀ (req : Req), WritesTo (.schedRun req false) req R.PT_SCHED_CTRL 1 (fun u _ =>
    if u.bit R.PT_SCHED_CTRL 0 then u else if u.schedLen (u.field R.PT_SCHED_CTRL 2 2) = 0 then u.viol else (u.setBits R.PT_SCHED_CTRL 1).entryBegin 0)) ∧
  (∀ (req : Req), WritesTo (.schedRun req true) req R.PT_SCHED_CTRL 3 (fun u _ =>
    if u.schedLen (1 - u.field R.PT_SCHED_CTRL 2 2) = 0 then u.viol else u.schedSwitch.schedRun true)) ∧
  (∀ (req : Req), WritesTo (.schedStop req false) req R.PT_SCHED_CTRL 0 (fun u _ => u.clrBits R.PT_SCHED_CTRL 9)) ∧
  (∀ (req : Req), WritesTo (.schedStop req true) req R.PT_SCHED_CTRL 2 (fun u _ =>
    if u.schedLen (1 - u.field R.PT_SCHED_CTRL 2 2) = 0 then u.viol else u.schedSwitch.clrBits R.PT_SCHED_CTRL 9)) ∧
  (∀ (req : Req), WritesTo (.schedSwitch req false) req R.PT_SCHED_CTRL 2 (fun u _ =>
    if u.schedLen (1 - u.field R.PT_SCHED_CTRL 2 2) = 0 then u.viol else u.schedSwitch.clrBits R.PT_SCHED_CTRL 9)) ∧
  (∀ (req : Req), WritesTo (.schedSwitch req true) req R.PT_SCHED_CTRL 3 (fun u _ =>
    if u.schedLen (1 - u.field R.PT_SCHED_CTRL 2 2) = 0 then u.viol else u.schedSwitch.schedRun true)) ∧
  (∀ (s : State),
    let b := 1 - s.field R.PT_SCHED_CTRL 2 2
    (s.bit R.PT_SCHED_CTRL 0 = true → s.schedSwitch = s.setBits R.PT_SCHED_CTRL 8) ∧ (s.bit R.PT_SCHED_CTRL 0 = false →
      s.schedSwitch = (s.setField R.PT_SCHED_CTRL 2 2 b).setField R.PT_SCHED_POS 8 8 b)) ∧
  (∀ (s : State), s.rootLock = true → s.bit R.PT_SCHED_CTRL 0 = true →
    let bank := s.field R.PT_SCHED_CTRL 2 2
    let i := s.field R.PT_SCHED_POS 7 0
    let e := s.schedEntry bank i
    let t := (List.range 8).foldl (fun v p => if favOf e p ≠ 0xFF ∧ v.slotOverrun p (favOf e p) = true then v.inc (rk R.PT_P_SLOT_OVERRUN_COUNT p) else v) s
    (i + 1 < t.schedLen bank → exec .schedEntryStart s = .next (t.entryBegin (i + 1))) ∧
    (t.schedLen bank ≤ i + 1 →
      let v := t.inc R.PT_SCHED_FRAME_COUNT
      (v.bit R.PT_SCHED_CTRL 3 = false → exec .schedEntryStart s = .next (v.entryBegin 0)) ∧
      (v.bit R.PT_SCHED_CTRL 3 = true → exec .schedEntryStart s = .next (((v.clrBits R.PT_SCHED_CTRL 8).setBank (1 - bank)).entryBegin 0))))

/-- 06 R171 to R174: self-tests and repair. A requested test of a copy engine starts, or is skipped and counted while it works, and none starts while the schedule runs; at its end the packets that it held are
counted and a failure shows. A core that may be tested is tested, and fenced if it fails; fencing ends its work with DOMAIN_OFF; unfencing leaves its contents undefined. -/
def Obligations.SelfTestsAndRepair : Prop :=
  (∀ req val, WritesTo (.selftestReq req val) req R.PT_SELFTEST_REQ val (fun u _ =>
    if u.bit R.PT_SCHED_CTRL 0 then u else ((List.range 4).filter val.getLsbD).foldl (fun v n =>
      if !v.on D.CE || v.bit R.PT_ST_STATUS n then v else if v.executing (36 + 4 * n) ≠ 0 then v.inc R.PT_ST_SKIP_COUNT else v.setBits R.PT_ST_STATUS (2 ^ n)) u)) ∧
  (∀ (s : State) (n : Nat) (pass : Bool), s.rootLock = true → n < 4 → s.bit R.PT_ST_STATUS n = true →
    let h := State.heldByTest 2 s n
    let t := s.clrBits R.PT_ST_STATUS (2 ^ n)
    let u := if h = 0 then t else (t.setBits R.PT_ST_STATUS (2 ^ (4 + n))).bump (R.PT_ST_DELAY_COUNT + 4 * n) h
    h ≤ 2 ∧ exec (.ceSelftestEnd n pass) s = .next (if pass then u else u.setBits R.PT_ST_STATUS (2 ^ (8 + n)))) ∧
  (∀ (req : Req) (core : BitVec 5), WritesTo (.coreSelftest req core) req R.PT_REPAIR (0x100 + core.setWidth 32) (fun u _ =>
    if u.bit R.PT_REPAIR_STATUS 7 = true ∨ u.repairable core.toNat = false then u.viol else u.setRegN R.PT_REPAIR_STATUS (2 ^ 7 + core.toNat))) ∧
  (∀ (req : Req) (core : BitVec 5), WritesTo (.fenceCore req core) req R.PT_REPAIR (0x200 + core.setWidth 32) (fun u _ =>
    if u.bit R.PT_FENCED core.toNat then u else (u.setBits R.PT_FENCED (2 ^ core.toNat)).coresDie [core.toNat] core.toNat core.toNat)) ∧
  (∀ (req : Req) (core : BitVec 5), WritesTo (.unfenceCore req core) req R.PT_REPAIR (0x300 + core.setWidth 32) (fun u _ =>
    if u.repairable core.toNat = false then u.viol
    else if u.bit R.PT_FENCED core.toNat then (u.clrBits R.PT_FENCED (2 ^ core.toNat)).coreLose core.toNat else u)) ∧
  (∀ (s : State), s.rootLock = true → s.bit R.PT_REPAIR_STATUS 7 = true →
    let c := s.field R.PT_REPAIR_STATUS 4 0
    exec (.coreSelftestEnd true) s = .next (s.setRegN R.PT_REPAIR_STATUS (2 ^ 6 + c)) ∧
    exec (.coreSelftestEnd false) s = .next ((s.setRegN R.PT_REPAIR_STATUS c).fenceCore c))

/-! ### The guard partition -/

/-- 07 R181 to R183, R195, Tables GRD-2, GRD-4: guard packets. GLOAD and GSTORE move 64-byte units between the PG context's memory and guard SRAM, a GLOAD not over the armed regions; ARM reports the first
condition of Table GRD-4 that its header breaks, else waits for the run to end or arms; DISARM waits or disarms; SELFTEST starts, waits for the run's end, or is skipped where the run and the test would go stale.
An arming graph that is complete is IDLE with its warm-up at 0. -/
def Obligations.GuardPackets : Prop :=
  (∀ (s t : State) (p : QPkt),
    let off := p.pkt.a1 % 2 ^ 21
    let len := p.pkt.a2 % 2 ^ 22
    let bad := off % 64 ≠ 0 ∨ len % 64 ≠ 0 ∨ 2 ^ 21 < off + len
    let invalid := t.pktFault p.id ⟨qEng 52, C.PKT_INVALID, 0, none⟩ 0x21
    s.rootLock = true →
    (s.start 52 0x40 = some (p, t) →
      (bad ∨ t.gArmedOver off len = true → exec .gload s = .next invalid) ∧
      (∀ u, ¬bad → t.gArmedOver off len = false → t.gloadGo (fenceWho 52 p) off (linePieces p.pkt.a0 len) = (.ok (), u) → exec .gload s = .next (u.finish52 p.id 0))) ∧
    (s.start 52 0x41 = some (p, t) →
      (bad → exec .gstore s = .next invalid) ∧
      (∀ u, ¬bad → (t.sramRead2 off len).2.vwrite (fenceWho 52 p) p.pkt.a0 (t.sramRead2 off len).1 false = (.ok (), u) →
        exec .gstore s = .next (u.finish52 p.id 0))) ∧
    (s.start 52 0x42 = some (p, t) →
      let a := p.pkt.a0 % 2 ^ 21
      let b := t.sramRead2 a 64
      let refused := fun (u : State) (r : Nat) => (((u.setRegN R.GD_ARM_STATUS r).inc R.GD_ARM_REFUSE_COUNT).event 1 [tagGF]).finish52 p.id 0x22
      (a % 64 ≠ 0 → exec .armPacket s = .next invalid) ∧
      (a % 64 = 0 → t.gState = 3 → exec .armPacket s = .next { t with gd := { t.gd with waitArm := some (a, p.id) } }) ∧
      (∀ r x, a % 64 = 0 → t.gState ≠ 3 → b.2.armRefusal b.1 (parseGHdr a b.1) = (some r, x) → exec .armPacket s = .next (refused x r)) ∧
      (∀ x, a % 64 = 0 → t.gState ≠ 3 → b.2.armRefusal b.1 (parseGHdr a b.1) = (none, x) → exec .armPacket s = .next (x.beginArm (parseGHdr a b.1) p.id)) ∧
      (∀ (u : State), u.gd.waitArm = some (a, p.id) → u.gd.waitTest = none → u.gd.waitDisarm = none →
        let v := { { u with gd := { u.gd with pod := none } }.setField R.GD_STATUS 2 0 2 with
          gd := { ({ u with gd := { u.gd with pod := none } }.setField R.GD_STATUS 2 0 2).gd with waitArm := none } }
        let c := v.sramRead2 a 64
        (∀ x, c.2.armRefusal c.1 (parseGHdr a c.1) = (none, x) → u.afterPublish = x.beginArm (parseGHdr a c.1) p.id) ∧
        (∀ r x, c.2.armRefusal c.1 (parseGHdr a c.1) = (some r, x) → u.afterPublish = (refused x r).enterIdle.settlePin))) ∧
    (s.start 52 0x43 = some (p, t) →
      (t.gState = 3 → exec .disarmPacket s = .next { t with gd := { t.gd with waitDisarm := some p.id } }) ∧
      (t.gState ≠ 3 → exec .disarmPacket s = .next (t.disarm.finish52 p.id 0))) ∧
    (s.start 52 0x44 = some (p, t) →
      let fresh := 15000 + (t.gd.hdr.map (·.bound)).getD 0 ≤ t.field R.GD_STALE_LIMIT 7 0 * t.field R.GD_PERIOD 23 0
      (t.gState = 0 ∨ t.gState = 5 → exec .guardSelftest s =
        .next ({ t with gd := { t.gd with testPkt := some p.id, waitTest := none } }.setBits R.GD_ST_STATUS 1)) ∧
      (t.gState ≠ 0 → t.gState ≠ 5 → (fresh ∨ t.gState = 4) → exec .guardSelftest s = .next { t with gd := { t.gd with waitTest := some p.id } }) ∧
      (t.gState ≠ 0 → t.gState ≠ 5 → t.gState ≠ 4 → ¬fresh → exec .guardSelftest s =
        .next (({ t with gd := { t.gd with waitTest := none } }.setBits R.GD_ST_STATUS 8 |>.inc R.GD_ST_SKIP_COUNT).finish52 p.id 0)))) ∧
  (∀ (s : State) (p : Nat), s.rootLock = true → s.gd.arming = some p → s.gState = 1 →
    let t := { s with gd := { s.gd with arming := none, watchdog := true } }
    exec .armComplete s = .next (((t.setField R.GD_STATUS 15 8 0).finish52 p 0).enterIdle.settlePin))

/-- 07 R186 to R196, R179, 09 R264: runs of the guard. A wake starts a run, is kept for the run's end, or is merged and counted; a run whose cycles reach its bound faults; a verdict within the bound is published; a run
that does not come in time makes the verdict stale and the pin low; a restart checks the code region again and fails where it has changed; the end of a self-test lets a held run start. -/
def Obligations.GuardRuns : Prop :=
  (∀ (req : Req), WritesTo (.gdWake req true) req R.GD_WAKE 1 (fun u _ => u.wake)) ∧ (∀ (req : Req), WritesTo (.gdWake req false) req R.GD_WAKE 0 (fun u _ => u)) ∧
  (∀ (s : State),
    (s.on D.GD = false → s.wake = s) ∧
    (s.on D.GD = true → (s.gState = 0 ∨ s.gState = 5 ∨ s.bit R.GD_STATUS 6 = true) → s.wake = s.inc R.GD_WAKE_MERGE_COUNT) ∧
    (s.on D.GD = true → s.gState ∈ [1, 3, 4] → s.bit R.GD_STATUS 6 = false → s.wake = s.setField R.GD_STATUS 6 6 1) ∧
    (s.on D.GD = true → s.gState = 2 → s.bit R.GD_STATUS 6 = false → s.wake = (s.setField R.GD_STATUS 6 6 1).enterIdle) ∧
    (s.rootLock = true → s.gState = 3 → s.boundReached = true → exec .boundExceeded s = .next (s.guardFault 0x61 none)) ∧
    (exec .guardClkLoss s = .next ({ s with gd := { s.gd with clkSeen := false } }.settlePin)) ∧
    (s.rootLock = true → s.gd.watchdog = true → (s.gState = 2 ∨ s.gState = 3) →
      let t := (({ s with gd := { s.gd with watchdog := false } }.setField R.GD_STATUS 4 4 1).setField R.GD_STATUS 15 8 0)
      let came : Nat := if t.gd.hdr.any (fun (h : GHdr) => h.inAp == 0xFF) then 0 else Config.freeValue t.free % 2 ^ 32
      let u := ((({ t with free := t.free + 1 }.publish (0x2E + (if t.bit R.GD_CTRL 0 then 0x100 else 0)) 0 0 came).inc
        R.GD_STALE_COUNT).event 1 [tagGF]).settlePin
      (u.gd.waitTest = none → exec .staleExpiry s = .next u) ∧
      (∀ p, u.gd.waitTest = some p → exec .staleExpiry s =
        .next (if u.gState = 2 then { u with gd := { u.gd with testPkt := some p, waitTest := none } }.setBits R.GD_ST_STATUS 1 else u))) ∧
    (∀ h crc (read : State), s.rootLock = true → s.gd.hdr = some h → s.gState = 4 → s.codeCrc h = (crc, read) →
      let t := (((read.sramZero h.stateOff h.stateSize).inc R.GD_RESTART_COUNT).event 1 [tagGF]).setField R.GD_STATUS 15 8 0
      let u := { (t.guardOnion 0x65 32 none).2 with gd := { (t.guardOnion 0x65 32 none).2.gd with hdr := none } }
      (crc = h.crc → t.gd.waitTest = none → exec .restartEnd s = .next { t with gd := { t.gd with watchdog := true } }.enterIdle.settlePin) ∧
      (∀ p, crc = h.crc → t.gd.waitTest = some p →
        let w := { t with gd := { t.gd with watchdog := true } }
        exec .restartEnd s = .next (if 15000 + (w.gd.hdr.map (·.bound)).getD 0 ≤ w.field R.GD_STALE_LIMIT 7 0 * w.field R.GD_PERIOD 23 0 then w.enterIdle.settlePin
          else (({ w with gd := { w.gd with waitTest := none } }.setBits R.GD_ST_STATUS 8 |>.inc R.GD_ST_SKIP_COUNT).finish52 p 0).enterIdle.settlePin)) ∧
      (crc ≠ h.crc → exec .restartEnd s = .next u.enterFailed)) ∧
    (∀ p, s.rootLock = true → s.gd.testPkt = some p →
      let t := ({ s with gd := { s.gd with testPkt := none } }.clrBits R.GD_ST_STATUS 0x11).finish52 p 0
      let u := t.setBits R.GD_ST_STATUS 0x10
      exec (.guardSelftestEnd false) s = .next ((t.setBits R.GD_ST_STATUS 4).guardOnion 0x66 32 none).2.enterFailed ∧
      (¬(u.bit R.GD_STATUS 6 = true ∧ u.gState = 2) → exec (.guardSelftestEnd true) s = .next u) ∧
      (u.bit R.GD_STATUS 6 = true → u.gState = 2 → exec (.guardSelftestEnd true) s =
        .next ((((u.setField R.GD_STATUS 6 6 0).setBits R.GD_ST_STATUS 2).inc R.GD_ST_DELAY_COUNT).runStart true)))) ∧
  (∀ (s u : State) (p : Pod) (i : Ins) (h : GHdr),
    let fin := ((p.tm.sb.flatMap id) ++ [p.tm.busy]).foldl max (p.issueAt 0x06 i + 1)
    let cyc := if (keysOf 0x06 i).contains (256 + 0x89) then p.issueAt 0x06 i % 2 ^ 32 else 0
    IssuesAt s .guard p 0x06 i u → u.gd.hdr = some h → fin ≤ h.bound → p.sv i cyc i.a % 4 ≠ 3 →
    exec (.verdict .guard i) s = .next ((u.moved .guard p 0x06 i).runVerdict (p.sv i cyc i.a % 4) (p.sv i cyc i.b % 256) (p.sv i cyc i.c) fin))

/-- 07 R179, R180: the pin. Once settled it is high exactly while GD is ON with its clock seen and the supplies good, the guard IDLE or RUNNING and not stale, its warm-up done, and the published verdict 0, or 1
where CAUTION is not taken as a stop; a change shows in GD_STATUS.PIN and posts vector 1, and nothing else changes. -/
def Obligations.PinSettles : Prop :=
  ∀ (s : State),
    let v := s.field R.GD_VERDICT 1 0
    let high := s.on D.GD = true ∧ s.gd.clkSeen = true ∧ s.ao.pwr.refLost = false ∧ s.ao.pwr.aoOff = false ∧ (s.gState = 2 ∨ s.gState = 3) ∧ s.bit R.GD_STATUS 4 = false ∧
      s.field R.GD_HIST_LEN 7 0 ≤ s.field R.GD_STATUS 15 8 ∧ (v = 0 ∨ (v = 1 ∧ s.bit R.GD_CTRL 1 = false))
    (s.settlePin.gd.pin = true ↔ high) ∧ ((s.gd.pin = true ↔ high) → s.settlePin = s) ∧
    (¬(s.gd.pin = true ↔ high) → s.on D.GD = true →
      s.settlePin = ({ s with gd := { s.gd with pin := !s.gd.pin } }.setField R.GD_STATUS 5 5 (if s.gd.pin then 0 else 1)).event 1 [tagGF])

/-! ### Raster passes and ray queries -/

/-- 12 R303 to R310: a pass starts, bins and ends. A RENDER_PASS packet whose descriptor, shader table and kernels pass every check starts the pass with its tile headers zeroed, and one that breaks a check fails
with its DETAIL. Each primitive is rejected, dropped as degenerate, or appended to the bin of every tile that it touches; where bin memory has run out the segment is flushed, and resumes with headers reset. When no
tile is left and every write of the pass is visible, the pass returns its pages and its packet has finished. 12 R309 to R319: tiles. The raster unit of a cluster gives its next tile to the lowest unfenced core with a free tile set; a closed pod of fragments starts in a free slot, counted; a tile whose pods have retired, with no tensor
instruction of theirs still to write, is written out plane by plane and frees its tile set. -/
def Obligations.RasterPasses : Prop :=
  ((∀ (s t : State) (q : Nat) (p : QPkt), s.rootLock = true → s.on D.BN = true → 32 ≤ q → q < 36 → s.start q 2 = some (p, t) →
    let ok := p.pkt.a1 = 0 ∧ p.pkt.a2 = 0 ∧ p.pkt.a0 % 64 = 0
    let invalid := fun (u : State) n => u.pktFault p.id ⟨qEng q, C.PKT_INVALID, n, none⟩ 0x21
    (¬ok → exec (.renderPass q) s = .next (invalid t 0x20)) ∧
    (∀ d u, ok → t.vread (fenceWho q p) p.pkt.a0 512 = (.ok d, u) →
      let a := (u.adm? p.ctx).getD {}
      (∀ n v, u.passRead (fenceWho q p) d a = (.error (.bad n), v) → exec (.renderPass q) s = .next (invalid v n)) ∧
      (∀ sh v w, u.passRead (fenceWho q p) d a = (.ok sh, v) →
        v.vwrite (fenceWho q p) (fieldAt d 0x30 8) (List.replicate (16 * ((fieldAt d 8 2 + 31) / 32 * ((fieldAt d 0xA 2 + 31) / 32))) 0) false = (.ok (), w) →
        exec (.renderPass q) s = .next ({ w with pass := some (passOf p d a sh) }.setRegN R.RAS_STATUS
          (p.ctx % 256 * 2 ^ 8 + (if fieldAt d 0x28 4 = 0 then 4 else 2)))))) ∧
  (∀ (s t : State) (a : Pass) (b : List Byte), s.rootLock = true → s.pass = some a → a.phase = .binning → s.pktLive a.pkt = true → s.on D.BN = true →
    t = (s.vread a.who (a.primVA + 48 * a.prim) 48).2 → (s.vread a.who (a.primVA + 48 * a.prim) 48).1 = .ok b →
    let p := parsePrim a.prim b
    (primRejected a.shaders.length p b = true → exec .primitiveBin s = .next ((t.inc R.RAS_PRIM_REJECT_COUNT).primNext a)) ∧
    (primRejected a.shaders.length p b = false → p.area = 0 → exec .primitiveBin s = .next ((t.inc R.RAS_PRIM_DEGEN_COUNT).primNext a)) ∧
    (primRejected a.shaders.length p b = false → p.area ≠ 0 →
      (∀ c u, t.binAll a a.prim (a.tilesMet p) = (.ok c, u) → exec .primitiveBin s = .next ((u.inc R.RAS_PRIM_COUNT).primNext c)) ∧
      (∀ c u, t.binAll a a.prim (a.tilesMet p) = (.flush c, u) →
        exec .primitiveBin s = .next ({ u with pass := some { c with phase := .flushing, nextTile := 0 } }.rasStatus c.seg c.ctx 3)) ∧
      (∀ c f u, t.binAll a a.prim (a.tilesMet p) = (.fault c f, u) → f.waits = false →
        exec .primitiveBin s = .next ({ u with pass := some c }.pktFault a.pkt f 0x80)))) ∧
  (∀ (s t : State) (a : Pass), s.rootLock = true → s.pass = some a → a.phase = .flushing → a.tiles = [] → a.nextLin = none → s.pktLive a.pkt = true → s.on D.BN = true →
    s.vwrite a.who a.hdrVA ((List.range (a.tx * a.ty)).flatMap (fun k => hdrBytes 0 0 (a.written.contains k))) false = (.ok (), t) →
    exec .flushResume s = .next (({ t with pass := some { a with phase := .binning, bins := [], carved := 0, nextTile := 0, seg := a.seg + 1 } }.inc R.RAS_FLUSH_COUNT).rasStatus
      (a.seg + 1) a.ctx 2)) ∧
  (∀ (s : State) (a : Pass), s.rootLock = true → s.pass = some a → a.phase = .final → a.tiles = [] → a.nextLin = none → s.pktLive a.pkt = true → s.pktDrained a.pkt = true →
    let w := s.l1CleanAll a.ctx
    exec .passPageReturn s = .next (({ (if a.pages = [] then w else w.ringReturn a.part a.pages) with pass := none }.setRegN R.RAS_STATUS 0).finish a.pkt))) ∧
  ((∀ (s : State) (a : Pass) (cluster core lin : Nat), s.rootLock = true → s.pass = some a → a.nextLin = some lin → a.phase ≠ .binning → s.pktLive a.pkt = true → s.on D.BN = true → cluster < 8 →
    s.on (D.CL + cluster) = true → s.clusterOwner cluster = some a.part → core / 4 = cluster → s.fenced core = false → (a.freeSet core).isSome = true →
    (∀ c, c / 4 = cluster → c < core → s.fenced c = true ∨ a.freeSet c = none) →
    let t := (s.modPass (fun b => { b with nextTile := lin + 1 })).inc R.RAS_TILE_COUNT
    (∀ u, t.tileStart a core ((a.freeSet core).getD 0) lin = (.ok (), u) → exec (.tileDispatch cluster) s = .next u) ∧
    (∀ v u, t.tileStart a core ((a.freeSet core).getD 0) lin = (.error v, u) → v.e.cause ≠ C.HOST_WAIT →
      exec (.tileDispatch cluster) s = .next (u.pktFault a.pkt (v.at 33) 0x80))) ∧
  (∀ (s : State) (a : Pass) (t : TileJob) (core set slot reg : Nat), s.rootLock = true → s.pass = some a → a.tiles.find? (fun t => t.core == core && t.set == set) = some t →
    let ad := (s.adm? a.ctx).getD {}
    let sh := a.shader ((t.front.head?.map (·.sh)).getD 0)
    let p := pixelPod a t sh t.front core slot (s.qm.nextId + 1) (s.core core).starts reg ad.tsLo ad.tsKib s.qm.nextId
    t.closed a = true → s.pktLive a.pkt = true → s.closed core = false → s.on (D.CL + core / 4) = true → slot ∈ ad.slots → (∀ x ∈ (s.core core).pods, x.slot ≠ slot) →
    ((s.core core).pods.filter (·.ctx == a.ctx)).length < ad.pods → firstFit ad.regLo ad.regKib (sh.vregs / 8) (s.core core).regsTaken = some reg →
    let u := { s with qm := { s.qm with nextId := s.qm.nextId + 2 } }.modCore core (fun co => { co with
      pods := co.pods ++ [p], starts := co.starts + 1, wgs := co.wgs ++ [Workgroup.mk s.qm.nextId a.pkt a.ctx [slot] [(reg, sh.vregs / 8)] (0, 0)] })
    let u := (((u.inc (rk R.CORE_WG_LAUNCH_COUNT core)).inc R.RAS_PIXPOD_COUNT).bump R.RAS_FRAG_COUNT t.front.length).perfCtx 0xE a.ctx 1
    let u := t.front.zipIdx.foldl (fun (u : State) x => let xy := a.pixel t.lin x.1.px
      [xy.1 + xy.2 * 2 ^ 16, x.1.cov, x.1.prim, x.1.attr, x.1.l1, x.1.l2, x.1.px].zipIdx.foldl (fun (u : State) y => u.vput (.slot core slot) p y.2 x.2 y.1) u) u
    exec (.pixelPodLaunch core set slot) s = .next ((u.modPass (·.putTile { t with
      frags := t.frags.drop t.front.length, podIx := t.podIx + 1, fragIx := t.fragIx + t.front.length
      late := if sh.earlyZ then t.late else (s.qm.nextId + 1) :: t.late })).tileAdvance core set)) ∧
  (∀ (s u : State) (a : Pass) (t : TileJob) (core set : Nat), s.rootLock = true → s.pass = some a → a.tiles.find? (fun t => t.core == core && t.set == set) = some t → t.todo = [] → t.frags = [] →
    (∀ p ∈ (s.core core).pods, p.pixel = false ∨ p.tile ≠ t.lin ∨ p.pkt ≠ some a.pkt) → (∀ o ∈ (s.core core).tq, o.tile ≠ some (a.pkt, t.lin)) →
    (s.modPass (fun b => { b with tiles := b.tiles.filter (fun k => !(k.core == core && k.set == set)) })).storePlanes a core set t.lin a.planes = (.ok (), u) →
    (a.phase ≠ .flushing → exec (.tileWriteOut core set) s = .next u) ∧
    (∀ v, a.phase = .flushing → u.vwrite a.who (a.hdrVA + 16 * t.lin + 12) (leBytes 4 1) false = (.ok (), v) →
      exec (.tileWriteOut core set) s = .next (v.modPass (fun b => { b with written := t.lin :: b.written })))))

/-- 09 R259, 13 R323, R331, R337 to R341: ray queries. RAYQ of a core whose ray domain is ON, with a free slot of the unit's 128 for each lane and
not behind the other core's turn, starts a query for every lane of the effective mask; a record that comes back is checked and tested; once the record of a read beyond
RTU_NODE_LIMIT is checked, its query ends with LIMIT set. -/
def Obligations.RayQueries : Prop :=
  (∀ (s u : State) (c k : Nat) (p : Pod) (i : Ins), IssuesAt s (.slot c k) p 0xC0 i u → u.on D.RT = true →
    (u.rtu (c / 2)).queries.length + (lanesOf p.m0).length ≤ 128 →
    (let m := u.moved (.slot c k) p 0xC0 i
     let w := if p.stalled.contains R.RTU_SLOT_FULL_COUNT then m.modRtu (c / 2) (fun x => { x with turn := some c }) else m
     let v := w.opStart (.slot c k) c p 0xC0 i (.ray i.d) (lanesOf p.m0).length
     let qs := (lanesOf p.m0).zipIdx.map (fun (x : Nat × Nat) =>
       let f := (List.range 8).map (fun j => v.2.vget (.slot c k) p (i.a + j) x.1)
       Prod.mk { id := v.2.qm.nextId + x.2, op := v.1, core := c, slot := k, uid := p.uid, lane := x.1, ctx := p.ctx, pkt := p.pkt, kind := i.mod.toNat % 4, tmin := comp f 3
                 tlim := comp f 7, limit := v.2.field (rk R.RTU_NODE_LIMIT (c / 2)) 15 0 : Query } f)
     let t := qs.foldl (fun (x : State) y => x.rayTake (c / 2) y.1) { v.2 with qm := { v.2.qm with nextId := v.2.qm.nextId + (lanesOf p.m0).length } }
     m.rayTurn c p = false →
     exec (.rayq (.slot c k) i) s = .next ((qs.foldl (fun (x : State) y => x.rayStart (c / 2) y.1 y.2 (p.sv64 i i.b)) t).ended (.slot c k) p 0xC0 i 0))) ∧
  (∀ (s : State) (unit query : Nat) (q : Query) (e : RayRec), s.rootLock = true → (s.rtu unit).queries.find? (·.id == query) = some q → q.cur = some e →
    let got := fun (t : State) (b : List Byte) => match malformed e b with
      | some d => t.rayFault unit q C.RAY_MALFORMED d e.va
      | none => t.rayTest unit q e b
    let line := fun (x : XAddr) => s.readAt ⟨38 + unit, 38 + unit, q.ctx, none, none⟩ (e.va - e.va % 128) 128
      (if x.comp = 0 then { x with addr := x.addr - e.va % 128 } else { x with off := x.off - e.va % 128 })
    (q.reads ≤ q.limit → (∀ b, q.bytes = some b → exec (.nodeReadComplete unit query) s = .next (got s b)) ∧
    (∀ x, q.bytes = none → q.x = some x → 33 ≤ e.depth → exec (.nodeReadComplete unit query) s = .next (s.rayFault unit q C.RAY_MALFORMED 3 e.va)) ∧
    (∀ x d t, q.bytes = none → q.x = some x → e.depth < 33 → line x = (.ok d, t) →
      exec (.nodeReadComplete unit query) s = .next (got (t.nodeFill unit q.ctx e.va d) ((d.drop (e.va % 128)).take 64))) ∧
    (∀ x m t, q.bytes = none → q.x = some x → e.depth < 33 → line x = (.error m, t) →
      exec (.nodeReadComplete unit query) s = .next (t.rayFault unit q m.cause m.detail e.va))) ∧
    (q.limit < q.reads →
      (∀ b t, s.nodeRead unit q e = some (.ok b, t) →
        exec (.nodeLimit unit query) s = .next ((t.inc (rk R.RTU_LIMIT_COUNT unit)).rayFinish unit (if q.kind = 1 then { q with best := none } else q) 8)) ∧
      (∀ c d t, s.nodeRead unit q e = some (.error (c, d), t) → exec (.nodeLimit unit query) s = .next (t.rayFault unit q c d e.va))))

/-! ### CRC units and the fabric -/

/-- 14 R365 to R368: CRC units. An enable needs a stream that exists and suits the mode, and a frame length in frame mode; a refused one sets CFG_ERR, counts, and writes
no other field, and one while enabled only counts. A unit that has seen a
whole frame, with its trailer where that is expected, compares the CRC of the frame with what it expects, and goes on behind it. -/
def Obligations.CrcUnits : Prop :=
  (∀ (s : State) (req : Req) (k : Nat) (val : W32),
    let u := s.arriving req
    let v := val ||| 1
    let fits := u.attachOk (v.toNat / 2 ^ 8 % 64) (v.getLsbD 1) = true ∧ (v.getLsbD 1 = true ∨ u.reg (rk R.CRC_FRAME_BYTES k) ≠ 0)
    s.reaches req R.CRC_CTRL k v = true →
    (u.bit (rk R.CRC_CTRL k) 0 = true → exec (.crcEnable req val) s = .next u.viol) ∧
    (u.bit (rk R.CRC_CTRL k) 0 = false → fits → exec (.crcEnable req val) s = .next { u.setReg (rk R.CRC_CTRL k) v with crc := u.crc.set k {} }) ∧
    (u.bit (rk R.CRC_CTRL k) 0 = false → ¬fits →
      exec (.crcEnable req val) s = .next ((u.setBits (rk R.CRC_STATUS k) 2).viol))) ∧
  (∀ req val, WritesTo (.crcDisable req val) req R.CRC_CTRL (val &&& ~~~ 1) (fun u k => u.setReg (rk R.CRC_CTRL k) (val &&& ~~~ 1))) ∧
  (∀ (s : State) (k : Nat),
    let n := (s.reg (rk R.CRC_FRAME_BYTES k)).toNat
    let p := s.crcSel k
    let t := if s.bit (rk R.CRC_CTRL k) 4 then p.width / 8 else 0
    let b := (s.crc.getD k {}).buf
    let e := if t = 0 then s.pair (rk R.CRC_EXPECT_LO k) % 2 ^ p.width else leNat ((b.drop n).take t)
    let u := s.crcCompare k (crcOf p (b.take n)) e
    s.rootLock = true → k < 8 → s.crcOn k = true → s.crcDesc k = false → 0 < n → n + t ≤ b.length →
    exec (.crcFrameCompare k) s = .next { u with crc := u.crc.modify k (fun c => { c with buf := c.buf.drop (n + t) }) })

/-- 15 R371 to R375, R380, R383, R385: the configuration of the fabric. The node number is fixed while a group is valid; a window needs a size and must end within 32 bits; a group needs 1 to 2,048 members, its own context
and number, and stays while its context is busy; ENABLE of a port trains it, and clearing it takes the port down with its requests in flight. -/
def Obligations.FabricConfiguration : Prop :=
  (∀ req val, WritesTo (.nodeIdWrite req val) req R.FAB_NODE_ID val (fun u _ => if u.validGroups = [] then u.setReg R.FAB_NODE_ID (val &&& 0x800007FF) else u.viol)) ∧
  (∀ req val, WritesTo (.routeCommit req val) req R.FAB_ROUTE_DATA val (fun u _ => u.setRoute (u.field R.FAB_ROUTE_IDX 10 0) (val &&& 0xF))) ∧
  (∀ req val, WritesTo (.nodeLeave req val) req R.FAB_LEAVE val (fun u _ => u.fabLeave (val.toNat % 2 ^ 11))) ∧
  (∀ (s : State) (req : Req) (val : W32),
    let u := s.arriving req
    let q : Quad := ⟨u.reg R.FAB_WIN_DATA0, u.reg R.FAB_WIN_DATA1, u.reg R.FAB_WIN_DATA2, val⟩
    s.reaches req R.FAB_WIN_DATA3 0 val = true →
    (q.d1 = 0 ∨ 2 ^ 32 < q.d0.toNat + q.d1.toNat → exec (.windowCommit req val) s = .next ((u.setBits R.FAB_CFG_STATUS 2).viol)) ∧
    (q.d1 ≠ 0 → q.d0.toNat + q.d1.toNat ≤ 2 ^ 32 → exec (.windowCommit req val) s =
      .next ({ u with fab := { u.fab with wins := storePut (fun _ v => v == quad0) (u.field R.FAB_WIN_IDX 5 0) q u.fab.wins } }.setReg R.FAB_WIN_DATA3 val))) ∧
  (∀ (s : State) (req : Req) (val : W32),
    let u := s.arriving req
    let ix := u.field R.FAB_GRP_IDX 5 0
    let q : Quad := ⟨u.reg R.FAB_GRP_DATA0, u.reg R.FAB_GRP_DATA1, u.reg R.FAB_GRP_DATA2, val⟩
    let n := q.d1.toNat % 2 ^ 12
    let taken := ∃ g ∈ u.fab.grps, g.1 ≠ ix ∧ g.2.d0.getLsbD 31 = true ∧ (fld g.2.d0 23 16 = fld q.d0 23 16 ∨ fld g.2.d0 15 0 = fld q.d0 15 0)
    s.reaches req R.FAB_GRP_DATA3 0 val = true →
    (u.grpLocked = true → quadOf u.fab.grps ix ≠ q → exec (.groupCommit req val) s = .next u.viol) ∧
    (u.grpLocked = false ∨ quadOf u.fab.grps ix = q →
      (n = 0 ∨ 2048 < n ∨ taken → exec (.groupCommit req val) s = .next ((u.setBits R.FAB_CFG_STATUS 4).viol)) ∧
      (0 < n → n ≤ 2048 → ¬taken → exec (.groupCommit req val) s =
        .next ({ u with fab := { u.fab with grps := storePut (fun _ v => v == quad0) ix q u.fab.grps } }.setReg R.FAB_GRP_DATA3 val)))) ∧
  (∀ (s : State) (req : Req) (p : Nat), s.reaches req R.FAB_P_CTRL p 1 = true →
    let u := s.arriving req
    (u.bit (rk R.FAB_P_CTRL p) 0 = false → exec (.portEnable req) s = .next ((u.setReg (rk R.FAB_P_CTRL p) 1).setRegN (rk R.FAB_P_STATUS p) 2)) ∧
    (u.bit (rk R.FAB_P_CTRL p) 0 = true → exec (.portEnable req) s = .next (u.setReg (rk R.FAB_P_CTRL p) 1))) ∧
  (∀ (s : State) (req : Req) (p : Nat), s.reaches req R.FAB_P_CTRL p 0 = true →
    let u := s.arriving req
    let v := (u.setReg (rk R.FAB_P_CTRL p) 0).setRegN (rk R.FAB_P_STATUS p) 0
    (u.bit (rk R.FAB_P_CTRL p) 0 = false → exec (.registerWrite req R.FAB_P_CTRL 0 true) s = .next (u.setReg (rk R.FAB_P_CTRL p) 0)) ∧
    (u.bit (rk R.FAB_P_CTRL p) 0 = true → exec (.registerWrite req R.FAB_P_CTRL 0 true) s =
      .next (if (u.setReg (rk R.FAB_P_CTRL p) 0).portUp p then (v.inc (rk R.FAB_P_DOWN_COUNT p)).fabFaultAll (·.port == p) ⟨C.NODE_LEFT, 3, 0⟩ else v))) ∧
  (∀ (s : State) (p : Nat), p < 4 → s.fioUp = true →
    (s.bit (rk R.FAB_P_STATUS p) 1 = true → exec (.portUp p) s = .next (s.setRegN (rk R.FAB_P_STATUS p) 1)) ∧
    (s.portUp p = true → exec (.portDown p) s =
      .next ((((s.setRegN (rk R.FAB_P_STATUS p) 0).inc (rk R.FAB_P_DOWN_COUNT p)).fabFaultAll (·.port == p) ⟨C.NODE_LEFT, 3, 0⟩).fabSettle)))

/-- 15 R376 to R389: packets of other nodes that arrive at an open port. A request is served and answered on the way back to its node, a refusal with its DETAIL; an answer goes to the request in flight that has its number, and
is counted as late where none has; a refusal and a timeout fault that request; an ABORT of a group that this node knows aborts the group's context unless it is lost, and any other is counted as ignored. -/
def Obligations.FabricPackets : Prop :=
  (∀ (s : State) (port src id addr : Nat), s.rootLock = true → s.portOpen port = true → src < 2048 →
    let back := fun (t : State) => if (t.route src).getLsbD 0 && t.portUp (fld (t.route src) 2 1) then fld (t.route src) 2 1 else port
    let answers := fun (c : Instr) (k : FabKind) (r : Except Nat (List Byte) × State) =>
      (∀ b, r.1 = .ok b → exec c s = .next (r.2.fabSend ⟨back r.2, src, k, id, 0, b, none⟩)) ∧
      (∀ d, r.1 = .error d → exec c s = .next (r.2.fabSend ⟨back r.2, src, .refuse, id, d, [], none⟩))
    (∀ n, 0 < n → n ≤ 128 → answers (.fabReadReq port src id addr n) .readRsp ((s.fabArrive port .readReq []).serveRead src addr n)) ∧
    (∀ data, data ≠ [] → data.length ≤ 128 →
      let r := (s.fabArrive port .write (enabled data)).serveWrite src addr data
      answers (.fabWrite port src id addr data) .writeAck (r.1.map (fun _ => []), r.2)) ∧
    (∀ op wide ftz (a : List (Nat × Nat)) (b : List Nat), op ≤ 10 → a ≠ [] → a.length ≤ 32 →
      (∀ l ∈ a, (addr + l.1) % (if wide then 8 else 4) = 0 ∧ addr % 128 + l.1 < 128) →
      let os := a.zipIdx.map (fun x => Prod.mk x.1.1 (AtomOp.mk op wide x.1.2 (b.getD x.2 0) ftz))
      answers (.fabAtomic port src id addr op wide ftz a b) .atomicRsp ((s.fabArrive port .atomic (os.flatMap (fun x => x.2.bytes))).serveAtom src addr os))) ∧
  (∀ (s : State) (port id : Nat) (data : List Byte), s.rootLock = true → s.portOpen port = true →
    (s.fab.inflight.find? (·.id == id) = none →
      exec (.fabReadRsp port id data) s = .next ((s.fabArrive port .readRsp data).inc R.FAB_LATE_RSP_COUNT) ∧
      exec (.fabWriteAck port id) s = .next ((s.fabArrive port .writeAck []).inc R.FAB_LATE_RSP_COUNT) ∧
      exec (.fabAtomicRsp port id data) s = .next ((s.fabArrive port .atomicRsp data).inc R.FAB_LATE_RSP_COUNT) ∧
      ∀ d, exec (.fabRefuse port id d) s = .next ((s.fabArrive port .refuse []).inc R.FAB_LATE_RSP_COUNT)) ∧
    (∀ r, s.fab.inflight.find? (·.id == id) = some r →
      (r.kind = .readReq → exec (.fabReadRsp port id data) s = .next ((s.fabArrive port .readRsp data).fabAnswer r data).fabSettle) ∧
      (r.kind = .write → exec (.fabWriteAck port id) s = .next ((s.fabArrive port .writeAck []).fabAnswer r []).fabSettle) ∧
      (r.kind = .atomic → exec (.fabAtomicRsp port id data) s = .next ((s.fabArrive port .atomicRsp data).fabAnswer r data).fabSettle) ∧
      (∀ d, exec (.fabRefuse port id d) s = .next (((s.fabArrive port .refuse []).fabFault r ⟨C.REMOTE_REFUSED, d, 0⟩).fabSettle)) ∧
      exec (.fabResponseTimeout id) s = .next (((s.inc R.FAB_TIMEOUT_COUNT).fabFault r ⟨C.NODE_LEFT, 2, 0⟩).fabSettle))) ∧
  (∀ (s : State) (port group cause origin seq : Nat), s.rootLock = true → s.portOpen port = true → origin < 2048 →
    let t := s.fabArrive port .abort []
    (t.groupCtx group = none → exec (.fabAbort port group cause origin seq) s = .next (t.inc R.FAB_ABORT_IGNORED_COUNT)) ∧
    (∀ c, t.groupCtx group = some c → t.lost c = true → exec (.fabAbort port group cause origin seq) s = .next (t.inc R.FAB_ABORT_RX_COUNT)) ∧
    (∀ c, t.groupCtx group = some c → t.lost c = false → exec (.fabAbort port group cause origin seq) s =
      .next (((t.inc R.FAB_ABORT_RX_COUNT).groupAbort c C.REMOTE_FAULT cause (origin + seq % 2 ^ 48 * 2 ^ 16) false false).fabSettle)))
/-! ### Instructions of pods -/

/-- 09 Table ISA-2: the word of an instruction has each field of the table in its bits, from DST in bits 7:0 and SRC0 in 15:8 to OP in 49:42 and DIST in 63:60, and words of different
instructions differ in some bit: no bit of an instruction is lost. -/
def Obligations.InstructionWords : Prop :=
  ∀ (op : Nat) (i : Ins), op < 256 →
    let w := BitVec.ofNat 64 (insWord op i)
    insWord op i < 2 ^ 64 ∧ w.extractLsb' 0 8 = i.dst ∧ w.extractLsb' 8 8 = i.src0 ∧ w.extractLsb' 16 8 = i.src1 ∧ w.extractLsb' 24 8 = i.src2 ∧ w.extractLsb' 32 5 = i.mod ∧
    w.extractLsb' 37 3 = i.preg ∧ w.getLsbD 40 = i.pn ∧ w.getLsbD 41 = i.pe ∧ (w.extractLsb' 42 8).toNat = op ∧ w.extractLsb' 50 6 = i.wait ∧ w.extractLsb' 56 3 = i.inc ∧
    w.getLsbD 59 = i.yield ∧ w.extractLsb' 60 4 = i.dist ∧
    ∀ (op' : Nat) (i' : Ins), op' < 256 → insWord op i = insWord op' i' → op = op' ∧ { i with ext := i'.ext } = i'

/-- 09 Table ISA-9: the scalar ALU group. Each instruction with a result in scalar DST completes with the function that the table gives it, and changes
nothing else but the PC and the counters of issued instructions. 09 R244, R245: SCMP sets predicate DST[2:0] to the outcome of its condition and no other predicate; SADD64 adds two 64-bit pairs modulo 2^64. -/
def Obligations.ScalarResults : Prop :=
  (ScalarResult .sadd 0x20 (fun _ a b => a + b) ∧
  ScalarResult .ssub 0x21 (fun _ a b => a + 2 ^ 32 - b % 2 ^ 32) ∧
  ScalarResult .smul 0x22 (fun _ a b => a * b) ∧
  ScalarResult .sand 0x23 (fun _ a b => a &&& b) ∧
  ScalarResult .sor 0x24 (fun _ a b => a ||| b) ∧
  ScalarResult .sxor 0x25 (fun _ a b => a ^^^ b) ∧
  ScalarResult .sandn 0x26 (fun _ a b => (BitVec.ofNat 32 a &&& ~~~ BitVec.ofNat 32 b).toNat) ∧
  ScalarResult .sshl 0x27 (fun _ a b => a * 2 ^ (b % 32)) ∧
  ScalarResult .sshr 0x28 (fun i a b =>
    if i.mod.toNat.testBit 3 then ((BitVec.ofNat 32 a).sshiftRight (b % 32)).toNat else a / 2 ^ (b % 32)) ∧
  ScalarResult .smin 0x29 (fun i a b =>
    if i.mod.toNat.testBit 3 then min a b else if (BitVec.ofNat 32 b).toInt < (BitVec.ofNat 32 a).toInt then b else a) ∧
  ScalarResult .smax 0x2A (fun i a b =>
    if i.mod.toNat.testBit 3 then max a b else if (BitVec.ofNat 32 a).toInt < (BitVec.ofNat 32 b).toInt then b else a) ∧
  ScalarResult .smov 0x2B (fun _ a _ => a) ∧
  ScalarResult .spopc 0x2C (fun _ a _ => ((List.range 32).filter a.testBit).length) ∧
  ScalarResult .sffs 0x2D (fun _ a _ => ((List.range 32).find? a.testBit).getD 32)) ∧
  ((∀ (s u : State) (r : PodRef) (p : Pod) (i : Ins), IssuesAt s r p 0x2E i u → ∃ t cyc, exec (.scmp r i) s = .next t ∧ CyclesAt r p 0x2E i cyc ∧
    (let a := p.sv i cyc i.a
     let b := p.sv i cyc i.b
     let x := BitVec.ofNat 32 a
     let y := BitVec.ofNat 32 b
     let lt := if i.mod.toNat.testBit 3 then decide (a < b) else decide (x.toInt < y.toInt)
     let gt := if i.mod.toNat.testBit 3 then decide (b < a) else decide (y.toInt < x.toInt)
     let o := [a == b, a != b, lt, !gt, gt, !lt].getD (i.mod.toNat % 8) false
     ∃ preds, PodAfter t r p { p with preds := preds } 0x2E i ∧ ∀ k, preds.testBit k = if k = i.dst.toNat % 8 then o else p.preds.testBit k) ∧
    PodOnly u t r ∧ t.vrf r = u.vrf r) ∧
  (∀ (s u : State) (r : PodRef) (p : Pod) (i : Ins), IssuesAt s r p 0x2F i u → ∃ t, exec (.sadd64 r i) s = .next t ∧
    (let v := (p.sv64 i i.a + p.sv64 i i.b) % 2 ^ 64
     PodAfter t r p ((p.sput i.d (v % 2 ^ 32)).sput (i.d + 1) (v / 2 ^ 32)) 0x2F i) ∧ PodOnly u t r ∧ t.vrf r = u.vrf r))

/-- 09 Tables ISA-11 and ISA-13, R246, R248: the vector integer group, and VBFE, VBFI and VPOPC of the bit group, lane by lane of the effective mask. VICMP gathers the lanes of the
effective mask in which its condition holds into scalar DST. -/
def Obligations.VectorIntegerResults : Prop :=
  VectorResult .viadd 0x30 (fun i g b _ l => g i.a l + b l) ∧
  VectorResult .visub 0x31 (fun i g b _ l => g i.a l + 2 ^ 32 - b l % 2 ^ 32) ∧
  VectorResult .vimul 0x32 (fun i g b _ l => g i.a l * b l) ∧
  VectorResult .vimulhi 0x33 (fun i g b _ l =>
    if i.mod.toNat.testBit 3 then g i.a l * b l / 2 ^ 32
    else (BitVec.ofInt 32 ((BitVec.ofNat 32 (g i.a l)).toInt * (BitVec.ofNat 32 (b l)).toInt / 2 ^ 32)).toNat) ∧
  VectorResult .vimad 0x34 (fun i g b _ l => g i.a l * b l + g i.c l) ∧
  VectorResult .vand 0x35 (fun i g b _ l => g i.a l &&& b l) ∧
  VectorResult .vor 0x36 (fun i g b _ l => g i.a l ||| b l) ∧
  VectorResult .vxor 0x37 (fun i g b _ l => g i.a l ^^^ b l) ∧
  VectorResult .vshl 0x38 (fun i g b _ l => g i.a l * 2 ^ (b l % 32)) ∧
  VectorResult .vshr 0x39 (fun i g b _ l =>
    if i.mod.toNat.testBit 3 then ((BitVec.ofNat 32 (g i.a l)).sshiftRight (b l % 32)).toNat else g i.a l / 2 ^ (b l % 32)) ∧
  VectorResult .vimin 0x3A (fun i g b _ l =>
    if i.mod.toNat.testBit 3 then min (g i.a l) (b l)
    else if (BitVec.ofNat 32 (b l)).toInt < (BitVec.ofNat 32 (g i.a l)).toInt then b l else g i.a l) ∧
  VectorResult .vimax 0x3B (fun i g b _ l =>
    if i.mod.toNat.testBit 3 then max (g i.a l) (b l)
    else if (BitVec.ofNat 32 (g i.a l)).toInt < (BitVec.ofNat 32 (b l)).toInt then b l else g i.a l) ∧
  VectorResult .vmov 0x3C (fun _ _ b _ l => b l) ∧
  VectorResult .vsel 0x3D (fun i g b sc l => if (sc i.c).testBit l then g i.a l else b l) ∧
  VectorResult .vshfl 0x3F (fun i g b _ l => g i.a (b l % 32)) ∧
  VectorResult .vbfe 0x61 (fun i g _ sc l =>
    let b := sc i.b % 32
    let n := min (sc i.c) (32 - b)
    let v := g i.a l / 2 ^ b % 2 ^ n
    if i.mod.toNat.testBit 3 && n ≠ 0 then ((BitVec.ofNat n v).signExtend 32).toNat else v) ∧
  VectorResult .vbfi 0x62 (fun i g _ sc l =>
    let b := sc i.b % 32
    let n := min (sc i.c) (32 - b)
    let d := g i.d l
    d % 2 ^ b + g i.a l % 2 ^ n * 2 ^ b + d / 2 ^ (b + n) * 2 ^ (b + n)) ∧
  VectorResult .vpopc 0x63 (fun i g _ _ l => ((List.range 32).filter (g i.a l).testBit).length) ∧
  MaskResult .vicmp 0x3E (fun i g b l =>
    let x := BitVec.ofNat 32 (g i.a l)
    let y := BitVec.ofNat 32 (b l)
    let lt := if i.mod.toNat.testBit 3 then decide (g i.a l < b l) else decide (x.toInt < y.toInt)
    let gt := if i.mod.toNat.testBit 3 then decide (b l < g i.a l) else decide (y.toInt < x.toInt)
    [g i.a l == b l, g i.a l != b l, lt, !gt, gt, !lt].getD (i.mod.toNat % 8) false)

/-- 09 R245, R247; 10 R278: VFCMP and VDCMP put the mask of the lanes in which the condition holds into scalar DST; with a NaN operand the outcome is
MOD[3]; the flags go to FPSTAT. -/
def Obligations.CompareMasks : Prop :=
  (∀ (s u : State) (r : PodRef) (p : Pod) (i : Ins) (wide : Bool),
    let op := if wide then 0x57 else 0x49
    let f := if wide then fp64 else fp32
    IssuesAt s r p op i u → ∃ cyc, CyclesAt r p op i cyc ∧
    (let a := fun l => if wide then u.vget64 r p i.a l else u.vget r p i.a l
     let b := fun l => if wide then u.vb64 r p i l else u.vb r p i cyc l
     let o := fun l => if (f.decode p.ftz (a l)).isNan || (f.decode p.ftz (b l)).isNan then i.mod.toNat.testBit 3
       else (f.cmp p.ftz (i.mod.toNat % 8) (a l) (b l)).1
     let fl := fun l => (f.cmp p.ftz (i.mod.toNat % 8) (a l) (b l)).2
     (∀ l, p.m0.testBit l → l < 32 → fl l &&& p.trapEn = 0) → ∃ t q, exec (if wide then .vdcmp r i else .vfcmp r i) s = .next t ∧ t.pod? r = some q ∧
      (let p' := p.sput i.d (maskOf ((lanesOf p.m0).filter o))
       q = { p' with fpstat := p'.fpstat ||| ((lanesOf p.m0).map fl).foldl (· ||| ·) 0, pc := p.pc + insLen op i, stalled := [], tm := q.tm }) ∧
      PodOnly u t r ∧ t.vrf r = u.vrf r))

/-- 09 R247, Table ISA-12; 10 R276 to R278: the FP32 and half-precision arithmetic of lanes: sources under their modifiers, FTZ and RMODE of FPCTRL, the
flags into FPSTAT. 09 R247, Table ISA-12; 10 R276 to R278: the FP64 arithmetic of lanes in register pairs. -/
def Obligations.FloatResults : Prop :=
  (let a := fun (i : Ins) (g : Nat → Nat → Nat) l => srcMod 32 i.m 0 (g i.a l)
  let b := fun (i : Ins) (b : Nat → Nat) l => srcMod 32 i.m 1 (b l)
  let c := fun (i : Ins) (g : Nat → Nat → Nat) l => srcMod 32 i.m 2 (g i.c l)
  let half := fun (f : Fmt) (p : Pod) (i : Ins) (g : Nat → Nat → Nat) (b : Nat → Nat) (l k : Nat) =>
    f.fma p.arith p.ftz (srcMod 16 i.m 0 (g i.a l / 2 ^ k % 2 ^ 16)) (srcMod 16 i.m 1 (b l / 2 ^ k % 2 ^ 16)) (srcMod 16 i.m 2 (g i.c l / 2 ^ k % 2 ^ 16))
  FloatResult .vfadd 0x40 false (fun p i g y l => fp32.add p.arith p.ftz (a i g l) (b i y l)) ∧
  FloatResult .vfmul 0x41 false (fun p i g y l => fp32.mul p.arith p.ftz (a i g l) (b i y l)) ∧
  FloatResult .vffma 0x42 false (fun p i g y l => fp32.fma p.arith p.ftz (a i g l) (b i y l) (c i g l)) ∧
  FloatResult .vfmin 0x43 false (fun p i g y l => fp32.minMax p.ftz false (a i g l) (b i y l)) ∧
  FloatResult .vfmax 0x44 false (fun p i g y l => fp32.minMax p.ftz true (a i g l) (b i y l)) ∧
  FloatResult .vfdiv 0x45 false (fun p i g y l => fp32.div p.arith p.ftz (a i g l) (b i y l)) ∧
  FloatResult .vfsqrt 0x46 false (fun p i g _ l => fp32.sqrt p.arith p.ftz (a i g l)) ∧
  FloatResult .vfrcp 0x47 false (fun p i g _ l => vfrcp p.ftz (a i g l)) ∧
  FloatResult .vfrsq 0x48 false (fun p i g _ l => vfrsq p.ftz (a i g l)) ∧
  FloatResult .vfexp2 0x4A false (fun p i g _ l => vfexp2 p.ftz (a i g l)) ∧
  FloatResult .vflog2 0x4B false (fun p i g _ l => vflog2 p.ftz (a i g l)) ∧
  FloatResult .vhfma 0x50 false (fun p i g y l =>
    ⟨(half fp16 p i g y l 0).w + (half fp16 p i g y l 16).w * 2 ^ 16, (half fp16 p i g y l 0).fl ||| (half fp16 p i g y l 16).fl, false⟩) ∧
  FloatResult .vbfma 0x51 false (fun p i g y l =>
    ⟨(half bf16 p i g y l 0).w + (half bf16 p i g y l 16).w * 2 ^ 16, (half bf16 p i g y l 0).fl ||| (half bf16 p i g y l 16).fl, false⟩)) ∧
  (let a := fun (i : Ins) (g : Nat → Nat → Nat) l => srcMod 64 i.m 0 (g i.a l)
  let b := fun (i : Ins) (b : Nat → Nat) l => srcMod 64 i.m 1 (b l)
  FloatResult .vdadd 0x52 true (fun p i g y l => fp64.add p.arith p.ftz (a i g l) (b i y l)) ∧
  FloatResult .vdmul 0x53 true (fun p i g y l => fp64.mul p.arith p.ftz (a i g l) (b i y l)) ∧
  FloatResult .vdfma 0x54 true (fun p i g y l => fp64.fma p.arith p.ftz (a i g l) (b i y l) (srcMod 64 i.m 2 (g i.c l))) ∧
  FloatResult .vddiv 0x55 true (fun p i g y l => fp64.div p.arith p.ftz (a i g l) (b i y l)) ∧
  FloatResult .vdsqrt 0x56 true (fun p i g _ l => fp64.sqrt p.arith p.ftz (a i g l)))

/-- 10 R272, R273, R280; 09 R248: VCVT converts each lane of the effective mask between the formats that SRC1 and SRC2 name. -/
def Obligations.ConvertResults : Prop :=
  ∀ (s u : State) (r : PodRef) (p : Pod) (i : Ins), IssuesAt s r p 0x60 i u → (u.vrf r).wf = true →
    let x := fun l => convertLane i.b i.c (p.cvtMode (i.m / 2 % 8)) p.ftz (i.mod.toNat.testBit 0) (p.gens.getD l 0)
      (if i.b = 0x11 then u.vget64 r p i.a l else u.vget r p i.a l)
    (∀ l, p.m0.testBit l → l < 32 → (x l).1.fl &&& p.trapEn = 0) → ∃ t, exec (.vcvt r i) s = .next t ∧
      (i.d ≠ 255 → ∀ l, l < 32 → t.vget r p i.d l = if p.m0.testBit l then (x l).1.w % 2 ^ 32 else u.vget r p i.d l) ∧
      (i.c = 0x11 → i.d + 1 ≠ 255 → ∀ l, l < 32 →
        t.vget r p (i.d + 1) l = if p.m0.testBit l then (x l).1.w / 2 ^ 32 % 2 ^ 32 else u.vget r p (i.d + 1) l) ∧
      VregsBut u t r p i.d (if i.d = 255 then 0 else if i.c = 0x11 then 2 else 1) ∧
      PodAfter t r p { p with
        fpstat := p.fpstat ||| laneFlags p (fun l => (x l).1)
        gens := (lanesOf p.m0).foldl (fun g l => g.set l (x l).2) p.gens } 0x60 i ∧
      PodOnly u t r

/-- 09 R241, R243: NOP moves on; JMP, JZ, JNZ and CALL go to their own address plus 8 OFF24 when they branch, JMPR to the value of its pair; CALL leaves the
address of the instruction after it in the pair DST. 08 R210, R211, R215 to R217; 09 R241, R242: EXIT takes the lanes of the effective mask out of LIVE, parked peas and m0 (a pixel pod's fragments release the
interlock, and ORPHAN_PARK is raised if only parked peas are left); TRAP raises trap 1 with its number; BAR waits for its barrier (on the guard core it
completes at once); TRET in trap mode restores the pod from its trap record. 08 R229; 09 R255, R261: a FENCE on a shader core counts as pending on its counter until the pod has no operation in flight, when it completes at
once and, from device scope on, cleans and drops the context's lines of L1; on the guard core it completes at once for the registers. -/
def Obligations.ControlInstructions : Prop :=
  (let target := fun (p : Pod) (i : Ins) => (((p.pc : Int) + 8 * (i.src2 ++ i.src1 ++ i.src0 : BitVec 24).toInt) % 2 ^ 64).toNat
  let goes := fun (c : PodRef → Ins → Instr) (op : Nat) (next : Pod → Ins → Nat → Nat) (p' : Pod → Ins → Pod) =>
    ∀ (s u : State) (r : PodRef) (p : Pod) (i : Ins), IssuesAt s r p op i u → (op = 0x14 → p.sv64 i i.a % 8 = 0) →
      ∃ t q cyc, exec (c r i) s = .next t ∧ CyclesAt r p op i cyc ∧ t.pod? r = some q ∧
        q = { p' p i with pc := next p i cyc, stalled := [], tm := q.tm } ∧ PodOnly u t r ∧ t.vrf r = u.vrf r
  goes .nop 0x00 (fun p i _ => p.pc + insLen 0x00 i) (fun p _ => p) ∧
  goes .jmp 0x10 (fun p i _ => target p i) (fun p _ => p) ∧
  goes .jz 0x11 (fun p i cyc => if p.sv i cyc i.d = 0 then target p i else p.pc + 8) (fun p _ => p) ∧
  goes .jnz 0x12 (fun p i cyc => if p.sv i cyc i.d = 0 then p.pc + 8 else target p i) (fun p _ => p) ∧
  goes .call 0x13 (fun p i _ => target p i) (fun p i => (p.sput i.d ((p.pc + 8) % 2 ^ 32)).sput (i.d + 1) ((p.pc + 8) / 2 ^ 32)) ∧
  goes .jmpr 0x14 (fun p i _ => p.sv64 i i.a) (fun p _ => p)) ∧
  ((∀ (s u : State) (r : PodRef) (p : Pod) (i : Ins), IssuesAt s r p 0x01 i u →
    exec (.exit r i) s = .next ((((((u.moved r p 0x01 i).modPod r (fun q => { q with
      live := q.live &&& (0xFFFFFFFF - p.m0), park := q.park &&& (q.live &&& (0xFFFFFFFF - p.m0))
      m := q.m.set 0 (q.m0 &&& (q.live &&& (0xFFFFFFFF - p.m0))) })).pixRelease r p p.m0).orphan r)).ended r p 0x01 i 2)) ∧
  (∀ (s u : State) (c k : Nat) (p : Pod) (i : Ins), IssuesAt s (.slot c k) p 0x02 i u → ∃ t, exec (.trap (.slot c k) i) s = .next t ∧
    PodAfter t (.slot c k) p { p with trap := some { cause := 1, detail := i.src0.toNat, pc := p.pc, resume := p.pc + 8 } } 0x02 i ∧
    PodOnly u t (.slot c k) ∧ t.vrf (.slot c k) = u.vrf (.slot c k)) ∧
  (∀ (s u : State) (c k : Nat) (p : Pod) (i : Ins), IssuesAt s (.slot c k) p 0x04 i u →
    exec (.bar (.slot c k) i) s = .next (((u.moved (.slot c k) p 0x04 i).modPod (.slot c k) (fun q => { q with bar := some (i.mod.toNat % 16) })).barSettle c p.wg
      |>.ended (.slot c k) p 0x04 i 0)) ∧
  (∀ (s u : State) (p : Pod) (i : Ins), IssuesAt s .guard p 0x04 i u → ∃ t, exec (.bar .guard i) s = .next t ∧ PodAfter t .guard p p 0x04 i ∧ PodOnly u t .guard) ∧
  (∀ (s u : State) (c k : Nat) (p : Pod) (i : Ins), IssuesAt s (.slot c k) p 0x03 i u → p.trapMode = true →
    exec (.tret (.slot c k) i) s = .next ((((u.moved (.slot c k) p 0x03 i).modPod (.slot c k)
      (fun q => q.restore ((u.core c).ts.read (0x7A000 + 512 * k) 512))).orphan (.slot c k)).ended (.slot c k) p 0x03 i 2))) ∧
  ((∀ (s u : State) (c k : Nat) (p : Pod) (i : Ins), IssuesAt s (.slot c k) p 0x05 i u → ∃ t q, exec (.fence (.slot c k) i) s = .next t ∧
    (let v := u.moved (.slot c k) p 0x05 i
     let w := if 3 ≤ i.mod.toNat % 8 then v.inc (rk R.CORE_FENCE_DEV_COUNT c) else v
     let x := w.modPod (.slot c k) (fun q => { q with
       fences := q.fences ++ [(i.mod.toNat % 8, i.inc.toNat)], sb := if i.inc.toNat < 6 then q.sb.modify i.inc.toNat (· + 1) else q.sb })
     x.pod? (.slot c k) = some q ∧ t = (x.fencesDone c q).ended (.slot c k) p 0x05 i 0)) ∧
  (∀ (s u : State) (p : Pod) (i : Ins), IssuesAt s .guard p 0x05 i u → ∃ t, exec (.fence .guard i) s = .next t ∧ PodAfter t .guard p p 0x05 i ∧ PodOnly u t .guard))

/-- 08 R209, R227, R228; 09 R249 to R251, R253: on a shader core a memory instruction whose lanes are aligned and for whose line requests there is room starts an
operation with one line request for each 128-byte line that its lanes touch: LD and SLD load, ST and SST store the bytes of the lanes, ATOM makes its
lanes' operations in order. 08 R209: an operation starts with as many line requests as its lanes touch lines, unless the core would have more than 256 in flight. -/
def Obligations.ShaderMemoryIssues : Prop :=
  (∀ (s u : State) (c k : Nat) (p : Pod) (i : Ins) (t : State),
    let r := PodRef.slot c k
    let size := 2 ^ (i.mod.toNat % 8)
    let wide := if i.mod.toNat.testBit 4 then 8 else 4
    let room := fun (op : Nat) (as : List (Nat × Nat)) (n : Nat) (o : OpKind) (kind : List (Nat × Nat) → LineKind) =>
      IssuesAt s r p op i u ∧ (∀ a ∈ as, a.2 % n = 0) ∧ (u.moved r p op i).memIssue r c p op i n o as kind = some t
    let vec := u.memAddrs r p i p.m0 size
    let one := [(32, scalarAddr p i)]
    let word := if size = 8 then p.sget i.d + p.sget (i.d + 1) * 2 ^ 32 else p.sget i.d
    (room 0x70 vec size (.mem i.d size (i.mod.toNat.testBit 3) false true) (fun _ => .load) → exec (.ld r i) s = .next (t.ended r p 0x70 i 0)) ∧
    (room 0x71 vec size (.mem 0 size false false false) (fun ls => .store (storeBytes size ls (u.laneData r p i.d size))) → exec (.st r i) s = .next (t.ended r p 0x71 i 0)) ∧
    (room 0x72 one size (.mem i.d size false true true) (fun _ => .load) → exec (.sld r i) s = .next (t.ended r p 0x72 i 0)) ∧
    (room 0x73 one size (.mem 0 size false true false) (fun ls => .store (storeBytes size ls (fun _ => word))) → exec (.sst r i) s = .next (t.ended r p 0x73 i 0)) ∧
    (room 0x80 ((lanesOf p.m0).map (fun l => (l, u.vget64 r p i.a l))) wide (.mem i.d wide false false (i.d ≠ 255))
      (fun ls => .atom (ls.map (fun x => u.laneAtom r p i x.1))) → exec (.atom r i) s = .next (t.ended r p 0x80 i 0))) ∧
  (∀ (s : State) (r : PodRef) (c : Nat) (p : Pod) (op : Nat) (i : Ins) (size : Nat) (k : OpKind) (as : List (Nat × Nat)) (kind : List (Nat × Nat) → LineKind),
    (s.memIssue r c p op i size k as kind).isSome ↔ (s.core c).lines.length + ((as.map (fun a => a.2 / 128)).eraseDups).length ≤ 256)

/-- 09 R261, R262: on the guard core LD and SLD read guard SRAM, ST and SST write it and ATOM operates on it lane by lane, where every lane is aligned and
lies in guard SRAM (for a write: outside the code region). -/
def Obligations.GuardMemoryIssues : Prop :=
  ∀ (s u : State) (p : Pod) (i : Ins),
    let r := PodRef.guard
    let size := 2 ^ (i.mod.toNat % 8)
    let wide := if i.mod.toNat.testBit 4 then 8 else 4
    let go := fun (op : Nat) (as : List (Nat × Nat)) (n : Nat) (wr : Bool) =>
      IssuesAt s r p op i u ∧ (∀ a ∈ as, a.2 % n = 0) ∧ u.gRange wr n as = none
    let vec := u.memAddrs r p i p.m0 size
    let one := [(32, scalarAddr p i)]
    let word := if size = 8 then p.sget i.d + p.sget (i.d + 1) * 2 ^ 32 else p.sget i.d
    (go 0x70 vec size false → exec (.ld r i) s =
      .next (((u.moved r p 0x70 i).gLoads size (fun s l v => s.putLane r p i.d l size (extend size (i.mod.toNat.testBit 3) v)) vec).ended r p 0x70 i (6 + extraWords vec))) ∧
    (go 0x71 vec size true → exec (.st r i) s =
      .next (((u.moved r p 0x71 i).gStores size (u.laneData r p i.d size) vec).ended r p 0x71 i (6 + extraWords vec))) ∧
    (go 0x72 one size false → exec (.sld r i) s =
      .next (((u.moved r p 0x72 i).gLoads size (fun s _ v => s.modPod r (fun q =>
        if size = 8 then (q.sput i.d v).sput (i.d + 1) (v / 2 ^ 32) else q.sput i.d v)) one).ended r p 0x72 i 6)) ∧
    (go 0x73 one size true → exec (.sst r i) s = .next (((u.moved r p 0x73 i).gStores size (fun _ => word) one).ended r p 0x73 i 6)) ∧
    (let as := (lanesOf p.m0).map (fun l => (l, u.vget64 r p i.a l))
     go 0x80 as wide true → exec (.atom r i) s =
      .next (((u.moved r p 0x80 i).gAtoms r p i.d wide (fun l => u.laneAtom r p i l) as).ended r p 0x80 i (6 + extraWords as)))

/-- 08 R222, R223: STT writes each lane's bytes to tile store in lane order and changes no other byte of it: where lanes name one byte, the highest lane's stands.
LDT reads, and ATOMT operates on, the lanes' tile store lane by lane. -/
def Obligations.TileStoreAccesses : Prop :=
  ∀ (s u : State) (c k : Nat) (p : Pod) (i : Ins) (op : Nat),
    let r := PodRef.slot c k
    let size := if op = 0x92 then (if i.mod.toNat.testBit 4 then 8 else 4) else 2 ^ (i.mod.toNat % 8)
    IssuesAt s r p op i u → (keysOf op i).contains (256 + 0x89) = false → (u.core c).ts.wf = true →
    (let as := if op = 0x92 then (lanesOf p.m0).map (fun l => (l, u.vget r p i.a l)) else u.tileAddrs r p i 0 p.m0 size
     (∀ a ∈ as, a.2 % size = 0 ∧ ∃ o, p.tsMap a.2 size = .ok o) →
     let at' := as.map (fun a => (a.1, (p.tsMap a.2 size).toOption.getD 0))
     let v := (u.moved r p op i).tsReplay r p.ctx as size
     (op = 0x90 → exec (.ldt r i) s = .next ((at'.foldl (fun s a =>
       (s.tsRead c a.2 size).2.putLane r p i.d a.1 size (extend size (i.mod.toNat.testBit 3) (leNat (s.tsRead c a.2 size).1))) v).ended r p op i 0)) ∧
     (op = 0x92 → exec (.atomt r i) s = .next ((at'.foldl (fun s a =>
       let o := u.laneAtom r p i a.1
       let old := leNat (s.tsRead c a.2 size).1
       ((s.tsRead c a.2 size).2.tsWrite c a.2 (leBytes size (atomApply o.op (8 * size) o.ftz old o.a o.b))).putLane r p i.d a.1 size old) v).ended r p op i 0)) ∧
     (op = 0x91 → ∃ t, exec (.stt r i) s = .next t ∧ PodAfter t r p p op i ∧
       (∀ l o, (l, o) ∈ as → ∀ b, p.tsMap o size = .ok b → ∀ j, j < size → (∀ l' o', (l', o') ∈ as → l < l' → ¬∃ b', p.tsMap o' size = .ok b' ∧ b' ≤ b + j ∧ b + j < b' + size) →
         (t.core c).ts.get (b + j) = BitVec.ofNat 8 (u.laneData r p i.d size l / 2 ^ (8 * j))) ∧
       (∀ a, (∀ l o b, (l, o) ∈ as → p.tsMap o size = .ok b → ¬(b ≤ a ∧ a < b + size)) → (t.core c).ts.get a = (u.core c).ts.get a)))

/-- 08 R212 to R215; 09 R254, R261: LKWAIT, which clears its mask register first, and UNLK take their lanes in increasing order through the lock words: on the guard
core in guard SRAM, on a shader core in tile store (MOD[0]) or, once no line request
of the pod that touches a lane's lock word is outstanding, with room for one for each line, counted, and where every lane's lock translates to a local or host address, in memory. 08 R213: the four outcomes of LKWAIT for one lane: a free lock is taken, a lock that the lane holds stays its own, a lock that another pea of the pod holds
parks it, and any other holder leaves its bit 0. -/
def Obligations.Locks : Prop :=
  (∀ (s u : State) (r : PodRef) (p : Pod) (i : Ins) (wait : Bool),
    let op := if wait then 0x82 else 0x83
    let c := if wait then Instr.lkwait r i else Instr.unlk r i
    let k := i.d - 0x80
    let md := if wait then p.m0 else p.m0 &&& p.sget i.d
    let as := (lanesOf md).map (fun l => (l, if i.mod.toNat.testBit 0 then u.vget r p i.a l else u.vget64 r p i.a l))
    let tile := i.mod.toNat.testBit 0
    let lane := fun (s : State) l va w put => if wait then s.lkLane r p tile k l va w put else s.ukLane r p tile k l va w put
    let cleared := fun (s : State) => if wait then s.modPod r (fun q => q.mput k 0) else s
    IssuesAt s r p op i u → (∀ a ∈ as, a.2 % 4 = 0) →
    (r = .guard → u.gRange false 4 as = none →
      let v := u.moved r p op i
      let w := (cleared v).lockLanes r 32 p lane (as.map (fun a => (a.1, a.2, LockAt.sram a.2)))
      let fin := p.issueAt op i + 6 + (lanesOf md).length
      let x := if w.gd.sram = v.gd.sram then w else w.modPod r (fun q => { q with tm := { q.tm with busy := max q.tm.busy fin } })
      exec c s = .next ((x.orphan r).ended r p op i (6 + (lanesOf md).length))) ∧
    (∀ n j, r = .slot n j → i.mod.toNat.testBit 0 = true → (∀ a ∈ as, ∃ o, p.tsMap a.2 4 = .ok o) →
      exec c s = .next ((((cleared ((u.moved r p op i).tsReplay r p.ctx as 4)).lockLanes r n p lane
        (as.map (fun a => (a.1, a.2, LockAt.tile ((p.tsMap a.2 4).toOption.getD 0))))).orphan r).ended r p op i 0)) ∧
    (∀ n j v places, r = .slot n j → i.mod.toNat.testBit 0 = false → (u.core n).lockBehind p as = false → (u.core n).lines.length + (groupLines as).length ≤ 256 →
      ((u.moved r p op i).bump (rk R.CORE_LINE_REQ_COUNT n) (groupLines as).length).lockXlate n (podWho n p) as [] [] = (.ok (places, []), v) →
      exec c s = .next ((((cleared v).lockLanes r n p lane places).orphan r).ended r p op i 0))) ∧
  (∀ (s : State) (r : PodRef) (p q : Pod) (tile : Bool) (k l va w : Nat) (put : State → Nat → State), s.pod? r = some q → 1 ≤ k → k < 4 → q.m.length = 4 → l < 32 →
    (∀ t v, (put t v).pod? r = t.pod? r) →
    let t := s.lkLane r p tile k l va w put
    let mine := lockTag r p l
    ∃ q', t.pod? r = some q' ∧
      (w = 0 → (q'.m.getD k 0).testBit l = true ∧ q'.park = q.park) ∧
      (w = mine → w ≠ 0 → (q'.m.getD k 0).testBit l = true ∧ q'.park = q.park) ∧
      (w ≠ 0 → w ≠ mine → samePod w mine = true → q'.park.testBit l = true ∧ q'.m0.testBit l = false ∧ (l, tile, va) ∈ q'.parkAddr) ∧
      (w ≠ 0 → w ≠ mine → samePod w mine = false → (q'.m.getD k 0).testBit l = false ∧ q'.park = q.park))

/-- 11 R288, R289: on a shader core TMMA and TCVT whose operands are aligned to 128 bytes and lie in the view of the pod's kernel join the tensor queue of the core, which
holds 16 instructions that have not started; TENSOR_START starts the oldest, and it alone changes. 11 R290, R291: TENSOR_COMPLETE of a TMMA that no other write raced writes the result that the tile store gives at its end to the D operand and changes no other byte of
tile store; the instruction leaves the queue. (The pod, if it is still there, waits on no fence.) 11 R294: TMMA on the guard core, with operands aligned to 128 bytes in guard SRAM, D outside the code region and no source word in error, writes its result to guard
SRAM; it takes 16 cycles and one more for every 256 multiply-accumulates. -/
def Obligations.TensorInstructions : Prop :=
  ((∀ (s u : State) (c k : Nat) (p : Pod) (i : Ins) (cvt : Bool),
    let op := if cvt then 0xA1 else 0xA0
    let r := PodRef.slot c k
    IssuesAt s r p op i u → (keysOf op i).contains (256 + 0x89) = false →
    (∀ x ∈ tensorRanges p cvt i 0, x.1 % 128 = 0 ∧ (x.2 ≠ 0 → x.1 + x.2 ≤ p.tsLen)) → ((u.core c).tq.filter (fun t => !t.started)).length < 16 →
    ∃ t e, exec (if cvt then .tcvt r i else .tmma r i) s = .next t ∧ (t.core c).tq = (u.core c).tq ++ [e] ∧ e.started = false ∧ e.cvt = cvt ∧ e.op = u.qm.nextId ∧ e.gens = p.gens ∧
      t.qm.nextId = u.qm.nextId + 1 ∧ (t.core c).ts = (u.core c).ts ∧ t.ms = u.ms) ∧
  (∀ (s : State) (c n : Nat), s.rootLock = true → (s.core c).tq.findIdx? (fun t => !t.started) = some n →
    exec (.tensorStart c) s = .next { s with cores := s.cores.modify c (fun co => { co with tq := co.tq.modify n (fun t => { t with started := true }) }) })) ∧
  (∀ (s : State) (c : Nat) (e : TensorOp) (rest : List TensorOp), (s.core c).tq = e :: rest → e.started = true → e.cvt = false → e.raced = [] →
    s.rootLock = true → (∀ q, s.opPod c e.slot e.uid = some q → q.fences = []) →
    ∃ t, exec (.tensorComplete c) s = .next t ∧ (t.core c).tq = rest.map (fun x => if x.uid = e.uid then { x with gens := s.gensOf c e } else x) ∧
      (t.core c).ts = (s.core c).ts.write e.d (tmmaResult (s.core c).ts e.a e.b e.c e.ext e.rmode e.ftz).1 ∧ t.ms = s.ms ∧ t.hs = s.hs) ∧
  (∀ (s u : State) (p : Pod) (i : Ins), IssuesAt s .guard p 0xA0 i u → (keysOf 0xA0 i).contains (256 + 0x89) = false →
    (∀ x ∈ tensorRanges p false i 0, x.1 % 128 = 0 ∧ x.1 + x.2 ≤ sramSize) →
    (∀ x ∈ (tensorRanges p false i 0).dropLast, ∀ w ∈ wordsOf x.1 x.2, u.gd.ue.contains w = false) →
    u.gRange true (tensorSizes false i.ext.toNat 0).1 [(0, p.sv i 0 i.d)] = none →
    (let m := shapeOf (bits i.ext.toNat 27 24)
     let v := tmmaResult u.gd.sram (p.sv i 0 i.a) (p.sv i 0 i.b) (p.sv i 0 i.c) i.ext.toNat (tmmaMode p i.ext.toNat) p.ftz
     exec (.tmma .guard i) s = .next ((((u.moved .guard p 0xA0 i).sramPut (p.sv i 0 i.d) v.1).raise .guard p (p.pc + 16)
       ((lanesOf p.m0).map (fun l => (l, v.2)))).ended .guard p 0xA0 i (16 + m.1 * m.2.1 * m.2.2 / 256))))

/-- 09 R257, R258: PIXLOCK gives each fragment the interlock when every earlier fragment of its pixel has released it, parks it behind an earlier fragment of its own pod, and
holds the pod for one of another pod; PIXUNLK releases the fragments that own it and counts the others. -/
def Obligations.PixelInterlock : Prop :=
  (∀ (s u : State) (c k : Nat) (p : Pod) (i : Ins), IssuesAt s (.slot c k) p 0xB0 i u →
    (let pods := ((u.moved (.slot c k) p 0xB0 i).core c).pods.filter (fun q => q.pixel && q.tile == p.tile)
     let px := fun l => (p.frag.getD l (0, 0)).1
     let ord := fun l => (p.frag.getD l (0, 0)).2
     let waits := (lanesOf p.m0).filter (fun l => !pixFree pods (px l) (ord l))
     let park := maskOf (waits.filter (fun l => !pixFree [p] (px l) (ord l)))
     let want := maskOf (waits.filter (fun l => pixFree [p] (px l) (ord l)))
     exec (.pixlock (.slot c k) i) s = .next ((((u.moved (.slot c k) p 0xB0 i).modPod (.slot c k) (fun q => { q with
       pixOwn := q.pixOwn ||| (p.m0 &&& (0xFFFFFFFF - maskOf waits)), pixPark := q.pixPark ||| park, pixWant := want
       park := q.park ||| park, m := q.m.set 0 (q.m0 &&& (0xFFFFFFFF - park)) })).bump (rk R.CORE_PARK_COUNT c)
         (waits.filter (fun l => !pixFree [p] (px l) (ord l))).length).orphan (.slot c k)
       |>.ended (.slot c k) p 0xB0 i 0))) ∧
  (∀ (s u : State) (c k : Nat) (p : Pod) (i : Ins), IssuesAt s (.slot c k) p 0xB1 i u →
    exec (.pixunlk (.slot c k) i) s = .next (((u.moved (.slot c k) p 0xB1 i).pixRelease (.slot c k) p (p.m0 &&& p.pixOwn)).bump
      (rk R.CORE_UNLK_NOT_OWNER_COUNT c) (popCount 32 (p.m0 &&& (0xFFFFFFFF - p.pixOwn))) |>.ended (.slot c k) p 0xB1 i 0))

/-- 09 R238, Table ISA-6: an instruction that its pod has fetched and that Table ISA-6 makes illegal is not performed: on a shader core its pod issues nothing more and the job of its
packet fails with ILLEGAL_INSTR and the table's DETAIL; on the guard core the run ends with guard fault 0x31. 09 R235; 08 Table COR-7: an instruction that executes and names a vector register at or above VREGS other than v255 raises REG_RANGE, trap 4, with the lowest such register,
at its own PC. -/
def Obligations.InstructionsRefused : Prop :=
  (∀ (s u v : State) (r : PodRef) (p : Pod) (ev : String) (op : Nat) (i : Ins) (body : State → Pod → Nat → Body) (d : Nat), op < 256 → opDefined op = true →
    s.pod? r = some p → s.podReady r p op i = true → s.fetch r p p.pc = (.word (insWord op i), u) →
    (insLen op i = 8 ∧ v = u ∨ insLen op i ≠ 8 ∧ u.fetch r p (p.pc + 8) = (.word i.ext.toNat, v)) → illegal (r == .guard) p.pixel op i = some d →
    issue ev op r i s body = .next (match r with
      | .guard => v.guardFault 0x31 none
      | .slot c _ => (v.modPod r (fun q => { q with dead := true })).podFault c p C.ILLEGAL_INSTR d (some p.pc))) ∧
  (∀ (s u : State) (c k : Nat) (p : Pod) (ev : String) (op : Nat) (i : Ins) (body : State → Pod → Nat → Body) (n : Nat),
    let r := PodRef.slot c k
    op < 256 → s.pod? r = some p → s.spelled r p op i = some u → u.pod? r = some p → p.freeFor r op i = true → predOk p i = true → u.lineRoom r op = true → (laneOp op = true → p.m0 ≠ 0) →
    n ∈ vregsOf op i → p.vregs ≤ n → n ≠ 255 → (∀ m ∈ vregsOf op i, p.vregs ≤ m → m ≠ 255 → n ≤ m) →
    ∃ t, issue ev op r i s body = .next t ∧
      PodAfter t r p { p with trap := some { cause := 4, detail := n, lanes := if laneOp op then p.m0 else 0, pc := p.pc, resume := p.pc } } op i ∧ PodOnly u t r)

/-- 09 R234: with PE = 1 an instruction whose predicate fails (PREG is 0 while PN is 0, or 1 while PN is 1) moves on, is counted as issued, and does nothing else: its counter
does not rise, no trap is raised, and only its predicate, where that is still pending, holds its pod. An instruction on lanes when no lane is enabled (R240) does no more, but that a compare
writes a mask of zeros (R246, R247) and LKWAIT clears md (R254). On a shader core no instruction
issues while a counter of its WAIT is not 0, whatever its predicate. -/
def Obligations.PredicateSkips : Prop :=
  ∀ (s : State) (r : PodRef) (p : Pod) (ev : String) (op : Nat) (i : Ins) (body : State → Pod → Nat → Body), op < 256 → s.pod? r = some p →
    let key := 512 + i.preg.toNat
    let off := i.pe = true ∧ p.preds.testBit i.preg.toNat = i.pn
    (∀ u, s.spelled r p op i = some u → u.pod? r = some p → off → (r ≠ .guard → key ∉ p.pend ∧ ∀ e ∈ p.tm.pend, e.1 = key → e.2 ≤ p.issueCycle r op i) →
      issue ev op r i s body = .next ((u.moved r p op i).ended r p op i 0) ∧
        PodAfter ((u.moved r p op i).ended r p op i 0) r p p op i ∧ PodOnly u ((u.moved r p op i).ended r p op i 0) r) ∧
    (∀ u, s.spelled r p op i = some u → u.pod? r = some p → p.freeFor r op i = true → ¬off → laneOp op = true → p.m0 = 0 → u.lineRoom r op = true →
      ∃ t, issue ev op r i s body = .next t ∧
        PodAfter t r p (if op ∈ [0x3E, 0x49, 0x57] then p.sput i.d 0 else if op = 0x82 then p.mput (i.d - 0x80) 0 else p) op i ∧ PodOnly u t r) ∧
    (∀ c k n, r = .slot c k → n < 6 → i.wait.getLsbD n = true → p.sb.getD n 0 ≠ 0 → ∀ t, issue ev op r i s body ≠ .next t)


/-! ### Clocks, temperature, domains and the AO regulator -/

/-- 16 R392, R394 to R398, Table PWR-4, 21 R492, R493, R497: performance points. The target is the slowest of what is requested, the ceiling of the tier and, while a WARN level holds, the throttle
point; a slower target takes the dividers at once and the voltage after them; a faster one raises the voltage and settles first. A write that fails is repeated once; a change that fails again
sets its event, and is not tried again until the target changes. Without PMBus a slower target needs no write, and a faster one fails. A root clock that is lost and found shows in ROOT_LOCK; a
pack that is silent for 10 ms, since reset or since its last frame, reports tier 3. -/
def Obligations.PerformancePoints : Prop :=
  (∀ req val, WritesTo (.ppRequest req val) req R.CLK_PP_REQ val (fun u _ => if 5 < val.toNat then u.viol else (u.setRegN R.CLK_PP_REQ val.toNat).ppEval none)) ∧
  (∀ (s : State) (cap : Option Nat),
    let tc := if s.field R.PWR_TIER 1 0 = 0 then 0 else if s.field R.PWR_TIER 1 0 = 1 then 2 else if s.field R.PWR_TIER 1 0 = 2 then 4 else 5
    let th := if ∃ n ∈ List.range 24, s.bit (R.THM_STAT + 4 * n) 1 = true then s.field R.CLK_THROTTLE_PP 2 0 else 0
    let t := max (s.field R.CLK_PP_REQ 2 0) (max tc th)
    let w := ((s.setField R.CLK_PP_STATUS 10 8 tc).setField R.CLK_PP_STATUS 14 12 th).setField R.CLK_PP_STATUS 6 4 t
    let v := match cap with | some k => if s.ppTarget < t then w.inc k else w | none => w
    let x := if t = s.ppTarget then v else v.modPwr (fun p => { p with failed := none })
    (t ≤ x.ppCur → s.ppEval cap = x.ppKick) ∧
    (x.ppCur < t → (x.ao.pwr.pmbus = 2 → x.ao.pwr.pp = none → s.ppEval cap = (x.setField R.CLK_PP_STATUS 2 0 t).ppEnd.ppKick) ∧
      (x.ao.pwr.pmbus ≠ 2 ∨ x.ao.pwr.pp ≠ none → s.ppEval cap = (x.setField R.CLK_PP_STATUS 2 0 t).ppKick))) ∧
  (∀ (s : State) (m : PpMove), s.ao.pwr.pp = some m →
    let v := s.modPwr (fun p => { p with volt := m.pp })
    (m.settling = false →
      (m.kind = .boot → exec .pmbusWriteComplete s = .next (v.modPwr (fun p => { p with pp := none, pmbus := 1 })).ppKick) ∧
      (m.kind = .lower → exec .pmbusWriteComplete s = .next v.ppEnd.ppKick) ∧
      (m.kind = .raise → s.ppTarget < s.ppCur →
        exec .pmbusWriteComplete s = .next (v.modPwr (fun p => { p with pp := some { m with settling := true } })).ppBusy) ∧
      (m.kind = .raise → s.ppCur ≤ s.ppTarget → exec .pmbusWriteComplete s = .next v.ppEnd.ppKick) ∧
      (m.again = false → exec (.pmbusFail false) s = .next (s.modPwr (fun p => { p with pp := some { m with again := true } }))) ∧
      (m.again = true →
        let f := (s.modPwr (fun p => { p with failed := some m.pp })).pwrEvt 9
        (m.kind = .boot → exec (.pmbusFail false) s = .next (f.modPwr (fun p => { p with pp := none, pmbus := 1 })).ppKick) ∧
        (m.kind ≠ .boot → exec (.pmbusFail false) s = .next f.ppEnd.ppKick)) ∧
      (m.kind = .boot → exec (.pmbusFail true) s = .next ((s.modPwr (fun p => { p with pp := none, pmbus := 2 })).pwrEvt 9).ppKick)) ∧
    (m.settling = true →
      let n := max m.pp s.ppTarget
      (n < s.ppCur → exec .vsettleExpiry s = .next (s.setField R.CLK_PP_STATUS 2 0 n).ppEnd.ppKick) ∧
      (s.ppCur ≤ n → exec .vsettleExpiry s = .next s.ppEnd.ppKick))) ∧
  (∀ (s : State),
    let due := s.ppTarget < s.ppCur ∧ s.ao.pwr.failed ≠ some s.ppTarget
    let low := s.ao.pwr.pmbus = 1 ∧ s.ao.pwr.volt ≠ s.ppCur ∧ s.ao.pwr.failed ≠ some s.ppCur
    s.ao.pwr.pp = none → s.ao.pwr.pmbus ≠ 0 → s.modeLp = false → s.aoSwitching = false →
      (due → s.ao.pwr.pmbus = 1 → s.ppKick = (s.modPwr (fun p => { p with pp := some { kind := .raise, pp := s.ppTarget } })).ppBusy) ∧
      (due → s.ao.pwr.pmbus = 2 → s.ppKick = ((s.modPwr (fun p => { p with failed := some s.ppTarget })).pwrEvt 9).ppEnd.ppBusy) ∧
      (¬due → low → s.ppKick = (s.modPwr (fun p => { p with pp := some { kind := .lower, pp := s.ppCur } })).ppBusy) ∧
      (¬due → ¬low → s.ppKick = s.ppBusy)) ∧
  (∀ (s : State),
    let lost := ((s.clrBits R.CLK_PP_STATUS 0x20000).inc R.CLK_ROOT_UNLOCK_COUNT).pwrEvt 8
    let gone := s.modPwr (fun p => { p with refLost := true })
    (s.rootLock = true → exec .rootUnlock s = .next lost) ∧
    (s.rootLock = false → s.ao.rst.held ≠ 2 → s.ao.pwr.refLost = false → exec .rootRelock s = .next (s.setBits R.CLK_PP_STATUS 0x20000)) ∧
    (s.ao.pwr.refLost = false → s.rootLock = false → exec .refclkLoss s = .next gone.settlePin) ∧
    (s.ao.pwr.refLost = false → s.rootLock = true → exec .refclkLoss s = .next gone.rootUnlock.settlePin) ∧
    (s.ao.pwr.refLost = true → exec .refclkReturn s = .next (s.modPwr (fun p => { p with refLost := false })).settlePin) ∧
    (s.aoRuns = true → s.ao.pwr.noTier = false →
      let t := if s.bit R.PSD_LINK_STATUS 0 then (s.clrBits R.PSD_LINK_STATUS 1).psdEvt 0x100 else s
      exec .tierSourceLost s = .next (((t.modPwr (fun p => { p with noTier := true })).setTier 3 true).pwrEvt 6)) ∧
    ∀ t lost,
      let w := s.setRegN R.PWR_TIER (t + b2n lost * 16)
      (t = s.field R.PWR_TIER 1 0 → s.setTier t lost = w.ppEval (some R.CLK_TIER_CAP_COUNT)) ∧
      (t ≠ s.field R.PWR_TIER 1 0 → s.setTier t lost = ((w.inc R.PWR_TIER_CHANGE_COUNT).pwrEvt 2).ppEval (some R.CLK_TIER_CAP_COUNT)))

/-- 16 R412 to R418: temperatures. A sample sets RAW and FILT, a quarter of the way to it after the first; 32 samples in a row on the far side of a threshold (3 degrees below it on the way down) make its level
change, with its bit of UP or DOWN and a count; a level of WARN throttles, one of CRIT shuts down every domain but GD as soon as no transition runs, and one of GDLIM turns GD off. -/
def Obligations.Temperatures : Prop :=
  (∀ (s : State) (raws : List (BitVec 16)), raws.length = 24 → (∀ n, n < 24 → ∀ k ∈ thmKinds n, s.levelDue n k = false) →
    exec (.thermalSample raws) s = .next (raws.zipIdx.foldl (fun t x => if t.sensorOn x.2 then t.sample x.2 x.1 else t) s)) ∧
  (∀ (s : State) (n : Nat) (raw : BitVec 16), storeWf regPlain s.regs = true →
    let f0 := asInt 16 (s.field (R.THM_TEMP + 4 * n) 15 0)
    let f := if s.ao.pwr.seen.contains n then f0 + (raw.toInt - f0) / 4 else raw.toInt
    (s.sample n raw).reg (R.THM_TEMP + 4 * n) = BitVec.ofNat 32 (raw.toNat * 2 ^ 16 + ofInt 16 f) ∧
    SameRegsBut s (s.sample n raw) [R.THM_TEMP + 4 * n] ∧
    ∀ k, k ∈ thmKinds n → storeWf (fun _ v => v == 0) s.ao.pwr.dwell = true →
      let far := if s.thmLevel n k then f ≤ [760, 840, 920, 1000].getD k 0 - 24 else [760, 840, 920, 1000].getD k 0 ≤ f
      (s.sample n raw).dwell n k = if far then s.dwell n k + 1 else 0) ∧
  (∀ (s : State) (n k : Nat), n < 24 → k ∈ thmKinds n → 32 ≤ s.dwell n k →
    let drop := fun (t : State) => t.modPwr (fun p => { p with dwell := p.dwell.filter (·.1 ≠ 4 * n + k) })
    let stat := R.THM_STAT + 4 * n
    let up := (drop ((((s.setField stat k k 1).setBits stat (2 ^ (8 + k))).setBits R.THM_SUMMARY (2 ^ (8 + k))).inc (R.THM_XCOUNT_WARN + 4 * k))).pwrEvt 3
    let down := drop ((((s.setField stat k k 0).setBits stat (2 ^ (16 + k))).setBits R.THM_SUMMARY (2 ^ (16 + k))).inc (R.THM_XCOUNT_WARN + 4 * k))
    (s.thmLevel n k = false →
      (k = 0 → exec (.thermalLevelUp n k) s = .next up) ∧
      (k = 1 → exec (.thermalLevelUp n k) s = .next (up.ppEval (some R.CLK_THERM_CAP_COUNT))) ∧
      (k = 2 → up.ao.pwr.crit ≠ .none → exec (.thermalLevelUp n k) s = .next up) ∧
      (k = 2 → up.ao.pwr.crit = .none → up.ao.pwr.move = none → exec (.thermalLevelUp n k) s = .next up.critBegin) ∧
      (k = 2 → up.ao.pwr.crit = .none → up.ao.pwr.move ≠ none → exec (.thermalLevelUp n k) s = .next (up.modPwr (fun p => { p with crit := .due }))) ∧
      (k = 3 → exec (.thermalLevelUp n k) s = .next (up.gdLimit.pwrEvt 5))) ∧
    (s.thmLevel n k = true →
      (k = 0 ∨ k = 3 → exec (.thermalLevelDown n k) s = .next down) ∧
      (k = 1 → exec (.thermalLevelDown n k) s = .next (down.ppEval (some R.CLK_THERM_CAP_COUNT))) ∧
      (k = 2 → exec (.thermalLevelDown n k) s = .next down.critRecover))) ∧
  (∀ (s : State), s.ao.pwr.crit = .running → s.abortsOver = true →
    let late := s.ao.pwr.linger
    let a := if late.contains D.L2N then s.goneL2n else s
    let b := ((List.range 4).filter (fun k => late.contains (D.MEM + k))).foldl (fun t k => (t.leaveMem k).holdersOff (D.MEM + k)) a
    let c := b.modPwr (fun p => { p with linger := [], crit := .none })
    let e := if late.contains D.HM then c.goneHm 0 else c
    let f := (e.domains.filter (fun d => e.dom d = 3)).foldl (fun t d => t.enterOff d) e
    exec .critShutdownDone s = .next ((f.inc R.PWR_CRIT_OFF_COUNT).pwrEvt 4).afterMove)

/-- 16 R400 to R407, Table PWR-7: a PWR_DCMD is answered by the first condition that holds: 1 a transition or shutdown runs, 2 AO, 3 a domain that the variant lacks, 4 its parent is not ON, 5 a child is ON, 6 the regulator is in low-power
mode, 7 too hot, 8 no such domain or target, or RET from OFF, which is counted as a violation; every refusal is counted. A domain in its target state is answered at once, and any other begins its transition, with BUSY until
it is over. When it is over the domain is in the state commanded, and what follows from that is done. 16 R408 to R411: the AO regulator. LP switches it to low-power mode where every domain is OFF or RET and is refused and counted elsewhere; LP_ARM does so later; LP 0 switches it back, as does a wake, after
which HM returns. Drawing too much in low-power mode, as a monitor that is still sending when it begins does, resets the AO island. -/
def Obligations.PowerDomains : Prop :=
  ((∀ (s : State) (req : Req) (domain : BitVec 5) (t : Nat) (c : Instr),
    (t = 0 ∧ c = .domainToOff req domain) ∨ (t = 1 ∧ c = .domainToRet req domain) ∨ (t = 2 ∧ c = .domainToOn req domain) →
    s.reaches req R.PWR_DCMD 0 (BitVec.ofNat 32 (t * 2 ^ 8 + domain.toNat)) = true →
    let u := s.arriving req
    let d := domain.toNat
    let k := rk R.PWR_DCMD_RESULT req.num
    let r :=
      if u.ao.pwr.move ≠ none ∨ u.ao.pwr.crit ≠ .none then 1
      else if d = 0 then 2
      else if d ≤ 20 ∧ u.present d = false then 3
      else if d ≤ 20 ∧ t = 2 ∧ u.dom (parent d) ≠ 2 then 4
      else if d ≤ 20 ∧ t < 2 ∧ ∃ e ∈ List.range 21, e ≠ 0 ∧ u.present e = true ∧ parent e = d ∧ u.dom e = 2 then 5
      else if t = 2 ∧ (u.modeLp = true ∨ u.aoSwitching = true) then 6
      else if t = 2 ∧ (u.thmAny 2 = true ∨ (d = D.GD ∧ u.thmLevel 15 3 = true)) then 7
      else if 20 < d ∨ (u.dom d = 0 ∧ t = 1) then 8
      else 0
    let own := match u.ao.pwr.move with | some m => b2n (m.req == some req.num) | none => 0
    (r ≠ 0 → r ≠ 8 → exec c s = .next ((u.setRegN k (d + r * 2 ^ 8 + own * 2 ^ 16)).inc R.PWR_REFUSE_COUNT)) ∧
    (r = 8 → exec c s = .next (((u.setRegN k (d + 8 * 2 ^ 8)).inc R.PWR_REFUSE_COUNT).viol)) ∧
    (r = 0 → u.dom d = t → exec c s = .next (u.setRegN k d)) ∧
    (r = 0 → u.dom d ≠ t → exec c s = .next ((u.setRegN k (d + 2 ^ 16)).startMove d t (some req.num)) ∧
      ((u.setRegN k (d + 2 ^ 16)).startMove d t (some req.num)).ao.pwr.move = some ⟨d, (u.setRegN k (d + 2 ^ 16)).dom d, t, some req.num⟩)) ∧
  (∀ (s : State) (linkUp : Bool) (m : DomMove), s.ao.pwr.move = some m → s.ao.pwr.linger = [] ∨ s.abortsOver = true →
    let a := if m.left = 2 ∧ m.dom = D.L2N then s.goneL2n else s
    let b := a.modPwr (fun p => { p with move := none, linger := [] })
    let c := if m.left = 2 ∧ m.dom = D.HM then b.goneHm m.target else b
    let e := if m.target = 0 then c.enterOff m.dom else if m.target = 2 then c.arrive m.dom m.left linkUp else c.setDom m.dom 1
    (m.req = none → exec (.domainTransitionDone linkUp) s = .next e.afterMove) ∧
    (∀ q, m.req = some q → exec (.domainTransitionDone linkUp) s =
      .next ((((e.clrBits (rk R.PWR_DCMD_RESULT q) 0x10000).inc R.PWR_TRANSITION_COUNT).pwrEvt 0).afterMove)))) ∧
  ((∀ (s : State) (req : Req) (lp arm : Bool) (c : Instr),
    (lp = true ∧ c = .aoregLp req arm) ∨ (lp = false ∧ c = .aoregNormal req arm) ∨ c = .aoregLpArm req lp arm →
    s.reaches req R.PWR_AOREG 0 (BitVec.ofNat 32 (b2n lp + 2 * b2n arm)) = true →
    let u := (s.arriving req).setField R.PWR_AOREG 1 1 (b2n arm)
    let turn := fun (v : Bool) =>
      let w := u.setField R.PWR_AOREG 0 0 (b2n v)
      w.setField R.PWR_AOREG 9 9 (b2n (v ≠ w.modeLp || w.aoSwitching))
    (u.bit R.PWR_AOREG 0 = lp → exec c s = .next u) ∧
    (lp = false → u.bit R.PWR_AOREG 0 = true → exec c s = .next (turn false)) ∧
    (lp = true → u.bit R.PWR_AOREG 0 = false → u.allLow = true → exec c s = .next (turn true)) ∧
    (lp = true → u.bit R.PWR_AOREG 0 = false → u.allLow = false → exec c s = .next (u.inc R.PWR_REFUSE_COUNT))) ∧
  (∀ (s : State), s.aoSwitching = true →
    let t := fun lp => (s.setField R.PWR_AOREG 8 8 lp).clrBits R.PWR_AOREG 0x200
    (s.bit R.PWR_AOREG 0 = true → exec .aoregSwitchDone s = .next (if s.ao.mon.busy then (t 1).brownOut else t 1)) ∧
    (s.bit R.PWR_AOREG 0 = false → (t 0).ao.pwr.wakeHm = true → exec .aoregSwitchDone s = .next (t 0).hmReturn.ppKick) ∧
    (s.bit R.PWR_AOREG 0 = false → (t 0).ao.pwr.wakeHm = false → exec .aoregSwitchDone s = .next (t 0).ppKick)) ∧
  (∀ (s : State), s.modeLp = true → s.aoSwitching = false → s.bit R.PWR_WAKE_EN 2 = true → s.field R.PWR_WAKE_TIMER 23 0 ≠ 0 →
    exec .wakeTimerExpiry s = .next (((s.aoSwitch false).modPwr (fun p => { p with wakeBy := some 2 })).hmReturn)) ∧
  (∀ (s : State), s.aoRuns = true → s.modeLp = true → exec .aoregBrownout s = .next ((s.aoPor s.ao.rst.perst).sendDown 0x13 0 0 0)))

/-! ### Resets, boot and measurement -/

/-- 17 R419 to R424, R427 to R429, Tables BOT-3, BOT-10, 21 R490: resets. A request begins a reset where none runs or a lower class runs, with its class and source in RST_CAUSE and the log, and is merged into any other;
the reset ends, and the boot of its class follows, once nothing holds it. PERST_N and the button hold one; an AO power-on clears the AO island too; a hot reset, a link that goes down and a function-level reset are warm and reset the configuration. -/
def Obligations.ResetSources : Prop :=
  (∀ (s : State) (cls src : Nat),
    let h := s.ao.rst.held
    (h = 0 ∨ cls < h →
      let t := if cls = 2 then s.coldBegin else s.warmBegin
      let u := (t.setRegN R.RST_CAUSE (cls + src * 2 ^ 8)).rstLog cls src 0
      s.resetReq cls src = { u with ao := { u.ao with rst := { u.ao.rst with held := cls } } }) ∧
    (h ≠ 0 → h ≤ cls → s.resetReq cls src = (s.setBits R.RST_CAUSE 0x10000).rstLog 0x13 src 0)) ∧
  (∀ (s : State), storeWf regPlain s.regs = true → ∀ d, 0 < d → d ≤ 20 → s.coldBegin.dom d = 0) ∧
  (∀ (s : State),
    let free := s.modRst (fun r => { r with held := 0 })
    (s.ao.rst.held = 0 ∨ s.ao.rst.perst = true ∨ s.ao.rst.button = true → s.resetEnd = s) ∧
    (s.ao.rst.held = 3 → s.ao.rst.perst = false → s.ao.rst.button = false → s.resetEnd = free.warmBoot) ∧
    (s.ao.rst.held = 2 → s.ao.rst.perst = false → s.ao.rst.button = false → s.resetEnd = free.coldBoot)) ∧
  (∀ (s : State) (bad : List Nat),
    (s.ao.pwr.aoOff = false → exec .aoSupplyLoss s =
      .next (let t := s.modPwr (fun p => { p with aoOff := true }); { t with gd := { t.gd with pin := false } })) ∧
    (s.ao.pwr.aoOff = true → ∀ perst, exec (.aoPowerOn perst bad) s = .next ((s.modPwr (fun p => { p with bad := bad })).aoPor perst)) ∧
    (s.ao.rst.perst = false → exec .perstAssert s =
      .next (((s.modRst (fun r => { r with perst := true })).resetReq 2 2).modPwr (fun p => { p with lpPerst := s.modeLp && s.bit R.PWR_WAKE_EN 0 }))) ∧
    (s.ao.rst.perst = true →
      let t := ((s.modRst (fun r => { r with perst := false })).modPwr (fun p => { p with bad := bad, lpPerst := false })).resetEnd
      (s.ao.pwr.lpPerst = false → exec (.perstRelease bad) s = .next t) ∧
      (s.ao.pwr.lpPerst = true → exec (.perstRelease bad) s = .next ((t.setRegN R.PWR_WAKE_CAUSE 1).pwrEvt 7)))) ∧
  (∀ (req : Req), WritesTo (.rstCtrlWarm req) req R.RST_CTRL 1 (fun u _ => (u.resetReq 3 4).resetEnd)) ∧
  (∀ (s : State) (req : Req) (bad : List Nat),
    let t := s.modPwr (fun p => { p with bad := bad })
    t.reaches req R.RST_CTRL 0 2 = true → exec (.rstCtrlCold req bad) s = .next ((t.arriving req).resetReq 2 4).resetEnd) ∧
  (∀ (s : State) (bad : List Nat),
    let hold := fun (ms : Nat) => (s.modRst (fun r => { r with hold := max r.hold (ms * 25000) })).setRegN R.RST_HOLD_MS (max ms (s.reg R.RST_HOLD_MS).toNat)
    (s.ao.rst.button = false → exec .resetNGlitch s = .next (s.inc R.RST_GLITCH_COUNT) ∧
      exec .resetNPress s = .next ((((s.modRst (fun r => { r with button := true, hold := 500000, escalated := false, stuckDone := false })).setRegN R.RST_HOLD_MS 20).setBits
        R.RST_STATUS 1).resetReq 3 3)) ∧
    (s.ao.rst.button = true →
      exec (.resetNRelease bad) s = .next ((((s.modRst (fun r => { r with button := false })).modPwr (fun p => { p with bad := bad })).clrBits R.RST_STATUS 1).resetEnd) ∧
      (s.ao.rst.escalated = false → exec .resetEscalate s = .next (((hold 6000).modRst (fun r => { r with escalated := true })).resetReq 2 3)) ∧
      (s.ao.rst.escalated = true → s.ao.rst.stuckDone = false →
        let t := (hold 60000).modRst (fun r => { r with stuckDone := true })
        exec .resetStuck s = .next (((t.setBits R.RST_STATUS 2).rstLog 0x10 0 (t.reg R.RST_HOLD_MS).toNat).inc R.RST_STUCK_COUNT)))) ∧
  (∀ (s : State), s.dlUp = true →
    (exec .functionLevelReset s = .next (((s.resetReq 3 5).cfgReset true).resetEnd)) ∧
    (exec .hotReset s = .next (((s.resetReq 3 6).cfgReset false).linkGone.resetEnd)) ∧
    (s.dom D.HM = 2 → exec .linkDown s = .next (((s.resetReq 3 7).cfgReset false).linkGone.resetEnd)) ∧
    s.linkGone.dlUp = false ∧ ∀ flr, (s.cfgReset flr).hs.d3hot = false ∧ (s.cfgReset flr).hs.cfg = { mps := if flr then s.hs.cfg.mps else 0 })

/-- 17 R425, R426, R430 to R440: resets of a part, and control cores. A partition is reset while it is disabled or quiesced, an engine while it works on nothing; a load needs a right image and a core that no enabled partition names.
An image from the flash is measured and runs even where its CRC is wrong, which shows; in a boot FEC0 starts after FEC1, which completes it. An exception inside a handler that has not returned, or whose handler cannot push, halts its core; a watchdog
restarts one that runs or has halted, and only the core itself kicks it. The pins of the flash are not released while an image is read. -/
def Obligations.PartResetsAndControlCores : Prop :=
  (∀ (req : Req) (val : W32), WritesTo (.partitionReset req val) req R.RST_PRESET val (fun u _ =>
    let p := val.toNat % 8
    if u.pState p = .active ∨ u.pState p = .quiescing then u.rstResult req p 1
    else
      let v := { u with free := u.free + 1 }
      let w := ((u.resetClusters p).flatMap (fun n => [4 * n, 4 * n + 1, 4 * n + 2, 4 * n + 3])).foldl (fun t c =>
        ((t.l1CleanBy c (fun _ => true)).modCore c (fun co => { vrf := co.vrf.lose 0 (2 ^ 18) u.free, ts := co.ts })).emptyTlb c) v
      (w.rstResult req p 0).rstLog 4 0 p)) ∧
  (∀ (req : Req) (target : BitVec 8) (load : Bool) (c : Instr), (load = false ∧ c = .engineReset req target) ∨ (load = true ∧ c = .fecLoad req target) →
    WritesTo c req R.RST_ERESET (BitVec.ofNat 32 (b2n load * 2 ^ 8 + target.toNat)) (fun u _ =>
    let e := target.toNat
    if e = 75 ∨ e = 76 then u.wrFecReset req (e - 75) load
    else if e < 33 ∨ 53 < e then (u.rstResult req e 5).viol
    else if u.engineIdle e = false then u.rstResult req e 1
    else if e < 38 then ((u.emptyTlb e).rstResult req e 0).rstLog 5 0 e
    else
      let v := u.emptyTlb e
      (({ v with rtus := v.rtus.modify (e - 38) (fun t => { t with cache := [] }) }).rstResult req e 0).rstLog 5 0 e)) ∧
  (∀ (s : State) (req : Req) (n : Nat), n ≤ 1 →
    let u := s.arriving req
    let k := fun r => u.setRegN (rk R.RST_RESULT req.num) (75 + n + r * 2 ^ 8)
    let a := (u.reg R.RST_FEC_LOAD_ADDR_LO).toNat / 4096 * 4096 + u.field R.RST_FEC_LOAD_ADDR_HI 15 0 * 2 ^ 32
    let len := u.field R.RST_FEC_LOAD_LEN 18 0
    let entry := u.field R.RST_FEC_LOAD_ENTRY 17 0
    let right := u.field R.RST_FEC_LOAD_ADDR_LO 11 0 = 0 ∧ len % 8 = 0 ∧ 8 ≤ len ∧ len ≤ 262144 ∧ entry % 8 = 0 ∧ entry < len
    let v := (k 0).modFec n (fun f => { f with dev := some (a, len, entry) })
    (s.reaches req R.RST_ERESET 0 (BitVec.ofNat 32 (0x100 + 75 + n)) = true →
      let c : Instr := .fecLoad req (BitVec.ofNat 8 (75 + n))
      (¬right → exec c s = .next (k 3)) ∧ (right → u.fecInUse n = true → exec c s = .next (k 2)) ∧
      (right → u.fecInUse n = false → u.rangeErr a len ≠ none → exec c s = .next (k 4)) ∧
      (right → u.fecInUse n = false → u.rangeErr a len = none →
        ((v.fecWhy n 5).on D.FEC = true → exec c s = .next ((v.fecWhy n 5).fecReload n 5)) ∧
        ((v.fecWhy n 5).on D.FEC = false → exec c s = .next ((v.fecWhy n 5).modFec n (fun f => { f with why := 5 }))))) ∧
    (s.reaches req R.RST_ERESET 0 (BitVec.ofNat 32 (75 + n)) = true →
      (u.fecInUse n = true → exec (.fecRestart n (some req)) s = .next (k 2)) ∧
      (u.fecInUse n = false → ((k 0).fecWhy n 4).on D.FEC = true → exec (.fecRestart n (some req)) s = .next (((k 0).fecWhy n 4).fecReload n 4)) ∧
      (u.fecInUse n = false → ((k 0).fecWhy n 4).on D.FEC = false → exec (.fecRestart n (some req)) s = .next (((k 0).fecWhy n 4).modFec n (fun f => { f with why := 4 })))) ∧
    (s.fecStage n = 4 → s.on D.FEC = true →
      let why := s.field (R.RST_FEC_STATUS + 4 * n) 11 8
      (s.fecWhy n why).on D.FEC = true → exec (.fecRestart n none) s = .next ((s.fecWhy n why).fecReload n why))) ∧
  (∀ (s : State) (n o len entry crc : Nat), s.rootLock = true → n ≤ 1 → s.flashEntry n = some (o, len, entry, crc) → s.fecStage n = 2 → (s.fec n).imaged = false → s.on D.FEC = true →
    s.ao.rst.held = 0 →
    let img := s.ao.rst.flash.read o len
    let f := s.fec n
    let t := if crcOf (crcPoly 0) img = crc then s else (s.setBits (R.RST_FEC_STATUS + 4 * n) 0x20).rstLog 0x12 n 0
    let u := t.fecImage n img f.boot
    let v := if f.boot = true ∧ n = 0 then u.modFec 0 (fun f => { f with entry := entry, imaged := true }) else u.fecStart n entry
    exec (.bootImageLoaded n) s = .next (if f.why = 0 then v else (v.inc (R.RST_FEC_RESTART_COUNT + 4 * n)).event 4 []).bootNext) ∧
  (∀ (s : State),
    let t := if s.fecStage 1 = 1 ∧ (s.fecStage 0 ≠ 2 ∨ (s.fec 0).imaged = true) then (s.flashBegin 1 0).2 else s
    let imaged := (t.fec 0).imaged = true ∧ t.fecStage 1 ≠ 1 ∧ t.fecStage 1 ≠ 2
    (imaged → s.bootNext = (t.fecStart 0 (t.fec 0).entry).inc R.RST_BOOT_DONE_COUNT) ∧ (¬imaged → s.bootNext = t)) ∧
  (∀ (s : State) (n pc status sp : Nat) (h : FecHandler), s.rootLock = true → n ≤ 1 → s.fecStage n = 3 →
    let t := s.modFec n (fun f => { f with sp := sp })
    let u := t.modFec n (fun f => { f with epc := pc, estatus := status, exc := true })
    ((t.fec n).exc = true → h.back = false → exec (.fecException n pc status sp h) s = .next (t.fecHalt n 2)) ∧
    ((t.fec n).exc = false ∨ h.back = true → h.push = none → exec (.fecException n pc status sp h) s = .next u) ∧
    ((t.fec n).exc = false ∨ h.back = true → ∀ k, h.push = some k →
      (0x100000 + k ≤ sp → sp - k < 0x110000 → (sp - k) % 8 = 0 → exec (.fecException n pc status sp h) s = .next u) ∧
      (sp < 0x100000 + k ∨ 0x110000 ≤ sp - k ∨ (sp - k) % 8 ≠ 0 → exec (.fecException n pc status sp h) s = .next (u.fecHalt n 1)))) ∧
  (∀ (s : State) (n : Nat), s.rootLock = true → n ≤ 1 → s.fecStage n = 3 → s.field (R.RST_FEC_WDT + 4 * n) 13 0 ≠ 0 → s.ao.rst.held = 0 →
    (s.fecWhy n 3).on D.FEC = true → exec (.fecWatchdogExpiry n) s = .next ((s.fecWhy n 3).fecReload n 3)) ∧
  (∀ (req : Req), WritesTo (.watchdogKick req) req R.RST_FEC_KICK 1 (fun u _ =>
    if req.num = 1 ∨ req.num = 2 then u.modFec (req.num - 1) (fun f => { f with wd := 0 }) else u)) ∧
  (∀ (s : State) (req : Req) (val : W32), s.reaches req R.RST_FLASH_CTRL 0 val = true →
    let u := s.arriving req
    let clear := u.setRegN R.RST_FLASH_CTRL 0
    (val.getLsbD 0 = true → u.fecStage 0 = 2 ∨ u.fecStage 1 = 2 → exec (.flashRelease req val) s = .next u.viol) ∧
    (val.getLsbD 0 = true → u.fecStage 0 ≠ 2 → u.fecStage 1 ≠ 2 → exec (.flashRelease req val) s = .next (u.setRegN R.RST_FLASH_CTRL 1)) ∧
    (val.getLsbD 0 = false → exec (.flashRelease req val) s = .next ((List.range 2).foldl (fun t n =>
      if (t.fec n).waitFlash = true ∧ t.fecStage n = 5 then
        let why := (t.fec n).why
        let x := t.flashBegin n why
        if x.1 = true ∨ why = 0 then x.2 else ((x.2.modFec n (fun f => { f with why := 0 })).inc (R.RST_FEC_RESTART_COUNT + 4 * n)).event 4 []
      else t) clear)))

/-- 17 R434, R435, 02 R29: requests of the DOE mailbox. One that comes before FEC0 can serve it is held; else it is answered at once: DOE Discovery, the version 1.2, the capabilities, the one set of algorithms, the digest of the
certificate chain and its parts, and a challenge and the measurements with a fresh nonce and a signature of the transcript that the version begins. -/
def Obligations.SpdmRequests : Prop :=
  ∀ (s : State) (m : List Byte) (ix : Nat), s.rootLock = true → s.dlUp = true → s.ao.rst.doe.held = none →
    let code := fieldAt m 1 1
    let held := fun typ m => s.modDoe (fun d => { d with held := some (typ, m) })
    let v := s.modDoe (fun d => { d with held := none })
    let say := fun (t : State) (typ : Nat) (r : List Byte) => t.modDoe (fun d => { d with out := d.out ++ [doeObject typ r] })
    let d := s.ao.rst.doe
    let chain := Config.certChain
    let asks := fun (c : Instr) => (c = .getVersion m ∧ code = 0x84) ∨ (c = .getCapabilities m ∧ code = 0xE1) ∨ (c = .negotiateAlgorithms m ∧ code = 0xE3) ∨
      (c = .getDigests m ∧ code = 0x81) ∨ (c = .getCertificate m ∧ code = 0x82) ∨ (c = .challenge m ∧ code = 0x83) ∨ (c = .getMeasurements m ∧ code = 0xE0)
    (s.fecStage 0 ≠ 3 → s.fecStage 0 ≠ 5 →
      exec (.doeDiscovery ix) s = .next (held 0 (leBytes 4 ix)) ∧ (4 ≤ m.length → ∀ c, asks c → exec c s = .next (held 1 m))) ∧
    (s.fecStage 0 = 3 ∨ s.fecStage 0 = 5 →
      (exec (.doeDiscovery ix) s = .next (say v 0 (doeTypes (fieldAt (leBytes 4 ix) 0 1)))) ∧
      (4 ≤ m.length → ∀ c, asks c →
        let r : List Byte := [0x10, 0x04, 0, 0, 0, 1, 0x00, 0x12]
        (code = 0x84 → exec c s = .next (say (v.modDoe (fun d => { d with vca := m ++ r, certs := [], meas := [] })) 1 r)) ∧
        (code ≠ 0x84 → fieldAt m 0 1 ≠ 0x12 → exec c s = .next (say v 1 [0x12, 0x7F, 0x41, 0])) ∧
        (fieldAt m 0 1 = 0x12 →
          (code = 0xE1 → ∀ x t, v.drawBytes 9 = (x, t) →
            let r : List Byte := [0x12, 0x61, 0, 0, 0] ++ x.take 1 ++ [0, 0] ++ leBytes 4 0x16 ++ x.drop 1
            exec c s = .next (say (t.modDoe (fun d => { d with vca := d.vca ++ m ++ r })) 1 r)) ∧
          (code = 0xE3 →
            let r : List Byte := [0x12, 0x63, 0, 0] ++ leBytes 2 36 ++ [1, 0] ++ leBytes 4 4 ++ leBytes 4 0x80 ++ leBytes 4 2 ++ List.replicate 16 0
            exec c s = .next (say (v.modDoe (fun d => { d with vca := d.vca ++ m ++ r })) 1 r)) ∧
          (code = 0x81 →
            let r : List Byte := [0x12, 0x01, 0, 1] ++ sha384 chain
            exec c s = .next (say (v.modDoe (fun d => { d with certs := d.certs ++ m ++ r })) 1 r)) ∧
          (code = 0x82 →
            let o := fieldAt m 4 2
            let part := (chain.drop o).take (fieldAt m 6 2)
            let r : List Byte := [0x12, 0x02, 0, 0] ++ leBytes 2 part.length ++ leBytes 2 (chain.length - o - part.length) ++ part
            (fieldAt m 2 1 = 0 → o < chain.length → exec c s = .next (say (v.modDoe (fun d => { d with certs := d.certs ++ m ++ r })) 1 r)) ∧
            (fieldAt m 2 1 ≠ 0 ∨ chain.length ≤ o → exec c s = .next (say v 1 [0x12, 0x7F, 1, 0]))) ∧
          (code = 0x83 → fieldAt m 2 1 = 0 → 36 ≤ m.length → ∀ x t, v.drawBytes 32 = (x, t) →
            let r : List Byte := [0x12, 0x03, 0, 1] ++ sha384 chain ++ x ++ (if fieldAt m 3 1 = 0 then [] else sha384 t.measAll) ++ [0, 0]
            exec c s = .next (say (t.modDoe (fun d => { d with certs := [] })) 1 (r ++ signed (d.vca ++ d.certs ++ m ++ r)))) ∧
          (code = 0x83 → fieldAt m 2 1 ≠ 0 ∨ m.length < 36 → exec c s = .next (say v 1 [0x12, 0x7F, 1, 0])) ∧
          (code = 0xE0 →
            let p := fieldAt m 3 1
            let sig := fieldAt m 2 1 % 2 = 1
            let wrong := (7 < p ∧ p ≠ 0xFF) ∨ (sig ∧ (m.length < 37 ∨ fieldAt m 36 1 ≠ 0))
            (wrong → exec c s = .next (say v 1 [0x12, 0x7F, 1, 0])) ∧
            (¬wrong → ∀ x t, v.drawBytes 32 = (x, t) →
              let rec' := if p = 0 then [] else if p = 0xFF then t.measAll else t.measBlock (p - 1)
              let r : List Byte := [0x12, 0x60] ++ leBytes 1 (if p = 0 then 7 else 0) ++ [0] ++ leBytes 1 (if p = 0 then 0 else if p = 0xFF then 7 else 1) ++
                leBytes 3 rec'.length ++ rec' ++ x ++ [0, 0]
              (sig → exec c s = .next (say (t.modDoe (fun d => { d with meas := [] })) 1 (r ++ signed (d.vca ++ d.meas ++ m ++ r)))) ∧
              (¬sig → exec c s = .next (say (t.modDoe (fun d => { d with meas := d.meas ++ m ++ r })) 1 r)))))))

/-! ### The pack sense die and the isolated link -/

/-- 18 R441 to R454: the protection of the pack. A cycle takes the codes of the cells and inputs and counts what they call for; four in a row change a level, and the fault pin and the frame follow; settling holds the undervoltage
levels and the tier, and its end takes the tier from the lowest cell; 25 cycles make the tier worse and 2,500 better by one. A check of the reference compares sixteen readings, fails at one off by more than 3 mV, and then answers what it
held. Without its supply the die stops; its power-on reset reads the cells from the straps. -/
def Obligations.PackProtection : Prop :=
  (∀ (s : State) (straps : BitVec 4), s.ao.die.powered = false →
    let n := if straps.toNat ≤ 2 then 4 else straps.toNat + 1
    exec (.psdPor straps) s = .next (s.modDie (fun _ => ({ strap := straps.toNat, cells := n } : PsdDie).setIx 0 n))) ∧
  (∀ (s : State) (cells ntc : List Nat), cells.length = 16 → ntc.length = 4 →
    let d := s.ao.die
    let code := cells.zipIdx.map (fun x => if x.2 < d.cells then x.1 % 65536 else 0)
    let temp := ntc.map (· % 65536)
    let e := { d with
      code := code
      ntc := temp
      lv := d.lv.zipIdx.map (fun (x : PsdLevel × Nat) => if x.2 < d.cells then d.seeCell x.1 (code.getD x.2 0) else {})
      nlv := d.nlv.zipIdx.map (fun (x : PsdLevel × Nat) => if d.ntcOn x.2 then d.seeNtc x.1 (temp.getD x.2 0) else {}) }
    d.powered = true → d.due = false → d.refRun = false → d.checkDue = false →
    exec (.conversionCycle cells ntc) s = .next (s.modDie (fun _ => ((e.balStop.dwell).tick false).compose))) ∧
  (∀ (d : PsdDie) (l : PsdLevel) (c : Nat),
    let ov := vCode (250 + d.ix 2)
    let uv := vCode (150 + d.ix 3)
    (d.seeCell l c).hi = l.hi ∧ (d.seeCell l c).lo = l.lo ∧
    (d.seeCell l c).hiN = (if (if l.hi then c + 655 ≤ ov else ov < c) then l.hiN + 1 else 0) ∧
    (d.settling = true → (d.seeCell l c).loN = l.loN) ∧
    (d.settling = false → (d.seeCell l c).loN = if (if l.lo then uv + 655 ≤ c else c < uv) then l.loN + 1 else 0)) ∧
  (∀ (s : State) (n : Nat), s.ao.die.powered = true →
    let d := s.ao.die
    let l := d.lv.getD n {}
    let t := d.nlv.getD n {}
    let cell := fun f => exec (.ovLevelChange n) s = .next (s.modDie f)
    (4 ≤ l.hiN → cell (fun d => ({ d with lv := d.lv.modify n (fun l => { l with hi := !l.hi, hiN := 0 }) }.settle).compose)) ∧
    (4 ≤ l.loN → exec (.uvLevelChange n) s =
      .next (s.modDie (fun d => ({ d with lv := d.lv.modify n (fun l => { l with lo := !l.lo, loN := 0 }) }.settle).compose))) ∧
    (4 ≤ t.hiN → exec (.ntcLevelChange n false) s =
      .next (s.modDie (fun d => ({ d with nlv := d.nlv.modify n (fun l => { l with hi := !l.hi, hiN := 0 }) }.settle).compose))) ∧
    (4 ≤ t.loN → exec (.ntcLevelChange n true) s =
      .next (s.modDie (fun d => ({ d with nlv := d.nlv.modify n (fun l => { l with lo := !l.lo, loN := 0 }) }.settle).compose))) ∧
    (d.settling = true → d.left = 0 →
      let v := d.vmin.1
      let tier := if d.refFail then 3 else if v < d.tierCode 1 then (if v < d.tierCode 2 then (if v < d.tierCode 3 then 3 else 2) else 1) else 0
      exec .settlingEnd s = .next (s.modDie (fun d => ({ d with settling := false, worse := [0, 0, 0], better := 0 }.toTier tier).compose))) ∧
    (∀ tier, d.settling = false → d.refFail = false →
      (tier ≤ 3 → d.tier < tier → 25 ≤ d.worse.getD (tier - 1) 0 → (∀ u, tier < u → u ≤ 3 → d.worse.getD (u - 1) 0 < 25) →
        exec .tierDecision s = .next (s.modDie (fun d => (d.toTier tier).compose))) ∧
      (0 < d.tier → (∀ u, d.tier < u → u ≤ 3 → d.worse.getD (u - 1) 0 < 25) → 2500 ≤ d.better →
        exec .tierDecision s = .next (s.modDie (fun d => (d.toTier (d.tier - 1)).compose)))) ∧
    (d.due = false → d.refRun = false → d.checkDue = true →
      exec .refchkStart s = .next (s.modDie (fun d => { d with refPend := false, refRun := true, bal := 0, active := false }))) ∧
    (∀ errs : List Int, d.refRun = true → errs.length = 16 →
      let e := { d with refRun := false, cycle := d.cycle + 1, left := if d.settling then d.left - 1 else d.left, chk := true }
      let after := fun (x : PsdDie) => (x.settle.held.foldl (fun (y : PsdDie) f => y.command f true) { x.settle with held := [] }).compose
      (∀ k, k < 16 → 3000 < (errs.getD k 0).natAbs → (∀ j, j < k → (errs.getD j 0).natAbs ≤ 3000) →
        exec (.refchkEnd errs) s = .next (s.modDie (fun _ => after (({ { e with refFail := true }.note 6 k with worse := [0, 0, 0], better := 0 }).toTier 3)))) ∧
      ((∀ j, j < 16 → (errs.getD j 0).natAbs ≤ 3000) →
        (d.refFail = true → exec (.refchkEnd errs) s = .next (s.modDie (fun _ => after { e with refFail := false, worse := [0, 0, 0], better := 0 }))) ∧
        (d.refFail = false → exec (.refchkEnd errs) s = .next (s.modDie (fun _ => after e))))) ∧
    (∀ cells : BitVec 16, exec (.pbalMinute cells) s =
      .next (s.modDie (fun d => ((List.range 16).filter (fun k => cells.getLsbD k && (d.ix 11).testBit k)).foldl (fun e k => e.setIx (16 + k) (e.ix (16 + k) - 1)) d))) ∧
    (exec .psdVpackLoss s = .next ((s.modPsd (fun p => { p with down := [] })).modDie (fun d =>
      { d with powered := false, pin := false, bal := 0, active := false, refRun := false, frame := none, acks := [], held := [] })))) ∧
  (∀ (d : PsdDie) (v : Nat), d.powered = true →
    (d.holds ≠ 0 → d.settle.pin = true) ∧
    (d.holds = 0 → (d.ix 4).testBit 8 = true → d.settle.pin = d.pin) ∧ (d.holds = 0 → (d.ix 4).testBit 8 = false → d.settle.pin = false) ∧
    (v ≤ 3 → d.write 1 v = (0, if v = d.ix 1 then d.setIx 1 v else { d.setIx 1 v with settling := true, left := [128, 13, 4, 1].getD v 1 })))

/-- 18 R454 to R458: what the die makes of a frame. One that is cut or whose CRC or type is wrong is counted; KEEPALIVE and BROWNOUT show that the AO side lives, and BROWNOUT is logged; a command that comes during a check of the reference waits for its end; any other is
applied when it carries the next counter value, answered without effect when it repeats the last, and refused with CNT_ERR otherwise. -/
def Obligations.LinkFramesAtTheDie : Prop :=
  (∀ (s : State) (c : Instr) (f err : List Byte) (rest : List (List Byte)), s.ao.psd.down = f :: rest → s.ao.die.powered = true →
    let k := (f.getD 1 0).toNat
    let i := (f.getD 3 0).toNat
    (c = .psdWrite err ∧ (k = 0x10 ∨ (k = 0x11 ∧ (i < 0x40 ∨ 0x42 < i)))) ∨ (c = .clearFault err ∧ k = 0x11 ∧ i = 0x40) ∨ (c = .refchkNow err ∧ k = 0x11 ∧ i = 0x41) ∨
      (c = .clearPor err ∧ k = 0x11 ∧ i = 0x42) ∨ (c = .keepalive err ∧ k = 0x12) ∨ (c = .brownout err ∧ k = 0x13) →
    let heard := if err = [] then f else List.zipWith (· ^^^ ·) f err
    exec c s = .next ((s.modPsd (fun p => { p with down := rest })).modDie (fun d => d.receive heard))) ∧
  (∀ (d : PsdDie) (f : List Byte),
    let k := (f.getD 1 0).toNat
    let whole := f.length = 8 ∧ f.getD 0 0 = 0x5A ∧ f.getD 7 0 = psdCrc (f.take 7)
    let e := { d with quiet := false }
    (¬whole ∨ k < 0x10 ∨ 0x13 < k → d.receive f = { d with rxerr := (d.rxerr + 1) % 256 }) ∧
    (whole → k = 0x12 → d.receive f = e) ∧ (whole → k = 0x13 → d.receive f = e.note 2 0) ∧
    (whole → k = 0x10 ∨ k = 0x11 → d.refRun = true → d.receive f = { e with held := d.held ++ [f] }) ∧
    (whole → k = 0x10 ∨ k = 0x11 → d.refRun = false → d.receive f = e.command f false)) ∧
  (∀ (d : PsdDie) (f : List Byte) (delayed : Bool),
    let wr := f.getD 1 0 == 0x10
    let cnt := (f.getD 2 0).toNat
    let i := (f.getD 3 0).toNat
    let ack := fun (d : PsdDie) (r : Nat) => { d with acks := d.acks ++ [psdSeal ([0xA5, 2, BitVec.ofNat 8 cnt, BitVec.ofNat 8 (r + b2n delayed * 128), BitVec.ofNat 8 i] ++
      leBytes 2 (if wr && i < 32 then d.ix i else 0))] }
    (cnt = d.next →
      let x := if wr then d.write i (fieldAt f 4 2) else d.act i delayed
      d.command f delayed = ack { x.2 with next := (x.2.next + 1) % 256 } x.1) ∧
    (cnt ≠ d.next → (cnt + 1) % 256 = d.next → d.command f delayed = ack d 1) ∧
    (cnt ≠ d.next → (cnt + 1) % 256 ≠ d.next → d.command f delayed = ack d 2)) ∧
  (∀ (d : PsdDie) (i v : Nat) (delayed : Bool),
    (i = 0 ∨ 32 ≤ i → d.write i v = (3, d)) ∧ (i ≠ 0 → i < 32 → d.allowed i v = false → d.write i v = (4, d)) ∧
    (i = 2 ∨ i = 3 ∨ (5 ≤ i ∧ i ≤ 14) ∨ (16 ≤ i ∧ i < 32) → d.allowed i v = true → d.write i v = (0, d.setIx i v)) ∧
    (d.allowed 4 v = true → d.write 4 v = (0, (d.setIx 4 v).settle)) ∧
    (d.conds = 0 → d.act 0x40 delayed = (0, d.release)) ∧ (d.conds ≠ 0 → d.act 0x40 delayed = (5, d)) ∧
    d.act 0x41 delayed = (0, { d with refPend := d.refPend || !delayed }) ∧ d.act 0x42 delayed = (0, { d with por := false })) ∧
  (∀ (s : State), s.ao.die.powered = true → s.ao.die.quiet = false → exec .hioSilent s = .next (s.modDie (fun d => { d with quiet := true }.note 3 0))) ∧
  (∀ (s : State), s.aoRuns = true → s.inLp = false → s.ao.psd.down = [] →
    (s.ao.die.powered = true → exec .downLaneIdle s = .next (s.modPsd (fun p => { p with down := [psdSeal [0x5A, 0x12, 0, 0, 0, 0, 0]] }))) ∧
    (s.ao.die.powered = false → exec .downLaneIdle s = .next s))

/-- 18 R455, R458 to R461, 16 R398: the AO side of the link. A command is queued while 16 are not, and sent once the link is in sync and no other waits; its ACK with OK or REPEAT ends it and mirrors the index, CNT_ERR sends it once more after the
next STATUS frame, and any other result ends it with its bit. An ACK that does not come has the command sent again up to three times, and then it fails. A whole STATUS frame is mirrored; a broken one is counted. -/
def Obligations.LinkCommands : Prop :=
  (∀ req val, WritesTo (.psdCmd req val) req R.PSD_CMD val (fun u _ =>
    if 16 ≤ u.ao.psd.queue.length then (u.setBits R.PSD_CMD_STATUS 0x800).viol
    else u.modPsd (fun p => { p with queue := p.queue ++ [(val.toNat % 2 ^ 8, val.toNat / 2 ^ 16)] }))) ∧
  (∀ (s : State) (i v : Nat) (rest : List (Nat × Nat)), s.aoRuns = true → s.inLp = false → s.bit R.PSD_LINK_STATUS 0 = true →
    s.ao.psd.queue = (i, v) :: rest → s.ao.psd.sent = none → s.ao.psd.resync = false →
    let f := psdSeal ([0x5A, if i < 32 then 0x10 else 0x11, BitVec.ofNat 8 s.ao.psd.cnt, BitVec.ofNat 8 i] ++ leBytes 2 v ++ [0])
    (s.ao.die.powered = true → exec .commandSend s = .next (s.modPsd (fun p => { p with down := p.down ++ [f], sent := some { cnt := p.cnt } }))) ∧
    (s.ao.die.powered = false → exec .commandSend s = .next (s.modPsd (fun p => { p with sent := some { cnt := p.cnt } })))) ∧
  (∀ (s : State) (err a : List Byte) (rest : List (List Byte)), s.ao.die.acks = a :: rest →
    let u := s.modDie (fun d => { d with acks := rest })
    let f := if err = [] then a else List.zipWith (· ^^^ ·) a err
    let whole := f.length = 8 ∧ f.getD 0 0 = 0xA5 ∧ f.getD 7 0 = psdCrc (f.take 7) ∧ f.getD 1 0 = 2
    let i := (f.getD 3 0).toNat
    (s.aoRuns = false → exec (.psdAck err) s = .next u) ∧
    (s.aoRuns = true → ¬whole → exec (.psdAck err) s = .next (u.inc R.PSD_RX_CRC_COUNT)) ∧
    (s.aoRuns = true → whole → s.ao.psd.sent = none → exec (.psdAck err) s = .next u) ∧
    (∀ x, s.aoRuns = true → whole → s.ao.psd.sent = some x →
      (x.wait = true ∨ x.cnt ≠ (f.getD 2 0).toNat → exec (.psdAck err) s = .next u) ∧
      (x.wait = false → x.cnt = (f.getD 2 0).toNat →
        let v := u.setField R.PSD_CMD_STATUS 23 16 i
        let w := if 128 ≤ i then (v.setBits R.PSD_CMD_STATUS 0x200).inc R.PSD_REFCHK_DELAY_COUNT else v
        let done := w.modPsd (fun p => { p with queue := p.queue.tail, sent := none, cnt := (p.cnt + 1) % 256 })
        let k := (f.getD 4 0).toNat
        (i % 128 ≤ 1 → exec (.psdAck err) s = .next (if k < 32 then done.setRegN (R.PSD_CFG + 4 * k) (fieldAt f 5 2) else done)) ∧
        (i % 128 = 2 → x.again = false → exec (.psdAck err) s = .next (w.modPsd (fun p => { p with resync := true, sent := some { x with wait := true } }))) ∧
        (i % 128 = 2 → x.again = true → exec (.psdAck err) s = .next w.psdFail) ∧
        (5 < i % 128 → exec (.psdAck err) s = .next w) ∧
        (3 ≤ i % 128 → i % 128 ≤ 5 → exec (.psdAck err) s = .next ((done.setBits R.PSD_CMD_STATUS 0x400).psdEvt 0x400))))) ∧
  (∀ (s : State) (x : PsdSent), s.ao.psd.sent = some x → x.wait = false → s.aoRuns = true →
    (x.tries < 3 → exec .psdAckTimeout s =
      .next ((s.psdSend.inc R.PSD_CMD_RETRY_COUNT).modPsd (fun p => { p with sent := some { x with tries := x.tries + 1 } }))) ∧
    (3 ≤ x.tries → exec .psdAckTimeout s =
      .next ((((s.modPsd (fun p => { p with queue := p.queue.tail, sent := none, resync := true })).setBits R.PSD_CMD_STATUS 0x100).inc R.PSD_CMD_FAIL_COUNT).psdEvt 0x200))) ∧
  (∀ (s : State) (err f : List Byte), s.ao.die.frame = some f → s.ao.die.due = false → s.aoRuns = true →
    let u := s.modDie (fun d => { d with frame := none })
    let g := if err = [] then f else List.zipWith (· ^^^ ·) f err
    let whole := g.length = 64 ∧ g.getD 0 0 = 0xA5 ∧ g.getD 63 0 = psdCrc (g.take 63) ∧ g.getD 1 0 = 1
    (whole → exec (.statusFrame err) s = .next (u.psdMirror g)) ∧ (¬whole → exec (.statusFrame err) s = .next (u.inc R.PSD_RX_CRC_COUNT))) ∧
  (∀ (s : State) (m : Nat), m ≠ 0 →
    let t := (s.setBits R.PSD_EVT m).event 3 []
    let fresh := m &&& ((s.reg R.PSD_EVT).toNat ^^^ 0x7FF)
    s.psdEvt 0 = s ∧ (fresh &&& (s.reg R.PSD_WAKE_MASK).toNat = 0 → s.psdEvt m = t) ∧ (fresh &&& (s.reg R.PSD_WAKE_MASK).toNat ≠ 0 → s.psdEvt m = t.lpWake 1))

/-! ### The monitor and the performance counters -/

/-- 20 R475 to R480, R485, 16 R410: characters and lines of the monitor. A character is echoed and joins the line; one that comes while a reply is sent, or with a framing error, is counted and not accepted; a carriage return ends the line, which is
answered with its error or waits to be served; a BREAK ends the line, the pending challenge and a changed rate. Any of them in low-power mode resets the AO island. -/
def Obligations.MonitorLines : Prop :=
  (∀ (s : State) (ch : Byte) (fr : Bool), s.aoRuns = false → exec (.uartChar ch fr) s = .next s ∧ exec .uartBreak s = .next s) ∧
  (∀ (s : State) (ch : Byte), s.aoRuns = true →
    (s.modeLp = true → ∀ fr, exec (.uartChar ch fr) s = .next s.brownOut ∧ exec .uartBreak s = .next s.brownOut) ∧
    (s.modeLp = false → s.monBusy = true → ∀ fr, exec (.uartChar ch fr) s = .next (s.inc R.DBG_MON_RX_ERR_COUNT)) ∧
    (s.modeLp = false → s.monBusy = false →
      (exec (.uartChar ch true) s = .next ((s.inc R.DBG_MON_RX_ERR_COUNT).modMon (fun m => { m with bad := true }))) ∧
      (ch = 10 → exec (.uartChar ch false) s = .next s) ∧
      (ch = 13 → s.monEcho = false → exec (.uartChar ch false) s = .next s.monLine) ∧
      (ch = 13 → s.monEcho = true → exec (.uartChar ch false) s = .next (s.modMon (fun m => { m with tx := m.tx ++ [13, 10] })).monLine) ∧
      (ch ≠ 10 → ch ≠ 13 →
        let t := if s.monEcho then s.modMon (fun m => { m with tx := m.tx ++ [ch] }) else s
        (s.ao.mon.line.length ≤ 255 → exec (.uartChar ch false) s = .next (t.modMon (fun m => { m with line := m.line ++ [ch] }))) ∧
        (255 < s.ao.mon.line.length → exec (.uartChar ch false) s = .next t))) ∧
    (s.modeLp = false →
      let t := ((s.inc R.DBG_MON_RX_ERR_COUNT).chalEnd).modMon (fun m => { m with line := [], bad := false, newBaud := none, revert := false })
      let u := (t.setField R.DBG_MON_STATUS 6 4 0).setBits R.DBG_MON_STATUS 0x100
      (s.monBusy = false → s.ao.mon.bad = true ∨ s.ao.mon.line ≠ [] → exec .uartBreak s = .next ((u.inc R.DBG_MON_CMD_COUNT).monErr E.FRAMING)) ∧
      (s.monBusy = true ∨ (s.ao.mon.bad = false ∧ s.ao.mon.line = []) → exec .uartBreak s = .next u)) ∧
    (s.ao.mon.revert = true → exec .baudRevert s = .next ((s.modMon (fun m => { m with revert := false })).setField R.DBG_MON_STATUS 6 4 0)) ∧
    (s.ao.mon.chal.isSome = true → exec .challengeExpiry s = .next ((s.modMon (fun m => { m with chal := none })).clrBits R.DBG_MON_STATUS 6)) ∧
    (s.ao.mon.busy = true → s.ao.mon.newBaud = none → exec .promptEnd s = .next (s.modMon (fun m => { m with busy := false }))) ∧
    (∀ ix, s.ao.mon.busy = true → s.ao.mon.newBaud = some ix →
      exec .promptEnd s = .next ((s.modMon (fun m => { m with busy := false, newBaud := none, revert := true })).setField R.DBG_MON_STATUS 6 4 ix))) ∧
  (∀ (s : State),
    let t := (s.modMon (fun m => { m with line := [], bad := false })).inc R.DBG_MON_CMD_COUNT
    let l := s.ao.mon.line
    (s.ao.mon.bad = true → s.monLine = t.monErr E.FRAMING) ∧ (s.ao.mon.bad = false → 255 < l.length → s.monLine = t.monErr E.LONG) ∧
    (s.ao.mon.bad = false → l.length ≤ 255 →
      (∀ e, parseLine l = .error e → s.monLine = t.monErr e) ∧
      (∀ c, parseLine l = .ok c → s.monLine = t.modMon (fun m => { m with cmd := some c, locked := s.bit R.DBG_MON_STATUS 0, revert := false })))) ∧
  (∀ (s : State) (lines : List (List Byte)) (e : Nat),
    let text := fun (st : List Byte) => (lines.map (· ++ [13, 10])).flatten ++ (st ++ [13, 10] ++ ascii "> ")
    let say := fun (t : State) (st : List Byte) => t.modMon (fun m => { m with tx := m.tx ++ text st, cmd := none, busy := true })
    s.monReply lines none = say s (ascii "OK") ∧
    s.monReply lines (some e) = say (s.inc R.DBG_MON_ERR_COUNT) (ascii "ER " ++ hexN 2 e ++ [32] ++ ascii (monErrName e)))

/-- 20 R481 to R487, Tables MON-3 to MON-5: each command of the monitor, which the line that waits asks for. ID, STAT, MEAS, LOG, PLOG and CNT reply what Ruwen holds. RD and WR reach the registers that the monitor may reach now, and MRD and
MWR the memory, unless the monitor was locked when the line ended, the argument is out of range, or the domain is off or in reset; none is served while the
monitor's own write is held. CHAL gives a nonce for a key that the fuses enable, UNLOCK with a right signature opens the monitor and marks slot 5, and LOCK closes it. -/
def Obligations.MonitorCommands : Prop :=
  (∀ (s : State), s.aoRuns = true → s.modeLp = false → s.holds Req.monitor.num = false →
    let asked := fun (c : MonCmd) => s.ao.mon.cmd = some c
    (asked .id → exec .monId s = .next (s.monReply [ascii "ZENOLO RUWEN 1.0 VARIANT " ++ decimal s.fuses.variant ++ ascii " SERIAL " ++
      spaced [hex32 (s.fuses.serial / 2 ^ 32), hex32 s.fuses.serial, ascii (if s.bit R.DBG_MON_STATUS 0 then "LOCKED" else "UNLOCKED")]] none)) ∧
    (asked .stat → exec .monStat s = .next (s.monReply [spaced ([R.RST_STATUS, R.RST_HOLD_MS, R.PWR_STATE_LO, R.PWR_STATE_HI, R.PWR_AOREG].map
      (fun o => hex32 (s.regRead .monitor o).toNat))] none)) ∧
    (∀ off n, asked (.rd off n) →
      let offs := (List.range n).map (fun k => off + 4 * k)
      (off % 4 ≠ 0 ∨ 0x4000000 < off + 4 * n → exec .monRd s = .next (s.monErr E.RANGE)) ∧
      (off % 4 = 0 → off + 4 * n ≤ 0x4000000 →
        (∀ e, offs.findSome? s.monBlocked = some e → exec .monRd s = .next (s.monErr e)) ∧
        (offs.findSome? s.monBlocked = none → exec .monRd s = .next ((s.monRead offs).2.monReply (s.monRead offs).1 none)))) ∧
    (∀ off val, asked (.wr off val) →
      (s.ao.mon.locked = true → exec .monWr s = .next (s.monErr E.LOCKED)) ∧
      (s.ao.mon.locked = false → off % 4 ≠ 0 ∨ 0x4000000 < off + 4 → exec .monWr s = .next (s.monErr E.RANGE)) ∧
      (s.ao.mon.locked = false → off % 4 = 0 → off + 4 ≤ 0x4000000 →
        (∀ e, s.monBlocked off = some e → exec .monWr s = .next (s.monErr e)) ∧
        (s.monBlocked off = none →
          let t := s.heldWrite .monitor off (BitVec.ofNat 32 val) true
          exec .monWr s = .next (if t.ao.mon.cmd = none then t else t.monReply [] none)))) ∧
    (∀ off,
      let c := match s.rowAt off with | some r => (s.copyOf .monitor r).getD 0 | none => 0
      (regDom off c = D.AO → s.monBlocked off = none) ∧ (regDom off c ≠ D.AO → s.ao.rst.held ≠ 0 → s.monBlocked off = some E.RESET) ∧
      (regDom off c ≠ D.AO → s.ao.rst.held = 0 → s.on (regDom off c) = false → s.monBlocked off = some E.OFF) ∧
      (regDom off c ≠ D.AO → s.ao.rst.held = 0 → s.on (regDom off c) = true → s.monBlocked off = none)) ∧
    (∀ a n, asked (.mrd a n) → (∀ e, s.monMemErr a n = some e → exec .monMrd s = .next (s.monErr e)) ∧
      (s.monMemErr a n = none →
        let x := s.monWords ((List.range n).map (fun k => a + 4 * k))
        exec .monMrd s = .next (x.2.monReply x.1 none))) ∧
    (∀ a v, asked (.mwr a v) → (∀ e, s.monMemErr a 1 = some e → exec .monMwr s = .next (s.monErr e)) ∧
      (s.monMemErr a 1 = none → exec .monMwr s = .next ((s.writeLoc a (leBytes 4 v) false).2.monReply [] none))) ∧
    (∀ a n,
      let out := a % 4 ≠ 0 ∨ s.fuses.memSize < a + 4 * n
      (s.ao.mon.locked = true → s.monMemErr a n = some E.LOCKED) ∧ (s.ao.mon.locked = false → out → s.monMemErr a n = some E.RANGE) ∧
      (s.ao.mon.locked = false → ¬out → s.rangeErr a (4 * n) ≠ none → s.monMemErr a n = some E.OFF) ∧
      (s.ao.mon.locked = false → ¬out → s.rangeErr a (4 * n) = none → s.ao.rst.held ≠ 0 → s.monMemErr a n = some E.RESET) ∧
      (s.ao.mon.locked = false → ¬out → s.rangeErr a (4 * n) = none → s.ao.rst.held = 0 → s.monMemErr a n = none)) ∧
    (∀ k, asked (.meas (some k)) → exec .monMeas s = .next (s.monReply [s.measLine k] none)) ∧
    (asked (.meas none) → exec .monMeas s = .next (s.monReply ([0, 1, 2, 3, 4, 5, 6].map s.measLine) none)) ∧
    (∀ n, asked (.log n) → exec .monLog s = .next (s.monReply ((((s.ao.rst.log.take 64).zipIdx.filter (fun x => match n with | some k => x.2 == k | none => x.2 < 16))).map
      (fun x => spaced [decN 2 x.2, hex32 x.1.time, hexN 2 x.1.kind, hexN 2 x.1.detail, hex32 (x.1.info / 2 ^ 32), hex32 x.1.info])) none)) ∧
    (asked .plog → exec .monPlog s = .next (s.monReply ((List.range 16).map (fun i => spaced [decN 2 i, hex32 (s.reg (rk R.PSD_LOG_DATA i)).toNat])) none)) ∧
    (asked .cnt → exec .monCnt s = .next (s.monReply (monCounters.map (fun c => spaced (ascii c.1 :: s.cntValues c))) none)) ∧
    (∀ k, asked (.chal k) →
      (s.ao.rst.held ≠ 0 → exec .monChal s = .next (s.monErr E.RESET)) ∧
      (s.ao.rst.held = 0 → s.fuses.unlockKeys.testBit k = false → exec .monChal s = .next (s.monErr E.NO_KEY)) ∧
      (s.ao.rst.held = 0 → s.fuses.unlockKeys.testBit k = true → ∀ n t, s.drawBytes 16 = (n, t) → exec .monChal s =
        .next (((t.modMon (fun m => { m with chal := some (n, k) })).setField R.DBG_MON_STATUS 2 1 (1 + 2 * k)).monReply [spaced (groups n)] none))) ∧
    (∀ sig, asked (.unlock sig) →
      (s.ao.rst.held ≠ 0 → exec .monUnlock s = .next (s.monErr E.RESET)) ∧
      (s.ao.rst.held = 0 → s.ao.mon.chal = none → exec .monUnlock s = .next (s.monErr E.NO_CHAL)) ∧
      (∀ nonce k, s.ao.rst.held = 0 → s.ao.mon.chal = some (nonce, k) →
        let t := (s.modMon (fun m => { m with chal := none })).clrBits R.DBG_MON_STATUS 6
        let msg := leBytes 8 s.fuses.serial ++ nonce ++ [BitVec.ofNat 8 k] ++ List.replicate 7 0
        (Config.unlockVerify k msg sig = true → exec .monUnlock s =
          .next ((((t.slotExtend 5 unlockConst).clrBits R.DBG_MON_STATUS 1).inc R.DBG_UNLOCK_COUNT).monReply [] none)) ∧
        (Config.unlockVerify k msg sig = false → exec .monUnlock s = .next ((t.inc R.DBG_UNLOCK_FAIL_COUNT).monErr E.BAD_SIG)))) ∧
    (asked .lock → exec .monLock s = .next ((s.setBits R.DBG_MON_STATUS 1).monReply [] none)) ∧
    (∀ ix, asked (.baud ix) → exec .monBaud s = .next ((s.monReply [decimal ([115207, 230415, 460829, 921659, 1000000, 2000000, 3007519].getD ix 0)] none).modMon
      (fun m => { m with newBaud := some ix }))) ∧
    (∀ on, asked (.echo on) → exec .monEcho s = .next ((s.setField R.DBG_MON_STATUS 8 8 (b2n on)).monReply [] none)))

/-- 20 R487 to R489, Tables MON-6, MON-7: a requester locks the monitor; RUN starts and stops the performance counters, and CLEAR sets each of them to 0; while RUN is 1 and HM is ON each counter counts, modulo 2^64, the units of the
event that it selects, of every partition or of the one that its filter names, and keeps the part of a unit that is left over; no other register changes. -/
def Obligations.PerformanceCounters : Prop :=
  (∀ (req : Req), WritesTo (.monHostLock req) req R.DBG_MON_CTRL 1 (fun u _ => u.setBits R.DBG_MON_STATUS 1)) ∧
  (∀ (req : Req) (run : Bool), WritesTo (.perfRun req run) req R.DBG_PCTRL (BitVec.ofNat 32 (b2n run)) (fun u _ => u.setField R.DBG_PCTRL 0 0 (b2n run))) ∧
  (∀ (req : Req) (run : Bool), WritesTo (.perfClear req run) req R.DBG_PCTRL (BitVec.ofNat 32 (2 + b2n run)) (fun u _ =>
    let t := [0, 1, 2, 3, 4, 5, 6, 7].foldl (fun v n => v.setPair (R.DBG_PC_LO + 8 * n) 0) (u.setField R.DBG_PCTRL 0 0 (b2n run))
    { t with ao := { t.ao with perfRem := List.replicate 8 0 } })) ∧
  (∀ (s : State) (ev part n : Nat),
    (s.bit R.DBG_PCTRL 0 = false ∨ s.on D.HM = false → s.perf ev part n = s) ∧
    (storeWf regPlain s.regs = true → s.ao.perfRem.length = 8 → s.bit R.DBG_PCTRL 0 = true → s.on D.HM = true →
      let u := s.perf ev part n
      SameRegsBut s u ((List.range 16).map (fun k => R.DBG_PC_LO + 4 * k)) ∧
      ∀ k, k < 8 →
        let w := s.reg (R.DBG_PSEL + 4 * k)
        let hears := w.toNat % 2 ^ 8 = ev ∧ (perfFiltered ev = false ∨ 8 ≤ w.toNat / 2 ^ 8 % 16 ∨ w.toNat / 2 ^ 8 % 16 = part)
        let t := s.ao.perfRem.getD k 0 + n
        (hears → u.pair (R.DBG_PC_LO + 8 * k) = (s.pair (R.DBG_PC_LO + 8 * k) + t / perfUnit ev) % 2 ^ 64 ∧ u.ao.perfRem.getD k 0 = t % perfUnit ev) ∧
        (¬hears → u.pair (R.DBG_PC_LO + 8 * k) = s.pair (R.DBG_PC_LO + 8 * k) ∧ u.ao.perfRem.getD k 0 = s.ao.perfRem.getD k 0))) ∧
  (∀ (s : State) (n : Nat), storeWf regPlain s.regs = true → n < 8 →
    (s.perfClear).reg (R.DBG_PC_LO + 8 * n) = 0 ∧ (s.perfClear).reg (R.DBG_PC_LO + 8 * n + 4) = 0 ∧ (s.perfClear).ao.perfRem = List.replicate 8 0)
end

