-- ==== Sys2Proof/Laws/Issue.lean ====
section
/-! SUPPORT. What issuing an instruction comes to: the one lemma that statements about instructions of pods rest on. -/

namespace Sys2Proof.Machine

/-- The opcode field of an instruction word is the opcode. -/
theorem insWord_opcode (op : Nat) (i : Ins) (h : op < 256) : bits (insWord op i) 49 42 = op := by
  have h1 := i.dst.isLt
  have h2 := i.src0.isLt
  have h3 := i.src1.isLt
  have h4 := i.src2.isLt
  have h5 := i.mod.isLt
  have h6 := i.preg.isLt
  have h7 : b2n i.pn ≤ 1 := by unfold b2n; split <;> omega
  have h8 : b2n i.pe ≤ 1 := by unfold b2n; split <;> omega
  simp only [bits, insWord, Ins.d, Ins.a, Ins.b, Ins.c, Ins.m, Nat.shiftRight_eq_div_pow]
  omega

/-- An instruction that issues and executes has the effect of its body, and its cycles are accounted. -/
theorem issue_of_issuesAt {s u : State} {r : PodRef} {p : Pod} {op : Nat} {i : Ins} (h : IssuesAt s r p op i u)
    (hop : op < 256) (ev : String) (body : State → Pod → Nat → Body) :
    issue ev op r i s body = (match body (u.moved r p op i) p p.m0 with
      | .done v lat => .next (if op = 0x06 then v else v.ended r p op i lat)
      | .full => .next (u.holdOnce r p R.CORE_MEMQ_FULL_COUNT)
      | .slots => .next (u.holdSlots r p)
      | .held => .next u
      | .wait => never ev) := by
  obtain ⟨hp, hs, _, hf, he, hroom⟩ := h
  have hgo : issueGo ev op r i u p (p.issueCycle r op i) body = (match body (u.moved r p op i) p p.m0 with
      | .done v lat => .next (if op = 0x06 then v else v.ended r p op i lat)
      | .full => .next (u.holdOnce r p R.CORE_MEMQ_FULL_COUNT)
      | .slots => .next (u.holdSlots r p)
      | .held => .next u
      | .wait => never ev) := by
    simp only [Pod.executes, Bool.and_eq_true, Bool.or_eq_true, Bool.not_eq_true', decide_eq_true_eq, Option.isNone_iff_eq_none] at he
    obtain ⟨⟨hg, hl⟩, hr⟩ := he
    have hlane : (laneOp op && decide (p.m0 = 0)) = false := by rcases hl with hl | hl <;> simp [hl]
    have hh : (r != .guard && ((p.keysNow op i).any p.pend.contains || p.fixedHazard op i (p.issueCycle r op i))) = false ∧
        (r != .guard && predOk p i && decide (i.inc.toNat < 6) && decide (63 ≤ p.sbAt i.inc.toNat (p.issueCycle r op i))) = false := by
      cases r with
      | guard => exact ⟨rfl, rfl⟩
      | slot c k =>
        simp only [Pod.freeFor, Bool.or_eq_true, Bool.and_eq_true, Bool.not_eq_true'] at hf
        obtain hf | ⟨h1, h2⟩ := hf
        · cases hf
        · exact ⟨by rw [h1, Bool.and_false], by simpa using h2⟩
    rw [hg] at hh
    simp only [issueGo, hg, hh.1, hh.2, hroom, hlane, hr, Bool.not_true, Bool.false_eq_true, if_false]
    rfl
  simp only [State.spelled] at hs
  split at hs
  · rename_i hc
    simp only [Bool.and_eq_true, Option.isNone_iff_eq_none] at hc
    obtain ⟨⟨hready, hdef⟩, hleg⟩ := hc
    simp only [issue, hp, hready, Bool.not_true, Bool.false_eq_true, if_false]
    split at hs
    · rename_i w u1 hfetch
      rw [hfetch]
      split at hs
      · cases hs
      · rename_i hw
        have hw : w = insWord op i := Classical.not_not.mp hw
        subst hw
        simp only [insWord_opcode op i hop, hdef, Bool.not_true, Bool.false_eq_true, if_false, ne_eq, not_true_eq_false, hleg]
        split at hs
        · rename_i hlen
          simp only [hlen, if_true]
          cases hs
          exact hgo
        · rename_i hlen
          simp only [hlen, if_false]
          split at hs
          · rename_i x v hx
            rw [hx]
            split at hs
            · rename_i hxe
              cases hs
              simp only [hxe, not_true_eq_false, if_false]
              exact hgo
            · cases hs
          · cases hs
    · cases hs
  · cases hs

end Sys2Proof.Machine
end

