-- ==== Sys2Proof/Laws/Store.lean ====
section
/-! SUPPORT. The laws of sorted stores and of byte memories: a read after a write, and that every operation keeps the canonical form. -/

namespace Sys2Proof.Machine

variable {α : Type}

/-- A write leaves every other key alone. -/
theorem storeGet_storePut_ne (d : Nat → α) (rm : Nat → α → Bool) {i j : Nat} (v : α) (l : List (Nat × α)) (h : j ≠ i) :
    storeGet d (storePut rm i v l) j = storeGet d l j := by
  induction l with
  | nil => simp only [storePut]; split <;> simp [storeGet, h]
  | cons e t ih =>
    obtain ⟨k, w⟩ := e
    simp only [storePut]
    split
    · split <;> simp [storeGet, h]
    · split
      · next hk => subst hk; split <;> simp [storeGet, h]
      · simp only [storeGet, ih]

/-- A canonical store lists no key at or below a bound that its first key exceeds. -/
theorem storeGet_above (d : Nat → α) (rm : Nat → α → Bool) :
    ∀ (l : List (Nat × α)) (i : Nat), storeWf rm l = true → (∀ e ∈ l.head?, i < e.1) → storeGet d l i = d i := by
  intro l
  induction l with
  | nil => intros; rfl
  | cons e t ih =>
    obtain ⟨k, w⟩ := e
    intro i hw hb
    have hk : i < k := hb (k, w) rfl
    simp only [storeGet, if_neg (Nat.ne_of_lt hk)]
    simp only [storeWf, Bool.and_eq_true] at hw
    refine ih i hw.2 ?_
    intro e' he'
    cases t with
    | nil => cases he'
    | cons a b =>
      obtain ⟨k', w'⟩ := a
      have h1 : k < k' := by simpa using hw.1.2
      simp at he'
      subst he'
      exact Nat.lt_trans hk h1

/-- A write to a canonical store is read back. -/
theorem storeGet_storePut (d : Nat → α) (rm : Nat → α → Bool) (i : Nat) (v : α) (hd : rm i v = true → d i = v) :
    ∀ l : List (Nat × α), storeWf rm l = true → storeGet d (storePut rm i v l) i = v := by
  intro l
  induction l with
  | nil =>
    intro _
    simp only [storePut]
    split
    · next h => exact hd h
    · simp [storeGet]
  | cons e t ih =>
    obtain ⟨k, w⟩ := e
    intro hw
    have hw' := hw
    simp only [storeWf, Bool.and_eq_true] at hw
    simp only [storePut]
    split
    · next hik =>
      split
      · next hr => exact (storeGet_above d rm _ i hw' (by simpa using hik)).trans (hd hr)
      · simp [storeGet]
    · split
      · next hik =>
        split
        · next hr =>
          refine (storeGet_above d rm t i hw.2 ?_).trans (hd hr)
          intro e' he'
          cases t with
          | nil => cases he'
          | cons a b =>
            obtain ⟨k', w'⟩ := a
            have h1 : k < k' := by simpa using hw.1.2
            simp at he'
            subst he'
            omega
        · simp [storeGet]
      · next h1 h2 =>
        simp only [storeGet, if_neg h2]
        exact ih hw.2

/-- The first key of a store after a write is not below both the key written and the old first key. -/
theorem head_storePut (rm : Nat → α → Bool) (i : Nat) (v : α) (b : Nat) :
    ∀ l : List (Nat × α), storeWf rm l = true → b < i → (∀ e ∈ l.head?, b < e.1) → ∀ e ∈ (storePut rm i v l).head?, b < e.1 := by
  intro l hl hi hb e he
  cases l with
  | nil =>
    simp only [storePut] at he
    split at he
    · cases he
    · simp at he; subst he; exact hi
  | cons a t =>
    obtain ⟨k, w⟩ := a
    have hk : b < k := hb (k, w) rfl
    simp only [storePut] at he
    split at he
    · split at he
      · simp at he; subst he; exact hk
      · simp at he; subst he; exact hi
    · split at he
      · split at he
        · cases t with
          | nil => cases he
          | cons c u =>
            obtain ⟨k', w'⟩ := c
            simp only [storeWf, Bool.and_eq_true] at hl
            have h1 : k < k' := by simpa using hl.1.2
            simp at he; subst he; exact Nat.lt_trans hk h1
        · simp at he; subst he; exact hi
      · simp at he; subst he; exact hk

/-- Prefix an entry below everything that a canonical store lists. -/
theorem storeWf_cons (rm : Nat → α → Bool) (k : Nat) (w : α) (t : List (Nat × α)) :
    storeWf rm ((k, w) :: t) = true ↔ rm k w = false ∧ (∀ e ∈ t.head?, k < e.1) ∧ storeWf rm t = true := by
  cases t with
  | nil => simp [storeWf]
  | cons a u =>
    obtain ⟨k', w'⟩ := a
    simp [storeWf, Bool.and_eq_true]
    constructor
    · rintro ⟨⟨h1, h2⟩, h3⟩; exact ⟨h1, h2, h3⟩
    · rintro ⟨h1, h2, h3⟩; exact ⟨⟨h1, h2⟩, h3⟩

/-- A write keeps the canonical form. -/
theorem storeWf_storePut (rm : Nat → α → Bool) (i : Nat) (v : α) :
    ∀ l : List (Nat × α), storeWf rm l = true → storeWf rm (storePut rm i v l) = true := by
  intro l
  induction l with
  | nil =>
    intro _
    simp only [storePut]
    split
    · rfl
    · next h => simp [storeWf, h]
  | cons e t ih =>
    obtain ⟨k, w⟩ := e
    intro hw
    have hc := (storeWf_cons rm k w t).mp hw
    simp only [storePut]
    split
    · next hik =>
      split
      · exact hw
      · next hr => exact (storeWf_cons rm i v _).mpr ⟨by simpa using hr, by simpa using hik, hw⟩
    · split
      · next hik =>
        split
        · exact hc.2.2
        · next hr => subst hik; exact (storeWf_cons rm i v t).mpr ⟨by simpa using hr, hc.2.1, hc.2.2⟩
      · next h1 h2 =>
        refine (storeWf_cons rm k w _).mpr ⟨hc.1, ?_, ih hc.2.2⟩
        exact head_storePut rm i v k t hc.2.2 (by omega) hc.2.1

/-- Dropping entries keeps the canonical form. -/
theorem storeWf_filter (rm : Nat → α → Bool) (p : Nat × α → Bool) :
    ∀ l : List (Nat × α), storeWf rm l = true → storeWf rm (l.filter p) = true ∧ ∀ b, (∀ e ∈ l.head?, b < e.1) → ∀ e ∈ (l.filter p).head?, b < e.1 := by
  intro l
  induction l with
  | nil => intro _; exact ⟨rfl, fun _ _ _ h => by cases h⟩
  | cons a t ih =>
    obtain ⟨k, w⟩ := a
    intro hw
    have hc := (storeWf_cons rm k w t).mp hw
    have hi := ih hc.2.2
    by_cases hp : p (k, w) = true
    · rw [List.filter_cons_of_pos hp]
      refine ⟨(storeWf_cons rm k w _).mpr ⟨hc.1, hi.2 k hc.2.1, hi.1⟩, ?_⟩
      intro b hb e he
      simp at he
      subst he
      exact hb _ rfl
    · rw [List.filter_cons_of_neg hp]
      refine ⟨hi.1, ?_⟩
      intro b hb e he
      have hk : b < k := hb (k, w) rfl
      exact Nat.lt_trans hk (hi.2 k hc.2.1 e he)

/-- What need not be listed matters only at the keys listed. -/
theorem storeWf_congr (rm rm' : Nat → α → Bool) :
    ∀ l : List (Nat × α), (∀ e ∈ l, rm' e.1 e.2 = rm e.1 e.2) → storeWf rm l = true → storeWf rm' l = true := by
  intro l
  induction l with
  | nil => intros; rfl
  | cons a t ih =>
    obtain ⟨k, w⟩ := a
    intro he hw
    have hc := (storeWf_cons rm k w t).mp hw
    refine (storeWf_cons rm' k w t).mpr ⟨?_, hc.2.1, ih (fun e h => he e (List.mem_cons_of_mem _ h)) hc.2.2⟩
    rw [he (k, w) (List.mem_cons_self ..)]
    exact hc.1

/-! ### Byte memories -/

@[simp] theorem Mem.put_lost (m : Mem) (a : Nat) (v : Byte) : (m.put a v).lost = m.lost := rfl

@[simp] theorem Mem.put_lossOf (m : Mem) (a b : Nat) (v : Byte) : (m.put a v).lossOf b = m.lossOf b := rfl

@[simp] theorem Mem.put_plain (m : Mem) (a : Nat) (v : Byte) : (m.put a v).plain = m.plain := rfl

@[simp] theorem Mem.put_unlisted (m : Mem) (a : Nat) (v : Byte) : (m.put a v).unlisted = m.unlisted := rfl

/-- A byte need not be listed only where an unlisted address reads it. -/
theorem Mem.unlisted_of_plain (m : Mem) (a : Nat) (v : Byte) (h : m.plain a v = true) : m.unlisted a = v := by
  simp only [Mem.plain, Bool.and_eq_true, beq_iff_eq, Option.isNone_iff_eq_none] at h
  simp [Mem.unlisted, h.2, h.1]

/-- A byte written is read back. -/
theorem Mem.get_put (m : Mem) (a : Nat) (v : Byte) (h : m.wf = true) : (m.put a v).get a = v :=
  storeGet_storePut m.unlisted m.plain a v (m.unlisted_of_plain a v) m.cells h

/-- A byte written leaves every other byte alone. -/
theorem Mem.get_put_ne (m : Mem) {a b : Nat} (v : Byte) (h : b ≠ a) : (m.put a v).get b = m.get b :=
  storeGet_storePut_ne m.unlisted m.plain v m.cells h

/-- Writing a byte keeps the canonical form. -/
theorem Mem.put_wf (m : Mem) (a : Nat) (v : Byte) (h : m.wf = true) : (m.put a v).wf = true :=
  storeWf_storePut m.plain a v m.cells h

/-- Writing bytes keeps the canonical form. -/
theorem Mem.write_wf (bs : List Byte) : ∀ (m : Mem) (a : Nat), m.wf = true → (m.write a bs).wf = true := by
  induction bs with
  | nil => intro m a h; exact h
  | cons b t ih => intro m a h; exact ih _ _ (m.put_wf a b h)

/-- Bytes outside those written keep their value. -/
theorem Mem.get_write_out (bs : List Byte) : ∀ (m : Mem) (a b : Nat), (b < a ∨ a + bs.length ≤ b) → (m.write a bs).get b = m.get b := by
  induction bs with
  | nil => intros; rfl
  | cons v t ih =>
    intro m a b h
    simp only [List.length_cons] at h
    rw [Mem.write, ih _ _ _ (by omega), Mem.get_put_ne _ _ (by omega)]

/-- Bytes written are read back. -/
theorem Mem.get_write_in (bs : List Byte) : ∀ (m : Mem) (a k : Nat) (hk : k < bs.length), m.wf = true → (m.write a bs).get (a + k) = bs[k] := by
  induction bs with
  | nil => intro _ _ _ hk; cases hk
  | cons v t ih =>
    intro m a k hk h
    cases k with
    | zero => rw [Mem.write, Mem.get_write_out _ _ _ _ (by omega)]; exact m.get_put a v h
    | succ n =>
      have := ih (m.put a v) (a + 1) n (by simpa using hk) (m.put_wf a v h)
      rw [show a + (n + 1) = a + 1 + n by omega]
      exact this

/-- The loss that an address outside a newly lost range was last subject to is the same. -/
theorem Mem.lossOf_lose_out (m : Mem) (lo len epoch a : Nat) (h : ¬(lo ≤ a ∧ a < lo + len)) : (m.lose lo len epoch).lossOf a = m.lossOf a := by
  simp only [Mem.lossOf, Mem.lose]
  rw [List.find?_cons_of_neg (by simpa using h)]
  induction m.lost with
  | nil => rfl
  | cons l t ih =>
    cases hl : (decide (lo ≤ l.lo) && decide (l.lo + l.len ≤ lo + len)) with
    | true =>
      rw [List.filter_cons_of_neg (by simp only [hl, Bool.not_true]; exact Bool.false_ne_true), ih, List.find?_cons_of_neg]
      simp only [Bool.and_eq_true, decide_eq_true_eq] at hl ⊢
      omega
    | false => rw [List.filter_cons_of_pos (by simp only [hl, Bool.not_false]), List.find?_cons, List.find?_cons, ih]

/-- Losing the contents of a range keeps the canonical form. -/
theorem Mem.lose_wf (m : Mem) (lo len epoch : Nat) (h : m.wf = true) : (m.lose lo len epoch).wf = true := by
  refine storeWf_congr m.plain _ _ ?_ (storeWf_filter m.plain _ m.cells h).1
  intro e he
  have hp := (List.mem_filter.mp he).2
  simp only [Mem.plain]
  rw [Mem.lossOf_lose_out m lo len epoch e.1 (by simp only [Bool.not_eq_true', Bool.and_eq_false_iff, decide_eq_false_iff_not] at hp; omega)]

/-- The pieces of a lost range outside a cleared one hold an address outside it just when the range did. -/
theorem Lost.any_cut (l : Lost) (lo len a : Nat) (h : ¬(lo ≤ a ∧ a < lo + len)) :
    (l.cut lo len).any (fun k => decide (k.lo ≤ a) && decide (a < k.lo + k.len)) = (decide (l.lo ≤ a) && decide (a < l.lo + l.len)) := by
  simp only [Lost.cut]
  split
  · simp
  · next hc =>
    simp only [Bool.or_eq_true, decide_eq_true_eq, not_or, Nat.not_le] at hc
    rw [Bool.eq_iff_iff]
    simp only [List.any_append, Bool.or_eq_true, Bool.and_eq_true, decide_eq_true_eq]
    constructor
    · rintro (h1 | h1)
      · split at h1
        · simp at h1; omega
        · cases h1
      · split at h1
        · simp at h1; omega
        · cases h1
    · intro h1
      by_cases ha : a < lo
      · left; rw [if_pos (by omega)]; simp; omega
      · right; rw [if_pos (by omega)]; simp; omega

/-- Whether the contents of an address outside a cleared range were ever lost stays the same. -/
theorem Mem.lossOf_clear_out (m : Mem) (lo len a : Nat) (h : ¬(lo ≤ a ∧ a < lo + len)) :
    ((m.clear lo len).lossOf a).isNone = (m.lossOf a).isNone := by
  have key : ∀ ls : List Lost, ((ls.flatMap (·.cut lo len)).find? (fun l => decide (l.lo ≤ a) && decide (a < l.lo + l.len))).isNone =
      (ls.find? (fun l => decide (l.lo ≤ a) && decide (a < l.lo + l.len))).isNone := by
    intro ls
    induction ls with
    | nil => rfl
    | cons l t ih =>
      have hl := l.any_cut lo len a h
      rw [List.flatMap_cons, List.find?_append]
      rw [List.find?_cons]
      cases ha : (decide (l.lo ≤ a) && decide (a < l.lo + l.len)) with
      | true =>
        rw [ha] at hl
        obtain ⟨k, hk, hp⟩ := List.any_eq_true.mp hl
        cases hf : (l.cut lo len).find? (fun l => decide (l.lo ≤ a) && decide (a < l.lo + l.len)) with
        | none => exact absurd hp (List.find?_eq_none.mp hf k hk)
        | some x => rfl
      | false =>
        have hn : (l.cut lo len).find? (fun l => decide (l.lo ≤ a) && decide (a < l.lo + l.len)) = none := by
          rw [List.find?_eq_none]
          intro k hk hp
          have := (List.any_eq_true (l := l.cut lo len) (p := fun k => decide (k.lo ≤ a) && decide (a < k.lo + k.len))).mpr ⟨k, hk, hp⟩
          rw [hl, ha] at this
          cases this
        rw [hn]
        exact ih
  exact key m.lost

/-- Clearing a range keeps the canonical form. -/
theorem Mem.clear_wf (m : Mem) (lo len : Nat) (h : m.wf = true) : (m.clear lo len).wf = true := by
  refine storeWf_congr m.plain _ _ ?_ (storeWf_filter m.plain _ m.cells h).1
  intro e he
  have hp := (List.mem_filter.mp he).2
  simp only [Mem.plain]
  rw [Mem.lossOf_clear_out m lo len e.1 (by simp only [Bool.not_eq_true', Bool.and_eq_false_iff, decide_eq_false_iff_not] at hp; omega)]

end Sys2Proof.Machine
end

