-- ==== Sys2Proof/Laws/State.lean ====
section
/-! SUPPORT. What the updates of State leave alone, field by field, and reading a register after a write. -/

namespace Sys2Proof.Machine

@[simp] theorem State.setReg_stage (s : State) (k : Nat) (v : BitVec 32) : (s.setReg k v).stage = s.stage := rfl
@[simp] theorem State.setReg_fuses (s : State) (k : Nat) (v : BitVec 32) : (s.setReg k v).fuses = s.fuses := rfl
@[simp] theorem State.setReg_hs (s : State) (k : Nat) (v : BitVec 32) : (s.setReg k v).hs = s.hs := rfl
@[simp] theorem State.setReg_ms (s : State) (k : Nat) (v : BitVec 32) : (s.setReg k v).ms = s.ms := rfl
@[simp] theorem State.setReg_mmu (s : State) (k : Nat) (v : BitVec 32) : (s.setReg k v).mmu = s.mmu := rfl
@[simp] theorem State.setReg_qm (s : State) (k : Nat) (v : BitVec 32) : (s.setReg k v).qm = s.qm := rfl
@[simp] theorem State.setReg_pt (s : State) (k : Nat) (v : BitVec 32) : (s.setReg k v).pt = s.pt := rfl
@[simp] theorem State.setReg_fab (s : State) (k : Nat) (v : BitVec 32) : (s.setReg k v).fab = s.fab := rfl
@[simp] theorem State.setReg_crc (s : State) (k : Nat) (v : BitVec 32) : (s.setReg k v).crc = s.crc := rfl
@[simp] theorem State.setReg_cores (s : State) (k : Nat) (v : BitVec 32) : (s.setReg k v).cores = s.cores := rfl
@[simp] theorem State.setReg_disps (s : State) (k : Nat) (v : BitVec 32) : (s.setReg k v).disps = s.disps := rfl
@[simp] theorem State.setReg_rtus (s : State) (k : Nat) (v : BitVec 32) : (s.setReg k v).rtus = s.rtus := rfl
@[simp] theorem State.setReg_pass (s : State) (k : Nat) (v : BitVec 32) : (s.setReg k v).pass = s.pass := rfl
@[simp] theorem State.setReg_copies (s : State) (k : Nat) (v : BitVec 32) : (s.setReg k v).copies = s.copies := rfl
@[simp] theorem State.setReg_gd (s : State) (k : Nat) (v : BitVec 32) : (s.setReg k v).gd = s.gd := rfl
@[simp] theorem State.setReg_ao (s : State) (k : Nat) (v : BitVec 32) : (s.setReg k v).ao = s.ao := rfl
@[simp] theorem State.setReg_free (s : State) (k : Nat) (v : BitVec 32) : (s.setReg k v).free = s.free := rfl
@[simp] theorem State.setReg_ticks (s : State) (k : Nat) (v : BitVec 32) : (s.setReg k v).ticks = s.ticks := rfl
@[simp] theorem State.setReg_pending (s : State) (k : Nat) (v : BitVec 32) : (s.setReg k v).pending = s.pending := rfl

@[simp] theorem State.setRegN_stage (s : State) (k v : Nat) : (s.setRegN k v).stage = s.stage := rfl
@[simp] theorem State.setRegN_fuses (s : State) (k v : Nat) : (s.setRegN k v).fuses = s.fuses := rfl
@[simp] theorem State.setRegN_hs (s : State) (k v : Nat) : (s.setRegN k v).hs = s.hs := rfl
@[simp] theorem State.setRegN_ms (s : State) (k v : Nat) : (s.setRegN k v).ms = s.ms := rfl
@[simp] theorem State.setRegN_mmu (s : State) (k v : Nat) : (s.setRegN k v).mmu = s.mmu := rfl
@[simp] theorem State.setRegN_qm (s : State) (k v : Nat) : (s.setRegN k v).qm = s.qm := rfl
@[simp] theorem State.setRegN_pt (s : State) (k v : Nat) : (s.setRegN k v).pt = s.pt := rfl
@[simp] theorem State.setRegN_fab (s : State) (k v : Nat) : (s.setRegN k v).fab = s.fab := rfl
@[simp] theorem State.setRegN_crc (s : State) (k v : Nat) : (s.setRegN k v).crc = s.crc := rfl
@[simp] theorem State.setRegN_cores (s : State) (k v : Nat) : (s.setRegN k v).cores = s.cores := rfl
@[simp] theorem State.setRegN_disps (s : State) (k v : Nat) : (s.setRegN k v).disps = s.disps := rfl
@[simp] theorem State.setRegN_rtus (s : State) (k v : Nat) : (s.setRegN k v).rtus = s.rtus := rfl
@[simp] theorem State.setRegN_pass (s : State) (k v : Nat) : (s.setRegN k v).pass = s.pass := rfl
@[simp] theorem State.setRegN_copies (s : State) (k v : Nat) : (s.setRegN k v).copies = s.copies := rfl
@[simp] theorem State.setRegN_gd (s : State) (k v : Nat) : (s.setRegN k v).gd = s.gd := rfl
@[simp] theorem State.setRegN_ao (s : State) (k v : Nat) : (s.setRegN k v).ao = s.ao := rfl
@[simp] theorem State.setRegN_free (s : State) (k v : Nat) : (s.setRegN k v).free = s.free := rfl
@[simp] theorem State.setRegN_ticks (s : State) (k v : Nat) : (s.setRegN k v).ticks = s.ticks := rfl
@[simp] theorem State.setRegN_pending (s : State) (k v : Nat) : (s.setRegN k v).pending = s.pending := rfl

@[simp] theorem State.modReg_stage (s : State) (k : Nat) (f : BitVec 32 → BitVec 32) : (s.modReg k f).stage = s.stage := rfl
@[simp] theorem State.modReg_fuses (s : State) (k : Nat) (f : BitVec 32 → BitVec 32) : (s.modReg k f).fuses = s.fuses := rfl
@[simp] theorem State.modReg_hs (s : State) (k : Nat) (f : BitVec 32 → BitVec 32) : (s.modReg k f).hs = s.hs := rfl
@[simp] theorem State.modReg_ms (s : State) (k : Nat) (f : BitVec 32 → BitVec 32) : (s.modReg k f).ms = s.ms := rfl
@[simp] theorem State.modReg_mmu (s : State) (k : Nat) (f : BitVec 32 → BitVec 32) : (s.modReg k f).mmu = s.mmu := rfl
@[simp] theorem State.modReg_qm (s : State) (k : Nat) (f : BitVec 32 → BitVec 32) : (s.modReg k f).qm = s.qm := rfl
@[simp] theorem State.modReg_pt (s : State) (k : Nat) (f : BitVec 32 → BitVec 32) : (s.modReg k f).pt = s.pt := rfl
@[simp] theorem State.modReg_fab (s : State) (k : Nat) (f : BitVec 32 → BitVec 32) : (s.modReg k f).fab = s.fab := rfl
@[simp] theorem State.modReg_crc (s : State) (k : Nat) (f : BitVec 32 → BitVec 32) : (s.modReg k f).crc = s.crc := rfl
@[simp] theorem State.modReg_cores (s : State) (k : Nat) (f : BitVec 32 → BitVec 32) : (s.modReg k f).cores = s.cores := rfl
@[simp] theorem State.modReg_disps (s : State) (k : Nat) (f : BitVec 32 → BitVec 32) : (s.modReg k f).disps = s.disps := rfl
@[simp] theorem State.modReg_rtus (s : State) (k : Nat) (f : BitVec 32 → BitVec 32) : (s.modReg k f).rtus = s.rtus := rfl
@[simp] theorem State.modReg_pass (s : State) (k : Nat) (f : BitVec 32 → BitVec 32) : (s.modReg k f).pass = s.pass := rfl
@[simp] theorem State.modReg_copies (s : State) (k : Nat) (f : BitVec 32 → BitVec 32) : (s.modReg k f).copies = s.copies := rfl
@[simp] theorem State.modReg_gd (s : State) (k : Nat) (f : BitVec 32 → BitVec 32) : (s.modReg k f).gd = s.gd := rfl
@[simp] theorem State.modReg_ao (s : State) (k : Nat) (f : BitVec 32 → BitVec 32) : (s.modReg k f).ao = s.ao := rfl
@[simp] theorem State.modReg_free (s : State) (k : Nat) (f : BitVec 32 → BitVec 32) : (s.modReg k f).free = s.free := rfl
@[simp] theorem State.modReg_ticks (s : State) (k : Nat) (f : BitVec 32 → BitVec 32) : (s.modReg k f).ticks = s.ticks := rfl
@[simp] theorem State.modReg_pending (s : State) (k : Nat) (f : BitVec 32 → BitVec 32) : (s.modReg k f).pending = s.pending := rfl

@[simp] theorem State.bump_stage (s : State) (k n : Nat) : (s.bump k n).stage = s.stage := rfl
@[simp] theorem State.bump_fuses (s : State) (k n : Nat) : (s.bump k n).fuses = s.fuses := rfl
@[simp] theorem State.bump_hs (s : State) (k n : Nat) : (s.bump k n).hs = s.hs := rfl
@[simp] theorem State.bump_ms (s : State) (k n : Nat) : (s.bump k n).ms = s.ms := rfl
@[simp] theorem State.bump_mmu (s : State) (k n : Nat) : (s.bump k n).mmu = s.mmu := rfl
@[simp] theorem State.bump_qm (s : State) (k n : Nat) : (s.bump k n).qm = s.qm := rfl
@[simp] theorem State.bump_pt (s : State) (k n : Nat) : (s.bump k n).pt = s.pt := rfl
@[simp] theorem State.bump_fab (s : State) (k n : Nat) : (s.bump k n).fab = s.fab := rfl
@[simp] theorem State.bump_crc (s : State) (k n : Nat) : (s.bump k n).crc = s.crc := rfl
@[simp] theorem State.bump_cores (s : State) (k n : Nat) : (s.bump k n).cores = s.cores := rfl
@[simp] theorem State.bump_disps (s : State) (k n : Nat) : (s.bump k n).disps = s.disps := rfl
@[simp] theorem State.bump_rtus (s : State) (k n : Nat) : (s.bump k n).rtus = s.rtus := rfl
@[simp] theorem State.bump_pass (s : State) (k n : Nat) : (s.bump k n).pass = s.pass := rfl
@[simp] theorem State.bump_copies (s : State) (k n : Nat) : (s.bump k n).copies = s.copies := rfl
@[simp] theorem State.bump_gd (s : State) (k n : Nat) : (s.bump k n).gd = s.gd := rfl
@[simp] theorem State.bump_ao (s : State) (k n : Nat) : (s.bump k n).ao = s.ao := rfl
@[simp] theorem State.bump_free (s : State) (k n : Nat) : (s.bump k n).free = s.free := rfl
@[simp] theorem State.bump_ticks (s : State) (k n : Nat) : (s.bump k n).ticks = s.ticks := rfl
@[simp] theorem State.bump_pending (s : State) (k n : Nat) : (s.bump k n).pending = s.pending := rfl

@[simp] theorem State.inc_stage (s : State) (k : Nat) : (s.inc k).stage = s.stage := rfl
@[simp] theorem State.inc_fuses (s : State) (k : Nat) : (s.inc k).fuses = s.fuses := rfl
@[simp] theorem State.inc_hs (s : State) (k : Nat) : (s.inc k).hs = s.hs := rfl
@[simp] theorem State.inc_ms (s : State) (k : Nat) : (s.inc k).ms = s.ms := rfl
@[simp] theorem State.inc_mmu (s : State) (k : Nat) : (s.inc k).mmu = s.mmu := rfl
@[simp] theorem State.inc_qm (s : State) (k : Nat) : (s.inc k).qm = s.qm := rfl
@[simp] theorem State.inc_pt (s : State) (k : Nat) : (s.inc k).pt = s.pt := rfl
@[simp] theorem State.inc_fab (s : State) (k : Nat) : (s.inc k).fab = s.fab := rfl
@[simp] theorem State.inc_crc (s : State) (k : Nat) : (s.inc k).crc = s.crc := rfl
@[simp] theorem State.inc_cores (s : State) (k : Nat) : (s.inc k).cores = s.cores := rfl
@[simp] theorem State.inc_disps (s : State) (k : Nat) : (s.inc k).disps = s.disps := rfl
@[simp] theorem State.inc_rtus (s : State) (k : Nat) : (s.inc k).rtus = s.rtus := rfl
@[simp] theorem State.inc_pass (s : State) (k : Nat) : (s.inc k).pass = s.pass := rfl
@[simp] theorem State.inc_copies (s : State) (k : Nat) : (s.inc k).copies = s.copies := rfl
@[simp] theorem State.inc_gd (s : State) (k : Nat) : (s.inc k).gd = s.gd := rfl
@[simp] theorem State.inc_ao (s : State) (k : Nat) : (s.inc k).ao = s.ao := rfl
@[simp] theorem State.inc_free (s : State) (k : Nat) : (s.inc k).free = s.free := rfl
@[simp] theorem State.inc_ticks (s : State) (k : Nat) : (s.inc k).ticks = s.ticks := rfl
@[simp] theorem State.inc_pending (s : State) (k : Nat) : (s.inc k).pending = s.pending := rfl

@[simp] theorem State.setBits_stage (s : State) (k m : Nat) : (s.setBits k m).stage = s.stage := rfl
@[simp] theorem State.setBits_fuses (s : State) (k m : Nat) : (s.setBits k m).fuses = s.fuses := rfl
@[simp] theorem State.setBits_hs (s : State) (k m : Nat) : (s.setBits k m).hs = s.hs := rfl
@[simp] theorem State.setBits_ms (s : State) (k m : Nat) : (s.setBits k m).ms = s.ms := rfl
@[simp] theorem State.setBits_mmu (s : State) (k m : Nat) : (s.setBits k m).mmu = s.mmu := rfl
@[simp] theorem State.setBits_qm (s : State) (k m : Nat) : (s.setBits k m).qm = s.qm := rfl
@[simp] theorem State.setBits_pt (s : State) (k m : Nat) : (s.setBits k m).pt = s.pt := rfl
@[simp] theorem State.setBits_fab (s : State) (k m : Nat) : (s.setBits k m).fab = s.fab := rfl
@[simp] theorem State.setBits_crc (s : State) (k m : Nat) : (s.setBits k m).crc = s.crc := rfl
@[simp] theorem State.setBits_cores (s : State) (k m : Nat) : (s.setBits k m).cores = s.cores := rfl
@[simp] theorem State.setBits_disps (s : State) (k m : Nat) : (s.setBits k m).disps = s.disps := rfl
@[simp] theorem State.setBits_rtus (s : State) (k m : Nat) : (s.setBits k m).rtus = s.rtus := rfl
@[simp] theorem State.setBits_pass (s : State) (k m : Nat) : (s.setBits k m).pass = s.pass := rfl
@[simp] theorem State.setBits_copies (s : State) (k m : Nat) : (s.setBits k m).copies = s.copies := rfl
@[simp] theorem State.setBits_gd (s : State) (k m : Nat) : (s.setBits k m).gd = s.gd := rfl
@[simp] theorem State.setBits_ao (s : State) (k m : Nat) : (s.setBits k m).ao = s.ao := rfl
@[simp] theorem State.setBits_free (s : State) (k m : Nat) : (s.setBits k m).free = s.free := rfl
@[simp] theorem State.setBits_ticks (s : State) (k m : Nat) : (s.setBits k m).ticks = s.ticks := rfl
@[simp] theorem State.setBits_pending (s : State) (k m : Nat) : (s.setBits k m).pending = s.pending := rfl

@[simp] theorem State.clrBits_stage (s : State) (k m : Nat) : (s.clrBits k m).stage = s.stage := rfl
@[simp] theorem State.clrBits_fuses (s : State) (k m : Nat) : (s.clrBits k m).fuses = s.fuses := rfl
@[simp] theorem State.clrBits_hs (s : State) (k m : Nat) : (s.clrBits k m).hs = s.hs := rfl
@[simp] theorem State.clrBits_ms (s : State) (k m : Nat) : (s.clrBits k m).ms = s.ms := rfl
@[simp] theorem State.clrBits_mmu (s : State) (k m : Nat) : (s.clrBits k m).mmu = s.mmu := rfl
@[simp] theorem State.clrBits_qm (s : State) (k m : Nat) : (s.clrBits k m).qm = s.qm := rfl
@[simp] theorem State.clrBits_pt (s : State) (k m : Nat) : (s.clrBits k m).pt = s.pt := rfl
@[simp] theorem State.clrBits_fab (s : State) (k m : Nat) : (s.clrBits k m).fab = s.fab := rfl
@[simp] theorem State.clrBits_crc (s : State) (k m : Nat) : (s.clrBits k m).crc = s.crc := rfl
@[simp] theorem State.clrBits_cores (s : State) (k m : Nat) : (s.clrBits k m).cores = s.cores := rfl
@[simp] theorem State.clrBits_disps (s : State) (k m : Nat) : (s.clrBits k m).disps = s.disps := rfl
@[simp] theorem State.clrBits_rtus (s : State) (k m : Nat) : (s.clrBits k m).rtus = s.rtus := rfl
@[simp] theorem State.clrBits_pass (s : State) (k m : Nat) : (s.clrBits k m).pass = s.pass := rfl
@[simp] theorem State.clrBits_copies (s : State) (k m : Nat) : (s.clrBits k m).copies = s.copies := rfl
@[simp] theorem State.clrBits_gd (s : State) (k m : Nat) : (s.clrBits k m).gd = s.gd := rfl
@[simp] theorem State.clrBits_ao (s : State) (k m : Nat) : (s.clrBits k m).ao = s.ao := rfl
@[simp] theorem State.clrBits_free (s : State) (k m : Nat) : (s.clrBits k m).free = s.free := rfl
@[simp] theorem State.clrBits_ticks (s : State) (k m : Nat) : (s.clrBits k m).ticks = s.ticks := rfl
@[simp] theorem State.clrBits_pending (s : State) (k m : Nat) : (s.clrBits k m).pending = s.pending := rfl

@[simp] theorem State.setField_stage (s : State) (k hi lo v : Nat) : (s.setField k hi lo v).stage = s.stage := rfl
@[simp] theorem State.setField_fuses (s : State) (k hi lo v : Nat) : (s.setField k hi lo v).fuses = s.fuses := rfl
@[simp] theorem State.setField_hs (s : State) (k hi lo v : Nat) : (s.setField k hi lo v).hs = s.hs := rfl
@[simp] theorem State.setField_ms (s : State) (k hi lo v : Nat) : (s.setField k hi lo v).ms = s.ms := rfl
@[simp] theorem State.setField_mmu (s : State) (k hi lo v : Nat) : (s.setField k hi lo v).mmu = s.mmu := rfl
@[simp] theorem State.setField_qm (s : State) (k hi lo v : Nat) : (s.setField k hi lo v).qm = s.qm := rfl
@[simp] theorem State.setField_pt (s : State) (k hi lo v : Nat) : (s.setField k hi lo v).pt = s.pt := rfl
@[simp] theorem State.setField_fab (s : State) (k hi lo v : Nat) : (s.setField k hi lo v).fab = s.fab := rfl
@[simp] theorem State.setField_crc (s : State) (k hi lo v : Nat) : (s.setField k hi lo v).crc = s.crc := rfl
@[simp] theorem State.setField_cores (s : State) (k hi lo v : Nat) : (s.setField k hi lo v).cores = s.cores := rfl
@[simp] theorem State.setField_disps (s : State) (k hi lo v : Nat) : (s.setField k hi lo v).disps = s.disps := rfl
@[simp] theorem State.setField_rtus (s : State) (k hi lo v : Nat) : (s.setField k hi lo v).rtus = s.rtus := rfl
@[simp] theorem State.setField_pass (s : State) (k hi lo v : Nat) : (s.setField k hi lo v).pass = s.pass := rfl
@[simp] theorem State.setField_copies (s : State) (k hi lo v : Nat) : (s.setField k hi lo v).copies = s.copies := rfl
@[simp] theorem State.setField_gd (s : State) (k hi lo v : Nat) : (s.setField k hi lo v).gd = s.gd := rfl
@[simp] theorem State.setField_ao (s : State) (k hi lo v : Nat) : (s.setField k hi lo v).ao = s.ao := rfl
@[simp] theorem State.setField_free (s : State) (k hi lo v : Nat) : (s.setField k hi lo v).free = s.free := rfl
@[simp] theorem State.setField_ticks (s : State) (k hi lo v : Nat) : (s.setField k hi lo v).ticks = s.ticks := rfl
@[simp] theorem State.setField_pending (s : State) (k hi lo v : Nat) : (s.setField k hi lo v).pending = s.pending := rfl

@[simp] theorem State.setPair_stage (s : State) (k v : Nat) : (s.setPair k v).stage = s.stage := rfl
@[simp] theorem State.setPair_fuses (s : State) (k v : Nat) : (s.setPair k v).fuses = s.fuses := rfl
@[simp] theorem State.setPair_hs (s : State) (k v : Nat) : (s.setPair k v).hs = s.hs := rfl
@[simp] theorem State.setPair_ms (s : State) (k v : Nat) : (s.setPair k v).ms = s.ms := rfl
@[simp] theorem State.setPair_mmu (s : State) (k v : Nat) : (s.setPair k v).mmu = s.mmu := rfl
@[simp] theorem State.setPair_qm (s : State) (k v : Nat) : (s.setPair k v).qm = s.qm := rfl
@[simp] theorem State.setPair_pt (s : State) (k v : Nat) : (s.setPair k v).pt = s.pt := rfl
@[simp] theorem State.setPair_fab (s : State) (k v : Nat) : (s.setPair k v).fab = s.fab := rfl
@[simp] theorem State.setPair_crc (s : State) (k v : Nat) : (s.setPair k v).crc = s.crc := rfl
@[simp] theorem State.setPair_cores (s : State) (k v : Nat) : (s.setPair k v).cores = s.cores := rfl
@[simp] theorem State.setPair_disps (s : State) (k v : Nat) : (s.setPair k v).disps = s.disps := rfl
@[simp] theorem State.setPair_rtus (s : State) (k v : Nat) : (s.setPair k v).rtus = s.rtus := rfl
@[simp] theorem State.setPair_pass (s : State) (k v : Nat) : (s.setPair k v).pass = s.pass := rfl
@[simp] theorem State.setPair_copies (s : State) (k v : Nat) : (s.setPair k v).copies = s.copies := rfl
@[simp] theorem State.setPair_gd (s : State) (k v : Nat) : (s.setPair k v).gd = s.gd := rfl
@[simp] theorem State.setPair_ao (s : State) (k v : Nat) : (s.setPair k v).ao = s.ao := rfl
@[simp] theorem State.setPair_free (s : State) (k v : Nat) : (s.setPair k v).free = s.free := rfl
@[simp] theorem State.setPair_ticks (s : State) (k v : Nat) : (s.setPair k v).ticks = s.ticks := rfl
@[simp] theorem State.setPair_pending (s : State) (k v : Nat) : (s.setPair k v).pending = s.pending := rfl

@[simp] theorem State.bumpPair_stage (s : State) (k n : Nat) : (s.bumpPair k n).stage = s.stage := rfl
@[simp] theorem State.bumpPair_fuses (s : State) (k n : Nat) : (s.bumpPair k n).fuses = s.fuses := rfl
@[simp] theorem State.bumpPair_hs (s : State) (k n : Nat) : (s.bumpPair k n).hs = s.hs := rfl
@[simp] theorem State.bumpPair_ms (s : State) (k n : Nat) : (s.bumpPair k n).ms = s.ms := rfl
@[simp] theorem State.bumpPair_mmu (s : State) (k n : Nat) : (s.bumpPair k n).mmu = s.mmu := rfl
@[simp] theorem State.bumpPair_qm (s : State) (k n : Nat) : (s.bumpPair k n).qm = s.qm := rfl
@[simp] theorem State.bumpPair_pt (s : State) (k n : Nat) : (s.bumpPair k n).pt = s.pt := rfl
@[simp] theorem State.bumpPair_fab (s : State) (k n : Nat) : (s.bumpPair k n).fab = s.fab := rfl
@[simp] theorem State.bumpPair_crc (s : State) (k n : Nat) : (s.bumpPair k n).crc = s.crc := rfl
@[simp] theorem State.bumpPair_cores (s : State) (k n : Nat) : (s.bumpPair k n).cores = s.cores := rfl
@[simp] theorem State.bumpPair_disps (s : State) (k n : Nat) : (s.bumpPair k n).disps = s.disps := rfl
@[simp] theorem State.bumpPair_rtus (s : State) (k n : Nat) : (s.bumpPair k n).rtus = s.rtus := rfl
@[simp] theorem State.bumpPair_pass (s : State) (k n : Nat) : (s.bumpPair k n).pass = s.pass := rfl
@[simp] theorem State.bumpPair_copies (s : State) (k n : Nat) : (s.bumpPair k n).copies = s.copies := rfl
@[simp] theorem State.bumpPair_gd (s : State) (k n : Nat) : (s.bumpPair k n).gd = s.gd := rfl
@[simp] theorem State.bumpPair_ao (s : State) (k n : Nat) : (s.bumpPair k n).ao = s.ao := rfl
@[simp] theorem State.bumpPair_free (s : State) (k n : Nat) : (s.bumpPair k n).free = s.free := rfl
@[simp] theorem State.bumpPair_ticks (s : State) (k n : Nat) : (s.bumpPair k n).ticks = s.ticks := rfl
@[simp] theorem State.bumpPair_pending (s : State) (k n : Nat) : (s.bumpPair k n).pending = s.pending := rfl

@[simp] theorem State.viol_stage (s : State) : (s.viol).stage = s.stage := rfl
@[simp] theorem State.viol_fuses (s : State) : (s.viol).fuses = s.fuses := rfl
@[simp] theorem State.viol_hs (s : State) : (s.viol).hs = s.hs := rfl
@[simp] theorem State.viol_ms (s : State) : (s.viol).ms = s.ms := rfl
@[simp] theorem State.viol_mmu (s : State) : (s.viol).mmu = s.mmu := rfl
@[simp] theorem State.viol_qm (s : State) : (s.viol).qm = s.qm := rfl
@[simp] theorem State.viol_pt (s : State) : (s.viol).pt = s.pt := rfl
@[simp] theorem State.viol_fab (s : State) : (s.viol).fab = s.fab := rfl
@[simp] theorem State.viol_crc (s : State) : (s.viol).crc = s.crc := rfl
@[simp] theorem State.viol_cores (s : State) : (s.viol).cores = s.cores := rfl
@[simp] theorem State.viol_disps (s : State) : (s.viol).disps = s.disps := rfl
@[simp] theorem State.viol_rtus (s : State) : (s.viol).rtus = s.rtus := rfl
@[simp] theorem State.viol_pass (s : State) : (s.viol).pass = s.pass := rfl
@[simp] theorem State.viol_copies (s : State) : (s.viol).copies = s.copies := rfl
@[simp] theorem State.viol_gd (s : State) : (s.viol).gd = s.gd := rfl
@[simp] theorem State.viol_ao (s : State) : (s.viol).ao = s.ao := rfl
@[simp] theorem State.viol_free (s : State) : (s.viol).free = s.free := rfl
@[simp] theorem State.viol_ticks (s : State) : (s.viol).ticks = s.ticks := rfl
@[simp] theorem State.viol_pending (s : State) : (s.viol).pending = s.pending := rfl

@[simp] theorem State.stageLo_regs (s : State) (req : Req) (key : Nat) (v : BitVec 32) : (s.stageLo req key v).regs = s.regs := rfl
@[simp] theorem State.stageLo_fuses (s : State) (req : Req) (key : Nat) (v : BitVec 32) : (s.stageLo req key v).fuses = s.fuses := rfl
@[simp] theorem State.stageLo_hs (s : State) (req : Req) (key : Nat) (v : BitVec 32) : (s.stageLo req key v).hs = s.hs := rfl
@[simp] theorem State.stageLo_ms (s : State) (req : Req) (key : Nat) (v : BitVec 32) : (s.stageLo req key v).ms = s.ms := rfl
@[simp] theorem State.stageLo_mmu (s : State) (req : Req) (key : Nat) (v : BitVec 32) : (s.stageLo req key v).mmu = s.mmu := rfl
@[simp] theorem State.stageLo_qm (s : State) (req : Req) (key : Nat) (v : BitVec 32) : (s.stageLo req key v).qm = s.qm := rfl
@[simp] theorem State.stageLo_pt (s : State) (req : Req) (key : Nat) (v : BitVec 32) : (s.stageLo req key v).pt = s.pt := rfl
@[simp] theorem State.stageLo_fab (s : State) (req : Req) (key : Nat) (v : BitVec 32) : (s.stageLo req key v).fab = s.fab := rfl
@[simp] theorem State.stageLo_crc (s : State) (req : Req) (key : Nat) (v : BitVec 32) : (s.stageLo req key v).crc = s.crc := rfl
@[simp] theorem State.stageLo_cores (s : State) (req : Req) (key : Nat) (v : BitVec 32) : (s.stageLo req key v).cores = s.cores := rfl
@[simp] theorem State.stageLo_disps (s : State) (req : Req) (key : Nat) (v : BitVec 32) : (s.stageLo req key v).disps = s.disps := rfl
@[simp] theorem State.stageLo_rtus (s : State) (req : Req) (key : Nat) (v : BitVec 32) : (s.stageLo req key v).rtus = s.rtus := rfl
@[simp] theorem State.stageLo_pass (s : State) (req : Req) (key : Nat) (v : BitVec 32) : (s.stageLo req key v).pass = s.pass := rfl
@[simp] theorem State.stageLo_copies (s : State) (req : Req) (key : Nat) (v : BitVec 32) : (s.stageLo req key v).copies = s.copies := rfl
@[simp] theorem State.stageLo_gd (s : State) (req : Req) (key : Nat) (v : BitVec 32) : (s.stageLo req key v).gd = s.gd := rfl
@[simp] theorem State.stageLo_ao (s : State) (req : Req) (key : Nat) (v : BitVec 32) : (s.stageLo req key v).ao = s.ao := rfl
@[simp] theorem State.stageLo_free (s : State) (req : Req) (key : Nat) (v : BitVec 32) : (s.stageLo req key v).free = s.free := rfl
@[simp] theorem State.stageLo_ticks (s : State) (req : Req) (key : Nat) (v : BitVec 32) : (s.stageLo req key v).ticks = s.ticks := rfl
@[simp] theorem State.stageLo_pending (s : State) (req : Req) (key : Nat) (v : BitVec 32) : (s.stageLo req key v).pending = s.pending := rfl

@[simp] theorem State.unstage_regs (s : State) (req : Req) (key : Nat) : (s.unstage req key).regs = s.regs := rfl
@[simp] theorem State.unstage_fuses (s : State) (req : Req) (key : Nat) : (s.unstage req key).fuses = s.fuses := rfl
@[simp] theorem State.unstage_hs (s : State) (req : Req) (key : Nat) : (s.unstage req key).hs = s.hs := rfl
@[simp] theorem State.unstage_ms (s : State) (req : Req) (key : Nat) : (s.unstage req key).ms = s.ms := rfl
@[simp] theorem State.unstage_mmu (s : State) (req : Req) (key : Nat) : (s.unstage req key).mmu = s.mmu := rfl
@[simp] theorem State.unstage_qm (s : State) (req : Req) (key : Nat) : (s.unstage req key).qm = s.qm := rfl
@[simp] theorem State.unstage_pt (s : State) (req : Req) (key : Nat) : (s.unstage req key).pt = s.pt := rfl
@[simp] theorem State.unstage_fab (s : State) (req : Req) (key : Nat) : (s.unstage req key).fab = s.fab := rfl
@[simp] theorem State.unstage_crc (s : State) (req : Req) (key : Nat) : (s.unstage req key).crc = s.crc := rfl
@[simp] theorem State.unstage_cores (s : State) (req : Req) (key : Nat) : (s.unstage req key).cores = s.cores := rfl
@[simp] theorem State.unstage_disps (s : State) (req : Req) (key : Nat) : (s.unstage req key).disps = s.disps := rfl
@[simp] theorem State.unstage_rtus (s : State) (req : Req) (key : Nat) : (s.unstage req key).rtus = s.rtus := rfl
@[simp] theorem State.unstage_pass (s : State) (req : Req) (key : Nat) : (s.unstage req key).pass = s.pass := rfl
@[simp] theorem State.unstage_copies (s : State) (req : Req) (key : Nat) : (s.unstage req key).copies = s.copies := rfl
@[simp] theorem State.unstage_gd (s : State) (req : Req) (key : Nat) : (s.unstage req key).gd = s.gd := rfl
@[simp] theorem State.unstage_ao (s : State) (req : Req) (key : Nat) : (s.unstage req key).ao = s.ao := rfl
@[simp] theorem State.unstage_free (s : State) (req : Req) (key : Nat) : (s.unstage req key).free = s.free := rfl
@[simp] theorem State.unstage_ticks (s : State) (req : Req) (key : Nat) : (s.unstage req key).ticks = s.ticks := rfl
@[simp] theorem State.unstage_pending (s : State) (req : Req) (key : Nat) : (s.unstage req key).pending = s.pending := rfl

@[simp] theorem State.modCore_regs (s : State) (c : Nat) (f : Core → Core) : (s.modCore c f).regs = s.regs := rfl
@[simp] theorem State.modCore_stage (s : State) (c : Nat) (f : Core → Core) : (s.modCore c f).stage = s.stage := rfl
@[simp] theorem State.modCore_fuses (s : State) (c : Nat) (f : Core → Core) : (s.modCore c f).fuses = s.fuses := rfl
@[simp] theorem State.modCore_hs (s : State) (c : Nat) (f : Core → Core) : (s.modCore c f).hs = s.hs := rfl
@[simp] theorem State.modCore_ms (s : State) (c : Nat) (f : Core → Core) : (s.modCore c f).ms = s.ms := rfl
@[simp] theorem State.modCore_mmu (s : State) (c : Nat) (f : Core → Core) : (s.modCore c f).mmu = s.mmu := rfl
@[simp] theorem State.modCore_qm (s : State) (c : Nat) (f : Core → Core) : (s.modCore c f).qm = s.qm := rfl
@[simp] theorem State.modCore_pt (s : State) (c : Nat) (f : Core → Core) : (s.modCore c f).pt = s.pt := rfl
@[simp] theorem State.modCore_fab (s : State) (c : Nat) (f : Core → Core) : (s.modCore c f).fab = s.fab := rfl
@[simp] theorem State.modCore_crc (s : State) (c : Nat) (f : Core → Core) : (s.modCore c f).crc = s.crc := rfl
@[simp] theorem State.modCore_disps (s : State) (c : Nat) (f : Core → Core) : (s.modCore c f).disps = s.disps := rfl
@[simp] theorem State.modCore_rtus (s : State) (c : Nat) (f : Core → Core) : (s.modCore c f).rtus = s.rtus := rfl
@[simp] theorem State.modCore_pass (s : State) (c : Nat) (f : Core → Core) : (s.modCore c f).pass = s.pass := rfl
@[simp] theorem State.modCore_copies (s : State) (c : Nat) (f : Core → Core) : (s.modCore c f).copies = s.copies := rfl
@[simp] theorem State.modCore_gd (s : State) (c : Nat) (f : Core → Core) : (s.modCore c f).gd = s.gd := rfl
@[simp] theorem State.modCore_ao (s : State) (c : Nat) (f : Core → Core) : (s.modCore c f).ao = s.ao := rfl
@[simp] theorem State.modCore_free (s : State) (c : Nat) (f : Core → Core) : (s.modCore c f).free = s.free := rfl
@[simp] theorem State.modCore_ticks (s : State) (c : Nat) (f : Core → Core) : (s.modCore c f).ticks = s.ticks := rfl
@[simp] theorem State.modCore_pending (s : State) (c : Nat) (f : Core → Core) : (s.modCore c f).pending = s.pending := rfl

@[simp] theorem State.draw_regs (s : State) : s.draw.2.regs = s.regs := rfl
@[simp] theorem State.draw_stage (s : State) : s.draw.2.stage = s.stage := rfl
@[simp] theorem State.draw_fuses (s : State) : s.draw.2.fuses = s.fuses := rfl
@[simp] theorem State.draw_hs (s : State) : s.draw.2.hs = s.hs := rfl
@[simp] theorem State.draw_ms (s : State) : s.draw.2.ms = s.ms := rfl
@[simp] theorem State.draw_mmu (s : State) : s.draw.2.mmu = s.mmu := rfl
@[simp] theorem State.draw_qm (s : State) : s.draw.2.qm = s.qm := rfl
@[simp] theorem State.draw_pt (s : State) : s.draw.2.pt = s.pt := rfl
@[simp] theorem State.draw_fab (s : State) : s.draw.2.fab = s.fab := rfl
@[simp] theorem State.draw_crc (s : State) : s.draw.2.crc = s.crc := rfl
@[simp] theorem State.draw_cores (s : State) : s.draw.2.cores = s.cores := rfl
@[simp] theorem State.draw_disps (s : State) : s.draw.2.disps = s.disps := rfl
@[simp] theorem State.draw_rtus (s : State) : s.draw.2.rtus = s.rtus := rfl
@[simp] theorem State.draw_pass (s : State) : s.draw.2.pass = s.pass := rfl
@[simp] theorem State.draw_copies (s : State) : s.draw.2.copies = s.copies := rfl
@[simp] theorem State.draw_gd (s : State) : s.draw.2.gd = s.gd := rfl
@[simp] theorem State.draw_ao (s : State) : s.draw.2.ao = s.ao := rfl
@[simp] theorem State.draw_ticks (s : State) : s.draw.2.ticks = s.ticks := rfl
@[simp] theorem State.draw_pending (s : State) : s.draw.2.pending = s.pending := rfl

/-- A register depends on the register file only. -/
theorem State.reg_congr {s t : State} (h : s.regs = t.regs) (k : Nat) : s.reg k = t.reg k := by rw [State.reg, State.reg, h]

/-- Advancing a pair changes the register file only. -/
theorem State.bumpPair_eq (s : State) (k n : Nat) : s.bumpPair k n = { s with regs := (s.bumpPair k n).regs } := rfl

/-- Changing the AO side leaves the register file alone. -/
theorem State.regs_with_ao (s : State) (a : AoSide) : { s with ao := a }.regs = s.regs := rfl

/-- A register written is read back. -/
theorem State.reg_setReg (s : State) (k : Nat) (v : BitVec 32) (h : storeWf regPlain s.regs = true) : (s.setReg k v).reg k = v :=
  storeGet_storePut regReset regPlain k v (fun e => (beq_iff_eq.mp e).symm) s.regs h

/-- Writing a register leaves every other one alone. -/
theorem State.reg_setReg_ne (s : State) {j k : Nat} (v : BitVec 32) (h : j ≠ k) : (s.setReg k v).reg j = s.reg j :=
  storeGet_storePut_ne regReset regPlain v s.regs h

/-- Writing a register keeps the canonical form of the register file. -/
theorem State.setReg_wf (s : State) (k : Nat) (v : BitVec 32) (h : storeWf regPlain s.regs = true) : storeWf regPlain (s.setReg k v).regs = true :=
  storeWf_storePut regPlain k v s.regs h

/-- A register changed is read back. -/
theorem State.reg_modReg (s : State) (k : Nat) (f : BitVec 32 → BitVec 32) (h : storeWf regPlain s.regs = true) : (s.modReg k f).reg k = f (s.reg k) :=
  s.reg_setReg k _ h

/-- Changing a register leaves every other one alone. -/
theorem State.reg_modReg_ne (s : State) {j k : Nat} (f : BitVec 32 → BitVec 32) (h : j ≠ k) : (s.modReg k f).reg j = s.reg j :=
  s.reg_setReg_ne _ h

/-- Changing a register keeps the canonical form of the register file. -/
theorem State.modReg_wf (s : State) (k : Nat) (f : BitVec 32 → BitVec 32) (h : storeWf regPlain s.regs = true) :
    storeWf regPlain (s.modReg k f).regs = true :=
  s.setReg_wf k _ h

/-- A counter advances by n. -/
theorem State.reg_bump (s : State) (k n : Nat) (h : storeWf regPlain s.regs = true) : (s.bump k n).reg k = s.reg k + BitVec.ofNat 32 n :=
  s.reg_modReg k _ h

/-- A counter leaves every other register alone. -/
theorem State.reg_bump_ne (s : State) {j k : Nat} (n : Nat) (h : j ≠ k) : (s.bump k n).reg j = s.reg j := s.reg_modReg_ne _ h

/-- A pair written leaves every other register alone. -/
theorem State.reg_setPair_ne (s : State) {j k : Nat} (v : Nat) (h : j ≠ k) (h' : j ≠ k + 4) : (s.setPair k v).reg j = s.reg j := by
  rw [State.setPair, State.setRegN, State.reg_setReg_ne _ _ h', State.setRegN, State.reg_setReg_ne _ _ h]

/-- A pair written is read back. -/
theorem State.pair_setPair (s : State) (k v : Nat) (h : storeWf regPlain s.regs = true) : (s.setPair k v).pair k = v % 2 ^ 64 := by
  have h1 : ((s.setRegN k v).setRegN (k + 4) (v / 2 ^ 32)).reg k = BitVec.ofNat 32 v := by
    rw [State.setRegN, State.reg_setReg_ne _ _ (by omega), State.setRegN, State.reg_setReg _ _ _ h]
  have h2 : ((s.setRegN k v).setRegN (k + 4) (v / 2 ^ 32)).reg (k + 4) = BitVec.ofNat 32 (v / 2 ^ 32) := by
    rw [State.setRegN, State.reg_setReg]
    exact s.setReg_wf k _ h
  rw [State.pair, State.setPair, h1, h2]
  simp only [BitVec.toNat_ofNat]
  omega

end Sys2Proof.Machine
end

