-- ==== Sys2Proof/Laws/Pods.lean ====
section
/-! SUPPORT. Frames of the operations on pods: changing one pod, counting an instruction, writing vector registers. -/

namespace Sys2Proof.Machine

/-! ### Performance counters -/

/-- Advancing some of eight counters that stand from `b` on changes those registers and the remainders only. -/
theorem fold_counters (s : State) (b : Nat) (c : State → Nat → Bool) (v : State → Nat → Nat) (w : State → Nat → List Nat) :
    ∀ (l : List Nat) (t : State), (∀ x ∈ l, x < 8) → (∃ g a, t = { s with regs := g, ao := { s.ao with perfRem := a } }) →
      (∀ k, ¬(b ≤ k ∧ k < b + 64) → t.reg k = s.reg k) →
      (∃ g a, l.foldl (fun s k => if c s k then { s.bumpPair (b + 8 * k) (v s k) with ao := { s.ao with perfRem := w s k } } else s) t =
        { s with regs := g, ao := { s.ao with perfRem := a } }) ∧
      ∀ k, ¬(b ≤ k ∧ k < b + 64) →
        (l.foldl (fun s k => if c s k then { s.bumpPair (b + 8 * k) (v s k) with ao := { s.ao with perfRem := w s k } } else s) t).reg k = s.reg k := by
  intro l
  induction l with
  | nil => intro t _ h1 h2; exact ⟨h1, h2⟩
  | cons x l ih =>
    intro t hx h1 h2
    rw [List.foldl_cons]
    refine ih _ (fun y hy => hx y (List.mem_cons_of_mem _ hy)) ?_ ?_
    · split
      · refine ⟨(t.bumpPair (b + 8 * x) (v t x)).regs, w t x, ?_⟩
        rw [State.bumpPair_eq]
        obtain ⟨g, a, rfl⟩ := h1
        rfl
      · exact h1
    · intro k hk
      split
      · rw [← h2 k hk]
        have hx8 := hx x (List.mem_cons_self ..)
        refine (State.reg_congr (t := t.setPair (b + 8 * x) (t.pair (b + 8 * x) + v t x)) (by rw [State.regs_with_ao, State.bumpPair]) k).trans ?_
        exact State.reg_setPair_ne t _ (by omega) (by omega)
      · exact h2 k hk

/-- What a step of the performance counters keeps. -/
theorem State.perf_frame (s : State) (code part n : Nat) :
    (∃ g a, s.perf code part n = { s with regs := g, ao := { s.ao with perfRem := a } }) ∧
    ∀ k, ¬(R.DBG_PC_LO ≤ k ∧ k < R.DBG_PC_LO + 64) → (s.perf code part n).reg k = s.reg k := by
  unfold State.perf
  split
  · exact ⟨⟨s.regs, s.ao.perfRem, rfl⟩, fun _ _ => rfl⟩
  · exact fold_counters s R.DBG_PC_LO (fun s k => s.perfHears k code part) (fun s k => (s.ao.perfRem.getD k 0 + n) / perfUnit code)
      (fun s k => s.ao.perfRem.set k ((s.ao.perfRem.getD k 0 + n) % perfUnit code)) (List.range 8) s (fun x hx => List.mem_range.mp hx)
      ⟨s.regs, s.ao.perfRem, rfl⟩ (fun _ _ => rfl)

/-! ### Changing one pod -/

/-- A list of pods with the pod of one slot changed, as a search by slot sees it. -/
theorem find_pods_map (k j : Nat) (f : Pod → Pod) (hf : ∀ q, (f q).slot = q.slot) (l : List Pod) :
    (l.map (fun p => if p.slot = k then f p else p)).find? (·.slot == j) =
      if j = k then (l.find? (·.slot == j)).map f else l.find? (·.slot == j) := by
  induction l with
  | nil => simp
  | cons a t ih =>
    simp only [List.map_cons, List.find?_cons, ih]
    by_cases ha : a.slot = k
    · by_cases hj : j = k
      · subst hj; simp [ha, hf]
      · have hkj : (k == j) = false := by simpa using fun e => hj (Eq.symm e)
        simp [ha, hf, hj, hkj]
    · by_cases hj : j = k
      · subst hj
        have haj : (a.slot == j) = false := by simpa using ha
        simp [ha, haj]
      · simp [ha, hj]

/-- A core after a change of a core. -/
theorem State.core_modCore (s : State) (c c' : Nat) (f : Core → Core) :
    (s.modCore c f).core c' = if c' = c ∧ c < s.cores.length then f (s.core c) else s.core c' := by
  simp only [State.core, State.modCore, List.getD_eq_getElem?_getD, List.getElem?_modify]
  by_cases h : c' = c
  · subst h
    by_cases hl : c' < s.cores.length
    · simp [hl]
    · simp [hl]
  · have : ¬c = c' := fun e => h e.symm
    simp [h, this]

/-- A pod that is there stands on a core that is there. -/
theorem State.pod_core_lt {s : State} {c k : Nat} {p : Pod} (h : s.pod? (.slot c k) = some p) : c < s.cores.length := by
  by_cases hl : c < s.cores.length
  · exact hl
  · simp [State.pod?, hl] at h

/-- A pod changed. -/
theorem State.pod_modPod {s : State} {r : PodRef} {p : Pod} (f : Pod → Pod) (hf : ∀ q, (f q).slot = q.slot) (h : s.pod? r = some p) :
    (s.modPod r f).pod? r = some (f p) := by
  cases r with
  | guard => simp only [State.pod?, State.modPod] at h ⊢; simp [h]
  | slot c k =>
    have hl := State.pod_core_lt h
    have hc := s.core_modCore c c (fun co => { co with pods := co.pods.map (fun p => if p.slot = k then f p else p) })
    simp only [hl, and_self, if_true] at hc
    simp only [State.pod?] at h ⊢
    simp only [State.modPod]
    have : ∀ t : State, (t.cores.getD c {}).pods = (t.core c).pods := fun _ => rfl
    rw [this, hc]
    simp only
    rw [find_pods_map k k f hf]
    simp only [if_true]
    rw [this] at h
    rw [h]
    rfl

/-- The other pods stay. -/
theorem State.pod_modPod_ne {s : State} {r r' : PodRef} (f : Pod → Pod) (hf : ∀ q, (f q).slot = q.slot) (h : r' ≠ r) :
    (s.modPod r f).pod? r' = s.pod? r' := by
  cases r with
  | guard =>
    cases r' with
    | guard => exact absurd rfl h
    | slot c k => rfl
  | slot c k =>
    cases r' with
    | guard => rfl
    | slot c' k' =>
      have this : ∀ t : State, (t.cores.getD c' {}).pods = (t.core c').pods := fun _ => rfl
      simp only [State.pod?, State.modPod, this, State.core_modCore]
      split
      · next hc =>
        obtain ⟨rfl, _⟩ := hc
        simp only
        rw [find_pods_map k k' f hf]
        have : k' ≠ k := fun e => h (by rw [e])
        simp only [if_neg this]
      · rfl

/-- What changing a pod leaves alone. -/
theorem State.modPod_podOnly (s : State) (r : PodRef) (f : Pod → Pod) (hf : ∀ q, (f q).slot = q.slot) :
    PodOnly s (s.modPod r f) r ∧ (s.modPod r f).vrf r = s.vrf r ∧ ∀ k, (s.modPod r f).reg k = s.reg k := by
  cases r with
  | guard =>
    refine ⟨⟨rfl, fun r' h => State.pod_modPod_ne f hf h, fun c => rfl, rfl, ?_, rfl, fun _ _ => rfl⟩, rfl, fun _ => rfl⟩
    intro r' h
    cases r' with
    | guard => exact absurd rfl h
    | slot c k => rfl
  | slot c k =>
    have hco : ∀ c', ((s.modPod (.slot c k) f).core c').vrf = (s.core c').vrf := by
      intro c'
      simp only [State.modPod, State.core_modCore]
      split
      · next h => obtain ⟨rfl, _⟩ := h; rfl
      · rfl
    refine ⟨⟨rfl, fun r' h => State.pod_modPod_ne f hf h, fun c' => ?_, rfl, ?_, rfl, fun _ _ => rfl⟩, hco c, fun _ => rfl⟩
    · simp only [State.modPod, State.core_modCore]
      split
      · next h => obtain ⟨rfl, _⟩ := h; rfl
      · rfl
    · intro r' _
      cases r' with
      | guard => rfl
      | slot c' k' => exact hco c'

/-- Frames compose. -/
theorem PodOnly.trans {u v t : State} {r : PodRef} (a : PodOnly u v r) (b : PodOnly v t r) : PodOnly u t r where
  rest := by rw [b.rest, a.rest]
  pods := fun r' h => (b.pods r' h).trans (a.pods r' h)
  cores := fun c => by rw [← a.cores c, ← b.cores c]
  guard := by rw [← a.guard, ← b.guard]
  vrfs := fun r' h => (b.vrfs r' h).trans (a.vrfs r' h)
  ao := by rw [← a.ao, ← b.ao]
  regs := fun k h => (b.regs k h).trans (a.regs k h)

/-- Nothing differs from itself. -/
theorem PodOnly.refl (u : State) (r : PodRef) : PodOnly u u r := ⟨rfl, fun _ _ => rfl, fun _ => rfl, rfl, fun _ _ => rfl, rfl, fun _ _ => rfl⟩

/-- A change of registers that only counters of issued instructions see. -/
theorem PodOnly.of_regs {u : State} {r : PodRef} {g : List (Nat × BitVec 32)} {a : List Nat} (t : State)
    (h : t = { u with regs := g, ao := { u.ao with perfRem := a } }) (hr : ∀ k, countKey r k = false → t.reg k = u.reg k) : PodOnly u t r := by
  subst h
  exact ⟨rfl, fun r' _ => by cases r' <;> rfl, fun _ => rfl, rfl, fun r' _ => by cases r' <;> rfl, rfl, hr⟩

/-- Counting an issued instruction. -/
theorem State.issueCount_frame (s : State) (r : PodRef) (ctx : Nat) :
    PodOnly s (s.issueCount r ctx) r ∧ (s.issueCount r ctx).vrf r = s.vrf r ∧ (s.issueCount r ctx).pod? r = s.pod? r ∧
    (s.issueCount r ctx).free = s.free := by
  cases r with
  | guard => exact ⟨PodOnly.refl _ _, rfl, rfl, rfl⟩
  | slot c k =>
    have hp := ((s.bumpPair (rk R.CORE_ISSUE_COUNT_LO c) 1).perf_frame 3 ((s.bumpPair (rk R.CORE_ISSUE_COUNT_LO c) 1).ctxPart ctx) 1)
    obtain ⟨⟨g, a, he⟩, hk⟩ := hp
    have he' : s.issueCount (.slot c k) ctx = { s with regs := g, ao := { s.ao with perfRem := a } } := by
      simp only [State.issueCount, State.perfCtx]
      rw [he]
      rfl
    refine ⟨PodOnly.of_regs _ he' ?_, by rw [he']; rfl, by rw [he']; rfl, by rw [he']⟩
    intro k' h
    simp only [countKey, Bool.or_eq_false_iff, Bool.and_eq_false_iff, decide_eq_false_iff_not, beq_eq_false_iff_ne, ne_eq] at h
    have h1 := hk k' (by omega)
    simp only [State.issueCount, State.perfCtx]
    rw [h1]
    exact State.reg_setPair_ne s _ h.2.1 h.2.2

/-- The state in which an issued instruction has its effect. -/
theorem State.moved_frame {u : State} {r : PodRef} {p : Pod} (op : Nat) (i : Ins) (h : u.pod? r = some p) :
    PodOnly u (u.moved r p op i) r ∧ (u.moved r p op i).vrf r = u.vrf r ∧
    (u.moved r p op i).pod? r = some { p with pc := p.pc + insLen op i, stalled := [] } := by
  have h1 := u.modPod_podOnly r (fun q => { q with pc := p.pc + insLen op i, stalled := [] }) (fun _ => rfl)
  have h2 := (u.modPod r (fun q => { q with pc := p.pc + insLen op i, stalled := [] })).issueCount_frame r p.ctx
  refine ⟨h1.1.trans h2.1, h2.2.1.trans h1.2.1, ?_⟩
  rw [State.moved, h2.2.2.1]
  exact State.pod_modPod _ (fun _ => rfl) h

/-- The end of an issued instruction. -/
theorem State.ended_frame {v : State} {r : PodRef} {q : Pod} (p : Pod) (op : Nat) (i : Ins) (lat : Nat) (h : v.pod? r = some q) :
    PodOnly v (v.ended r p op i lat) r ∧ (v.ended r p op i lat).vrf r = v.vrf r ∧
    ∃ tm, (v.ended r p op i lat).pod? r = some { q with tm := tm } := by
  have h1 := v.modPod_podOnly r (fun q => q.account op i (p.issueCycle r op i) (latHere r op lat)) (fun _ => rfl)
  exact ⟨h1.1, h1.2.1, (q.account op i (p.issueCycle r op i) (latHere r op lat)).tm,
    State.pod_modPod (fun q => q.account op i (p.issueCycle r op i) (latHere r op lat)) (fun _ => rfl) h⟩

end Sys2Proof.Machine
end

