-- ==== Sys2Proof/Laws/Isa.lean ====
section
/-! SUPPORT. What the shared forms of the instruction groups come to when an instruction issues and executes. -/

namespace Sys2Proof.Machine

/-- Reading CYCLES changes nothing. -/
theorem State.cycles_frame (s : State) (r : PodRef) (p : Pod) (op : Nat) (i : Ins) :
    (s.cycles r p op i).2 = s ∧ CyclesAt r p op i (s.cycles r p op i).1 := by
  unfold State.cycles
  split
  · exact ⟨rfl, fun _ => rfl⟩
  · next h => exact ⟨rfl, fun h' => absurd h' h⟩

/-- The scalar form: DST takes f of the two operands. -/
theorem scalarOp_result {s u : State} {r : PodRef} {p : Pod} {op : Nat} {i : Ins} (h : IssuesAt s r p op i u) (hop : op < 256) (h6 : op ≠ 6)
    (ev : String) (f : Nat → Nat → Nat) : ∃ t cyc, scalarOp ev op r i s f = .next t ∧ CyclesAt r p op i cyc ∧
      PodAfter t r p (p.sput i.d (f (p.sv i cyc i.a) (p.sv i cyc i.b) % 2 ^ 32)) op i ∧ PodOnly u t r ∧ t.vrf r = u.vrf r := by
  have hu := h.2.2.1
  rw [scalarOp, issue_of_issuesAt h hop]
  obtain ⟨m1, m2, m3⟩ := u.moved_frame op i hu
  obtain ⟨c1, c4⟩ := (u.moved r p op i).cycles_frame r p op i
  generalize hc : (u.moved r p op i).cycles r p op i = cs at c1 c4
  obtain ⟨cyc, v⟩ := cs
  simp only at c1 c4
  subst c1
  simp only [if_neg h6]
  refine ⟨_, cyc, rfl, c4, ?_⟩
  have hslot : ∀ q : Pod, (q.sput i.d (f (p.sv i cyc i.a) (p.sv i cyc i.b) % 2 ^ 32)).slot = q.slot := by
    intro q
    unfold Pod.sput Pod.mput
    repeat' split
    all_goals rfl
  have hq := State.pod_modPod (fun q : Pod => q.sput i.d (f (p.sv i cyc i.a) (p.sv i cyc i.b) % 2 ^ 32)) hslot m3
  have hf := (u.moved r p op i).modPod_podOnly r (fun q : Pod => q.sput i.d (f (p.sv i cyc i.a) (p.sv i cyc i.b) % 2 ^ 32)) hslot
  obtain ⟨e1, e2, tm, e3⟩ := State.ended_frame p op i 2 hq
  refine ⟨⟨_, e3, ?_⟩, (m1.trans hf.1).trans e1, (e2.trans hf.2.1).trans m2⟩
  unfold Pod.sput Pod.mput
  repeat' split
  all_goals rfl

end Sys2Proof.Machine
end

