-- ==== Sys2Proof/Laws/Regs.lean ====
section
/-! SUPPORT. What a write of BAR0 that reaches its register comes to: the register's own operation, and nothing else. -/

namespace Sys2Proof.Machine

/-- The performance counters touch neither the host side nor the MMU. -/
theorem perf_hs_mmu (s : State) (code part n : Nat) : (s.perf code part n).hs = s.hs ∧ (s.perf code part n).mmu = s.mmu := by
  obtain ⟨⟨g, a, h⟩, -⟩ := s.perf_frame code part n
  rw [h]
  exact ⟨rfl, rfl⟩

/-- A requester's write that is direct is the register write itself, in the state in which it arrives. -/
theorem cmdWrite_of_direct {s : State} {req : Req} {off : Nat} {val : W32} {full : Bool} (h : s.direct req = true) :
    s.cmdWrite req off val full = (s.arriving req).regWrite req off val full := by
  obtain ⟨hh, hm⟩ := perf_hs_mmu s 0x10 0 4
  unfold State.direct at h
  cases req <;> simp_all [State.cmdWrite, State.arriving, State.heldWrite, State.holds, Req.num]

/-- A write that reaches its register is that register's operation alone: nothing is counted. -/
theorem cmdWrite_of_reaches {s : State} {req : Req} {off c : Nat} {val : W32} (h : s.reaches req off c val = true) :
    ∃ r, (s.arriving req).rowAt off = some r ∧ (s.arriving req).copyOf req r = some c ∧
      s.cmdWrite req off val true = (s.arriving req).putAny req r off c val := by
  unfold State.reaches at h
  simp only [Bool.and_eq_true] at h
  obtain ⟨hd, h⟩ := h
  rw [cmdWrite_of_direct hd]
  unfold State.regWrite
  split at h
  · rename_i r hr
    simp only [Bool.and_eq_true, bne_iff_ne, ne_eq, beq_iff_eq] at h
    obtain ⟨⟨⟨hc, ho⟩, hw⟩, hz⟩ := h
    refine ⟨r, hr, hc, ?_⟩
    rw [hr]
    simp only [hc, ho, hw]
    unfold State.countRsv
    simp [hz]
  · simp at h

/-- A row that the variant has is the row of the table. -/
theorem rowAt_regRow {s : State} {off : Nat} {r : RegRow} (h : s.rowAt off = some r) : regRow? off = some r := by
  unfold State.rowAt at h
  split at h
  · simp at h
  · exact h

/-- A value with no bit outside a mask is its own part in the mask. -/
theorem and_mask_of_rest {v m : W32} (h : v &&& ~~~ m = 0) : v &&& m = v := by
  have h1 : (v &&& m) ||| (v &&& ~~~ m) = v := by ext i hi; simp; cases v[i] <;> cases m[i] <;> rfl
  rw [h] at h1
  simpa using h1

/-- The row of one register, whatever the variant: the write is the operation of its row, its value whole. -/
theorem cmdWrite_row {s : State} {req : Req} {off c : Nat} {val : W32} {row : RegRow} (h : s.reaches req off c val = true) (hr : regRow? off = some row) :
    (s.arriving req).copyOf req row = some c ∧ val &&& BitVec.ofNat 32 row.named = val ∧
      s.cmdWrite req off val true = (s.arriving req).putAny req row off c val := by
  obtain ⟨r, h1, h2, h3⟩ := cmdWrite_of_reaches h
  have h4 := h
  unfold State.reaches at h4
  simp only [h1, Bool.and_eq_true, beq_iff_eq] at h4
  have := rowAt_regRow h1
  rw [hr] at this
  cases this
  exact ⟨h2, and_mask_of_rest h4.2.2, h3⟩

/-- A write to the high half of a pair that no other rule refuses commits the staged half with it. -/
theorem putPair_hi {s : State} {req : Req} {r : RegRow} {off c : Nat} {val : W32} (h : r.pair = .hi) (hr : s.pairRefused (off - 4) c = none) :
    s.putPair req r off c val = (s.unstage req (rk (off - 4) c)).commitPair (off - 4) c
      ((s.staged req (rk (off - 4) c)).toNat + (val &&& BitVec.ofNat 32 r.writable).toNat * 2 ^ 32) := by
  simp [State.putPair, h, hr]

/-- A write to the low half of a pair that no other rule refuses stages it. -/
theorem putPair_lo {s : State} {req : Req} {r : RegRow} {off c : Nat} {val : W32} (h : r.pair = .lo) (hr : s.pairRefused off c = none) :
    s.putPair req r off c val = s.stageLo req (rk off c) (val &&& BitVec.ofNat 32 r.writable) := by
  simp [State.putPair, h, hr]

end Sys2Proof.Machine
end

