-- ==== Sys2Proof/Tests/Slice0.lean ====
section
/-! SUPPORT. Tests: well-formedness, worked values of the spec, and for every statement with hypotheses states that meet them. -/

open Sys2Proof Sys2Proof.Machine

section
-- One test after another: side by side they would need a thread each.
set_option Elab.async false

/-! ### Well-formedness: a term that breaks each check is refused; terms that break none pass -/

theorem test_ill_formed_0 : ([
    (.registerWrite .host 2 0 true), (.registerWrite .host (2 ^ 26) 0 false), (.flitRetry 6 false), (.linkLost 6),
    (.lineRequestComplete 32 0 [] [] [] []), (.linkUp 0 1 0 0), (.linkUp 6 1 0 0), (.linkUp 1 3 0 0), (.linkUp 1 1 256 0), (.linkUp 1 1 0 4096),
    (.apWrite 0xF0000000 0 [none]), (.apWrite 0 (2 ^ 16) [none]), (.apWrite 0 0 []), (.apWrite 4095 0 [none, none]), (.bar2Read 0 0),
    (.bar2Read 0xF0000000 1), (.mwinRead 0 0), (.mwinRead 4095 2), (.mwinRead (2 ^ 28) 1), (.mwinWrite 0 []), (.mwinWrite 4095 [none, none]),
    (.mwinWrite (2 ^ 28) [none]), (.walkComplete 16), (.holderInvAck 58)] : List Instr).all (fun c => !c.wellFormed) = true := by decide +kernel

theorem test_ill_formed_1 : ([
    (.packetFetch 256), (.nopPacket 256), (.dispatch 256), (.renderPass 256), (.copyPacket 256), (.semSignal 256), (.semWait 256), (.fencePoll 256),
    (.packetComplete 256), (.ceSelftestEnd 4 false), (.verdict (.slot 32 0) {}), (.workgroupLaunch 0 32 [0]), (.workgroupLaunch 0 0 []),
    (.workgroupLaunch 0 0 [1, 1]), (.workgroupLaunch 0 0 [48]), (.podRetire 32 0), (.podRetire 0 48), (.trapEntry 32 0), (.trapEntry 0 48),
    (.nop (.slot 32 0) {}), (.exit (.slot 32 0) {}), (.trap (.slot 32 0) {}), (.tret (.slot 32 0) {}), (.bar (.slot 32 0) {})] : List Instr).all (fun c => !c.wellFormed) = true := by decide +kernel

theorem test_ill_formed_2 : ([
    (.fence (.slot 32 0) {}), (.jmp (.slot 32 0) {}), (.jz (.slot 32 0) {}), (.jnz (.slot 32 0) {}), (.call (.slot 32 0) {}), (.jmpr (.slot 32 0) {}),
    (.sadd (.slot 32 0) {}), (.ssub (.slot 32 0) {}), (.smul (.slot 32 0) {}), (.sand (.slot 32 0) {}), (.sor (.slot 32 0) {}), (.sxor (.slot 32 0) {}),
    (.sandn (.slot 32 0) {}), (.sshl (.slot 32 0) {}), (.sshr (.slot 32 0) {}), (.smin (.slot 32 0) {}), (.smax (.slot 32 0) {}),
    (.smov (.slot 32 0) {}), (.spopc (.slot 32 0) {}), (.sffs (.slot 32 0) {}), (.scmp (.slot 32 0) {}), (.sadd64 (.slot 32 0) {}),
    (.viadd (.slot 32 0) {}), (.visub (.slot 32 0) {})] : List Instr).all (fun c => !c.wellFormed) = true := by decide +kernel

theorem test_ill_formed_3 : ([
    (.vimul (.slot 32 0) {}), (.vimulhi (.slot 32 0) {}), (.vimad (.slot 32 0) {}), (.vand (.slot 32 0) {}), (.vor (.slot 32 0) {}),
    (.vxor (.slot 32 0) {}), (.vshl (.slot 32 0) {}), (.vshr (.slot 32 0) {}), (.vimin (.slot 32 0) {}), (.vimax (.slot 32 0) {}),
    (.vmov (.slot 32 0) {}), (.vsel (.slot 32 0) {}), (.vicmp (.slot 32 0) {}), (.vshfl (.slot 32 0) {}), (.vfadd (.slot 32 0) {}),
    (.vfmul (.slot 32 0) {}), (.vffma (.slot 32 0) {}), (.vfmin (.slot 32 0) {}), (.vfmax (.slot 32 0) {}), (.vfdiv (.slot 32 0) {}),
    (.vfsqrt (.slot 32 0) {}), (.vfrcp (.slot 32 0) {}), (.vfrsq (.slot 32 0) {}), (.vfcmp (.slot 32 0) {})] : List Instr).all (fun c => !c.wellFormed) = true := by decide +kernel

theorem test_ill_formed_4 : ([
    (.vfexp2 (.slot 32 0) {}), (.vflog2 (.slot 32 0) {}), (.vhfma (.slot 32 0) {}), (.vbfma (.slot 32 0) {}), (.vdadd (.slot 32 0) {}),
    (.vdmul (.slot 32 0) {}), (.vdfma (.slot 32 0) {}), (.vddiv (.slot 32 0) {}), (.vdsqrt (.slot 32 0) {}), (.vdcmp (.slot 32 0) {}),
    (.vcvt (.slot 32 0) {}), (.vbfe (.slot 32 0) {}), (.vbfi (.slot 32 0) {}), (.vpopc (.slot 32 0) {}), (.ld (.slot 32 0) {}), (.st (.slot 32 0) {}),
    (.sld (.slot 32 0) {}), (.sst (.slot 32 0) {}), (.ldt (.slot 32 0) {}), (.stt (.slot 32 0) {}), (.atomt (.slot 32 0) {}), (.atom (.slot 32 0) {}),
    (.lkwait (.slot 32 0) {}), (.unlk (.slot 32 0) {})] : List Instr).all (fun c => !c.wellFormed) = true := by decide +kernel

theorem test_ill_formed_5 : ([
    (.tmma (.slot 32 0) {}), (.tcvt (.slot 32 0) {}), (.tensorStart 32), (.tensorComplete 32), (.pixlock (.slot 32 0) {}), (.pixunlk (.slot 32 0) {}),
    (.rayq (.slot 32 0) {}), (.tileDispatch 8), (.pixelPodLaunch 32 0 0), (.pixelPodLaunch 0 2 0), (.pixelPodLaunch 0 0 48), (.tileWriteOut 32 0),
    (.tileWriteOut 0 2), (.nodeReadComplete 16 0), (.nodeLimit 16 0), (.crcFrameCompare 8), (.portUp 4), (.portDown 4), (.fabReadReq 4 0 0 0 1),
    (.fabReadReq 0 2048 0 0 1), (.fabReadReq 0 0 0 0 0), (.fabReadReq 0 0 0 0 129), (.fabWrite 4 0 0 0 [none]), (.fabWrite 0 2048 0 0 [none])] : List Instr).all (fun c => !c.wellFormed) = true := by decide +kernel

theorem test_ill_formed_6 : ([
    (.fabWrite 0 0 0 0 []), (.fabWrite 0 0 0 0 (List.replicate 129 none)), (.fabAtomic 4 0 0 0 0 false false [(0, 0)] []),
    (.fabAtomic 0 2048 0 0 0 false false [(0, 0)] []), (.fabAtomic 0 0 0 0 11 false false [(0, 0)] []), (.fabAtomic 0 0 0 2 0 false false [(0, 0)] []),
    (.fabAtomic 0 0 0 0 0 false false [] []), (.fabAtomic 0 0 0 0 0 false false (List.replicate 33 (0, 0)) []), (.fabAtomic 0 0 0 0 0 true false [(4, 0)] []),
    (.fabAtomic 0 0 0 0 0 false false [(128, 0)] []), (.fabReadRsp 4 0 [0]),
    (.fabWriteAck 4 0), (.fabAtomicRsp 4 0 [0]), (.fabRefuse 4 0 0), (.fabAbort 4 0 0 0 0), (.fabAbort 0 0 0 2048 0), (.thermalSample []),
    (.thermalLevelUp 24 0), (.thermalLevelDown 24 0), (.bootImageLoaded 2), (.fecRestart 2 none), (.fecException 2 0 0 0 {}), (.fecWatchdogExpiry 2),
    (.conversionCycle [] (List.replicate 4 0)), (.conversionCycle (List.replicate 16 0) []), (.ovLevelChange 16), (.uvLevelChange 16),
    (.ntcLevelChange 4 false)] : List Instr).all (fun c => !c.wellFormed) = true := by decide +kernel

theorem test_ill_formed_7 : ([
    (.refchkEnd [])] : List Instr).all (fun c => !c.wellFormed) = true := by decide +kernel

theorem test_well_formed_0 : ([
    (.registerWrite .host 0 0 false), (.flitRetry 0 false), (.linkLost 0), (.lineRequestComplete 0 0 [] [] [] []), (.linkUp 1 1 0 0),
    (.apWrite 0 0 [none]), (.bar2Read 0 1), (.mwinRead 0 1), (.mwinWrite 0 [none]), (.walkComplete 0), (.holderInvAck 0), (.packetFetch 0),
    (.nopPacket 0), (.dispatch 0), (.renderPass 0), (.copyPacket 0), (.semSignal 0), (.semWait 0), (.fencePoll 0), (.packetComplete 0),
    (.ceSelftestEnd 0 false), (.verdict .guard {}), (.workgroupLaunch 0 0 [0]), (.podRetire 0 0), (.trapEntry 0 0), (.nop .guard {}), (.exit .guard {}),
    (.trap .guard {}), (.tret .guard {}), (.bar .guard {}), (.fence .guard {}), (.jmp .guard {}), (.jz .guard {}), (.jnz .guard {}), (.call .guard {}),
    (.jmpr .guard {}), (.sadd .guard {}), (.ssub .guard {}), (.smul .guard {}), (.sand .guard {})] : List Instr).all Instr.wellFormed = true := by decide +kernel

theorem test_well_formed_1 : ([
    (.sor .guard {}), (.sxor .guard {}), (.sandn .guard {}), (.sshl .guard {}), (.sshr .guard {}), (.smin .guard {}), (.smax .guard {}),
    (.smov .guard {}), (.spopc .guard {}), (.sffs .guard {}), (.scmp .guard {}), (.sadd64 .guard {}), (.viadd .guard {}), (.visub .guard {}),
    (.vimul .guard {}), (.vimulhi .guard {}), (.vimad .guard {}), (.vand .guard {}), (.vor .guard {}), (.vxor .guard {}), (.vshl .guard {}),
    (.vshr .guard {}), (.vimin .guard {}), (.vimax .guard {}), (.vmov .guard {}), (.vsel .guard {}), (.vicmp .guard {}), (.vshfl .guard {}),
    (.vfadd .guard {}), (.vfmul .guard {}), (.vffma .guard {}), (.vfmin .guard {}), (.vfmax .guard {}), (.vfdiv .guard {}), (.vfsqrt .guard {}),
    (.vfrcp .guard {}), (.vfrsq .guard {}), (.vfcmp .guard {}), (.vfexp2 .guard {}), (.vflog2 .guard {})] : List Instr).all Instr.wellFormed = true := by decide +kernel

theorem test_well_formed_2 : ([
    (.vhfma .guard {}), (.vbfma .guard {}), (.vdadd .guard {}), (.vdmul .guard {}), (.vdfma .guard {}), (.vddiv .guard {}), (.vdsqrt .guard {}),
    (.vdcmp .guard {}), (.vcvt .guard {}), (.vbfe .guard {}), (.vbfi .guard {}), (.vpopc .guard {}), (.ld .guard {}), (.st .guard {}), (.sld .guard {}),
    (.sst .guard {}), (.ldt .guard {}), (.stt .guard {}), (.atomt .guard {}), (.atom .guard {}), (.lkwait .guard {}), (.unlk .guard {}),
    (.tmma .guard {}), (.tcvt .guard {}), (.tensorStart 0), (.tensorComplete 0), (.pixlock .guard {}), (.pixunlk .guard {}), (.rayq .guard {}),
    (.tileDispatch 0), (.pixelPodLaunch 0 0 0), (.tileWriteOut 0 0), (.nodeReadComplete 0 0), (.nodeLimit 0 0), (.crcFrameCompare 0), (.portUp 0),
    (.portDown 0), (.fabReadReq 0 0 0 0 1), (.fabWrite 0 0 0 0 [none]), (.fabAtomic 0 0 0 0 0 false false [(0, 0)] [])] : List Instr).all Instr.wellFormed = true := by decide +kernel

theorem test_well_formed_3 : ([
    (.fabReadRsp 0 0 [0]), (.fabWriteAck 0 0), (.fabAtomicRsp 0 0 [0]), (.fabRefuse 0 0 0), (.fabAbort 0 0 0 0 0),
    (.thermalSample (List.replicate 24 0)), (.thermalLevelUp 0 0), (.thermalLevelDown 0 0), (.bootImageLoaded 0), (.fecRestart 0 none),
    (.fecException 0 0 0 0 {}), (.fecWatchdogExpiry 0), (.conversionCycle (List.replicate 16 0) (List.replicate 4 0)), (.ovLevelChange 0),
    (.uvLevelChange 0), (.ntcLevelChange 0 false), (.refchkEnd (List.replicate 16 0))] : List Instr).all Instr.wellFormed = true := by decide +kernel

theorem test_pod_refs : PodRef.guard.legal = true ∧ (PodRef.slot 31 47).legal = true ∧ (PodRef.slot 32 0).legal = false ∧ (PodRef.slot 0 48).legal = false := by decide

/-! ### States and tools -/

/-- Every domain ON, no reset held, the root clock locked, the host's link up, the monitor open. -/
def Tests.up : State :=
  let s := State.reset
  let s := { s with ao := { s.ao with rst := { s.ao.rst with held := 0, perst := false } } }
  let s := (List.range 21).foldl (fun s d => if d = 0 then s else s.setDom d 2) s
  ((s.setRegN R.HIF_LINK_STATUS 0x400).setRegN R.DBG_MON_STATUS 0x100).setRegN R.CLK_PP_STATUS 0x20000

/-- Does an outcome have a next state in which something holds? -/
def Tests.next (o : Out) (f : State → Bool) : Bool :=
  match o with
  | .next t => f t
  | _ => false

/-- Did something that can fail succeed? -/
def Tests.ok (x : Except α β × State) : Bool :=
  match x.1 with
  | .ok _ => true
  | .error _ => false

/-- Did it fail, with an error of which something holds? -/
def Tests.err (x : Except ε β × State) (f : ε → Bool) : Bool :=
  match x.1 with
  | .ok _ => false
  | .error e => f e

/-- The other words of a claim about a value that may be absent. -/
def Tests.has (x : Option α) (f : α → Bool) : Bool :=
  match x with
  | some a => f a
  | none => false

/-! ### Instructions of pods: a pod in slot 1 of core 5, or the guard's run, whose next instruction is at PC 0x1000 or 0x100 -/

/-- Operands with which an opcode is legal. -/
def Tests.ins (op : Nat) : Ins :=
  if op = 0x72 || op = 0x73 then { mod := 2 }
  else if op = 0x82 || op = 0x83 then { dst := 0x81 }
  else if op = 0xA0 then { ext := 0x0C0E0E }
  else {}

/-- A pod of context 7. -/
def Tests.pod (pixel : Bool) : Pod :=
  { uid := 9, slot := 1, ctx := 7, pc := 0x1000, pixel := pixel, vregs := 64, tsLen := 4096, frag := List.replicate 32 (0, 0), scal := [(3, 5), (4, 12)] }

/-- The pod stands on core 5, whose instruction cache holds the line of its PC. -/
def Tests.atIns (p : Pod) (op : Nat) (i : Ins) : State :=
  Tests.up.modCore 5 (fun co => { co with
    pods := [p]
    icache := [(7, 0x20, leBytes 8 (insWord op i) ++ leBytes 8 i.ext.toNat ++ List.replicate 112 0)] })

/-- A run of the guard with its code at 0x100. -/
def Tests.atGuard (op : Nat) (i : Ins) : State :=
  { Tests.up.setRegN R.GD_STATUS 3 with gd := { Tests.up.gd with
      pod := some { uid := 0, slot := 0, ctx := 7, pc := 0x100, vregs := 255 }
      hdr := some ⟨0, 1000, 0x100, 0x100, 0x100, 0x200, 0x40, 0, 0, 0⟩
      sram := ({} : Mem).write 0x100 (leBytes 8 (insWord op i) ++ leBytes 8 i.ext.toNat) } }

/-- The hypothesis of the statements about an instruction that issues and executes. -/
def Tests.issues (s : State) (r : PodRef) (op : Nat) (i : Ins) : Bool :=
  match s.pod? r with
  | some p =>
    match s.spelled r p op i with
    | some u => u.pod? r == some p && p.freeFor r op i && p.executes op i && u.lineRoom r op && (u.vrf r).wf
    | none => false
  | none => false

theorem issues_iff (s : State) (r : PodRef) (op : Nat) (i : Ins) (h : Tests.issues s r op i = true) : ∃ p u, IssuesAt s r p op i u ∧ (u.vrf r).wf = true := by
  unfold Tests.issues at h
  split at h
  · rename_i p hp
    split at h
    · rename_i u hu
      simp only [Bool.and_eq_true, beq_iff_eq] at h
      exact ⟨p, u, ⟨hp, hu, h.1.1.1.1, h.1.1.1.2, h.1.1.2, h.1.2⟩, h.2⟩
    · cases h
  · cases h

theorem witness_ScalarResults : (([0x00, 0x01, 0x02, 0x04, 0x05] ++ (List.range 5).map (0x10 + ·) ++ (List.range 16).map (0x20 + ·)).all
    (fun op => Tests.issues (Tests.atIns (Tests.pod false) op (Tests.ins op)) (.slot 5 1) op (Tests.ins op))) = true := by decide +kernel

theorem witness_VectorIntegerResults : (((List.range 16).map (0x30 + ·) ++ (List.range 12).map (0x40 + ·) ++ (List.range 8).map (0x50 + ·) ++ (List.range 4).map (0x60 + ·)).all
    (fun op => Tests.issues (Tests.atIns (Tests.pod false) op (Tests.ins op)) (.slot 5 1) op (Tests.ins op))) = true := by decide +kernel

theorem witness_memory_issues : ([0x70, 0x71, 0x72, 0x73, 0x80, 0x82, 0x83, 0x90, 0x91, 0x92, 0xA0, 0xA1, 0xC0].all
    (fun op => Tests.issues (Tests.atIns (Tests.pod false) op (Tests.ins op)) (.slot 5 1) op (Tests.ins op))) = true := by decide +kernel

theorem witness_PixelInterlock : ([0xB0, 0xB1].all
    (fun op => Tests.issues (Tests.atIns (Tests.pod true) op (Tests.ins op)) (.slot 5 1) op (Tests.ins op))) = true := by decide +kernel

theorem witness_guard_issues : (([0x00, 0x01, 0x04, 0x05, 0x06, 0x10, 0x20, 0x2E, 0x2F, 0x30, 0x3E, 0x40, 0x49, 0x52, 0x57, 0x60, 0x70, 0x71, 0x72, 0x73, 0x80, 0x82, 0x83, 0xA0]).all
    (fun op => Tests.issues (Tests.atGuard op (Tests.ins op)) .guard op (Tests.ins op))) = true := by decide +kernel

/-! ### Values that the spec works out -/

/-- The ASCII bytes "123456789". -/
def Tests.nine : List Byte := ascii "123456789"

/-- 14 Table MOV-8, 18 R455: the check values of the CRCs. -/
theorem test_crc_checks : crcOf (crcPoly 0) Tests.nine = 0xE3069283 ∧ crcOf (crcPoly 1) Tests.nine = 0xCBF43926 ∧ crcOf (crcPoly 2) Tests.nine = 0x29B1 ∧
    crcOf (crcPoly 3) Tests.nine = 0x6C40DF5F0B497347 ∧ psdCrc Tests.nine = 0xDF := by decide +kernel

/-- 10, worked case, step 1: VCVT v20, v12 from FP32 to E4M3 with DIST 3, INC 7, WAIT 0 and MOD 2. -/
theorem test_vcvt_word : insWord 0x60 { dst := 20, src0 := 12, src1 := 0, src2 := 4, mod := 2, dist := 3, inc := 7 } = 0x3701800204000C14 := by decide

/-- 10 Table NUM-11: what VCVT makes of its five lanes, without and with SAT. -/
theorem test_vcvt_lanes :
    ([0x3E99999A, 0x43FA0000, 0x3A800000, 0x3B400000, 0x43E60000].map (fun w => (convertLane 0 4 0 false false 0 w).1.w)) = [0x2A, 0x7F, 0x00, 0x02, 0x7E] ∧
    ([0x3E99999A, 0x43FA0000, 0x3A800000, 0x3B400000, 0x43E60000].map (fun w => (convertLane 0 4 0 false false 0 w).1.fl)) = [0x10, 0x14, 0x18, 0x18, 0x10] ∧
    ([0x3E99999A, 0x43FA0000, 0x3A800000, 0x3B400000, 0x43E60000].map (fun w => (convertLane 0 4 0 false true 0 w).1.w)) = [0x2A, 0x7E, 0x00, 0x02, 0x7E] := by
  decide +kernel

/-- 10, corner cases: FMA(M, 2, -M) returns M with no flag. -/
theorem test_fma_exact : (fp32.fma 0 false 0x7F7FFFFF 0x40000000 0xFF7FFFFF).w = 0x7F7FFFFF ∧ (fp32.fma 0 false 0x7F7FFFFF 0x40000000 0xFF7FFFFF).fl = 0 := by decide +kernel

/-- 01, worked case (Ruwen-2HF) and 20, worked case (Ruwen-1H): GLB_VARIANT, the memory size and the stack of an address. -/
theorem test_glb : let s := { State.reset with fuses := { variant := 3 } }
    s.rdGlb R.GLB_VARIANT = some 0x140333 ∧ s.rdGlb R.GLB_MEM_SIZE_HI = some 8 ∧ s.rdGlb R.GLB_MEM_SIZE_LO = some 0 ∧
    s.stackOf 0x123456789 = 0 ∧ s.stackOff 0x123456789 = 0x91A2B789 ∧ s.stackOf 0x123457000 = 1 ∧ s.stackOff 0x123457000 = 0x91A2B000 ∧
    { State.reset with fuses := { variant := 1 } }.rdGlb R.GLB_VARIANT = some 0xE0211 := by decide +kernel

/-- 18, worked case: codes of 3.41 V, TIER1 and TIER2. -/
theorem test_pack_codes : vCode 341 = 44696 ∧ ({} : PsdDie).tierCode 1 = 45875 ∧ ({} : PsdDie).tierCode 2 = 43254 := by decide

/-- 18, worked case, steps 8 to 11: a WRITE of index 2 that a reference check held is answered with RESULT 0x80, index 2 and value 0x00AA. -/
theorem test_pack_ack : ((({} : PsdDie).command (psdSeal ([0x5A, 0x10, 0, 2] ++ leBytes 2 0xAA ++ [0])) true).acks = [psdSeal ([0xA5, 2, 0, 0x80, 2] ++ leBytes 2 0xAA)]) ∧
    (({} : PsdDie).command (psdSeal ([0x5A, 0x10, 0, 2] ++ leBytes 2 0xAA ++ [0])) true).next = 1 := by decide +kernel

/-- 18, worked case: straps 0b0101 are six cells, and PSD_POR leaves the die settling for 13 cycles in tier 3. -/
theorem test_pack_por : Tests.next (exec (.psdPor 5) { State.reset with ao := { State.reset.ao with die := { powered := false } } })
    (fun t => t.ao.die.cells == 6 && t.ao.die.settling && t.ao.die.left == 13 && t.ao.die.tier == 3 && t.ao.die.log.head? == some ⟨1, 0, 0⟩) = true := by decide +kernel

/-- 20, worked case: ID of a Ruwen-1H with serial number 0x0000A3C100572E9D, the monitor locked. -/
theorem test_mon_id :
    let s := { State.reset with fuses := { variant := 1, serial := 0xA3C100572E9D }, ao := { State.reset.ao with mon := { cmd := some .id } } }.setRegN R.DBG_MON_STATUS 0x101
    Tests.next (exec .monId s) (fun t => t.ao.mon.tx == ascii "ZENOLO RUWEN 1.0 VARIANT 1 SERIAL 0000A3C1 00572E9D LOCKED" ++ CRLF ++ ascii "OK" ++ CRLF ++ ascii "> ") = true := by
  decide +kernel

/-- 20, worked case: RD of GLB_VARIANT is answered; RD of CORE_STATUS while the reset is held is answered with RESET. -/
theorem test_mon_rd :
    let s := fun (off : Nat) => { State.reset with fuses := { variant := 1 }, ao := { State.reset.ao with mon := { cmd := some (.rd off 1) } } }
    Tests.next (exec .monRd (s 4)) (fun t => t.ao.mon.tx == ascii "000E0211" ++ CRLF ++ ascii "OK" ++ CRLF ++ ascii "> ") = true ∧
    Tests.next (exec .monRd (s 0x70004)) (fun t => t.ao.mon.tx == ascii "ER 05 RESET" ++ CRLF ++ ascii "> ") = true := by decide +kernel

/-- 20, worked case: the line of a RESET_STUCK entry. -/
theorem test_mon_log : logLine 0 ⟨61200, 0x10, 0, 60000⟩ = ascii "00 0000EF10 10 00 00000000 0000EA60" := by decide +kernel

/-- 20 R479: the monitor's lines, in any case and with spaces. -/
theorem test_mon_lines : parseLine (ascii "  wr 000d0000   00000202 ") = .ok (.wr 0xD0000 0x202) ∧ parseLine (ascii "RD 70004") = .ok (.rd 0x70004 1) ∧
    parseLine (ascii "CHAL 2") = .error E.RANGE ∧ parseLine (ascii "RDX") = .error E.SYNTAX ∧ parseLine (ascii "BAUD 921600") = .ok (.baud 3) := by
  refine ⟨?_, ?_, ?_, ?_, ?_⟩ <;> rfl

/-- 16, worked case, steps 1 to 3: the 32nd sample at THROTTLE or above makes LEVEL due, and its change sets UP and counts. -/
theorem test_throttle :
    let s := { Tests.up.setRegN (R.THM_STAT + 12) 1 with ao := { Tests.up.ao with pwr := { Tests.up.ao.pwr with dwell := [(13, 31)], seen := [3] } } }
    let t := (s.setRegN (R.THM_TEMP + 12) 840).sample 3 840
    s.levelDue 3 1 = false ∧ t.levelDue 3 1 = true ∧
    Tests.next (exec (.thermalLevelUp 3 1) t) (fun u => u.reg (R.THM_STAT + 12) == 0x203 && u.reg (R.THM_XCOUNT_WARN + 4) == 1) = true := by decide +kernel

/-- 17, worked case, steps 1 and 2: an interrupt of FEC1 with SP at the lowest data RAM address saves EPC, and the push halts the core with reason 1. -/
theorem test_fec_stack_fault :
    let s := Tests.up.setRegN (R.RST_FEC_STATUS + 4) 3
    Tests.next (exec (.fecException 1 0x4A10 0 0x100000 { push := some 8 }) s) (fun t =>
      t.reg (R.RST_FEC_STATUS + 4) == 0x104 && (t.fec 1).epc == 0x4A10 && (t.fec 1).exc) = true := by decide +kernel

/-- FIPS 180-4: SHA-384 of "abc" begins with CB00753F and ends with 34C825A7 (17 R430 names the hash). -/
theorem test_sha384 : (sha384 (ascii "abc")).take 4 = [0xCB, 0x00, 0x75, 0x3F] ∧ (sha384 (ascii "abc")).drop 44 = [0x34, 0xC8, 0x25, 0xA7] := by decide +kernel

/-! ### Witnesses: states and operands that meet the hypotheses of the statements -/

theorem witness_StepRunsFront : { Tests.up with pending := [.guardClkLoss, .portUp 0] }.pending = .guardClkLoss :: [.portUp 0] := rfl

theorem witness_IdleStep : State.reset.pending = [] ∧ State.reset.aoRuns = true ∧ { Tests.up with ao := { Tests.up.ao with pwr := { refLost := true } } }.aoRuns = false := by
  decide +kernel

theorem witness_StepKeepsInvariant : Tests.up.regsWf = true ∧ Tests.next (step { Tests.up with pending := [.perfRun .fec0 true] }) (fun t => t.regsWf && t.bit R.DBG_PCTRL 0) = true := by
  decide +kernel

theorem witness_MemoryWrites : (({} : Mem).write 10 [1, 0, 3]).wf = true := by decide

theorem witness_PlainRegisterWrite : Tests.up.direct .fec1 = true ∧ storeWf regPlain (Tests.up.arriving .fec1).regs = true ∧ rk R.GX_CTRL 0 ≠ R.GLB_ACCESS_VIOL_COUNT ∧
    Tests.has (Tests.up.rowAt R.GX_CTRL) (fun r => Tests.up.copyOf .fec1 r == some 0 && Tests.up.regOpen R.GX_CTRL 0 && r.writable != 0 && plainAt r R.GX_CTRL) = true ∧
    (Tests.up.setDom D.HM 0).hostReach = false ∧
    (let u := { Tests.up with hs := { Tests.up.hs with lane := [.reg R.GX_CTRL 1 true] } }
     u.hostReach = true ∧ u.direct .host = false) ∧
    (Tests.up.setRegN R.DBG_MON_STATUS 1).bit R.DBG_MON_STATUS 0 = true ∧
    ([Req.fec0, .fec1, .monitor].all (fun req =>
      let u := { Tests.up with mmu := { Tests.up.mmu with held := [⟨req.num, R.MMU_BCAST, 7, true⟩] } }
      !u.direct req && !u.bit R.DBG_MON_STATUS 0)) = true := by decide +kernel

theorem witness_DiscardedWrites : Tests.up.direct .host = true ∧ (Tests.up.arriving .host).rowAt 0xFFF0 = none ∧
    Tests.has (Tests.up.rowAt R.GLB_ID) (fun r => Tests.up.copyOf .host r == some 0 && Tests.up.regOpen R.GLB_ID 0 && r.writable == 0) = true ∧
    Tests.has ((Tests.up.setRegN (rk R.CORE_CHSEL 0) 40).rowAt R.CORE_STATUS) (fun r => (Tests.up.setRegN (rk R.CORE_CHSEL 0) 40).copyOf .host r == none) = true ∧
    Tests.has (Tests.up.rowAt R.GD_CTRL) (fun r => Tests.up.copyOf .fec0 r == some 0 && !(Tests.up.setDom D.GD 0).regOpen R.GD_CTRL 0 && (Tests.up.setDom D.GD 0).direct .fec0) = true := by
  decide +kernel

theorem witness_PairStaging : Tests.up.reaches .host R.HIF_MWIN_BASE_LO 0 0xF0000000 = true ∧ Tests.up.reaches .host R.HIF_MWIN_BASE_HI 0 0x3 = true ∧
    storeWf regPlain Tests.up.regs = true ∧ storeWf (fun _ _ => false) Tests.up.stage = true := by decide +kernel

theorem witness_LockedMonitorWrites : State.reset.bit R.DBG_MON_STATUS 0 = true := by decide +kernel

/-- An aperture at 0x10000 of 64 KiB, enabled for context 7. -/
def Tests.ap (ctrl : Nat) : State :=
  ((Tests.up.setRegN R.HIF_AP_BASE 0x10000).setRegN R.HIF_AP_SIZE 0x10000).setRegN R.HIF_AP_CTRL ctrl

theorem witness_Apertures :
    (let u := Tests.ap 0
     u.reaches .host R.HIF_AP_CTRL 0 0x701 = true ∧ u.apOn 0 = false ∧ u.apBase 0 = 0x10000 ∧ u.apSize 0 = 0x10000 ∧ (∀ o, o < 16 → o ≠ 0 → u.apOn o = false)) ∧
    (let u := Tests.ap 0x701
     u.apOn 0 = true ∧ u.reaches .fec0 R.HIF_AP_CTRL 0 0x711 = true ∧ (0x711 ^^^ u.reg R.HIF_AP_CTRL) &&& 0xFF22 = 0 ∧ (0x311 ^^^ u.reg R.HIF_AP_CTRL) &&& 0xFF22 ≠ 0 ∧
     u.reaches .fec0 R.HIF_AP_CTRL 0 0x70D = true ∧ Tests.next (exec (.apCtrlUpdate .fec0 0x30D) u) (fun t => t.bit R.HIF_AP_STATUS 1 && t.apAction 0 == 0 && t.reg R.GLB_ACCESS_VIOL_COUNT == 1) = true ∧
     Tests.next (exec (.apEnable .host 0x70D) (Tests.ap 0)) (fun t => t.bit R.HIF_AP_STATUS 1 && !t.apOn 0) = true ∧
     u.reaches .fec0 R.HIF_AP_CTRL 0 0x700 = true ∧ u.reaches .host R.HIF_AP_CONSUMED_HI 0 1 = true ∧ u.reaches .host R.HIF_AP_WM_HI 0 0xFFFF = true) ∧
    (let u := (Tests.ap 0x701).setPair R.HIF_AP_WM_LO 1
     u.bit R.HIF_AP_WM_STAT 0 = false ∧ u.pair R.HIF_AP_WM_LO = 1 ∧ u.pair R.HIF_AP_ARRIVED_LO = 0) ∧
    (Tests.ap 0x701).apAction 0 = 0 ∧ (Tests.ap 0x705).apAction 0 = 1 ∧ (Tests.ap 0x709).apAction 0 = 2 ∧ (Tests.ap 0x711).apIrq 0 = true := by decide +kernel

theorem witness_MemoryLaneArrivals :
    (let u := Tests.ap 0x701
     u.bar2Reach = true ∧ u.apHolds 0 0x10000 = true ∧ u.apHolds 0 0x1FFFF = true ∧ u.apHolds 0 0x20000 = false ∧ u.apHolds 0 0xFFFF = false ∧ u.apOn 0 = true ∧ u.apGuard 0 = false ∧
     u.lost (u.apCtx 0) = false ∧ u.apRidCheck 0 = false ∧ Tests.next (exec (.apWrite 0x1FFFF 5 [some 1]) u) (fun t => t.hs.lane.length == 1 || t.hs.lane.isEmpty) = true) ∧
    (∀ k, k < 16 → Tests.up.apHolds k 0x30000 = false) ∧ Tests.up.regWaits = false ∧ (Tests.ap 0x703).apGuard 0 = true ∧ (Tests.ap 0x700).apOn 0 = false ∧
    (∀ k, k < 16 → (Tests.ap 0x700).apOn k = false) ∧ (Tests.ap 0x700).apHolds 0 0x10000 = true ∧
    Tests.next (exec (.apWrite 0x10000 5 [some 1]) (Tests.ap 0x700)) (fun t => t.reg R.HIF_AP_DROP_COUNT == 1) = true ∧
    Tests.next (exec (.apWrite 0x30000 5 [some 1]) Tests.up) (fun t => t.reg R.HIF_BAR2_VIOL_COUNT == 1) = true ∧
    -- barred: a fault of the aperture, another Requester ID, GD not ON, a lost context
    ([(Tests.ap 0x701).setRegN R.HIF_AP_STATUS 1, (Tests.ap 0x721).setRegN R.HIF_AP_RID 6, (Tests.ap 0x703).setDom D.GD 0, (Tests.ap 0x701).setRegN R.QM_CTX_LOST 0x80].all (fun u =>
      Tests.next (exec (.apWrite 0x10000 5 [some 1]) u) (fun t => t.reg R.HIF_AP_DROP_COUNT == 1 && t.hs.lane.isEmpty))) = true ∧
    (let u := (Tests.ap 0x703).setPair R.HIF_AP_VA_LO 0x4000
     u.apVa 0 = 0x4000 ∧ Tests.next (exec (.apWrite 0x10000 5 [some 9]) u) (fun t => t.gd.sram.get 0x4000 == 9) = true) ∧
    -- behind a waiting write of a register
    (let w := fun (u : State) => { u with hs := { u.hs with lane := [.reg R.GX_CTRL 1 true] } }
     (w (Tests.ap 0x701)).regWaits = true ∧ (w (Tests.ap 0x701)).bar2Reach = true ∧
     Tests.next (exec (.apWrite 0x10000 5 [some 1]) (w (Tests.ap 0x701))) (fun t => t.hs.lane.length != 0 || t.reg R.GX_CTRL == 1) = true ∧
     Tests.next (exec (.apWrite 0x10000 5 [some 1]) (w ((Tests.ap 0x703).setDom D.GD 0))) (fun t => t.reg R.HIF_AP_DROP_COUNT == 1) = true) ∧
    Tests.next (exec (.bar2Read 0xEFFFFFFF 1) Tests.up) (fun t => t.reg R.HIF_BAR2_VIOL_COUNT == 1 && t.hs.cpl == [0]) = true ∧
    Tests.next (exec (.mwinRead 0xFFFFFFF 1) Tests.up) (fun _ => true) = true ∧ Tests.next (exec (.mwinWrite 0 [none, some 1]) Tests.up) (fun _ => true) = true := by decide +kernel

theorem witness_HostLink :
    (let u := ((Tests.up.setRegN R.GLB_STACK_STATUS 0xFF).setRegN R.GLB_LINK_STATUS 5)
     (∀ k, k < 6 → u.linkOn k = true) ∧ Tests.next (exec (.linkLost 5) { u with ms := { u.ms with retries := [0, 0, 0, 0, 32, 32] } }) (fun t => t.bit R.GLB_LINK_STATUS 3) = true ∧
     Tests.next (exec (.linkLost 4) { u with ms := { u.ms with retries := [0, 0, 0, 0, 32, 32] } }) (fun t => t.bit R.GLB_LINK_STATUS 1) = true) ∧
    ([(Tests.up.setRegN R.GLB_STACK_STATUS 0xFF).setRegN R.GLB_LINK_STATUS 5].all (fun u =>
      Tests.next (exec (.flitRetry 5 false) u) (fun t => t.reg (R.GLB_D2D_RETRY_COUNT + 20) == 1) && Tests.next (exec (.linkLost 0) { u with ms := { u.ms with retries := [32, 0, 0, 0, 0, 0] } }) (fun t =>
        t.bit R.GLB_STACK_STATUS 12))) = true ∧
    Tests.up.dlUp = true ∧ Tests.up.dom D.HM = 2 ∧
    ([false, true].all (fun b => Tests.next (exec (.dStateChange b b) Tests.up) (fun t => t.hs.d3hot == b) && Tests.next (exec (.dStateChange b (!b)) Tests.up) (fun t => !t.hs.d3hot)) = true) ∧
    (let u := Tests.up.setRegN R.HIF_LINK_STATUS 0x600
     let u := { u with hs := { u.hs with waiting := [{ addr := 0x1000, data := [1], marker := false, tags := [] }], advH := 64, advD := 256 } }
     u.field R.HIF_LINK_STATUS 9 8 = 2 ∧ Tests.next (exec .l1Exit u) (fun t => t.field R.HIF_LINK_STATUS 9 8 == 0) = true ∧
     Tests.next (exec (.hostCreditReturn 64 256) u) (fun t => t.hs.credH == 64 && t.hs.credD == 256) = true) ∧
    (let u := Tests.up.setRegN R.HIF_LINK_STATUS 0
     u.dlUp = false ∧ u.ao.rst.held ≠ 2 ∧ u.ao.pwr.aoOff = false ∧
     Tests.next (exec (.linkUp 5 4 15 64) u) (fun t => t.dlUp && t.reg R.HIF_OUT_RESERVE == 0x2007 && t.hs.credD == 64) = true ∧
     Tests.next (exec (.linkUp 1 1 16 64) u) (fun t => t.reg R.HIF_OUT_RESERVE == 0x2008) = true) := by decide +kernel

theorem witness_Invalidation :
    (let u := (Tests.up.setPair (rk R.MMU_INV_VA_LO 1) 0x1000).setPair (rk R.MMU_INV_LEN_LO 1) (2 ^ 48 - 0x1000)
     u.reaches .fec0 R.MMU_INV_CTRL 0 1 = true ∧ u.bit R.MMU_INV_STATUS 0 = false ∧ u.pair (rk R.MMU_INV_VA_LO 1) + u.pair (rk R.MMU_INV_LEN_LO 1) = 2 ^ 48 ∧
     u.pair (rk R.MMU_INV_LEN_LO 1) % 4096 = 0 ∧ Tests.up.pair (rk R.MMU_INV_LEN_LO 1) = 0) ∧
    (let u := Tests.up.setRegN R.MMU_INV_STATUS 1
     u.bit R.MMU_INV_STATUS 0 = true ∧ u.acked 57 = false ∧ u.invHeld 0 57 = false ∧ Tests.next (exec (.holderInvAck 57) u) (fun t => t.acked 57) = true ∧
     (u.setRegN R.MMU_INV_ACK_LO 0xFFFFFFFF).reg R.MMU_INV_ACK_LO = 0xFFFFFFFF ∧ u.reg R.MMU_INV_ACK_HI ≠ 0xFFFFFFFF) ∧
    Tests.up.reaches .host R.MMU_BCAST 0 0x1FF = true ∧ Tests.up.mmu.serving = none ∧
    Tests.next (exec .bcastServe { Tests.up with mmu := { Tests.up.mmu with bcast := [7, 256] } }) (fun t => t.mmu.serving == some 7 && t.mmu.bcast == [256]) = true ∧
    (let u := { Tests.up with mmu := { Tests.up.mmu with bcast := List.replicate 32 256 } }
     32 ≤ u.mmu.bcast.length ∧ u.reaches .fec1 R.MMU_BCAST 0 7 = true) ∧
    (let u := { Tests.up with mmu := { Tests.up.mmu with serving := some 256 } }
     (∀ h, h < 58 → u.invHeld 1 h = false) ∧ Tests.next (exec .bcastDone u) (fun t => t.mmu.serving == none && t.reg R.MMU_BCAST_DONE == 1) = true) := by decide +kernel


/-- Context 7 admitted in partition 0, its first 2 MiB of virtual addresses mapped to the local memory's first 2 MiB. -/
def Tests.mapped : State :=
  { Tests.up with
    mmu := { Tests.up.mmu with tlbs := List.replicate 64 [⟨7, 0, 2 ^ 21, 0, 0, 2 ^ 21, .loc, 0, 0, true, true, true⟩] }
    qm := { Tests.up.qm with adm := [(7, { part := 0, regKib := 64, tsKib := 64, pods := 8, slots := List.range 8 })] } }

/-- n bytes with the fields (offset, size, value) in them. -/
def Tests.bytes (n : Nat) (fs : List (Nat × Nat × Nat)) : List Byte :=
  (List.range n).map (fun i => match fs.find? (fun f => f.1 ≤ i && i < f.1 + f.2.1) with
    | some f => BitVec.ofNat 8 (f.2.2 / 256 ^ (i - f.1))
    | none => 0)

/-- Bytes in the local memory. -/
def Tests.put (s : State) (a : Nat) (b : List Byte) : State := { s with ms := { s.ms with dram := s.ms.dram.write a b } }

/-- A queue as changed. -/
def Tests.q (s : State) (q : Nat) (f : Queue → Queue) : State := s.modQueue q (fun u => f { u with st := .enabled, log2 := 4 })

theorem witness_WalksAndLineRequestsEnd :
    (let u := fun h redo => { Tests.up with mmu := { Tests.up.mmu with walks := [{ holder := h, ctx := 7, va := 0x2000, redo := redo }] } }
     (∀ h ∈ [0, 31, 54, 38, 53], ∀ redo ∈ [0, 1, 4], ((u h redo).mmu.walks.zipIdx.filter (fun x => x.1.active))[0]? = some (⟨h, 7, 0x2000, redo⟩, 0)) ∧
     (∀ h ∈ [0, 31, 54, 38, 53], ∀ redo ∈ [0, 1, 4], Tests.next (exec (.walkComplete 0) (u h redo)) (fun _ => true) = true)) ∧
    (let l : LineReq := { id := 3, op := 1, uid := 0, ctx := 7, pkt := none, va := 0x100, size := 4, lanes := [(0, 0)], kind := .load, x := some ⟨.loc, 0x100, 0, 0, 0⟩ }
     let u := Tests.mapped.modCore 2 (fun c => { c with lines := [l], pods := [{ uid := 0, slot := 0, ctx := 7, pc := 0 }], ops := [{ id := 1, uid := 0, slot := 0, sb := none, kind := .mem 4 4 false false true, pend := [], left := 1 }] })
     (u.core 2).lines.find? (·.id == 3) = some l ∧ l.asks = [] ∧ (u.core 2).lines.takeWhile (·.id ≠ 3) = [] ∧ Tests.ok (u.linePerform 2 l ⟨.loc, 0x100, 0, 0, 0⟩) = true ∧
     u.lineWaits 2 l = false ∧ u.rootLock = true ∧ Tests.err ((u.setDom (D.MEM) 0).linePerform 2 l ⟨.loc, 0x100, 0, 0, 0⟩) (fun e => e.cause != C.HOST_WAIT) = true ∧
     Tests.next (exec (.lineRequestComplete 2 3 [] [] [] []) u) (fun t => (t.core 2).lines.isEmpty && (t.core 2).ops.isEmpty) = true ∧
     Tests.next (exec (.lineRequestComplete 2 3 [] [] [] []) (u.setDom D.MEM 0)) (fun t => (t.core 2).lines.isEmpty) = true ∧
     Tests.next (exec (.lineRequestComplete 2 3 [] [] [] []) (u.modCore 2 (fun c => { c with ops := [] }))) (fun t => (t.core 2).lines.isEmpty) = true) := by decide +kernel

theorem witness_QueueRegisters :
    Tests.up.reaches .fec0 (R.QDB_TAIL + 0x1000 * 52) 0 5 = true ∧ (Tests.up.queue 52).st = .disabled ∧
    ([0, 16, 17, 0xFFFFFFFF].all (fun t => (Tests.q Tests.up 52 id).reaches .host (R.QDB_TAIL + 0x1000 * 52) 0 t) = true) ∧
    Tests.next (exec (.queueDoorbell .host 52 16) (Tests.q Tests.up 52 id)) (fun t => (t.queue 52).submit == 16 && t.reg (R.QDB_STATUS + 0x1000 * 52) == 0) = true ∧
    Tests.next (exec (.queueDoorbell .host 52 17) (Tests.q Tests.up 52 id)) (fun t => (t.queue 52).submit == 0 && t.reg (R.QDB_STATUS + 0x1000 * 52) == 1) = true ∧
    Tests.up.reaches .fec1 R.QM_Q_CTRL 0 1 = true ∧ Tests.ok (Tests.up.readLoc 0 64) = true ∧ qdescBad 0 (List.replicate 64 0) = true ∧
    qdescBad 0 (Tests.bytes 64 [(0, 8, 0x10000), (8, 1, 8), (0x10, 8, 0x2000)]) = false ∧
    Tests.ok ((Tests.up.setDom D.MEM 0).readLoc 0 64) = false ∧
    Tests.up.reaches .fec1 R.QM_Q_CTRL 0 0 = true ∧ Tests.up.reaches .fec1 R.QM_Q_CTRL 0 2 = true ∧ Tests.up.reaches .fec1 R.QM_Q_CTRL 0 3 = true ∧
    ((Tests.up.modQueue 3 (fun q => { q with st := .guilty })).queue 3).st = .guilty ∧ Tests.up.reaches .host (R.QM_CTX_LOST + 28) 0 0x80000001 = true := by
  decide +kernel

theorem witness_GraphLaunches :
    (let u := Tests.put (Tests.mapped.setRegN R.GX_CTRL 1) 32 (Tests.bytes 32 [(0, 8, 0x200), (8, 4, 0x1007), (16, 8, 4)])
     Tests.up.reaches .host (R.GDB_LAUNCH_HI + 0x7000) 0 0x10000 = true ∧ Tests.up.reaches .fec0 R.PT_P_RING_PUSH_HI 0 7 = true ∧
     Tests.mapped.bit R.GX_CTRL 0 = false ∧ u.bit R.GX_CTRL 0 = true ∧ (u.launchReq 7 0x0001 64).qm.fifo.length = 1 ∧
     (u.launchReq 7 0x1001 64).reg R.GX_LAST_REFUSE = 0x10010702 ∧ (u.launchReq 8 1 64).reg R.GX_LAST_REFUSE = 0x10802 ∧
     (u.launchReq 7 1 65).reg R.GX_LAST_REFUSE = 0x10704 ∧ ({ u with qm := { u.qm with adm := [] } }.launchReq 7 1 64).reg R.GX_LAST_REFUSE = 0x10703 ∧
     ({ u with qm := { u.qm with fifo := List.replicate 256 ⟨7, 1, 64, 0, 0⟩ } }.launchReq 7 1 64).reg R.GX_LAST_REFUSE = 0x10701) ∧
    (let g := Tests.put (Tests.put Tests.mapped 0x400 (Tests.bytes 80 [(0, 4, 0x47524831), (4, 2, 1), (6, 1, 1), (7, 1, 2), (8, 1, 3), (12, 4, 16), (0x40, 8, 0x800), (0x48, 4, 2), (0x4C, 1, 64)]))
       0x300 (Tests.bytes 16 [(8, 4, 1)])
     let u := { g with qm := { g.qm with fifo := [⟨7, 1, 0x300, 0x400, 5⟩] } }
     Tests.ok (u.vread ⟨57, 72, 7, none, none⟩ 0x300 16) = true ∧
     Tests.next (exec .launchSlot u) (fun t => t.qm.slots.map (fun k => (k.strands, k.sems, k.left, k.irq)) == [([⟨0x800, 2, 64, 2⟩], [0, 0, 0], 2, true)]) = true) ∧
    (let u := fun (h : Bool) => { Tests.mapped with qm := { Tests.mapped.qm with slots := [{ id := 4, l := ⟨7, 1, 0x300, 0x400, 5⟩, strands := [⟨0x800, 2, 64, 2⟩], held := h }] } }
     let full := (u false).modQueue (Strand.queue ⟨0x800, 2, 64, 2⟩) (fun q => { q with feed := List.replicate 32 (.strand 4 0 0) })
     ((u false).queue (Strand.queue ⟨0x800, 2, 64, 2⟩)).strandsHeld = 0 ∧ (full.queue (Strand.queue ⟨0x800, 2, 64, 2⟩)).strandsHeld = 32 ∧
     Tests.next (exec .strandPost (u false)) (fun t => t.qm.slots.all (·.posted)) = true ∧ Tests.next (exec .strandPost full) (fun t => t.reg R.GX_HOLD_COUNT == 1) = true) ∧
    (let u := { Tests.mapped with qm := { Tests.mapped.qm with fifo := [⟨7, 1, 0x300, 0x400, 5⟩] } }
     Tests.next (exec .launchSlot u) (fun t => t.lost 7) = true) := by
  decide +kernel

theorem witness_PacketFetches :
    (let u := Tests.put (Tests.q Tests.mapped 5 (fun q => { q with ring := 0x400, feed := [.ring 3] })) 0x400 (Tests.bytes 64 [(0, 1, 1), (2, 1, 7)])
     (u.queue 5).st = .enabled ∧ (u.queue 5).closing = false ∧ ((u.queue 5).pkts.filter (fun p => !p.started)).length < 4 ∧ (u.queue 5).pkts.all (fun p => !p.timedOut) = true ∧
     Tests.ok (u.ringRead (u.queue 5) 1) = true ∧ Tests.next (exec (.packetFetch 5) u) (fun t => ((t.queue 5).pkts.map (fun p => (p.src, p.ctx, p.pkt.op)) == [(.ring 1, 7, 1)]) && (t.queue 5).feed == [.ring 2]) = true) ∧
    (let sl : Slot := { id := 4, l := ⟨7, 1, 0x300, 0x400, 5⟩, strands := [⟨0x400, 2, 64, 2⟩], posted := true }
     let u := { Tests.q Tests.mapped 5 (fun q => { q with feed := [.strand 4 0 1] }) with qm := { (Tests.q Tests.mapped 5 (fun q => { q with feed := [.strand 4 0 1] })).qm with slots := [sl] } }
     u.slot? 4 = some sl ∧ Tests.ok (u.strandRead sl 0 1) = true ∧
     Tests.next (exec (.packetFetch 5) u) (fun t => ((t.queue 5).pkts.map (fun p => (p.src, p.ctx)) == [(.strand 4 0 1, 7)]) && (t.queue 5).feed.isEmpty) = true) := by
  decide +kernel

/-- Partition 0 owns every cluster and copy engine; a packet stands in a queue. -/
def Tests.pkt (q : Nat) (p : QPkt) : State :=
  let s := (Tests.mapped.setRegN R.PT_P_CLUSTERS 0xFF).setRegN R.PT_P_CE 0xF
  let s := { s with pt := { s.pt with parts := s.pt.parts.set 0 .active } }
  Tests.q { s with qm := { s.qm with nextId := 20, slots := [{ id := 4, l := ⟨7, 1, 0x300, 0x400, 5⟩, sems := [9, 0], left := 2, posted := true }] } } q (fun u => { u with pkts := [p] })

/-- A packet of context 7 with an opcode and operands. -/
def Tests.op (op a0 a1 a2 : Nat) : QPkt := { id := 11, src := .ring 1, ctx := 7, pkt := { op := op, ctx := 7, a0 := a0, a1 := a1, a2 := a2 } }

theorem witness_PacketsStartAndComplete :
    (Tests.pkt 5 (Tests.op 0 0 0 0)).engineOn 5 = true ∧ Tests.has ((Tests.pkt 5 (Tests.op 0 0 0 0)).start 5 0) (fun _ => true) = true ∧
    (let p : QPkt := { Tests.op 5 1 0 0 with src := .strand 4 0 0 }
     Tests.has ((Tests.pkt 36 p).start 36 5) (fun _ => true) = true ∧ (Tests.pkt 36 p).engineOn 36 = true) ∧
    (let p : QPkt := { Tests.op 4 1 3 0 with src := .strand 4 0 0 }
     Tests.has ((Tests.pkt 5 p).start 5 4) (fun x => x.1.src == .strand 4 0 0) = true) ∧
    (let u := Tests.pkt 5 (Tests.op 1 0 0 0)
     u.startable 5 = some (Tests.op 1 0 0 0) ∧ u.executing 5 = 0 ∧ u.selfTest 5 = false ∧ (u.candidates 5).head? = some 5) ∧
    (let p : QPkt := { Tests.op 0 0 0 0 with fin := some 0, pkt := { op := 0, ctx := 7, signal := true, sigVA := 0x100, sigVal := 3 } }
     Tests.ok ((Tests.pkt 5 p).fenceSignal (fenceWho 5 p) 0x100 3) = true ∧ Tests.ok (((Tests.pkt 5 p).setDom D.MEM 0).fenceSignal (fenceWho 5 p) 0x100 3) = false ∧
     Tests.next (exec (.packetComplete 5) (Tests.pkt 5 p)) (fun t => (t.queue 5).done == 1 && (t.queue 5).pkts.isEmpty) = true ∧
     Tests.next (exec (.packetComplete 5) (Tests.pkt 5 { p with fin := some 0x80 })) (fun t => (t.queue 5).lastErr == 0x180) = true ∧
     Tests.next (exec (.packetComplete 5) (Tests.pkt 5 { p with signalled := true })) (fun t => (t.queue 5).done == 1) = true ∧
     Tests.next (exec (.packetComplete 5) ((Tests.pkt 5 p).setDom D.MEM 0)) (fun t => t.lost 7) = true) ∧
    (let p : QPkt := { Tests.op 1 0 0 0 with pkt := { op := 1, ctx := 7, wait := true, waitVA := 0x100, waitTgt := 5 } }
     (((Tests.pkt 5 p).queue 5).oldest.map (·.1)) = some p ∧ ((Tests.pkt 5 p).queue 5).st ≠ .guilty ∧
     ([4, 5, 2 ^ 63 + 5].all (fun v => Tests.ok ((Tests.put (Tests.pkt 5 p) 0x100 (leBytes 8 v)).fenceRead (fenceWho 5 p) 0x100) &&
       Tests.next (exec (.fencePoll 5) (Tests.put (Tests.pkt 5 p) 0x100 (leBytes 8 v))) (fun t => (t.queue 5).pkts.any (·.ready) == (v == 5))) = true)) := by
  decide +kernel

/-- A kernel descriptor at 0x400: pods per workgroup and argument words. -/
def Tests.kern (pods args : Nat) : List Byte :=
  Tests.bytes 64 [(0, 4, 0x4B445331), (4, 2, 1), (6, 1, pods), (7, 1, args), (8, 8, 0x1000), (0x10, 8, 0x1800), (0x18, 2, 16), (0x1A, 2, 4)]

/-- A running DISPATCH of 2 workgroups of 2 pods on cluster 1. -/
def Tests.disp : Disp :=
  { pkt := 11, ctx := 7, cluster := 1, pods := 2, args := [], code := 0x1000, trapVA := 0x1800, vregs := 16, shared := 4, fp := 0, view := 0, nx := 2, ny := 1, nz := 1, argVA := 0 }

theorem witness_KernelsAndPods :
    (let p := Tests.op 1 0x400 0x100010002 0x800
     let u := Tests.pkt 5 p
     let g := Tests.put u 0x400 (Tests.kern 2 3)
     Tests.has (g.start 5 1) (fun x => Tests.ok (x.2.vread (fenceWho 5 x.1) 0x400 64) && Tests.ok (x.2.vread (fenceWho 5 x.1) 0x800 12)) = true ∧
     kernelErr (Tests.kern 2 3) 0x800 ((g.adm? 7).getD {}) = none ∧ kernelErr (Tests.kern 0 3) 0x800 ((g.adm? 7).getD {}) = some 0x12 ∧
     kernelErr (Tests.kern 9 3) 0x800 ((g.adm? 7).getD {}) = some 0x13 ∧
     Tests.next (exec (.dispatch 5) g) (fun t => t.disps.map (fun d => (d.nx, d.ny, d.nz, d.code, d.args)) == [(2, 1, 1, 0x1000, [0, 0, 0])]) = true ∧
     Tests.has ((Tests.pkt 5 (Tests.op 1 0x420 1 0)).start 5 1) (fun _ => true) = true) ∧
    (let u := fun (p : Pod) => Tests.mapped.modCore 2 (fun c => { c with pods := [p] })
     let p : Pod := { uid := 1, slot := 5, ctx := 7, pc := 8, live := 0 }
     let t : Trap := { cause := 3, detail := 0, lanes := 0x10, pc := 8, resume := 16, addrs := List.replicate 32 0x900 }
     ([p, { p with pkt := some 11 }, { p with pkt := some 11, pixel := true }].all (fun p => (u p).pod? (.slot 2 5) == some p && p.sb.all (· == 0) &&
       Tests.next (exec (.podRetire 2 5) (u p)) (fun t => (t.core 2).pods.isEmpty)) = true) ∧
     ([{ p with live := 1, trap := some t, trapVA := 0x1800 }, { p with live := 1, trap := some t }, { p with live := 1, trap := some { t with cause := 1 }, trapVA := 0x1800, trapMode := true }].all
       (fun (p : Pod) => (u p).pod? (.slot 2 5) == some p && p.trap.isSome && Tests.next (exec (.trapEntry 2 5) (u p)) (fun _ => true)) = true)) ∧
    (let u := { Tests.pkt 5 { Tests.op 1 0x400 2 0 with started := true } with disps := [Tests.disp] }
     let a := (u.adm? 7).getD {}
     u.disps.find? (·.pkt == 11) = some Tests.disp ∧ Tests.has (u.findPkt 11) (fun x => x.2.abort.isNone && !x.2.timedOut) = true ∧ u.cores.length = 32 ∧ u.on (D.CL + 1) = true ∧
     u.wgTurn Tests.disp = true ∧ u.rootLock = true ∧ u.closed 6 = false ∧ [3, 4].Nodup ∧ ([3, 4].all (fun k => a.slots.contains k) = true) ∧ ((u.core 6).pods.filter (·.ctx == 7)).length + 2 ≤ a.pods ∧
     firstFits a.regLo a.regKib (16 / 8) 2 (u.core 6).regsTaken = some [0, 2] ∧ firstFit a.tsLo a.tsKib 4 (u.core 6).tilesTaken = some 0 ∧ storeWf regPlain u.regs = true) := by
  decide +kernel

theorem witness_AbortsAndTimeouts :
    (let p : QPkt := { Tests.op 1 0x400 2 0 with started := true, pkt := { op := 1, ctx := 7, timeout := 3 } }
     Tests.has ((Tests.pkt 5 p).findPkt 11) (fun x => x == (5, p)) = true ∧ (Tests.pkt 5 p).timerRuns 5 p = true ∧
     Tests.next (exec (.drainWindowEnd true 11) (Tests.pkt 5 { p with timedOut := true })) (fun t => (t.queue 5).st == .guilty) = true ∧
     (let x : Pod := { uid := 1, slot := 0, ctx := 7, pc := 0, pkt := some 11 }
      let y : Query := { id := 3, op := 4, core := 5, slot := 1, uid := 9, lane := 0, ctx := 7, pkt := some 11, kind := 0, tmin := 0, tlim := 0, limit := 4 }
      let u := Tests.pkt 5 { p with timedOut := true }
      [u.modCore 3 (fun c => { c with pods := [x] }), { u with rtus := u.rtus.set 2 { queries := [y] } }, { u with copies := [{ pkt := 11, ctx := 7, eng := 0, list := 0x400, count := 2, busy := [{ id := 12 }] }] }].all
        (fun u => Tests.next (exec (.drainWindowEnd true 11) u) (fun t => (t.queue 5).st == .guilty && t.reg (rk R.QM_Q_KILL_COUNT 5) == 1 && t.reg (rk R.QM_Q_TIMEOUT_COUNT 5) == 1))) = true ∧
     Tests.next (exec (.drainWindowEnd true 11) (Tests.pkt 5 { p with timedOut := true })) (fun t => t.reg (rk R.QM_Q_KILL_COUNT 5) == 0) = true ∧
     Tests.next (exec (.packetTimeout 11) (Tests.pkt 5 p)) (fun t => (t.queue 5).pkts.all (·.timedOut)) = true) ∧
    (let p : QPkt := { Tests.op 1 0x400 2 0 with started := true, abort := some ⟨0x20, 1, 3, 64, 7⟩ }
     Tests.next (exec (.drainWindowEnd false 3) (Tests.pkt 5 p)) (fun _ => true) = true ∧ (Tests.pkt 5 p).aborted 3 ≠ [] ∧ (∀ x ∈ (Tests.pkt 5 p).aborted 3, (Tests.pkt 5 p).hasWork x.2.id = false) ∧
     Tests.next (exec (.abortStopped 3) (Tests.pkt 5 p)) (fun t => (t.queue 5).pkts.isEmpty) = true) := by decide +kernel

/-- A copy job with its list at 0x400, whose first descriptor has the given fields. -/
def Tests.copy (fs : List (Nat × Nat × Nat)) (busy : List CopyDesc) : State :=
  let u := Tests.put (Tests.pkt 38 { Tests.op 3 0x400 2 0 with started := true }) 0x400 (Tests.bytes 64 fs)
  { u with copies := [{ pkt := 11, ctx := 7, eng := 0, list := 0x400, count := 2, busy := busy }] }

/-- What the checks of a job's next descriptor say, and whether its rows move. -/
def Tests.moves (s : State) : Option Nat × Bool :=
  match s.copy? 11 with
  | some j => match s.descNext j with
    | some (.ok b, t) => (t.descBad (parseDesc b) 7, Tests.ok (t.descRun j (parseDesc b)))
    | _ => (some 99, false)
  | none => (some 99, false)

/-- Does that descriptor pass its checks and fault at once on an access? -/
def Tests.moveErr (s : State) : Bool :=
  match s.copy? 11 with
  | some j => match s.descNext j with
    | some (.ok b, t) => t.descBad (parseDesc b) 7 == none && Tests.err (t.descRun j (parseDesc b)) (fun v => v.e.cause != C.HOST_WAIT)
    | _ => false
  | none => false

/-- A byte of the local memory as read. -/
def Tests.byte (s : State) (a : Nat) : Option Byte :=
  match (s.readLoc a 1).1 with
  | .ok b => b.head?
  | .error _ => none

/-- A batch: its header at 0x800, one running sequence at 0x1000, its page list at 0x1800; partition 0's ring enabled at 0x4000. -/
def Tests.batch (kind begun : Nat) : State :=
  let u := (Tests.copy [(0, 1, kind), (8, 8, 0x800), (0x10, 8, 5), (0x18, 8, 0xC00)] []).setRegN R.PT_P_RING_CTRL 0x401
  let u := { u with pt := { u.pt with rings := u.pt.rings.set 0 (0x4000, 4) } }
  let u := Tests.put u 0x800 (Tests.bytes 64 [(0, 4, 0x42544231), (4, 2, 1), (6, 1, 4), (8, 4, 9), (0x10, 8, begun), (0x18, 8, 4), (0x20, 8, 0x1000)])
  Tests.put u 0x1000 (Tests.bytes 32 [(0, 1, 2), (4, 4, 1), (8, 4, 16), (0x10, 8, 0x1800)])

/-- Does a batch descriptor pass its checks and do its work? -/
def Tests.batchRuns (kind begun : Nat) : Option Nat × Bool :=
  let s := Tests.batch kind begun
  match s.copy? 11 with
  | some j => match s.descNext j with
    | some (.ok d, t) => match t.batchCheck j.who (t.ctxPart 7) d (kind == 0x20) with
      | (.ok (b, es), u) => (none, if kind = 0x20 then Tests.ok (u.batchBegin j.who 0 b es) else Tests.ok (u.batchCommit j.who 0 b es))
      | (.error (.bad n), _) => (some n, false)
      | _ => (some 99, false)
    | _ => (some 99, false)
  | none => (some 99, false)

theorem witness_CopyEngines :
    ([0x400, 0x420].all (fun a => [0, 2].all (fun n => Tests.has ((Tests.pkt 38 (Tests.op 3 a n 0)).start 38 3) (fun _ => true))) = true) ∧ Tests.mapped.on D.CE = true ∧
    (let u := Tests.copy [(0, 1, 1), (4, 4, 64), (8, 8, 0x2000), (0x10, 8, 0x3000), (0x18, 2, 1), (0x1A, 2, 1)] []
     Tests.moves u = (none, true) ∧ Tests.next (exec (.copyDescriptor 11) u) (fun t => t.copies.map (fun j => (j.next, j.busy.length)) == [(1, 1)]) = true) ∧
    ([1, 2].all (fun k => (Tests.moves (Tests.copy [(0, 1, k), (3, 1, k / 2 * 4), (4, 4, 64)] [])).1.isSome &&
      Tests.moveErr (Tests.copy [(0, 1, k), (3, 1, k / 2 * 4), (4, 4, 64), (8, 8, 0x2000), (0x10, 8, 0x3000000), (0x18, 2, 1), (0x1A, 2, 1)] [])) = true) ∧
    (let u := Tests.copy [(0, 1, 2), (3, 1, 4), (4, 4, 64), (8, 8, 0xAABBCCDD), (0x10, 8, 0x600), (0x18, 2, 1), (0x1A, 2, 1)] []
     Tests.moves u = (none, true) ∧ Tests.next (exec (.fillDescriptor 11) u) (fun t => t.ms.dram.get 0x604 == 0xDD) = true) ∧
    (let d : CopyDesc := { id := 12, report := some 0x3000, crcR := some 5, taken := true }
     let u := Tests.copy [] [d, { d with id := 13, report := none }, { d with id := 14, reported := true }]
     d.isMoved = true ∧ Tests.has (u.copy? 11) (fun j => [12, 13, 14].all (fun k => !u.descOpen j { d with id := k })) = true ∧
     ([0, 1, 2].all (fun k => Tests.next (exec (.descriptorComplete 11 k) u) (fun t => t.copies.map (fun j => j.busy.length) == [2])) = true) ∧
     Tests.next (exec (.descriptorComplete 11 0) u) (fun t => Tests.byte t 0x3000 == some 1) = true ∧
     Tests.next (exec (.descriptorComplete 11 0) (u.setDom (D.MEM + u.stackOf 0x3000) 0)) (fun t => t.lost 7) = true ∧
     Tests.next (exec (.descriptorComplete 11 0) (Tests.copy [] [{ d with report := some (2 ^ 21 - 4) }])) (fun t => t.lost 7) = true) ∧
    Tests.batchRuns 0x20 4 = (none, true) ∧ Tests.batchRuns 0x20 3 = (some 0x42, false) ∧ Tests.batchRuns 0x21 5 = (none, true) ∧ Tests.batchRuns 0x21 4 = (some 0x42, false) ∧
    Tests.next (exec (.batchBegin 11) (Tests.batch 0x20 4)) (fun t => t.copies.map (fun j => j.next) == [1]) = true ∧
    Tests.next (exec (.batchCommit 11) (Tests.batch 0x21 5)) (fun t => t.copies.map (fun j => j.next) == [1]) = true ∧
    Tests.up.reaches .host R.CE_CODEC_CLEAR 0 1 = true := by decide +kernel

/-- Clusters ON; partition 0 with clusters 0 and 1, copy engine 0 and 32 of the bandwidth; partition 1 with cluster 2. -/
def Tests.parts (st : PState) : State :=
  let s := ((((Tests.mapped.setRegN R.PT_P_CLUSTERS 3).setRegN R.PT_P_CE 1).setRegN R.PT_P_BW 32).setRegN (rk R.PT_P_CLUSTERS 1) 4)
  { s with pt := { s.pt with parts := (s.pt.parts.set 0 st).set 1 .active }, qm := { s.qm with adm := [] } }

theorem witness_PartitionControl :
    (let u := Tests.parts .disabled
     u.reaches .host R.PT_P_CTRL 0 1 = true ∧ u.reaches .host R.PT_P_CTRL 0 3 = true ∧ u.reaches .fec0 R.PT_P_CTRL 0 0 = true ∧ u.pState 0 = .disabled ∧
     u.pClusters 0 = 3 ∧ (∀ o, o < 8 → o ≠ 0 → u.pEnabled o = true → u.pClusters o &&& 3 = 0 ∧ u.pCe o &&& 1 = 0) ∧ (∀ n, n < 2 → u.on (D.CL + n) = true) ∧
     u.pBw 0 + ((u.otherParts 0).map u.pBw).sum ≤ 64 ∧ Tests.next (exec (.partitionEnable .host 1) u) (fun t => t.pState 0 == .active) = true ∧
     Tests.next (exec (.partitionEnable .host 3) u) (fun t => t.pState 0 == .quiesced) = true ∧
     Tests.next (exec (.partitionEnable .host 1) (u.setRegN R.PT_P_CLUSTERS 7)) (fun t => t.pState 0 == .disabled && t.bit R.PT_P_STATUS 2) = true) ∧
    (let u := Tests.parts .active
     u.pState 0 = .active ∧ u.residents 0 = [] ∧ ({ u with qm := { u.qm with adm := [(7, { part := 0 })] } }).residents 0 ≠ [] ∧ u.reaches .host R.PT_P_CTRL 0 2 = true ∧
     (Tests.parts .quiescing).pState 0 = .quiescing ∧ (Tests.parts .quiesced).pState 0 = .quiesced ∧
     Tests.next (exec (.partitionQuiesce .host 3) u) (fun t => t.pState 0 == .quiesced) = true ∧
     Tests.next (exec (.partitionResume .host 1) (Tests.parts .quiesced)) (fun t => t.pState 0 == .active) = true) ∧
    Tests.up.reaches .fec1 R.PT_P_CLUSTERS 0 0xFF = true ∧ Tests.up.reaches .fec1 R.PT_P_CE 0 0xF = true ∧
    (let u := (Tests.parts .quiesced).setPair R.PT_P_RING_BASE_LO 0x8000
     u.reaches .fec0 R.PT_P_RING_CTRL 0 0x401 = true ∧ u.reaches .fec0 R.PT_P_RING_CTRL 0 0x301 = true ∧ u.reaches .fec0 R.PT_P_RING_CTRL 0 0x400 = true ∧ u.bit R.PT_P_RING_CTRL 0 = false ∧
     u.pair R.PT_P_RING_BASE_LO % (8 * 2 ^ 4) = 0 ∧ u.ringOut 0 < 2 ^ 4 ∧ (u.setRegN R.PT_P_RING_CTRL 1).bit R.PT_P_RING_CTRL 0 = true ∧
     ([0x401, 0x301].all (fun v => Tests.next (exec (.ringEnable .fec0 v) (u.setRegN R.PT_P_RING_CTRL 0x501)) (fun t => t.reg R.PT_P_RING_CTRL == v)) = true) ∧
     Tests.next (exec (.ringEnable .fec0 0x401) u) (fun t => t.reg R.PT_P_RING_CTRL == 0x401 && (t.pt.rings.getD 0 (0, 0)) == (0x8000, 4)) = true ∧
     Tests.next (exec (.ringEnable .fec0 0x301) u) (fun t => t.reg R.PT_P_RING_CTRL == 0 && t.reg R.GLB_ACCESS_VIOL_COUNT == 1) = true) ∧
    (let u := Tests.parts .disabled
     -- a refused enable leaves QUIESCE and FEC as they were; a resume while quiescing; FEC written while quiesced
     Tests.next (exec (.partitionEnable .host 7) (u.setRegN R.PT_P_CLUSTERS 7)) (fun t => t.reg R.PT_P_CTRL == 0) = true ∧
     Tests.next (exec (.partitionDisable .host 6) u) (fun t => t.reg R.PT_P_CTRL == 6) = true ∧ Tests.next (exec (.partitionFecSelect .host 4) u) (fun t => t.bit R.PT_P_CTRL 2) = true ∧
     Tests.next (exec (.partitionResume .host 1) (Tests.parts .quiescing)) (fun t => t.pState 0 == .active) = true ∧
     Tests.next (exec (.partitionFecSelect .host 7) (Tests.parts .quiesced)) (fun t => t.bit R.PT_P_CTRL 2 && t.pState 0 == .quiesced) = true ∧
     Tests.next (exec (.partitionDisable .host 0) (Tests.parts .active)) (fun t => t.pState 0 == .disabled) = true ∧
     Tests.next (exec (.partitionDisable .host 0) { Tests.parts .active with qm := { (Tests.parts .active).qm with adm := [(7, { part := 0 })] } }) (fun t => t.pState 0 == .active && t.bit R.PT_P_STATUS 2) = true) ∧
    (let u := (Tests.parts .active).setRegN R.PT_P_CTRL 1
     let u := { u with ms := { u.ms with bw := [2 ^ 40, 0, 0, 0, 0, 0, 0, 0] } }
     Tests.next (exec (.bwWindowEnd 3) u) (fun t => t.reg R.PT_P_SHARE_OVERRUN_COUNT == 1 && t.reg (rk R.PT_P_SHARE_OVERRUN_COUNT 1) == 0) = true) ∧
    Tests.up.reaches .host R.PT_P_FAV 0 31 = true ∧ Tests.up.reaches .host R.PT_P_FAV 0 32 = true ∧ Tests.up.reaches .host R.PT_P_FAV 0 0xFF = true := by decide +kernel

theorem witness_Admission :
    Tests.up.reaches .host R.PT_ADMIT 0 0x107 = true ∧ Tests.up.reaches .host R.PT_ADMIT 0 0x207 = true ∧ Tests.ok (Tests.up.readLoc (Tests.up.ctxDesc 7) 64) = true ∧
    Tests.ok ((Tests.up.setDom D.MEM 0).readLoc (Tests.up.ctxDesc 7) 64) = false ∧
    (let d := fun (p ix : Nat) => Tests.bytes 64 [(0, 4, 1 + 2 ^ 8 * p + 2 ^ 16 * ix), (0x10, 2, 256), (0x12, 2, 488), (0x14, 1, 48)]
     let u := Tests.parts .active
     u.admitResult 7 (d 0 31) = (0, some { part := 0, resIdx := 31, regKib := 256, tsKib := 488, pods := 48, slots := List.range 48 }) ∧
     (u.admitResult 7 (d 9 0)).1 = 1 ∧ (Tests.mapped.admitResult 7 (d 1 0)).1 = 2 ∧ (u.admitResult 7 (d 2 0)).1 = 3 ∧
     ({ u with qm := { u.qm with adm := [(8, { part := 0, resIdx := 31 })] } }.admitResult 7 (d 0 31)).1 = 4 ∧
     ({ u with qm := { u.qm with adm := [(8, { part := 0, regKib := 4 })] } }.admitResult 7 (d 0 31)).1 = 5 ∧
     (u.admitResult 7 (d 8 0)).1 = 0 ∧ ((u.setDom D.GD 0).admitResult 7 (d 8 0)).1 = 3 ∧ (u.admitResult 7 (d 8 1)).1 = 4 ∧
     Tests.next (exec (.admitCtx .host 7) (Tests.put u 0x1C0 (d 0 31))) (fun t => t.reg R.PT_ADMIT_RESULT == 7 && (t.adm? 7).isSome) = true) ∧
    Tests.mapped.ctxBusy 7 = false ∧ (Tests.mapped.adm? 7).isSome = true ∧ Tests.up.adm? 7 = none ∧
    ({ Tests.mapped with qm := { Tests.mapped.qm with fifo := [⟨7, 1, 0, 0, 0⟩] } }).ctxBusy 7 = true := by decide +kernel

theorem witness_Schedule :
    ([R.PT_SCHED_WDATA2, R.PT_SCHED_CTRL].all (fun k => [0, 1, 2, 3].all (fun v => Tests.up.reaches .host k 0 v)) = true) ∧
    ([Instr.schedRun .host true, .schedStop .host true, .schedSwitch .host false, .schedSwitch .host true].all (fun c =>
      Tests.next (exec c (Tests.up.setRegN R.PT_SCHED_CTRL 1)) (fun t => t.reg R.PT_SCHED_CTRL == 1 && t.reg R.GLB_ACCESS_VIOL_COUNT == 1)) = true) ∧
    Tests.next (exec (.schedCommit .host 0xFFFFFFFF) (((Tests.up.setRegN R.PT_SCHED_WIDX 0x1FF).setRegN R.PT_SCHED_WDATA0 5).setRegN R.PT_SCHED_WDATA1 0xFFFFFFFF)) (fun t => (t.schedEntry 1 255).1 == 5) = true ∧
    (let u := (Tests.up.setRegN R.PT_SCHED_LEN 0x20002).setRegN R.PT_SCHED_CTRL 1
     u.schedLen 0 = 2 ∧ u.schedLen 1 = 2 ∧ Tests.up.schedLen 1 = 0 ∧ u.bit R.PT_SCHED_CTRL 0 = true ∧ Tests.up.bit R.PT_SCHED_CTRL 0 = false ∧
     Tests.next (exec .schedEntryStart u) (fun t => t.field R.PT_SCHED_POS 7 0 == 1) = true ∧
     Tests.next (exec .schedEntryStart (u.setRegN R.PT_SCHED_POS 1)) (fun t => t.field R.PT_SCHED_POS 7 0 == 0 && t.reg R.PT_SCHED_FRAME_COUNT == 1) = true ∧
     Tests.next (exec .schedEntryStart ((u.setRegN R.PT_SCHED_POS 1).setRegN R.PT_SCHED_CTRL 9)) (fun t => t.field R.PT_SCHED_CTRL 3 0 == 5) = true) := by decide +kernel

theorem witness_SelfTestsAndRepair :
    Tests.up.reaches .fec0 R.PT_SELFTEST_REQ 0 0xF = true ∧ (Tests.up.setRegN R.PT_ST_STATUS 8).bit R.PT_ST_STATUS 3 = true ∧
    ([0x100, 0x11F, 0x200, 0x21F, 0x300, 0x31F].all (fun v => Tests.up.reaches .fec1 R.PT_REPAIR 0 v) = true) ∧ (Tests.up.setRegN R.PT_REPAIR_STATUS 0x9F).bit R.PT_REPAIR_STATUS 7 = true ∧
    ([false, true].all (fun b => Tests.next (exec (.ceSelftestEnd 3 b) (Tests.up.setRegN R.PT_ST_STATUS 8)) (fun t => t.bit R.PT_ST_STATUS 3 == false && t.bit R.PT_ST_STATUS 11 == !b)) = true) ∧
    Tests.next (exec (.coreSelftestEnd false) (Tests.up.setRegN R.PT_REPAIR_STATUS 0x9F)) (fun t => t.bit R.PT_FENCED 31) = true := by decide +kernel

/-- Context 7 is resident in PG; a guard packet stands in queue 52; guard state and header. -/
def Tests.pg (st op a0 a1 a2 : Nat) (h : Option GHdr) : State :=
  let s := (Tests.pkt 52 (Tests.op op a0 a1 a2)).setRegN R.GD_STATUS st
  { s with qm := { s.qm with adm := [(7, { part := 8 })] }, gd := { s.gd with hdr := h } }

/-- A header as armed. -/
def Tests.hdr : GHdr := ⟨0, 1000, 0x80, 0, 0x100, 0x100, 0x100, 0, 0xFF, 0⟩

/-- Bytes at 0 of guard SRAM, and a limit on the bound. -/
def Tests.sram (s : State) (b : List Byte) : State :=
  let s := s.setRegN R.GD_PERIOD 40000
  { s with gd := { s.gd with sram := s.gd.sram.write 0 b } }

/-- A header whose code region is its own 256 bytes, before its CRC is put in; and the CRC. -/
def Tests.hdr0 : List Byte :=
  Tests.bytes 256 [(0, 4, 0x47445631), (4, 2, 1), (8, 4, 1000), (0xC, 4, 0x80), (0x14, 4, 0x100), (0x18, 4, 0x100), (0x1C, 4, 0x100), (0x24, 1, 0xFF)]

/-- One byte of CRC-32C. -/
def Tests.crcStep (c : Nat) (b : Byte) : Nat := crcShift (crcPoly 0) 8 (c ^^^ revBits 8 b.toNat * 2 ^ 24)

theorem crc_part1 : (Tests.hdr0.take 64).foldl Tests.crcStep 0xFFFFFFFF = 3531490139 := by decide +kernel
theorem crc_part2 : ((Tests.hdr0.drop 64).take 64).foldl Tests.crcStep 3531490139 = 3065612128 := by decide +kernel
theorem crc_part3 : ((Tests.hdr0.drop 128).take 64).foldl Tests.crcStep 3065612128 = 3768756342 := by decide +kernel
theorem crc_part4 : (Tests.hdr0.drop 192).foldl Tests.crcStep 3768756342 = 769770863 := by decide +kernel

theorem crc_split (l : List Byte) (c : Nat) (h : l = l.take 64 ++ ((l.drop 64).take 64 ++ ((l.drop 128).take 64 ++ l.drop 192))) :
    l.foldl Tests.crcStep c = (l.drop 192).foldl Tests.crcStep (((l.drop 128).take 64).foldl Tests.crcStep (((l.drop 64).take 64).foldl Tests.crcStep ((l.take 64).foldl Tests.crcStep c))) := by
  conv => lhs; rw [h]
  rw [List.foldl_append, List.foldl_append, List.foldl_append]

theorem crc_steps (bs : List Byte) : crcOf (crcPoly 0) bs = revBits 32 (bs.foldl Tests.crcStep 0xFFFFFFFF) ^^^ 0xFFFFFFFF := rfl

theorem crc_hdr : crcOf (crcPoly 0) Tests.hdr0 = 157055051 := by
  rw [crc_steps, crc_split _ _ (by decide +kernel), crc_part1, crc_part2, crc_part3, crc_part4]
  decide +kernel

theorem codeCrc_eq (s : State) (h : GHdr) (b : List Byte) (hb : (let bs := (s.sramRead2 h.codeOff h.codeSize).1
    let o := h.off + 0x20 - h.codeOff
    if h.codeOff ≤ h.off + 0x20 && o + 4 ≤ h.codeSize then splice bs o [0, 0, 0, 0] else bs) = b) : (s.codeCrc h).1 = crcOf (crcPoly 0) b := by
  subst hb; rfl

theorem codeCrc_pair (s : State) (h : GHdr) (n : Nat) (e : (s.codeCrc h).1 = n) : s.codeCrc h = (n, (s.codeCrc h).2) := Prod.ext e rfl

/-- Guard SRAM with that header at 0, and a limit on the bound. -/
def Tests.armed (s : State) : State :=
  let s := s.setRegN R.GD_PERIOD 40000
  { s with gd := { s.gd with sram := s.gd.sram.write 0 (splice Tests.hdr0 0x20 (leBytes 4 157055051)) } }

def Tests.hdr1 : GHdr := ⟨0, 1000, 0x80, 0, 0x100, 0x100, 0x100, 157055051, 0xFF, 0⟩

theorem Tests.armed_crc (st op : Nat) (h : Option GHdr) : ((Tests.armed (Tests.pg st op 0 0 0 h)).codeCrc Tests.hdr1).1 = Tests.hdr1.crc := by
  have e : ((Tests.armed (Tests.pg st op 0 0 0 h)).sramRead2 Tests.hdr1.codeOff Tests.hdr1.codeSize).1 =
    (Tests.armed (Tests.pg 0 0 0 0 0 none)).gd.sram.read Tests.hdr1.codeOff Tests.hdr1.codeSize := rfl
  rw [codeCrc_eq _ _ Tests.hdr0 (by rw [e]; decide +kernel), crc_hdr]
  rfl

/-- An ARM that no reason refuses, while the guard is DISARMED and while it is RUNNING. -/
theorem witness_GuardPackets_arm : ∀ st, st = 0 ∨ st = 3 → (let u := Tests.armed (Tests.pg st 0x42 0 0 0 none)
    (u.start 52 0x42).isSome = true ∧ parseGHdr 0 (u.sramRead2 0 64).1 = Tests.hdr1 ∧ (u.sramRead2 0 64).2 = u ∧ u.gState = st ∧
    (u.armRefusal (u.sramRead2 0 64).1 Tests.hdr1).1 = none) := by
  intro st h
  have c := codeCrc_pair _ _ _ (Tests.armed_crc st 0x42 none)
  obtain rfl | rfl := h <;> refine ⟨by decide +kernel, by decide +kernel, by decide +kernel, by decide +kernel, ?_⟩ <;> unfold State.armRefusal <;> rw [c] <;> decide +kernel

/-- A run that publishes while an ARM waits; and the state in which that ARM is checked. -/
def Tests.waits : State :=
  let u := Tests.armed (Tests.pg 3 0x42 0 0 0 none)
  { u with gd := { u.gd with waitArm := some (0, 11) } }
def Tests.checks : State :=
  let v := { Tests.waits with gd := { Tests.waits.gd with pod := none } }.setField R.GD_STATUS 2 0 2
  { v with gd := { v.gd with waitArm := none } }

/-- An ARM that waits for a run to publish, and that no reason refuses then. -/
theorem witness_GuardPackets_waits : Tests.waits.gd.waitTest = none ∧ Tests.waits.gd.waitDisarm = none ∧
    parseGHdr 0 (Tests.checks.sramRead2 0 64).1 = Tests.hdr1 ∧ (Tests.checks.sramRead2 0 64).2 = Tests.checks ∧
    (Tests.checks.armRefusal (Tests.checks.sramRead2 0 64).1 Tests.hdr1).1 = none := by
  have c : (Tests.checks.codeCrc Tests.hdr1).1 = Tests.hdr1.crc := by
    have e : (Tests.checks.sramRead2 Tests.hdr1.codeOff Tests.hdr1.codeSize).1 =
      (Tests.armed (Tests.pg 0 0 0 0 0 none)).gd.sram.read Tests.hdr1.codeOff Tests.hdr1.codeSize := by decide +kernel
    rw [codeCrc_eq _ _ Tests.hdr0 (by rw [e]; decide +kernel), crc_hdr]
    rfl
  refine ⟨by decide +kernel, by decide +kernel, by decide +kernel, by decide +kernel, ?_⟩
  unfold State.armRefusal
  rw [codeCrc_pair _ _ _ c]
  decide +kernel

/-- A restart that finds the code region as it was armed. -/
theorem witness_GuardRuns_restart : (let u := Tests.armed (Tests.pg 4 0 0 0 0 (some Tests.hdr1))
    u.gd.hdr = some Tests.hdr1 ∧ u.gState = 4 ∧ (u.codeCrc Tests.hdr1).1 = Tests.hdr1.crc ∧ u.gd.waitTest = none) :=
  ⟨by decide +kernel, by decide +kernel, Tests.armed_crc 4 0 _, by decide +kernel⟩

theorem witness_GuardPackets :
    ([0x40, 0x41, 0x42, 0x43, 0x44].all (fun op => Tests.has ((Tests.pg 0 op 0 0 0 none).start 52 op) (fun _ => true)) = true) ∧
    Tests.next (exec .gload (Tests.put (Tests.pg 0 0x40 0x400 0x1FFFC0 64 none) 0x43F [9])) (fun t => t.gd.sram.get 0x1FFFFF == 9) = true ∧
    Tests.next (exec .gload (Tests.pg 0 0x40 0x400 0x1FFFC0 128 none)) (fun t => (t.queue 52).pkts.isEmpty || t.gd.sram.get 0x1FFFFF == 0) = true ∧
    Tests.next (exec .armPacket (Tests.pg 0 0x42 0x20 0 0 none)) (fun t => t.reg R.GD_ARM_STATUS == 0) = true ∧ Tests.next (exec .armPacket (Tests.pg 3 0x42 0 0 0 none)) (fun t => t.gd.waitArm == some (0, 11)) = true ∧
    ([2, 4].all (fun st => Tests.next (exec .guardSelftest ((Tests.pg st 0x44 0 0 0 (some Tests.hdr)).setRegN R.GD_STALE_LIMIT 0xFF)) (fun t => t.gd.waitTest == some 11 || t.reg R.GD_ST_SKIP_COUNT == 1)) = true) ∧
    Tests.next (exec .guardSelftest (Tests.pg 0 0x44 0 0 0 none)) (fun t => t.gd.testPkt == some 11) = true ∧
    (Tests.pg 2 0x40 0x400 0 64 (some Tests.hdr)).gArmedOver 0 64 = true ∧ (Tests.pg 2 0x40 0x400 0x200 64 (some Tests.hdr)).gArmedOver 0x200 64 = false ∧
    Tests.next (exec .gstore (Tests.sram (Tests.pg 0 0x41 0x400 0 64 none) [1, 2])) (fun t => Tests.byte t 0x401 == some 2) = true ∧
    Tests.next (exec .armPacket (Tests.pg 0 0x42 0 0 0 none)) (fun t => t.reg R.GD_ARM_STATUS == 1) = true ∧
    (Tests.pg 3 0x43 0 0 0 (some Tests.hdr)).gState = 3 ∧ Tests.next (exec .disarmPacket (Tests.pg 2 0x43 0 0 0 (some Tests.hdr))) (fun t => t.gState == 0 && t.gd.hdr.isNone) = true ∧
    (let u := (Tests.pg 2 0x44 0 0 0 (some Tests.hdr)).setRegN R.GD_PERIOD 8000
     15000 + 1000 ≤ (u.setRegN R.GD_STALE_LIMIT 2).field R.GD_STALE_LIMIT 7 0 * u.field R.GD_PERIOD 23 0 ∧ (u.setRegN R.GD_STALE_LIMIT 1).field R.GD_STALE_LIMIT 7 0 * u.field R.GD_PERIOD 23 0 < 16000) ∧
    (let u := { Tests.pg 1 0x42 0 0 0 (some Tests.hdr) with gd := { hdr := some Tests.hdr, arming := some 11 } }
     u.gState = 1 ∧ Tests.next (exec .armComplete u) (fun t => t.gState == 2 && t.gd.watchdog) = true) ∧
    (let u := { Tests.pg 3 0x42 0 0 0 none with gd := { waitArm := some (0, 11) } }
     u.gd.waitTest = none ∧ u.gd.waitDisarm = none ∧ u.afterPublish.reg R.GD_ARM_STATUS = 1) := by decide +kernel

theorem witness_GuardRuns :
    Tests.up.reaches .host R.GD_WAKE 0 1 = true ∧ Tests.up.reaches .fec0 R.GD_WAKE 0 0 = true ∧ Tests.up.on D.GD = true ∧ (Tests.up.setDom D.GD 0).on D.GD = false ∧
    ((List.range 6).all (fun st => (Tests.up.setRegN R.GD_STATUS st).gState == st) = true) ∧ (Tests.up.setRegN R.GD_STATUS 0x43).bit R.GD_STATUS 6 = true ∧
    Tests.next (exec (.gdWake .host true) { Tests.up.setRegN R.GD_STATUS 2 with gd := { Tests.up.gd with hdr := some Tests.hdr } }) (fun t => t.gState == 3 && t.gd.pod.isSome) = true ∧
    (let u := { Tests.up.setRegN R.GD_STATUS 3 with gd := { Tests.up.gd with watchdog := true, hdr := some Tests.hdr } }
     u.gd.watchdog = true ∧ Tests.next (exec .staleExpiry u) (fun t => t.bit R.GD_STATUS 4 && t.reg R.GD_STALE_COUNT == 1) = true ∧
     -- the run's next instruction could issue no earlier than at its bound
     (let v := { u with gd := { u.gd with pod := some { uid := 0, slot := 0, ctx := 7, pc := 0x100, tm := { nxt := 1000 } } } }
      v.boundReached = true ∧ Tests.next (exec .boundExceeded v) (fun t => t.gState == 4) = true)) ∧
    ([Tests.hdr, { Tests.hdr with inAp := 3 }].all (fun h =>
      Tests.next (exec .staleExpiry { Tests.up.setRegN R.GD_STATUS 2 with gd := { Tests.up.gd with watchdog := true, hdr := some h } }) (fun t => t.bit R.GD_STATUS 4)) = true) ∧
    -- a restart that finds the code changed
    (let h : GHdr := ⟨0, 1000, 0x80, 0, 16, 0x100, 0x100, 5, 0xFF, 0⟩
     let u := Tests.pg 4 0 0 0 0 (some h)
     (u.codeCrc h).1 ≠ h.crc ∧ Tests.next (exec .restartEnd u) (fun t => t.gState == 5) = true) ∧
    (let u := { Tests.up.setRegN R.GD_STATUS 2 with gd := { Tests.up.gd with watchdog := true, waitTest := some 11 } }
     Tests.next (exec .staleExpiry u) (fun t => t.gd.testPkt == some 11) = true) ∧
    (let u := { Tests.pg 2 0x44 0 0 0 (some Tests.hdr) with gd := { testPkt := some 11, hdr := some Tests.hdr } }.setPendingWake true
     u.gd.testPkt = some 11 ∧ Tests.next (exec (.guardSelftestEnd true) u) (fun t => t.gState == 3) = true ∧ Tests.next (exec (.guardSelftestEnd false) u) (fun t => t.gState == 5) = true) ∧
    (let i : Ins := {}
     let u := Tests.atGuard 0x06 i
     Tests.issues u .guard 0x06 i = true ∧ u.gd.hdr.isSome = true ∧
     Tests.has u.gd.pod (fun p => ((p.tm.sb.flatMap id) ++ [p.tm.busy]).foldl max (p.issueAt 0x06 i + 1) ≤ 1000 && p.sv i 0 i.a % 4 ≠ 3) = true ∧
     Tests.next (exec (.verdict .guard i) u) (fun t => t.gState == 2 && t.reg R.GD_VERDICT_COUNT == 1) = true) := by decide +kernel

theorem witness_PinSettles :
    (let u := (Tests.up.setRegN R.GD_STATUS 0x4002).setRegN R.GD_HIST_LEN 64
     u.gd.pin = false ∧ (u.setRegN R.GD_VERDICT 0).settlePin.gd.pin = true ∧ (u.setRegN R.GD_VERDICT 2).settlePin.gd.pin = false ∧ (u.setRegN R.GD_VERDICT 1).settlePin.gd.pin = true ∧
     ((u.setRegN R.GD_VERDICT 1).setRegN R.GD_CTRL 2).settlePin.gd.pin = false ∧ u.on D.GD = true) := by decide +kernel

/-- Fields (offset, size, value) put at an address of the local memory. -/
def Tests.fields (s : State) (a : Nat) (fs : List (Nat × Nat × Nat)) : State := fs.foldl (fun s f => Tests.put s (a + f.1) (leBytes f.2.1 f.2.2)) s

/-- A packet on binning queue 32 with a pass descriptor, shader, kernel and primitive in place: 32 by 32 pixels, one colour. -/
def Tests.ras (prims : Nat) : State :=
  let s := Tests.pkt 32 (Tests.op 2 0x400 0 0)
  let s := Tests.fields s 0x400 [(0, 4, 0x52505331), (4, 2, 1), (7, 1, 1), (8, 2, 32), (0xA, 2, 32), (0xC, 1, 1), (0xD, 1, 1), (0x14, 2, 1), (0x18, 8, 0xA00), (0x20, 8, 0xB00),
    (0x28, 4, prims), (0x30, 8, 0xC00), (0x38, 8, 0x10000), (0x40, 4, 0x10000), (0x80, 8, 0x20000), (0x91, 1, 5)]
  let s := Tests.fields s 0xA00 [(0, 8, 0xE00)]
  let s := Tests.fields s 0xE00 [(0, 4, 0x4B445331), (4, 2, 1), (6, 1, 1), (8, 8, 0x1000), (0x18, 2, 16), (0x1D, 1, 4)]
  Tests.fields s 0xB00 [(12, 4, 0x1000), (28, 4, 0x1000)]

/-- The pass that it starts, in a phase. -/
def Tests.rasPass (ph : PassPhase) (tiles : List TileJob) (f : Pass → Pass) : State :=
  let s := Tests.pkt 32 { Tests.op 2 0x400 0 0 with started := true }
  let a : Pass := { pkt := 11, ctx := 7, part := 0, modeV := false, samples := 1, tx := 1, ty := 1, sets := 1, tbOff := 0, setBytes := 4096, depth := 0, planes := [⟨0, 4, 0x20000, 0, 0, 1, 1, false, 0, [0, 0, 0, 0]⟩], shaders := [⟨false, false, 0, false, 0x1000, 0, 16, 0, 0, []⟩], primVA := 0xB00, primCount := 1, maxGrow := 0, hdrVA := 0xC00, poolVA := 0x10000, poolChunks := 512, logVA := 0, phase := ph, tiles := tiles }
  { s with ms := (Tests.ras 1).ms, pass := some (f a) }

theorem witness_RasterPasses_begin :
    (let u := Tests.ras 1
     Tests.has (u.start 32 2) (fun x => Tests.ok (x.2.vread (fenceWho 32 x.1) 0x400 512)) = true ∧
     Tests.next (exec (.renderPass 32) u) (fun t => Tests.has t.pass (fun a => a.phase == .binning && a.planes.length == 1) && t.reg R.RAS_STATUS == 0x702) = true ∧
     Tests.next (exec (.renderPass 32) (Tests.ras 0)) (fun t => t.reg R.RAS_STATUS == 0x704) = true ∧
     Tests.next (exec (.renderPass 32) (Tests.ras 0x1000001)) (fun t => t.pass.isNone) = true) := by decide +kernel

theorem witness_RasterPasses_bin :
    (let u := Tests.rasPass .binning [] id
     u.pktLive 11 = true ∧ u.on D.BN = true ∧
     Tests.next (exec .primitiveBin u) (fun t => t.reg R.RAS_PRIM_COUNT == 1 && Tests.has t.pass (fun a => a.phase == .final && a.bins.length == 1)) = true ∧
     Tests.next (exec .primitiveBin (Tests.put u 0xB29 [1])) (fun t => t.reg R.RAS_PRIM_REJECT_COUNT == 1) = true ∧
     Tests.next (exec .primitiveBin (Tests.put u 0xB0D [0])) (fun t => t.reg R.RAS_PRIM_DEGEN_COUNT == 1) = true ∧
     Tests.next (exec .primitiveBin (Tests.rasPass .binning [] (fun a => { a with poolChunks := 0 }))) (fun t => Tests.has t.pass (fun a => a.phase == .flushing)) = true ∧
     Tests.next (exec .primitiveBin (Tests.rasPass .binning [] (fun a => { a with hdrVA := 0x3000000 }))) (fun _ => true) = true) := by decide +kernel

theorem witness_RasterPasses_end :
    (let u := Tests.rasPass .flushing [] id
     Tests.has u.pass (fun a => a.nextLin.isNone && Tests.ok (u.vwrite a.who a.hdrVA ((List.range (a.tx * a.ty)).flatMap (fun k => hdrBytes 0 0 (a.written.contains k))) false)) = true ∧
     Tests.next (exec .flushResume u) (fun t => t.reg R.RAS_FLUSH_COUNT == 1) = true) ∧
    (let u := Tests.rasPass .final [] (fun a => { a with nextTile := 1 })
     Tests.has u.pass (fun a => a.nextLin.isNone && u.pktLive a.pkt && u.pktDrained a.pkt) = true ∧ Tests.next (exec .passPageReturn (Tests.rasPass .final [] (fun a => { a with nextTile := 1, pages := [0x10000] }))) (fun t =>
       t.pass.isNone) = true ∧ Tests.next (exec .passPageReturn u) (fun t => t.pass.isNone && t.reg R.RAS_STATUS == 0) = true) := by decide +kernel

/-- A tile job on core 1, with a fragment. -/
def Tests.tile : TileJob := { lin := 0, core := 1, set := 0, todo := [], frags := [⟨0, 0, 1, 0, 0, 0, 0, 0⟩] }

theorem witness_RasterPasses_tiles :
    (let u := Tests.rasPass .final [] (fun a => { a with planes := [] })
     Tests.has u.pass (fun a => a.nextLin == some 0 && (a.freeSet 0).isSome) = true ∧ u.on D.CL = true ∧ u.clusterOwner 0 = some 0 ∧ u.fenced 0 = false ∧ (u.setRegN R.PT_FENCED 1).fenced 0 = true ∧
     Tests.next (exec (.tileDispatch 0) u) (fun t => t.reg R.RAS_TILE_COUNT == 1 && Tests.has t.pass (fun a => a.tiles.map (·.core) == [0])) = true ∧
     Tests.next (exec (.tileDispatch 0) (u.setRegN R.PT_FENCED 1)) (fun t => Tests.has t.pass (fun a => a.tiles.map (·.core) == [1])) = true) ∧
    (let u := Tests.rasPass .final [Tests.tile] id
     Tests.has u.pass (fun a => a.tiles.find? (fun t => t.core == 1 && t.set == 0) == some Tests.tile && Tests.tile.closed a) = true ∧
     firstFit 0 64 2 (u.core 1).regsTaken = some 0 ∧ u.closed 1 = false ∧ (u.core 1).pods = [] ∧ ((u.adm? 7).map (·.slots.contains 5)) = some true ∧
     Tests.next (exec (.pixelPodLaunch 1 0 5) u) (fun t => t.reg R.RAS_PIXPOD_COUNT == 1 && t.reg R.RAS_FRAG_COUNT == 1 && (t.core 1).pods.map (·.slot) == [5]) = true) := by decide +kernel

theorem witness_RasterPasses_store :
    ([PassPhase.final, .flushing].all (fun ph =>
      let u := Tests.rasPass ph [{ Tests.tile with frags := [] }] (fun a => { a with planes := [] })
      (u.core 1).pods.isEmpty && (u.core 1).tq.isEmpty && Tests.next (exec (.tileWriteOut 1 0) u) (fun t => Tests.has t.pass (fun a => a.tiles.isEmpty))) = true) := by decide +kernel

/-- A query of unit 2 about to read a record of a type. -/
def Tests.query (typ : Nat) (f : Query → Query) : State :=
  let q : Query := { id := 3, op := 4, core := 5, slot := 1, uid := 9, lane := 0, ctx := 7, pkt := none, kind := 0, tmin := 0, tlim := 0x7F800000, limit := 4
                     cur := some { va := 0x440, typ := typ, tnear := 0, tfar := 0x7F800000, o := [0, 0, 0], d := [0x3F800000, 0, 0] } }
  let s := Tests.mapped.modCore 5 (fun c => { c with pods := [{ uid := 9, slot := 1, ctx := 7, pc := 0 }], ops := [{ id := 4, uid := 9, slot := 1, sb := none, kind := .ray 8, pend := [], left := 1 }] })
  { s with rtus := s.rtus.set 2 { queries := [f q] } }

theorem witness_RayQueries :
    (let u := Tests.atIns (Tests.pod false) 0xC0 (Tests.ins 0xC0)
     Tests.issues u (.slot 5 1) 0xC0 (Tests.ins 0xC0) = true ∧ u.on D.RT = true ∧ (u.rtu 2).queries.length + 32 ≤ 128 ∧ (u.moved (.slot 5 1) (Tests.pod false) 0xC0 (Tests.ins 0xC0)).rayTurn 5 (Tests.pod false) = false ∧
     Tests.next (exec (.rayq (.slot 5 1) (Tests.ins 0xC0)) u) (fun t => (t.core 5).pods.all (·.trap.isNone)) = true) ∧
    ([0, 1].all (fun typ =>
      let b := List.replicate 64 (0 : Byte)
      let x : XAddr := ⟨.loc, 0x440, 0, 0, 0⟩
      Tests.next (exec (.nodeReadComplete 2 3) (Tests.query typ (fun q => { q with bytes := some b }))) (fun _ => true) &&
      Tests.next (exec (.nodeReadComplete 2 3) (Tests.query typ (fun q => { q with x := some x }))) (fun _ => true) &&
      Tests.next (exec (.nodeReadComplete 2 3) (Tests.query typ (fun q => { q with x := some x, cur := q.cur.map (fun e => { e with depth := 33 }) }))) (fun _ => true) &&
      Tests.next (exec (.nodeReadComplete 2 3) ((Tests.query typ (fun q => { q with x := some x })).setDom D.MEM 0)) (fun _ => true)) = true) ∧
    ([0, 1].all (fun k =>
      let u := Tests.query 1 (fun q => { q with reads := 5, kind := k, bytes := some (Tests.bytes 64 [(0, 4, 1)]) })
      Tests.has (u.rtu 2).queries.head? (fun q => Tests.has q.cur (fun e => Tests.has (u.nodeRead 2 q e) (fun r => Tests.ok r))) &&
      Tests.next (exec (.nodeLimit 2 3) u) (fun t => t.reg (rk R.RTU_LIMIT_COUNT 2) == 1 && (t.rtu 2).queries.isEmpty)) = true) ∧
    (let u := Tests.query 0 (fun q => { q with reads := 5, x := some ⟨.loc, 0x440, 0, 0, 0⟩, cur := q.cur.map (fun e => { e with depth := 33 }) })
     Tests.next (exec (.nodeLimit 2 3) u) (fun t => t.reg (rk R.RTU_LIMIT_COUNT 2) == 0) = true) := by decide +kernel

theorem witness_CrcUnits :
    Tests.up.reaches .host R.CRC_CTRL 0 0x1003 = true ∧ Tests.up.reaches .host R.CRC_CTRL 0 1 = true ∧ Tests.up.reaches .host R.CRC_CTRL 0 2 = true ∧ Tests.up.attachOk 0x10 true = true ∧
    Tests.up.attachOk 0x18 true = false ∧ Tests.up.reg R.CRC_FRAME_BYTES = 0 ∧ (Tests.up.setRegN R.CRC_CTRL 1).bit R.CRC_CTRL 0 = true ∧
    Tests.next (exec (.crcEnable .host 0x1F) Tests.up) (fun t => t.reg R.CRC_CTRL == 0) = true ∧ Tests.next (exec (.crcEnable .host 0x1003) (Tests.up.setRegN R.CRC_CTRL 1)) (fun t => t.reg R.CRC_CTRL == 1 && t.reg R.GLB_ACCESS_VIOL_COUNT == 1) = true ∧
    Tests.next (exec (.crcEnable .host 0x1003) Tests.up) (fun t => t.bit R.CRC_CTRL 0) = true ∧ Tests.next (exec (.crcEnable .host 1) Tests.up) (fun t => t.bit R.CRC_STATUS 1 && !t.bit R.CRC_CTRL 0) = true ∧
    ([0x1, 0x11].all (fun c =>
      let u := (Tests.up.setRegN (rk R.CRC_CTRL 7) c).setRegN (rk R.CRC_FRAME_BYTES 7) 4
      let u := { u with crc := u.crc.set 7 { buf := [1, 2, 3, 4, 5, 6, 7, 8, 9] } }
      u.crcOn 7 && !u.crcDesc 7 && Tests.next (exec (.crcFrameCompare 7) u) (fun t => (t.crc.getD 7 {}).buf.length == (if c = 1 then 5 else 1))) = true) := by decide +kernel

/-- A port of the fabric comes up; the node is number 3. -/
def Tests.onFab (s : State) : State :=
  let s := (((s.setRegN R.GLB_LINK_STATUS 4).setRegN (rk R.FAB_P_STATUS 1) 1).setRegN R.FAB_NODE_ID 0x80000003).setRegN (rk R.FAB_P_CTRL 1) 1
  { s with fab := { s.fab with grps := [(2, ⟨0x80070005, 2, 0, 0⟩)], routes := [(9, 3)] } }

def Tests.fab : State := Tests.onFab Tests.up

/-- Context 7's second 2 MiB of virtual addresses lie at a place. -/
def Tests.alsoAt (s : State) (d : Dest) : State :=
  { s with mmu := { s.mmu with tlbs := s.mmu.tlbs.map (fun l => l ++ [⟨7, 2 ^ 21, 2 ^ 21, 0, 0, 2 ^ 21, d, 0, 0, true, true, true⟩]) } }

/-- A report at a remote node: its DONE follows the acknowledgement of the rest; one whose last word alone lies outside every page. -/
theorem witness_CopyEngines_reports :
    (let d : CopyDesc := { id := 12, report := some (2 ^ 21 + 0x40), taken := true }
     let u := Tests.alsoAt (Tests.onFab (Tests.copy [] [d])) (.remote 9)
     Tests.has (u.copy? 11) (fun j => !u.descOpen j d && Tests.ok (u.writeReport j d (2 ^ 21 + 0x40) none none) && (u.writeReport j d (2 ^ 21 + 0x40) none none).2.descRemote j d) = true ∧
     Tests.next (exec (.descriptorComplete 11 0) u) (fun t => t.copies.map (fun j => j.busy.map (·.reported)) == [[true]] && t.fab.inflight.length == 3) = true) ∧
    (let d : CopyDesc := { id := 12, report := some (2 ^ 21 - 4), taken := true }
     let u := Tests.copy [] [d]
     let u := { u with mmu := { u.mmu with tlbs := List.replicate 64 [⟨7, 2 ^ 21, 2 ^ 21, 0, 0, 2 ^ 21, .loc, 0, 0, true, true, true⟩] } }
     Tests.has (u.copy? 11) (fun j => Tests.ok (u.writeReport j d (2 ^ 21 - 4) none none) &&
       Tests.err ((u.writeReport j d (2 ^ 21 - 4) none none).2.vwrite (j.whoD 12) (2 ^ 21 - 4) (leBytes 4 1) true) (fun e => e.e.cause != C.HOST_WAIT)) = true ∧
     Tests.next (exec (.descriptorComplete 11 0) u) (fun t => t.lost 7) = true) := by decide +kernel

theorem witness_FabricConfiguration :
    ([R.FAB_NODE_ID, R.FAB_ROUTE_DATA, R.FAB_LEAVE, R.FAB_WIN_DATA3, R.FAB_GRP_DATA3, R.FAB_P_CTRL].all (fun k => Tests.fab.reaches .fec0 k 0 1) = true) ∧
    Tests.fab.validGroups ≠ [] ∧ Tests.up.validGroups = [] ∧
    ((Tests.fab.setRegN R.FAB_WIN_DATA1 1).reg R.FAB_WIN_DATA1 = 1 ∧ Tests.fab.reg R.FAB_WIN_DATA1 = 0) ∧
    Tests.next (exec (.windowCommit .fec0 1) ((Tests.fab.setRegN R.FAB_WIN_DATA0 0xFFFFFFFF).setRegN R.FAB_WIN_DATA1 1)) (fun t => t.fab.wins.length == 1) = true ∧
    Tests.next (exec (.windowCommit .fec0 1) ((Tests.fab.setRegN R.FAB_WIN_DATA0 0xFFFFFFFF).setRegN R.FAB_WIN_DATA1 2)) (fun t => t.fab.wins.isEmpty && t.bit R.FAB_CFG_STATUS 1) = true ∧
    Tests.next (exec (.groupCommit .fec0 0) ((Tests.fab.setRegN R.FAB_GRP_DATA0 0x80080006).setRegN R.FAB_GRP_DATA1 2048)) (fun t => t.fab.grps.length == 2) = true ∧
    Tests.next (exec (.groupCommit .fec0 0) ((Tests.fab.setRegN R.FAB_GRP_DATA0 0x80070006).setRegN R.FAB_GRP_DATA1 2048)) (fun t => t.fab.grps.length == 1) = true ∧
    (let u := Tests.fab.setRegN R.FAB_GRP_IDX 2
     let v := { u with qm := { u.qm with fifo := [⟨7, 1, 0, 0, 0⟩] } }
     u.grpLocked = false ∧ v.grpLocked = true ∧ quadOf v.fab.grps 2 ≠ ⟨0, 0, 0, 0⟩) ∧
    (let u := fun (n : Nat) => ((Tests.fab.setRegN (rk R.FAB_P_CTRL 0) n).setRegN R.GLB_LINK_STATUS 4).setRegN (rk R.FAB_P_STATUS 0) n
     (u 0).reaches .fec0 R.FAB_P_CTRL 0 0 = true ∧ ([0, 1].all (fun n => Tests.next (exec (.registerWrite .fec0 R.FAB_P_CTRL 0 true) (u n)) (fun t => t.reg R.FAB_P_DOWN_COUNT == BitVec.ofNat 32 n && t.reg R.FAB_P_STATUS == 0)) = true) ∧
     ([0, 1].all (fun n => Tests.next (exec (.portEnable .fec0) (u n)) (fun t => t.reg R.FAB_P_STATUS == if n = 0 then 2 else 1)) = true)) ∧
    Tests.fab.fioUp = true ∧ Tests.fab.portUp 1 = true ∧ (Tests.fab.setRegN R.FAB_P_STATUS 2).bit R.FAB_P_STATUS 1 = true ∧
    Tests.next (exec (.portDown 1) Tests.fab) (fun t => t.reg (rk R.FAB_P_DOWN_COUNT 1) == 1) = true := by decide +kernel

theorem witness_FabricPackets :
    Tests.fab.portOpen 1 = true ∧ Tests.ok (Tests.fab.serveRead 9 0x40 128) = false ∧
    (let u := { Tests.fab with fab := { Tests.fab.fab with wins := [(0, ⟨0, 1, 0, 0xF⟩)] } }
     Tests.ok (u.serveRead 9 0x40 128) = true ∧ Tests.ok (u.serveWrite 9 0x40 [some 1]) = true ∧ Tests.ok (u.serveAtom 9 0x40 [(0, ⟨10, true, 1, 2, false⟩), (8, ⟨10, true, 3, 0, false⟩)]) = true ∧
     Tests.next (exec (.fabReadReq 1 9 5 0x40 128) u) (fun t => t.fab.sent.length == 1) = true ∧ Tests.next (exec (.fabWrite 1 9 5 0x40 [some 1]) u) (fun t => t.fab.sent.length == 1) = true ∧
     Tests.next (exec (.fabAtomic 1 9 5 0x40 10 true false [(0, 1), (8, 3)] [2]) u) (fun t => t.fab.sent.length == 1) = true) ∧
    ([Instr.fabReadReq 1 9 5 0x40 128, .fabWrite 1 9 5 0x40 [some 1], .fabAtomic 1 9 5 0x40 0 false false [(0, 1)] []].all (fun c =>
      Tests.next (exec c Tests.fab) (fun t => t.fab.sent.map (·.kind) == [.refuse])) = true) ∧
    ([Instr.fabReadRsp 1 5 [0], .fabWriteAck 1 5, .fabAtomicRsp 1 5 [0], .fabRefuse 1 5 2].all (fun c => Tests.next (exec c Tests.fab) (fun t => t.reg R.FAB_LATE_RSP_COUNT == 1)) = true) ∧
    Tests.fab.fab.inflight.find? (·.id == 5) = none ∧
    ([FabKind.readReq, .write, .atomic].all (fun k =>
      let r : FabReq := { id := 5, node := 9, port := 1, kind := k, holder := 57, ctx := 7, pkt := none, line := none, va := 0 }
      let u := { Tests.fab with fab := { Tests.fab.fab with inflight := [r] } }
      let c := match k with | .readReq => Instr.fabReadRsp 1 5 [0] | .write => .fabWriteAck 1 5 | _ => .fabAtomicRsp 1 5 [0]
      u.fab.inflight.find? (·.id == 5) == some r && Tests.next (exec c u) (fun t => t.fab.inflight.isEmpty && t.reg R.FAB_LATE_RSP_COUNT == 0) && Tests.next (exec (.fabRefuse 1 5 2) u) (fun t => t.fab.inflight.isEmpty) && Tests.next (exec (.fabResponseTimeout 5) u) (fun t => t.reg R.FAB_TIMEOUT_COUNT == 1)) = true) ∧
    Tests.fab.groupCtx 6 = none ∧ Tests.fab.groupCtx 5 = some 7 ∧ Tests.fab.lost 7 = false ∧ (Tests.fab.setRegN R.QM_CTX_LOST 128).lost 7 = true ∧
    Tests.next (exec (.fabAbort 1 6 0x21 2047 9) Tests.fab) (fun t => t.reg R.FAB_ABORT_IGNORED_COUNT == 1) = true ∧
    Tests.next (exec (.fabAbort 1 5 0x21 2047 9) (Tests.fab.setRegN R.QM_CTX_LOST 128)) (fun t => t.reg R.FAB_ABORT_RX_COUNT == 1) = true ∧
    Tests.next (exec (.fabAbort 1 5 0x21 2047 9) Tests.fab) (fun t => t.reg R.FAB_ABORT_RX_COUNT == 1 && t.lost 7) = true := by decide +kernel

/-- Power control as changed. -/
def Tests.pwr (s : State) (f : Pwr → Pwr) : State := { s with ao := { s.ao with pwr := f s.ao.pwr } }
def Tests.rst (s : State) (f : Rst → Rst) : State := { s with ao := { s.ao with rst := f s.ao.rst } }

theorem witness_PerformancePoints :
    Tests.up.reaches .fec0 R.CLK_PP_REQ 0 5 = true ∧ Tests.up.reaches .fec0 R.CLK_PP_REQ 0 6 = true ∧
    (let u := (Tests.up.setRegN R.PWR_TIER 1).setRegN R.CLK_PP_REQ 3
     u.field R.CLK_PP_REQ 2 0 = 3 ∧ (u.ppEval none).field R.CLK_PP_STATUS 6 4 = 3 ∧ ((u.setRegN R.PWR_TIER 3).ppEval none).field R.CLK_PP_STATUS 6 4 = 5) ∧
    ([PpKind.boot, .lower, .raise].all (fun k => [0, 5].all (fun n => [false, true].all (fun again =>
      let u := Tests.pwr (Tests.up.setField R.CLK_PP_STATUS 2 0 4) (fun p => { p with pp := some ⟨k, n, false, again⟩, pmbus := if k = .boot then 0 else 1 })
      Tests.next (exec .pmbusWriteComplete u) (fun _ => true) && Tests.next (exec (.pmbusFail false) u) (fun _ => true) && (k ≠ .boot || Tests.next (exec (.pmbusFail true) u) (fun t => t.ao.pwr.pmbus == 2))))) = true) ∧
    ([0, 5].all (fun n => Tests.next (exec .vsettleExpiry (Tests.pwr (Tests.up.setField R.CLK_PP_STATUS 2 0 4) (fun p => { p with pp := some ⟨.raise, n, true, false⟩, pmbus := 1 }))) (fun _ => true)) = true) ∧
    -- the target, the current point, and what ppKick finds: a faster target due (again after a failure elsewhere), a lower voltage due, neither
    (let u := fun (cur tgt volt pm : Nat) (f : Option Nat) => Tests.pwr ((Tests.up.setField R.CLK_PP_STATUS 2 0 cur).setField R.CLK_PP_STATUS 6 4 tgt) (fun p => { p with pp := none, pmbus := pm, volt := volt, failed := f })
     (u 3 1 3 1 none).modeLp = false ∧ (u 3 1 3 1 none).aoSwitching = false ∧ (u 3 1 3 1 none).ppCur = 3 ∧ (u 3 1 3 1 none).ppTarget = 1 ∧
     (u 3 1 3 1 (some 2)).ppKick.ao.pwr.pp = some { kind := .raise, pp := 1 } ∧ (u 3 1 3 1 (some 1)).ppKick.ao.pwr.pp = none ∧
     (u 3 1 3 2 none).ppKick.ao.pwr.failed = some 1 ∧ (u 3 3 1 1 none).ppKick.ao.pwr.pp = some { kind := .lower, pp := 3 } ∧ (u 3 1 1 1 (some 1)).ppKick.ao.pwr.pp = some { kind := .lower, pp := 3 } ∧
     (u 3 3 1 1 (some 3)).ppKick.ao.pwr.pp = none ∧ (u 3 3 3 1 none).ppKick.ao.pwr.pp = none ∧ (u 3 3 1 2 none).ppKick.ao.pwr.pp = none) ∧
    ([0, 1].all (fun n =>
      let u := Tests.pwr (Tests.up.setRegN R.PSD_LINK_STATUS n) (fun p => { p with noTier := false })
      u.aoRuns && Tests.next (exec .tierSourceLost u) (fun t => t.ao.pwr.noTier && t.field R.PWR_TIER 1 0 == 3 && t.bit R.PWR_EVT 6)) = true) ∧
    Tests.next (exec .rootUnlock Tests.up) (fun t => !t.rootLock && t.reg R.CLK_ROOT_UNLOCK_COUNT == 1) = true ∧ Tests.next (exec .rootRelock (Tests.up.clrBits R.CLK_PP_STATUS 0x20000)) (fun t => t.rootLock) = true ∧
    (Tests.up.setBits R.CLK_PP_STATUS 0x20000).rootLock = true ∧ (Tests.up.clrBits R.CLK_PP_STATUS 0x20000).rootLock = false ∧ Tests.up.ao.rst.held ≠ 2 ∧ Tests.up.ao.pwr.refLost = false ∧
    (Tests.pwr Tests.up (fun p => { p with refLost := true })).ao.pwr.refLost = true ∧ Tests.up.aoRuns = true ∧ (Tests.up.setRegN R.PSD_LINK_STATUS 1).bit R.PSD_LINK_STATUS 0 = true := by decide +kernel

theorem witness_Temperatures :
    (List.replicate 24 (0 : BitVec 16)).length = 24 ∧ ((List.range 24).all (fun n => (thmKinds n).all (fun k => !Tests.up.levelDue n k)) = true) ∧
    storeWf regPlain Tests.up.regs = true ∧ storeWf (fun _ v => v == 0) Tests.up.ao.pwr.dwell = true ∧ (0 ∈ thmKinds 0) ∧ (3 ∈ thmKinds 15) ∧
    ([0, 1, 2].all (fun k =>
      let u := Tests.pwr Tests.up (fun p => { p with dwell := [(4 * 3 + k, 32)] })
      u.dwell 3 k == 32 && !u.thmLevel 3 k && Tests.next (exec (.thermalLevelUp 3 k) u) (fun t => t.thmLevel 3 k) &&
      Tests.next (exec (.thermalLevelDown 3 k) (u.setField (R.THM_STAT + 12) k k 1)) (fun t => !t.thmLevel 3 k)) = true) ∧
    (let u := Tests.pwr Tests.up (fun p => { p with dwell := [(63, 40)] })
     3 ∈ thmKinds 15 ∧ 32 ≤ u.dwell 15 3 ∧ u.thmLevel 15 3 = false ∧ (u.setField (R.THM_STAT + 60) 3 3 1).thmLevel 15 3 = true) ∧
    (let u := Tests.pwr Tests.up (fun p => { p with dwell := [(14, 32)], crit := .running })
     u.ao.pwr.crit = .running ∧ u.abortsOver = true ∧ Tests.next (exec .critShutdownDone u) (fun t => t.reg R.PWR_CRIT_OFF_COUNT == 1) = true ∧
     Tests.next (exec (.thermalLevelUp 3 2) (Tests.pwr u (fun p => { p with crit := .none, move := some ⟨9, 2, 0, none⟩ }))) (fun t => t.ao.pwr.crit == .due) = true) := by decide +kernel

/-- Every domain but AO is OFF. -/
def Tests.dark : State := (List.range 21).foldl (fun s d => if d = 0 then s else s.setDom d 0) Tests.up

theorem witness_PowerDomains :
    ([0, 1, 2].all (fun t => [0, 1, 20, 21, 31].all (fun d => Tests.up.reaches .fec1 R.PWR_DCMD 0 (BitVec.ofNat 32 (t * 2 ^ 8 + d)))) = true) ∧
    Tests.next (exec (.domainToOn .host 9) Tests.up) (fun t => t.reg R.PWR_DCMD_RESULT == 9) = true ∧
    Tests.next (exec (.domainToOff .host 0) Tests.up) (fun t => t.reg R.PWR_DCMD_RESULT == 0x200) = true ∧
    Tests.next (exec (.domainToOff .host 31) Tests.up) (fun t => t.reg R.PWR_DCMD_RESULT == 0x81F) = true ∧
    Tests.next (exec (.domainToOff .host 16) Tests.up) (fun t => t.ao.pwr.move == some ⟨16, 2, 0, some 0⟩) = true ∧
    Tests.next (exec (.domainToRet .host 16) (Tests.up.setDom 16 0)) (fun t => t.reg R.PWR_DCMD_RESULT == 0x810) = true ∧
    ([(0, none), (1, none), (2, some 0), (0, some 1)].all (fun (x : Nat × Option Nat) =>
      Tests.next (exec (.domainTransitionDone true) (Tests.pwr (Tests.up.setDom 16 3) (fun p => { p with move := some ⟨16, 2, x.1, x.2⟩ }))) (fun t => t.dom 16 == x.1)) = true) ∧
    Tests.up.reaches .fec1 R.PWR_AOREG 0 0 = true ∧ Tests.up.reaches .fec1 R.PWR_AOREG 0 3 = true ∧ Tests.up.allLow = false ∧ Tests.dark.allLow = true ∧
    Tests.next (exec (.aoregLp .monitor true) Tests.dark) (fun t => t.bit R.PWR_AOREG 0 && t.aoSwitching) = true ∧
    Tests.next (exec (.aoregLp .host false) Tests.up) (fun t => t.reg R.PWR_REFUSE_COUNT == 1) = true ∧
    (Tests.dark.setRegN R.PWR_AOREG 0x201).aoSwitching = true ∧ Tests.next (exec .aoregSwitchDone (Tests.dark.setRegN R.PWR_AOREG 0x201)) (fun t => t.modeLp) = true ∧
    Tests.next (exec .aoregSwitchDone (Tests.pwr (Tests.dark.setRegN R.PWR_AOREG 0x300) (fun p => { p with wakeHm := true }))) (fun t => !t.modeLp) = true ∧
    Tests.next (exec .aoregSwitchDone (let s := Tests.dark.setRegN R.PWR_AOREG 0x201; { s with ao := { s.ao with mon := { s.ao.mon with busy := true } } })) (fun t => !t.modeLp && t.ao.rst.log.length != 0) = true ∧
    Tests.next (exec .aoregSwitchDone (Tests.dark.setRegN R.PWR_AOREG 0x300)) (fun t => !t.modeLp) = true ∧
    (let u := ((Tests.dark.setRegN R.PWR_AOREG 0x101).setRegN R.PWR_WAKE_EN 4).setRegN R.PWR_WAKE_TIMER 5
     u.modeLp = true ∧ u.aoSwitching = false ∧ u.bit R.PWR_WAKE_EN 2 = true ∧ u.field R.PWR_WAKE_TIMER 23 0 = 5 ∧ u.aoRuns = true ∧
     Tests.next (exec .wakeTimerExpiry u) (fun t => t.ao.pwr.wakeBy == some 2) = true ∧ Tests.next (exec .aoregBrownout u) (fun t => !t.modeLp) = true) := by decide +kernel

theorem witness_ResetSources :
    Tests.up.ao.rst.held = 0 ∧ (Tests.up.resetReq 3 4).ao.rst.held = 3 ∧ ((Tests.up.resetReq 3 4).resetReq 2 2).ao.rst.held = 2 ∧ ((Tests.up.resetReq 2 4).resetReq 3 3).bit R.RST_CAUSE 16 = true ∧
    storeWf regPlain Tests.up.regs = true ∧ (Tests.up.resetReq 3 4).resetEnd.ao.rst.held = 0 ∧ (Tests.up.resetReq 2 4).resetEnd.ao.rst.held = 0 ∧
    Tests.up.ao.pwr.aoOff = false ∧ Tests.next (exec (.aoPowerOn true []) (Tests.pwr Tests.up (fun p => { p with aoOff := true }))) (fun t => t.ao.rst.held == 2 && t.ao.rst.perst) = true ∧
    Tests.next (exec .perstAssert Tests.up) (fun t => t.ao.rst.perst && t.ao.rst.held == 2) = true ∧ State.reset.ao.rst.perst = true ∧
    Tests.next (exec (.perstRelease [0]) (Tests.pwr State.reset (fun p => { p with lpPerst := true }))) (fun t => !t.ao.rst.perst && t.reg R.PWR_WAKE_CAUSE == 1) = true ∧
    Tests.up.reaches .host R.RST_CTRL 0 1 = true ∧ (Tests.pwr Tests.up (fun p => { p with bad := [1] })).reaches .host R.RST_CTRL 0 2 = true ∧
    Tests.up.ao.rst.button = false ∧ Tests.next (exec .resetNPress Tests.up) (fun t => t.ao.rst.held == 3 && t.ao.rst.button) = true ∧
    (let u := Tests.rst Tests.up (fun r => { r with button := true, held := 3 })
     Tests.next (exec .resetEscalate u) (fun t => t.ao.rst.held == 2 && t.reg R.RST_HOLD_MS == 6000) = true ∧ Tests.next (exec (.resetNRelease []) u) (fun t => t.ao.rst.held == 0) = true ∧
     Tests.next (exec .resetStuck (Tests.rst u (fun r => { r with escalated := true }))) (fun t => t.reg R.RST_STUCK_COUNT == 1) = true) ∧
    Tests.up.dlUp = true ∧ Tests.up.dom D.HM = 2 ∧
    (let u := { Tests.up with hs := { Tests.up.hs with d3hot := true, cfg := { Tests.up.hs.cfg with bar0 := 0x4000000, mps := 2, msixEn := true } } }
     (u.cfgReset true).hs.cfg = { mps := 2 } ∧ (u.cfgReset false).hs.cfg = {} ∧ (u.cfgReset true).hs.d3hot = false ∧ u.linkGone.dlUp = false) := by decide +kernel

/-- FEC0's status is as given. -/
def Tests.fec (st : Nat) : State := Tests.up.setRegN R.RST_FEC_STATUS st

theorem witness_PartResetsAndControlCores :
    Tests.up.reaches .host R.RST_PRESET 0 7 = true ∧ ([0x4B, 0x14B, 0x24, 0x00].all (fun v => Tests.up.reaches .host R.RST_ERESET 0 v) = true) ∧
    (let u := ((Tests.up.setRegN R.RST_FEC_LOAD_ADDR_LO 0x1000).setRegN R.RST_FEC_LOAD_LEN 262144).setRegN R.RST_FEC_LOAD_ENTRY 262136
     u.field R.RST_FEC_LOAD_LEN 18 0 = 262144 ∧ u.field R.RST_FEC_LOAD_ENTRY 17 0 = 262136 ∧ u.fecInUse 0 = false ∧ u.rangeErr 0x1000 262144 = none ∧ u.on D.FEC = true ∧
     (u.setDom D.MEM 0).rangeErr 0x1000 262144 ≠ none ∧ (Tests.parts .active).fecInUse 0 = true) ∧
    ((List.range 6).all (fun k => (Tests.fec k).fecStage 0 == k) = true) ∧
    ([none, some 8].all (fun p => Tests.next (exec (.fecException 0 4 5 0x100010 { push := p }) (Tests.fec 3)) (fun t => t.fecStage 0 == 3)) = true) ∧
    Tests.next (exec (.fecException 0 4 5 0x100008 { push := some 16 }) (Tests.fec 3)) (fun t => t.fecStage 0 == 4) = true ∧
    -- inside a handler: with it, or once it has returned
    ([false, true].all (fun b => Tests.next (exec (.fecException 0 4 5 0x110000 { back := b }) (Tests.rst (Tests.fec 3) (fun r => { r with fecs := [{ exc := true }, {}] }))) (fun t => t.fecStage 0 == if b then 3 else 4)) = true) ∧
    Tests.next (exec (.fecWatchdogExpiry 0) ((Tests.fec 3).setRegN R.RST_FEC_WDT 1)) (fun t => t.fecStage 0 ≠ 3) = true ∧
    Tests.next (exec (.fecRestart 0 none) (Tests.fec 0x204)) (fun t => t.fecStage 0 ≠ 4) = true ∧
    Tests.up.reaches .fec0 R.RST_FEC_KICK 0 1 = true ∧ Tests.up.reaches .host R.RST_FLASH_CTRL 0 1 = true ∧ Tests.up.reaches .host R.RST_FLASH_CTRL 0 0 = true := by decide +kernel

/-- The flash holds two images of 8 bytes with a wrong CRC, and the boot ROM has begun to read them. -/
def Tests.flash : State :=
  let e : List Byte := leBytes 4 4096 ++ leBytes 4 8 ++ leBytes 4 0 ++ leBytes 4 0 ++ List.replicate 8 0
  (Tests.rst Tests.up (fun r => { r with flash := (r.flash.write 0 (leBytes 4 0x5A424631 ++ leBytes 2 1 ++ [0, 0] ++ e ++ e)).write 4096 (List.replicate 8 1) })).romBegin.romFlash

/-- 17 Table BOT-6, steps 9 to 11: the image of FEC0 is read before that of FEC1, and FEC0 starts last. -/
theorem test_boot_order :
    (Tests.flash.fecStage 0 = 2 ∧ Tests.flash.fecStage 1 = 1 ∧ (Tests.flash.slot 1).valid = true ∧ Tests.flash.on D.FEC = true ∧ Tests.flash.ao.rst.held = 0) ∧
    Tests.next (exec (.bootImageLoaded 0) Tests.flash) (fun t => t.fecStage 0 == 2 && t.fecStage 1 == 2 && (t.fec 0).imaged && t.bit R.RST_FEC_STATUS 5 &&
      Tests.next (exec (.bootImageLoaded 1) t) (fun u => u.fecStage 0 == 3 && u.fecStage 1 == 3 && u.reg R.RST_BOOT_DONE_COUNT == 1)) = true := by decide +kernel

/-- The link is up, and FEC0 runs or not. -/
theorem witness_SpdmRequests :
    (Tests.fec 2).dlUp = true ∧ (Tests.fec 2).ao.rst.doe.held = none ∧ (Tests.fec 2).fecStage 0 = 2 ∧ (Tests.fec 5).fecStage 0 = 5 ∧
    ([(0x84, 0x10), (0xE1, 0x12), (0xE3, 0x12), (0x81, 0x12)].all (fun x => Tests.next (exec
      (if x.1 = 0x84 then .getVersion [0x10, 0x84, 0, 0] else if x.1 = 0xE1 then .getCapabilities [0x12, 0xE1, 0, 0] else if x.1 = 0xE3 then .negotiateAlgorithms [0x12, 0xE3, 0, 0] else .getDigests [0x12, 0x81, 0, 0])
      (Tests.fec 3)) (fun t => t.ao.rst.doe.out.length == 1)) = true) ∧
    Tests.next (exec (.getVersion [0x10, 0x84, 0, 0]) (Tests.fec 2)) (fun t => t.ao.rst.doe.held == some (1, [0x10, 0x84, 0, 0])) = true ∧
    Tests.next (exec (.challenge (0x12 :: 0x83 :: List.replicate 34 0)) (Tests.fec 3)) (fun t => t.ao.rst.doe.out.length == 1) = true ∧
    Tests.next (exec (.getMeasurements (0x12 :: 0xE0 :: 1 :: 0xFF :: List.replicate 33 0)) (Tests.fec 3)) (fun t => t.ao.rst.doe.out.length == 1) = true ∧
    Tests.next (exec (.getMeasurements [0x12, 0xE0, 1, 0]) (Tests.fec 3)) (fun t => t.ao.rst.doe.out.length == 1) = true := by decide +kernel

/-- The pack sense die, its link and the monitor as changed. -/
def Tests.die (f : PsdDie → PsdDie) : State := { Tests.up with ao := { Tests.up.ao with die := f Tests.up.ao.die } }
def Tests.psd (s : State) (f : PsdHio → PsdHio) : State := { s with ao := { s.ao with psd := f s.ao.psd } }
def Tests.mon (s : State) (f : Mon → Mon) : State := { s with ao := { s.ao with mon := f s.ao.mon } }

theorem witness_PackProtection :
    (Tests.die (fun d => { d with powered := false })).ao.die.powered = false ∧ (Tests.die id).ao.die.powered = true ∧
    (let d := (Tests.die id).ao.die
     d.due = false ∧ d.refRun = false ∧ d.checkDue = false ∧ d.holds = 0 ∧ d.settling = true) ∧
    Tests.next (exec (.conversionCycle (List.replicate 16 55000) (List.replicate 4 20000)) (Tests.die id)) (fun t => t.ao.die.cycle == 1) = true ∧
    ([true, false].all (fun b =>
      let u := Tests.die (fun d => { d with lv := d.lv.set 15 { hi := b, lo := b, hiN := 4, loN := 4 }, nlv := d.nlv.set 3 { hi := b, lo := b, hiN := 4, loN := 4 } })
      Tests.next (exec (.ovLevelChange 15) u) (fun t => (t.ao.die.lv.getD 15 {}).hi != b) && Tests.next (exec (.uvLevelChange 15) u) (fun t => (t.ao.die.lv.getD 15 {}).lo != b) &&
      Tests.next (exec (.ntcLevelChange 3 false) u) (fun t => (t.ao.die.nlv.getD 3 {}).hi != b) && Tests.next (exec (.ntcLevelChange 3 true) u) (fun t => (t.ao.die.nlv.getD 3 {}).lo != b)) = true) ∧
    Tests.next (exec .settlingEnd (Tests.die (fun d => { d with left := 0, code := List.replicate 16 65535 }))) (fun t => !t.ao.die.settling && t.ao.die.tier == 0) = true ∧
    Tests.next (exec .tierDecision (Tests.die (fun d => { d with settling := false, tier := 0, worse := [25, 25, 24] }))) (fun t => t.ao.die.tier == 2) = true ∧
    Tests.next (exec .tierDecision (Tests.die (fun d => { d with settling := false, tier := 3, better := 2500 }))) (fun t => t.ao.die.tier == 2) = true ∧
    (let u := Tests.die (fun d => { d with refPend := true })
     u.ao.die.checkDue = true ∧ u.ao.die.due = false ∧ Tests.next (exec .refchkStart u) (fun t => t.ao.die.refRun) = true) ∧
    ([false, true].all (fun b =>
      let u := Tests.die (fun d => { d with refRun := true, refFail := b })
      Tests.next (exec (.refchkEnd (List.replicate 15 3000 ++ [-3001])) u) (fun t => t.ao.die.refFail && t.ao.die.tier == 3) &&
      Tests.next (exec (.refchkEnd (List.replicate 16 (-3000))) u) (fun t => !t.ao.die.refFail)) = true) := by decide +kernel

/-- A frame of the down lane stands at the die. -/
def Tests.down (f : List Byte) : State := Tests.psd (Tests.die id) (fun p => { p with down := [f] })

theorem witness_LinkFramesAtTheDie :
    (let f := fun (k i v : Byte) => psdSeal [0x5A, k, 0, i, v, 0, 0]
     Tests.next (exec (.psdWrite []) (Tests.down (f 0x10 2 9))) (fun t => t.ao.die.ix 2 == 9 && t.ao.die.acks.length == 1) = true ∧
     Tests.next (exec (.clearFault []) (Tests.down (f 0x11 0x40 0))) (fun t => t.ao.die.acks.length == 1) = true ∧
     Tests.next (exec (.refchkNow []) (Tests.down (f 0x11 0x41 0))) (fun t => t.ao.die.refPend) = true ∧
     Tests.next (exec (.clearPor []) (Tests.down (f 0x11 0x42 0))) (fun t => !t.ao.die.por) = true ∧
     Tests.next (exec (.keepalive [0, 0, 1, 0, 0, 0, 0, 0]) (Tests.down (f 0x12 0 0))) (fun t => t.ao.die.rxerr == 1) = true ∧
     Tests.next (exec (.brownout []) (Tests.down (f 0x13 0 0))) (fun t => t.ao.die.head == 2) = true ∧
     (f 0x10 2 9).length = 8 ∧ (f 0x10 2 9).getD 0 0 = 0x5A ∧ (f 0x10 2 9).getD 7 0 = psdCrc ((f 0x10 2 9).take 7) ∧
     ({ (Tests.die id).ao.die with refRun := true }.receive (f 0x10 2 9)).held.length = 1) ∧
    (let d := (Tests.die id).ao.die
     d.allowed 2 9 = true ∧ (List.range 32).any (fun i => (List.range 4).any (fun v => !d.allowed i (v * 20000))) = true ∧ d.conds = 0 ∧ { d with conds := 1 }.conds ≠ 0 ∧ d.allowed 4 0x11F = true) ∧
    (Tests.die id).ao.die.quiet = false ∧ Tests.up.aoRuns = true ∧ Tests.up.inLp = false ∧ Tests.up.ao.psd.down = [] := by decide +kernel

/-- The link is in sync. -/
def Tests.sync : State := Tests.up.setRegN R.PSD_LINK_STATUS 1

theorem witness_LinkCommands :
    Tests.up.reaches .host R.PSD_CMD 0 0x90002 = true ∧
    (let u := Tests.psd Tests.sync (fun p => { p with queue := [(2, 9)] })
     u.aoRuns = true ∧ u.inLp = false ∧ u.bit R.PSD_LINK_STATUS 0 = true ∧ u.ao.psd.sent = none ∧ u.ao.psd.resync = false ∧
     Tests.next (exec .commandSend u) (fun t => t.ao.psd.down.length == 1 && t.ao.psd.sent.isSome) = true) ∧
    ([0, 1, 2, 3, 5, 6, 0x80].all (fun r => [false, true].all (fun again =>
      let u := Tests.psd { Tests.sync with ao := { Tests.sync.ao with die := { Tests.sync.ao.die with acks := [psdSeal [0xA5, 2, 7, BitVec.ofNat 8 r, 2, 9, 0]] } } }
        (fun p => { p with queue := [(2, 9)], sent := some { cnt := 7, again := again } })
      Tests.next (exec (.psdAck []) u) (fun t => t.ao.psd.sent.isNone == (r == 0 || r == 1 || (r == 2 && again) || r == 3 || r == 5 || r == 0x80)) &&
      Tests.next (exec (.psdAck [0, 0, 0, 0, 0, 0, 0, 1]) u) (fun t => t.reg R.PSD_RX_CRC_COUNT == 1))) = true) ∧
    ([0, 3].all (fun n => Tests.next (exec .psdAckTimeout (Tests.psd Tests.sync (fun p => { p with queue := [(2, 9)], sent := some { cnt := 7, tries := n } }))) (fun t => t.ao.psd.sent.isSome == (n == 0))) = true) ∧
    (let u := Tests.die (fun d => d.compose)
     u.ao.die.frame.isSome = true ∧ u.ao.die.due = false ∧ Tests.next (exec (.statusFrame []) u) (fun t => t.reg R.PSD_RX_CRC_COUNT == 0) = true ∧
     Tests.next (exec (.statusFrame (1 :: List.replicate 63 0)) u) (fun t => t.reg R.PSD_RX_CRC_COUNT == 1) = true) := by decide +kernel

theorem witness_MonitorLines :
    (Tests.pwr Tests.up (fun p => { p with aoOff := true })).aoRuns = false ∧ Tests.up.aoRuns = true ∧ Tests.up.modeLp = false ∧ (Tests.up.setRegN R.PWR_AOREG 0x100).modeLp = true ∧
    Tests.up.monBusy = false ∧ (Tests.mon Tests.up (fun m => { m with busy := true })).monBusy = true ∧ Tests.up.monEcho = true ∧ (Tests.up.setRegN R.DBG_MON_STATUS 0).monEcho = false ∧
    (let line := fun (l : List Byte) (bad : Bool) => Tests.mon Tests.up (fun m => { m with line := l, bad := bad })
     Tests.next (exec (.uartChar 13 false) (line (ascii "ID") false)) (fun t => t.ao.mon.cmd == some .id) = true ∧
     Tests.next (exec (.uartChar 13 false) (line (ascii "IQ") false)) (fun t => t.reg R.DBG_MON_ERR_COUNT == 1) = true ∧
     Tests.next (exec (.uartChar 13 false) (line (List.replicate 256 65) false)) (fun t => t.reg R.DBG_MON_ERR_COUNT == 1) = true ∧
     Tests.next (exec (.uartChar 65 false) (line (List.replicate 255 65) false)) (fun t => t.ao.mon.line.length == 256) = true ∧
     Tests.next (exec (.uartChar 65 false) (line (List.replicate 256 65) false)) (fun t => t.ao.mon.line.length == 256) = true ∧
     Tests.next (exec .uartBreak (line [] true)) (fun t => t.reg R.DBG_MON_ERR_COUNT == 1) = true ∧ Tests.next (exec .uartBreak (line [] false)) (fun t => t.reg R.DBG_MON_ERR_COUNT == 0) = true) ∧
    Tests.next (exec .baudRevert (Tests.mon Tests.up (fun m => { m with revert := true }))) (fun t => !t.ao.mon.revert) = true ∧
    Tests.next (exec .challengeExpiry (Tests.mon Tests.up (fun m => { m with chal := some ([], 1) }))) (fun t => t.ao.mon.chal.isNone) = true ∧
    ([none, some 6].all (fun n => Tests.next (exec .promptEnd (Tests.mon Tests.up (fun m => { m with busy := true, newBaud := n }))) (fun t => t.field R.DBG_MON_STATUS 6 4 == n.getD 0)) = true) := by decide +kernel

theorem witness_MonitorCommands :
    (let u := fun (c : MonCmd) => Tests.mon Tests.up (fun m => { m with cmd := some c, locked := false })
     let shut := fun (c : MonCmd) => Tests.mon Tests.up (fun m => { m with cmd := some c, locked := true })
     let runs := fun (c : MonCmd) (i : Instr) => Tests.next (exec i (u c)) (fun t => t.ao.mon.cmd.isNone && t.reg R.DBG_MON_ERR_COUNT == 0)
     let errs := fun (s : State) (i : Instr) => Tests.next (exec i s) (fun t => t.reg R.DBG_MON_ERR_COUNT == 1)
     ([(MonCmd.id, Instr.monId), (.stat, .monStat), (.rd 0x3FFFFFC 1, .monRd), (.wr 0xD0000 0, .monWr), (.mrd 0 4, .monMrd), (.mwr 0 5, .monMwr), (.meas none, .monMeas), (.meas (some 6), .monMeas), (.log none, .monLog),
       (.log (some 63), .monLog), (.plog, .monPlog), (.cnt, .monCnt), (.chal 1, .monChal), (.lock, .monLock), (.baud 6, .monBaud), (.echo false, .monEcho)].all (fun x => runs x.1 x.2)) = true ∧
     errs (u (.rd 0x4000000 1)) .monRd = true ∧ errs ((u (.rd 0x70004 1)).setDom D.CL 0) .monRd = true ∧ errs (shut (.wr 4 1)) .monWr = true ∧ errs (u (.wr 2 1)) .monWr = true ∧
     errs (shut (.mrd 0 1)) .monMrd = true ∧ errs (u (.mrd 2 1)) .monMrd = true ∧ errs ((u (.mwr 0 1)).setDom D.MEM 0) .monMwr = true ∧
     errs (Tests.rst (u (.chal 1)) (fun r => { r with held := 3 })) .monChal = true ∧ errs { u (.chal 1) with fuses := { unlockKeys := 1 } } .monChal = true ∧
     errs (u (.unlock [])) .monUnlock = true) ∧
    (let u := Tests.mon Tests.up (fun m => { m with cmd := some (.unlock []), chal := some ([], 1) })
     u.aoRuns = true ∧ u.modeLp = false ∧ u.holds Req.monitor.num = false ∧ u.ao.rst.held = 0 ∧ u.ao.mon.chal = some ([], 1)) := by decide +kernel

theorem witness_PerformanceCounters :
    Tests.up.reaches .fec0 R.DBG_MON_CTRL 0 1 = true ∧ ([0, 1, 2, 3].all (fun v => Tests.up.reaches .host R.DBG_PCTRL 0 v) = true) ∧ Tests.up.bit R.DBG_PCTRL 0 = false ∧
    (Tests.up.setDom D.HM 0).on D.HM = false ∧ storeWf regPlain Tests.up.regs = true ∧
    -- counter 0 hears event 0x10 of every partition, counter 7 event 4 of partition 2; the others nothing of it
    (let u := ((Tests.up.setRegN R.DBG_PCTRL 1).setRegN R.DBG_PSEL 0x810).setRegN (R.DBG_PSEL + 28) 0x204
     storeWf regPlain u.regs = true ∧ u.ao.perfRem.length = 8 ∧ u.bit R.DBG_PCTRL 0 = true ∧ u.on D.HM = true ∧ (u.perf 0x10 0 (perfUnit 0x10)).pair R.DBG_PC_LO = 1 ∧
     (u.perf 4 2 (perfUnit 4)).pair (R.DBG_PC_LO + 56) = 1 ∧ (perfFiltered 4 = true → (u.perf 4 3 (perfUnit 4)).pair (R.DBG_PC_LO + 56) = 0) ∧ (u.perf 5 2 8).pair R.DBG_PC_LO = 0) := by decide +kernel

/-- Issue of an opcode on core 5 by the pod of `Tests.pod`, with the context's memory mapped. -/
def Tests.isa (op : Nat) (i : Ins) (f : Pod → Pod) : State :=
  { Tests.atIns (f (Tests.pod false)) op i with mmu := Tests.mapped.mmu }

theorem witness_ShaderMemoryIssues :
    ([(0x70, Instr.ld (.slot 5 1) { mod := 2 }), (0x71, .st (.slot 5 1) { mod := 2 }), (0x72, .sld (.slot 5 1) { mod := 2 }), (0x73, .sst (.slot 5 1) { mod := 2 }), (0x80, .atom (.slot 5 1) {})].all (fun x =>
      let i : Ins := if x.1 = 0x80 then {} else { mod := 2 }
      Tests.issues (Tests.isa x.1 i id) (.slot 5 1) x.1 i && Tests.next (exec x.2 (Tests.isa x.1 i id)) (fun t => (t.core 5).ops.length == 1 && (t.core 5).pods.all (·.trap.isNone)) &&
      Tests.next (exec x.2 (Tests.isa x.1 i id)) (fun t => (t.core 5).lines.length == 1 || (t.core 5).lines.length == 0)) = true) := by decide +kernel

/-- A run of the guard with its code at 0x10000. -/
def Tests.run (op : Nat) (i : Ins) : State :=
  let s := Tests.atGuard op i
  { s with gd := { s.gd with
      pod := s.gd.pod.map (fun p => { p with pc := 0x10000 }), hdr := some ⟨0x10000, 1000, 0x10000, 0x10000, 0x100, 0x20000, 0x40, 0, 0, 0⟩
      sram := ({} : Mem).write 0x10000 (leBytes 8 (insWord op i) ++ leBytes 8 i.ext.toNat) } }

theorem witness_GuardMemoryIssues :
    ([(0x70, Instr.ld .guard { mod := 2 }, false), (0x71, .st .guard { mod := 2 }, true), (0x72, .sld .guard { mod := 2 }, false), (0x73, .sst .guard { mod := 2 }, true), (0x80, .atom .guard {}, true)].all (fun x =>
      let i : Ins := if x.1 = 0x80 then {} else { mod := 2 }
      let u := Tests.run x.1 i
      Tests.issues u .guard x.1 i && (u.gRange x.2.2 4 [(0, 0), (31, 124)]).isNone && Tests.next (exec x.2.1 u) (fun t => t.gState == 3)) = true) := by decide +kernel

theorem witness_TileStoreAccesses :
    ([(0x90, Instr.ldt (.slot 5 1) { mod := 2 }), (0x91, .stt (.slot 5 1) { mod := 2 }), (0x92, .atomt (.slot 5 1) {})].all (fun x =>
      let i : Ins := if x.1 = 0x92 then {} else { mod := 2 }
      let u := Tests.isa x.1 i id
      Tests.issues u (.slot 5 1) x.1 i && !(keysOf x.1 i).contains (256 + 0x89) && (u.core 5).ts.wf && Tests.next (exec x.2 u) (fun t => (t.core 5).pods.all (·.trap.isNone))) = true) := by decide +kernel

theorem witness_Locks :
    ([0x82, 0x83].all (fun op => [0, 1].all (fun m =>
      let i : Ins := { dst := 0x81, mod := m }
      let c := fun r => if op = 0x82 then Instr.lkwait r i else .unlk r i
      let u := Tests.isa op i id
      Tests.issues u (.slot 5 1) op i && !(u.core 5).lockBehind (Tests.pod false) ((List.range 32).map (fun l => (l, 0x100))) && Tests.next (exec (c (.slot 5 1)) u) (fun t => (t.core 5).pods.all (·.trap.isNone)) && (m == 1 || Tests.issues (Tests.run op i) .guard op i &&
      ((Tests.run op i).gRange false 4 [(0, 0), (31, 0)]).isNone && (op == 0x82 || Tests.next (exec (c .guard) (Tests.run op i)) (fun t => t.gState == 3))))) = true) ∧
    (let u := Tests.isa 0x82 {} id
     Tests.ok (u.lockXlate 5 (podWho 5 (Tests.pod false)) [(0, 0x100)] [] []) = true ∧ (Tests.pod false).m.length = 4 ∧ (u.pod? (.slot 5 1)).isSome = true ∧
     samePod (lockTag (.slot 5 1) (Tests.pod false) 3) (lockTag (.slot 5 1) (Tests.pod false) 4) = true ∧ lockTag (.slot 5 1) (Tests.pod false) 3 ≠ lockTag (.slot 5 1) (Tests.pod false) 4) := by decide +kernel

theorem witness_TensorInstructions :
    ([(0xA0, Instr.tmma (.slot 5 1) (Tests.ins 0xA0)), (0xA1, .tcvt (.slot 5 1) (Tests.ins 0xA1))].all (fun x =>
      let u := Tests.isa x.1 (Tests.ins x.1) id
      Tests.issues u (.slot 5 1) x.1 (Tests.ins x.1) && !(keysOf x.1 (Tests.ins x.1)).contains (256 + 0x89) && (tensorRanges (Tests.pod false) (x.1 == 0xA1) (Tests.ins x.1) 0).all (fun y => y.1 % 128 = 0 && y.1 + y.2 ≤ 4096) &&
      Tests.next (exec x.2 u) (fun t => (t.core 5).tq.length == 1)) = true) ∧
    (let e : TensorOp := { op := 1, uid := 9, slot := 1, ctx := 7, pc := 0, lanes := 1, cvt := false, d := 0, a := 0, b := 0, c := 0, ext := 0x0C0E0E, ftz := false, rmode := 0 }
     let u := fun (b : Bool) => Tests.up.modCore 5 (fun co => { co with tq := [{ e with started := b }] })
     ((u false).core 5).tq.findIdx? (fun t => !t.started) = some 0 ∧ ((u true).core 5).tq = [{ e with started := true }] ∧ (u true).opPod 5 1 9 = none ∧
     Tests.next (exec (.tensorStart 5) (u false)) (fun t => (t.core 5).tq.map (·.started) == [true]) = true ∧ Tests.next (exec (.tensorComplete 5) (u true)) (fun t => (t.core 5).tq.isEmpty) = true) ∧
    (let i := Tests.ins 0xA0
     let u := Tests.run 0xA0 i
     Tests.issues u .guard 0xA0 i = true ∧ Tests.has u.gd.pod (fun p => (tensorRanges p false i 0).all (fun y => y.1 % 128 = 0 && y.1 + y.2 ≤ sramSize)) = true ∧ u.gd.ue = [] ∧
     u.gRange true (tensorSizes false i.ext.toNat 0).1 [(0, 0)] = none) := by decide +kernel

theorem witness_ControlInstructions :
    (let i := Tests.ins 3
     let f := fun (p : Pod) => { p with trapMode := true }
     Tests.issues (Tests.isa 3 i f) (.slot 5 1) 3 i = true ∧ (f (Tests.pod false)).trapMode = true ∧ (Tests.pod false).sv64 {} 0 % 8 = 0) := by decide +kernel

theorem witness_InstructionsRefused :
    (let u := Tests.isa 0x06 {} id
     opDefined 0x06 = true ∧ (illegal false false 0x06 {}).isSome = true ∧ u.podReady (.slot 5 1) (Tests.pod false) 0x06 {} = true ∧
     (match u.fetch (.slot 5 1) (Tests.pod false) 0x1000 with | (.word w, _) => w == insWord 0x06 {} | _ => false) = true) ∧
    (let i : Ins := { dst := 70, src0 := 66 }
     let u := Tests.isa 0x30 i id
     Tests.has (u.spelled (.slot 5 1) (Tests.pod false) 0x30 i) (fun v => v.pod? (.slot 5 1) == some (Tests.pod false)) = true ∧ (Tests.pod false).freeFor (.slot 5 1) 0x30 i = true ∧
     predOk (Tests.pod false) i = true ∧ u.lineRoom (.slot 5 1) 0x30 = true ∧ (Tests.pod false).m0 ≠ 0 ∧ 66 ∈ vregsOf 0x30 i ∧ 70 ∈ vregsOf 0x30 i ∧ (Tests.pod false).vregs ≤ 66 ∧ (∀ m ∈ vregsOf 0x30 i, 64 ≤ m → m ≠ 255 → 66 ≤ m)) := by decide +kernel

theorem witness_PredicateSkips :
    (let i : Ins := { pe := true, preg := 7 }
     Tests.has ((Tests.isa 0x30 i id).spelled (.slot 5 1) (Tests.pod false) 0x30 i) (fun v => v.pod? (.slot 5 1) == some (Tests.pod false)) = true ∧ (Tests.pod false).freeFor (.slot 5 1) 0x30 i = true ∧
     i.pe = true ∧ (Tests.pod false).preds.testBit i.preg.toNat = i.pn) ∧
    (let i : Ins := { wait := 1 }
     let f := fun (p : Pod) => { p with sb := [1, 0, 0, 0, 0, 0] }
     (Tests.isa 0x30 i f).pod? (.slot 5 1) = some (f (Tests.pod false)) ∧ i.wait.getLsbD 0 = true ∧ (f (Tests.pod false)).sb.getD 0 0 ≠ 0) ∧
    ((Tests.pod false).pend = [] ∧ (Tests.pod false).tm.pend = []) ∧
    (let f := fun (p : Pod) => { p with m := [0, 5, 5, 5] }
     -- an instruction on lanes, a compare, LKWAIT
     ([(0x30, Tests.ins 0x30), (0x3E, Tests.ins 0x3E), (0x49, Tests.ins 0x49), (0x57, Tests.ins 0x57), (0x82, Tests.ins 0x82)].all (fun x =>
       Tests.has ((Tests.isa x.1 x.2 f).spelled (.slot 5 1) (f (Tests.pod false)) x.1 x.2) (fun v => v.pod? (.slot 5 1) == some (f (Tests.pod false)) && v.lineRoom (.slot 5 1) x.1) &&
       (f (Tests.pod false)).freeFor (.slot 5 1) x.1 x.2 && laneOp x.1 && predOk (Tests.pod false) x.2) = true) ∧ (f (Tests.pod false)).m0 = 0 ∧
     Tests.next (exec (.lkwait (.slot 5 1) (Tests.ins 0x82)) (Tests.isa 0x82 (Tests.ins 0x82) f)) (fun t => (t.core 5).pods.map (·.m) == [[0, 0, 5, 5]]) = true) := by decide +kernel

/-- The compares, the arithmetic of floats and the conversion issue (the issues stand in `witness_VectorIntegerResults`), and no flag traps in FPCTRL 0; the flags of a lane that stays exact are 0. -/
theorem witness_CompareMasks : ([0x49, 0x57].all (fun op => Tests.issues (Tests.isa op {} id) (.slot 5 1) op {})) = true ∧ (Tests.pod false).trapEn = 0 := by decide +kernel

theorem witness_FloatResults : (((List.range 12).map (0x40 + ·) ++ (List.range 7).map (0x50 + ·)).all (fun op => op == 0x49 || Tests.issues (Tests.isa op {} id) (.slot 5 1) op {})) = true ∧
    (Tests.pod false).trapEn = 0 := by decide +kernel

theorem witness_ConvertResults : Tests.issues (Tests.isa 0x60 {} id) (.slot 5 1) 0x60 {} = true ∧ ((Tests.isa 0x60 {} id).vrf (.slot 5 1)).wf = true ∧ (Tests.pod false).trapEn = 0 := by decide +kernel

end
end

section
/-! The guard's pin (07 R179, R180): what an event leaves alone of the guard, when the pin is to be high, and what settling it changes. -/

namespace Sys2Proof.Machine

/-! ### The host side leaves the guard alone -/

@[simp] theorem State.perf_gd (s : State) (code part n : Nat) : (s.perf code part n).gd = s.gd := by
  obtain ⟨⟨g, a, h⟩, -⟩ := s.perf_frame code part n
  rw [h]

@[simp] theorem State.transmit_gd (s : State) (w : HostWrite) : (s.transmit w).gd = s.gd := rfl

@[simp] theorem State.pump_gd (n : Nat) (s : State) : (s.pump n).gd = s.gd := by
  induction n generalizing s with
  | zero => rfl
  | succ n ih =>
    rw [State.pump]
    split
    · rw [ih, State.transmit_gd]
    · rfl

@[simp] theorem State.drain_gd (s : State) : s.drain.gd = s.gd := s.pump_gd _

@[simp] theorem State.ctlWait_gd (s : State) (p : Nat) : (s.ctlWait p).gd = s.gd := by
  unfold State.ctlWait
  split
  · rfl
  · split <;> simp

@[simp] theorem State.issueWrite_gd (s : State) (w : HostWrite) : (s.issueWrite w).gd = s.gd := by
  simp only [State.issueWrite, State.drain_gd, State.perf_gd]
  split <;> simp

@[simp] theorem State.msix_gd (s : State) (v : Nat) (tags : List Nat) : (s.msix v tags).gd = s.gd := by
  unfold State.msix
  split
  · rfl
  · exact s.issueWrite_gd _

@[simp] theorem State.event_gd (s : State) (v : Nat) (tags : List Nat) : (s.event v tags).gd = s.gd := by
  simp only [State.event]
  split
  · split <;> rfl
  · split <;> simp

/-! ### The pin -/

/-- 07 R179 with the warm-up (R183, R190) and the reference-loss detector (21 R497), condition by condition. -/
theorem State.pinHigh_iff (s : State) :
    s.pinHigh = true ↔ s.on D.GD = true ∧ s.gd.clkSeen = true ∧ s.ao.pwr.refLost = false ∧ s.ao.pwr.aoOff = false ∧
      (s.gState = 2 ∨ s.gState = 3) ∧ s.bit R.GD_STATUS 4 = false ∧ s.field R.GD_HIST_LEN 7 0 ≤ s.field R.GD_STATUS 15 8 ∧
      (s.field R.GD_VERDICT 1 0 = 0 ∨ (s.field R.GD_VERDICT 1 0 = 1 ∧ s.bit R.GD_CTRL 1 = false)) := by
  simp only [State.pinHigh, Bool.and_eq_true, Bool.or_eq_true, Bool.not_eq_true', beq_iff_eq, decide_eq_true_eq, and_assoc]
  rfl

/-- A pin at its level stays, and nothing is posted. -/
theorem State.settlePin_of_settled {s : State} (h : s.pinHigh = s.gd.pin) : s.settlePin = s := if_pos h

/-- A pin whose level is due to change takes the other one; GD_STATUS.PIN shows it while GD is ON, and vector 1 is posted (07 R180). -/
theorem State.settlePin_of_change {s : State} (h : s.pinHigh ≠ s.gd.pin) :
    s.settlePin = (if s.on D.GD then { s with gd := { s.gd with pin := !s.gd.pin } }.setField R.GD_STATUS 5 5 (if s.gd.pin then 0 else 1)
      else { s with gd := { s.gd with pin := !s.gd.pin } }).event 1 [tagGF] := by
  have hn : s.pinHigh = !s.gd.pin := Bool.eq_not.mpr h
  have hb : b2n (!s.gd.pin) = if s.gd.pin then 0 else 1 := by cases s.gd.pin <;> rfl
  simp only [State.settlePin]
  rw [if_neg h, hn, hb]
  rfl

/-- Whatever its level was, the settled pin is at the level that is due. -/
theorem State.settlePin_pin (s : State) : s.settlePin.gd.pin = s.pinHigh := by
  by_cases h : s.pinHigh = s.gd.pin
  · rw [State.settlePin_of_settled h, h]
  · rw [State.settlePin_of_change h, State.event_gd, Bool.eq_not.mpr h]
    split <;> rfl

end Sys2Proof.Machine

open Sys2Proof Sys2Proof.Machine

/-- Settles O28: the level that is due is the conjunction of R179, and the pin either is there already or takes the other level. The warm-up
condition (07 R183, R190), the reference-loss detector and the supplies (21 R497) are the model's reading beside R179. -/
theorem pinSettles : Obligations.PinSettles := by
  intro s v high
  have hhigh : s.pinHigh = true ↔ high := s.pinHigh_iff
  have hsettled : s.pinHigh = s.gd.pin ↔ (s.gd.pin = true ↔ high) := by rw [← hhigh, eq_comm, Bool.eq_iff_iff]
  refine ⟨?_, ?_, ?_⟩
  · rw [s.settlePin_pin, hhigh]
  · exact fun h => State.settlePin_of_settled (hsettled.mpr h)
  · intro h hon
    rw [State.settlePin_of_change (mt hsettled.mp h), if_pos hon]

end


section
/-! Arithmetic of 32-bit operands as words (09 Tables ISA-9 to ISA-11): the model's functions on naturals are those of bit vectors. -/

namespace Sys2Proof.Machine

theorem asInt_eq_toInt (w a : Nat) : asInt w a = (BitVec.ofNat w a).toInt := by
  simp only [asInt, BitVec.toInt_eq_toNat_cond, BitVec.toNat_ofNat]
  cases w with
  | zero => simp [Nat.mod_one]
  | succ n =>
    have : a % 2 ^ (n + 1) < 2 ^ n ↔ 2 * (a % 2 ^ (n + 1)) < 2 ^ (n + 1) := by rw [Nat.pow_succ 2 n]; omega
    simp only [Nat.add_sub_cancel, this]

theorem ofInt_eq_toNat (w : Nat) (x : Int) : ofInt w x = (BitVec.ofInt w x).toNat := (BitVec.toNat_ofInt x).symm

theorem ofInt_asInt (w n v : Nat) : ofInt w (asInt n v) = ((BitVec.ofNat n v).signExtend w).toNat := by
  rw [asInt_eq_toInt, ofInt_eq_toNat, BitVec.signExtend]

theorem sar32_eq_sshiftRight (a n : Nat) : sar32 a n = ((BitVec.ofNat 32 a).sshiftRight n).toNat := by
  rw [sar32, asInt_eq_toInt, ofInt_eq_toNat, BitVec.sshiftRight, Int.shiftRight_eq_div_pow]

theorem minBy_eq (un : Bool) (a b : Nat) :
    minBy un a b = if un then min a b else if (BitVec.ofNat 32 b).toInt < (BitVec.ofNat 32 a).toInt then b else a := by
  cases un
  · simp [minBy, intCond, asInt_eq_toInt]
  · simp only [minBy, intCond, if_true, decide_eq_true_eq]
    split <;> omega

theorem maxBy_eq (un : Bool) (a b : Nat) :
    maxBy un a b = if un then max a b else if (BitVec.ofNat 32 a).toInt < (BitVec.ofNat 32 b).toInt then b else a := by
  cases un
  · simp [maxBy, intCond, asInt_eq_toInt]
  · simp only [maxBy, intCond, if_true, decide_eq_true_eq]
    split <;> omega

/-- The conditions of Table ISA-10 in the order of their codes; codes 6 and 7 are not allowed (Table ISA-6, DETAIL 5). -/
theorem intCond_eq_getD {k : Nat} (hk : k ≤ 5) (un : Bool) (a b : Nat) :
    intCond k un a b =
      (let x := BitVec.ofNat 32 a
       let y := BitVec.ofNat 32 b
       let lt := if un then decide (a < b) else decide (x.toInt < y.toInt)
       let gt := if un then decide (b < a) else decide (y.toInt < x.toInt)
       [a == b, a != b, lt, !gt, gt, !lt].getD k false) := by
  have hcases : k = 0 ∨ k = 1 ∨ k = 2 ∨ k = 3 ∨ k = 4 ∨ k = 5 := by omega
  rcases hcases with rfl | rfl | rfl | rfl | rfl | rfl <;> cases un <;> simp [intCond, asInt_eq_toInt]

/-- The complement of b among 32 bits masks like the bitwise complement of a word. -/
theorem and_complement_mod (a b : Nat) :
    (a &&& (0xFFFFFFFF - b % 2 ^ 32)) % 2 ^ 32 = (BitVec.ofNat 32 a &&& ~~~ BitVec.ofNat 32 b).toNat := by
  rw [BitVec.toNat_and, BitVec.toNat_not, BitVec.toNat_ofNat, BitVec.toNat_ofNat, Nat.and_mod_two_pow]
  congr 1
  omega

theorem popCount_eq_length (n a : Nat) : popCount n a = ((List.range n).filter a.testBit).length := by
  induction n generalizing a with
  | zero => rfl
  | succ n ih =>
    have hsucc : (a.testBit ∘ Nat.succ) = (a / 2).testBit := funext fun k => Nat.testBit_succ a k
    rw [popCount, ih, List.range_succ_eq_map, List.filter_cons, List.filter_map, hsucc, Nat.testBit_zero]
    rcases Nat.mod_two_eq_zero_or_one a with h | h <;> simp [h, Nat.add_comm]

theorem lowestOne_eq_find (a : Nat) : lowestOne a = ((List.range 32).find? a.testBit).getD 32 := by
  rw [lowestOne, setBits, List.headD_eq_head?_getD, List.head?_filter]

/-- Replacing bits [b + n - 1 : b] of d by a field of n bits keeps the bits below and above them (09 R248). -/
theorem insertField_eq (d v b n : Nat) :
    d - (d >>> b % 2 ^ n) <<< b + (v % 2 ^ n) <<< b = d % 2 ^ b + v % 2 ^ n * 2 ^ b + d / 2 ^ (b + n) * 2 ^ (b + n) := by
  simp only [Nat.shiftRight_eq_div_pow, Nat.shiftLeft_eq, Nat.pow_add, ← Nat.div_div_eq_div_mul]
  have hlow : d % 2 ^ b + 2 ^ b * (d / 2 ^ b) = d := Nat.mod_add_div ..
  have hhigh : d / 2 ^ b % 2 ^ n + 2 ^ n * (d / 2 ^ b / 2 ^ n) = d / 2 ^ b := Nat.mod_add_div ..
  have hsplit : d = d % 2 ^ b + d / 2 ^ b % 2 ^ n * 2 ^ b + d / 2 ^ b / 2 ^ n * (2 ^ b * 2 ^ n) := by
    calc d = d % 2 ^ b + 2 ^ b * (d / 2 ^ b % 2 ^ n + 2 ^ n * (d / 2 ^ b / 2 ^ n)) := by rw [hhigh, hlow]
      _ = d % 2 ^ b + d / 2 ^ b % 2 ^ n * 2 ^ b + d / 2 ^ b / 2 ^ n * (2 ^ b * 2 ^ n) := by
        rw [Nat.mul_add, Nat.mul_comm (2 ^ b) (d / 2 ^ b % 2 ^ n), ← Nat.mul_assoc, Nat.mul_comm (2 ^ b * 2 ^ n), Nat.add_assoc]
  omega

/-- A natural around its bit j: the bits above, the bit, the bits below. -/
theorem exists_around_bit (w j : Nat) : ∃ (h : Nat) (c : Bool) (l : Nat), l < 2 ^ j ∧ w = 2 ^ j * (2 * h + b2n c) + l := by
  refine ⟨w / 2 ^ j / 2, w / 2 ^ j % 2 == 1, w % 2 ^ j, Nat.mod_lt _ (Nat.two_pow_pos j), ?_⟩
  have hc : 2 * (w / 2 ^ j / 2) + b2n (w / 2 ^ j % 2 == 1) = w / 2 ^ j := by
    simp only [b2n, beq_iff_eq]
    split <;> omega
  rw [hc, Nat.div_add_mod]

theorem testBit_around_bit (h : Nat) (c : Bool) {l j : Nat} (hl : l < 2 ^ j) (k : Nat) :
    (2 ^ j * (2 * h + b2n c) + l).testBit k = if k < j then l.testBit k else if k = j then c else h.testBit (k - j - 1) := by
  rw [Nat.testBit_two_pow_mul_add _ hl]
  rcases Nat.lt_trichotomy k j with hk | rfl | hk
  · simp [hk]
  · cases c <;> simp [b2n]
  · obtain ⟨m, rfl⟩ : ∃ m, k = j + (m + 1) := ⟨k - j - 1, by omega⟩
    have hhalf : (2 * h + b2n c) / 2 = h := by cases c <;> simp [b2n]; omega
    simp [Nat.testBit_succ, hhalf]

/-- Setting one bit of a natural changes that bit alone. -/
theorem testBit_setBit (w j k : Nat) (o : Bool) : (setBit w j o).testBit k = if k = j then o else w.testBit k := by
  obtain ⟨h, c, l, hl, rfl⟩ := exists_around_bit w j
  have hset : setBit (2 ^ j * (2 * h + b2n c) + l) j o = 2 ^ j * (2 * h + b2n o) + l := by
    rw [setBit, testBit_around_bit h c hl]
    cases c <;> cases o <;> simp [b2n, Nat.mul_add] <;> omega
  rw [hset, testBit_around_bit h o hl, testBit_around_bit h c hl]
  by_cases hk : k = j <;> simp [hk]

end Sys2Proof.Machine
end

section
/-! What an issue comes to before the body of its instruction acts (08 R206; 09 R234, R238, R240), and what its end leaves of the pod. -/

namespace Sys2Proof.Machine

/-! ### The words at the PC -/

/-- What words that spell an instruction say: its pod can take it up, it is legal, and the words are those at the PC. -/
theorem State.spelled_inv {s u : State} {r : PodRef} {p : Pod} {op : Nat} {i : Ins} (h : s.spelled r p op i = some u) :
    s.podReady r p op i = true ∧ opDefined op = true ∧ illegal (r == .guard) p.pixel op i = none ∧
      ∃ v, s.fetch r p p.pc = (.word (insWord op i), v) ∧
        (insLen op i = 8 ∧ v = u ∨ insLen op i ≠ 8 ∧ v.fetch r p (p.pc + 8) = (.word i.ext.toNat, u)) := by
  simp only [State.spelled] at h
  split at h
  case isFalse => cases h
  case isTrue hc =>
    simp only [Bool.and_eq_true, Option.isNone_iff_eq_none] at hc
    obtain ⟨⟨hready, hdef⟩, hlegal⟩ := hc
    refine ⟨hready, hdef, hlegal, ?_⟩
    split at h
    case h_2 => cases h
    case h_1 w v hfetch =>
      split at h
      case isTrue => cases h
      case isFalse hw =>
        obtain rfl := Classical.not_not.mp hw
        refine ⟨v, hfetch, ?_⟩
        split at h
        case isTrue hlen => exact .inl ⟨hlen, Option.some.inj h⟩
        case isFalse hlen =>
          split at h
          case h_2 => cases h
          case h_1 x v' hext =>
            split at h
            case isFalse => cases h
            case isTrue hx =>
              obtain rfl := Option.some.inj h
              exact .inr ⟨hlen, by rw [hext, hx]⟩

/-- An issue whose words spell its instruction is that of an instruction fetched and legal. -/
theorem issue_of_spelled {s u : State} {r : PodRef} {p : Pod} {op : Nat} {i : Ins} (hpod : s.pod? r = some p)
    (h : s.spelled r p op i = some u) (hop : op < 256) (ev : String) (body : State → Pod → Nat → Body) :
    issue ev op r i s body = issueGo ev op r i u p (p.issueCycle r op i) body := by
  obtain ⟨hready, hdef, hlegal, v, hfetch, ⟨hlen, rfl⟩ | ⟨hlen, hext⟩⟩ := State.spelled_inv h
  · simp [issue, hpod, hready, hfetch, insWord_opcode op i hop, hdef, hlen, hlegal]
  · simp [issue, hpod, hready, hfetch, insWord_opcode op i hop, hdef, hlen, hext, hlegal]

/-- A legal instruction has a MOD value that its opcode allows (09 Table ISA-6, DETAIL 5). -/
theorem modBad_of_legal {guard pixel : Bool} {op : Nat} {i : Ins} (h : illegal guard pixel op i = none) : modBad op i = false := by
  refine Bool.eq_false_iff.mpr fun hbad => ?_
  simp only [illegal, hbad, if_true] at h
  repeat' split at h
  all_goals cases h

/-- An integer compare that issues has one of the conditions of Table ISA-10. -/
theorem IssuesAt.cond_le {s u : State} {r : PodRef} {p : Pod} {op : Nat} {i : Ins} (h : IssuesAt s r p op i u) (hop : op = 0x2E ∨ op = 0x3E) :
    i.m % 8 ≤ 5 := by
  obtain ⟨-, hs, -⟩ := h
  obtain ⟨-, -, hlegal, -⟩ := State.spelled_inv hs
  have hmod := modBad_of_legal hlegal
  rcases hop with rfl | rfl <;> simpa [modBad] using hmod

/-! ### The end of an instruction -/

/-- Once the pod has moved past an instruction and taken its effect, the end of the instruction adds its cycle account only. -/
theorem State.ended_podAfter {v : State} {r : PodRef} {p p' : Pod} {op : Nat} {i : Ins} (lat : Nat)
    (h : v.pod? r = some { p' with pc := p.pc + insLen op i, stalled := [] }) :
    PodAfter (v.ended r p op i lat) r p p' op i ∧ PodOnly v (v.ended r p op i lat) r ∧ (v.ended r p op i lat).vrf r = v.vrf r := by
  obtain ⟨honly, hvrf, tm, hpod⟩ := State.ended_frame p op i lat h
  exact ⟨⟨_, hpod, rfl⟩, honly, hvrf⟩

/-- An update of a pod that neither looks at nor changes where the pod stands: its slot, its PC and the stalls it has counted. -/
structure PodUpdate (f : Pod → Pod) : Prop where
  slot : ∀ q, (f q).slot = q.slot
  moved : ∀ (q : Pod) (pc : Nat) (st : List Nat), f { q with pc := pc, stalled := st } = { f q with pc := pc, stalled := st }

theorem PodUpdate.id : PodUpdate (fun q => q) := ⟨fun _ => rfl, fun _ _ _ => rfl⟩

theorem PodUpdate.comp {f g : Pod → Pod} (hg : PodUpdate g) (hf : PodUpdate f) : PodUpdate (fun q => g (f q)) :=
  ⟨fun q => (hg.slot _).trans (hf.slot q), fun q pc st => by rw [hf.moved, hg.moved]⟩

theorem PodUpdate.mput (k v : Nat) : PodUpdate (fun q => q.mput k v) := ⟨fun _ => rfl, fun _ _ _ => rfl⟩

theorem PodUpdate.preds (f : Nat → Nat) : PodUpdate (fun q => { q with preds := f q.preds }) := ⟨fun _ => rfl, fun _ _ _ => rfl⟩

theorem PodUpdate.sput (c v : Nat) : PodUpdate (fun q => q.sput c v) := by
  constructor <;> intro q <;> unfold Pod.sput <;> repeat' split
  all_goals intros; rfl

/-- An instruction that has issued and whose whole effect is an update of its pod. -/
theorem State.update_podAfter {u : State} {r : PodRef} {p : Pod} {op : Nat} {i : Ins} (lat : Nat) {f : Pod → Pod} (hf : PodUpdate f) (h : u.pod? r = some p) :
    let t := ((u.moved r p op i).modPod r f).ended r p op i lat
    PodAfter t r p (f p) op i ∧ PodOnly u t r ∧ t.vrf r = u.vrf r := by
  obtain ⟨honly, hvrf, hpod⟩ := u.moved_frame op i h
  obtain ⟨monly, mvrf, -⟩ := (u.moved r p op i).modPod_podOnly r f hf.slot
  have hmod := State.pod_modPod f hf.slot hpod
  rw [hf.moved] at hmod
  obtain ⟨hafter, eonly, evrf⟩ := State.ended_podAfter lat hmod
  exact ⟨hafter, (honly.trans monly).trans eonly, evrf.trans (mvrf.trans hvrf)⟩

/-- The pod of an instruction that issues stands as it was once its words are read. -/
theorem IssuesAt.pod {s u : State} {r : PodRef} {p : Pod} {op : Nat} {i : Ins} (h : IssuesAt s r p op i u) : u.pod? r = some p := by
  obtain ⟨-, -, hpod, -⟩ := h
  exact hpod

theorem State.exists_cycles_eq (s : State) (r : PodRef) (p : Pod) (op : Nat) (i : Ins) :
    ∃ cyc, s.cycles r p op i = (cyc, s) ∧ CyclesAt r p op i cyc := by
  obtain ⟨hstate, hcyc⟩ := s.cycles_frame r p op i
  exact ⟨_, Prod.ext rfl hstate, hcyc⟩

/-- An instruction that issues and executes, whose body completes. -/
theorem issue_done {s u v : State} {r : PodRef} {p : Pod} {op : Nat} {i : Ins} {lat : Nat} {body : State → Pod → Nat → Body} (h : IssuesAt s r p op i u)
    (hop : op < 256) (h6 : op ≠ 6) (ev : String) (hbody : body (u.moved r p op i) p p.m0 = .done v lat) :
    issue ev op r i s body = .next (v.ended r p op i lat) := by
  rw [issue_of_issuesAt h hop, hbody]
  simp only [if_neg h6]

end Sys2Proof.Machine
end

section
/-! Instructions that do not execute (09 R234, R240): what holds an issue, and what is left of an instruction without its predicate or without a lane. -/

namespace Sys2Proof.Machine

/-- A predicate fails when PE asks for it and it is not what PN asks for. -/
theorem predOk_iff (p : Pod) (i : Ins) : predOk p i = true ↔ ¬(i.pe = true ∧ p.preds.testBit i.preg.toNat = i.pn) := by
  cases hpe : i.pe <;> simp [predOk, hpe]

/-- Nothing holds the registers of an instruction whose predicate fails but the predicate itself. -/
theorem Pod.not_held_of_pred_fails {p : Pod} {op : Nat} {i : Ins} {t : Nat} (hpe : i.pe = true) (hpred : predOk p i = false)
    (hkey : 512 + i.preg.toNat ∉ p.pend) (hfixed : ∀ e ∈ p.tm.pend, e.1 = 512 + i.preg.toNat → e.2 ≤ t) :
    ((p.keysNow op i).any p.pend.contains || p.fixedHazard op i t) = false := by
  have hkeys : p.keysNow op i = [512 + i.preg.toNat] := by simp [Pod.keysNow, hpred, hpe]
  simp only [Pod.fixedHazard, hkeys, Bool.or_eq_false_iff]
  refine ⟨by simpa using hkey, ?_⟩
  simp only [List.any_eq_false, Bool.and_eq_true, decide_eq_true_eq, List.contains_eq_mem, List.mem_singleton, not_and]
  exact fun e he hlt hk => absurd (hfixed e he hk) (Nat.not_le.mpr hlt)

/-- An instruction whose predicate fails moves on and is counted (09 R234). -/
theorem issueGo_of_pred_fails {u : State} {r : PodRef} {p : Pod} {op : Nat} {i : Ins} (hpred : predOk p i = false)
    (hheld : (r != .guard && ((p.keysNow op i).any p.pend.contains || p.fixedHazard op i (p.issueCycle r op i))) = false)
    (ev : String) (body : State → Pod → Nat → Body) :
    issueGo ev op r i u p (p.issueCycle r op i) body = .next ((u.moved r p op i).ended r p op i 0) := by
  simp only [issueGo, hheld, hpred, Bool.and_false, Bool.false_and, Bool.false_eq_true, if_false, Bool.not_false, if_true]
  rfl

/-- Nothing holds an instruction that is free to issue: neither a pending register nor a full counter. -/
theorem Pod.not_held_of_freeFor {p : Pod} {r : PodRef} {op : Nat} {i : Ins} (h : p.freeFor r op i = true) :
    (r != .guard && ((p.keysNow op i).any p.pend.contains || p.fixedHazard op i (p.issueCycle r op i))) = false ∧
    (r != .guard && predOk p i && decide (i.inc.toNat < 6) && decide (63 ≤ p.sbAt i.inc.toNat (p.issueCycle r op i))) = false := by
  simp only [Pod.freeFor, Bool.or_eq_true, Bool.and_eq_true, Bool.not_eq_true', beq_iff_eq] at h
  rcases h with rfl | ⟨hregs, hinc⟩
  · exact ⟨rfl, rfl⟩
  · exact ⟨by rw [hregs, Bool.and_false], by rw [Bool.and_assoc, Bool.and_assoc, ← Bool.and_assoc (predOk p i), hinc, Bool.and_false]⟩

/-- An instruction on lanes without a lane enabled moves on, is counted, and writes no more than a mask of zeros (09 R240). -/
theorem issueGo_of_no_lanes {u : State} {r : PodRef} {p : Pod} {op : Nat} {i : Ins} (hfree : p.freeFor r op i = true) (hpred : predOk p i = true)
    (hlane : laneOp op = true) (hm0 : p.m0 = 0) (hroom : u.lineRoom r op = true) (ev : String) (body : State → Pod → Nat → Body) :
    issueGo ev op r i u p (p.issueCycle r op i) body =
      .next (((u.moved r p op i).modPod r (fun q => q.noLanes op i)).ended r p op i 0) := by
  obtain ⟨hregs, hinc⟩ := Pod.not_held_of_freeFor hfree
  rw [hpred, Bool.and_true] at hinc
  simp only [issueGo, hregs, hinc, hpred, hroom, hlane, hm0, decide_true, Bool.and_true, Bool.not_true, Bool.false_eq_true, if_false, if_true]
  rfl

theorem PodUpdate.noLanes (op : Nat) (i : Ins) : PodUpdate (fun q => q.noLanes op i) := by
  unfold Pod.noLanes
  split
  · exact PodUpdate.sput i.d 0
  · split
    · exact PodUpdate.mput (i.d - 0x80) 0
    · exact PodUpdate.id

theorem Pod.noLanes_eq (p : Pod) (op : Nat) (i : Ins) :
    p.noLanes op i = if op ∈ [0x3E, 0x49, 0x57] then p.sput i.d 0 else if op = 0x82 then p.mput (i.d - 0x80) 0 else p := by
  simp [Pod.noLanes, or_assoc]

/-- A pod on a shader core is not ready while a counter that its instruction waits on is not 0 (08 R206). -/
theorem State.podReady_of_wait {s : State} {c k n : Nat} {p : Pod} {op : Nat} {i : Ins} (hn : n < 6) (hwait : i.wait.getLsbD n = true)
    (hsb : p.sb.getD n 0 ≠ 0) : s.podReady (.slot c k) p op i = false := by
  have hmem : n ∈ Machine.setBits 6 i.wait.toNat := List.mem_filter.mpr ⟨List.mem_range.mpr hn, hwait⟩
  have hall : (Machine.setBits 6 i.wait.toNat).all (fun k => p.sb.getD k 0 == 0) = false :=
    List.all_eq_false.mpr ⟨n, hmem, by simpa using hsb⟩
  simp only [State.podReady, hall, Bool.and_false, Bool.false_and]

theorem issue_of_not_ready {s : State} {r : PodRef} {p : Pod} {op : Nat} {i : Ins} (hpod : s.pod? r = some p) (h : s.podReady r p op i = false)
    (ev : String) (body : State → Pod → Nat → Body) : issue ev op r i s body = never ev := by
  simp [issue, hpod, h]

end Sys2Proof.Machine

open Sys2Proof Sys2Proof.Machine

/-- Settles O48: WAIT is judged before the words are read, and the predicate before the room for line requests, the lanes and the registers. What an
instruction without a lane writes is R240, R246, R247 and R254. -/
theorem predicateSkips : Obligations.PredicateSkips := by
  intro s r p ev op i body hop hpod key off
  refine ⟨?_, ?_, ?_⟩
  · intro u hs hu hoff hkey
    have hpred : predOk p i = false := Bool.eq_false_iff.mpr fun hok => (predOk_iff p i).mp hok hoff
    have hheld : (r != .guard && ((p.keysNow op i).any p.pend.contains || p.fixedHazard op i (p.issueCycle r op i))) = false := by
      by_cases hr : r = .guard
      · rw [hr]; rfl
      · obtain ⟨hpend, hfixed⟩ := hkey hr
        rw [Pod.not_held_of_pred_fails hoff.1 hpred hpend hfixed, Bool.and_false]
    obtain ⟨monly, -, mpod⟩ := u.moved_frame op i hu
    obtain ⟨hafter, eonly, -⟩ := State.ended_podAfter 0 mpod
    exact ⟨by rw [issue_of_spelled hpod hs hop, issueGo_of_pred_fails hpred hheld], hafter, monly.trans eonly⟩
  · intro u hs hu hfree hoff hlane hm0 hroom
    obtain ⟨hafter, honly, -⟩ := State.update_podAfter 0 (PodUpdate.noLanes op i) hu
    rw [Pod.noLanes_eq] at hafter
    exact ⟨_, by rw [issue_of_spelled hpod hs hop, issueGo_of_no_lanes hfree ((predOk_iff p i).mpr hoff) hlane hm0 hroom], hafter, honly⟩
  · rintro c k n rfl hn hwait hsb t
    rw [issue_of_not_ready hpod (State.podReady_of_wait hn hwait hsb)]
    exact fun h => by cases h
end

section
/-! The scalar ALU group (09 R244, R245, Table ISA-9). -/

namespace Sys2Proof.Machine

/-- An instruction of the scalar form computes any function that agrees with its own modulo 2^32. -/
theorem scalarResult_of_eq_mod {c : PodRef → Ins → Instr} {op : Nat} {ev : String} {f g : Ins → Nat → Nat → Nat}
    (hexec : ∀ r i s, exec (c r i) s = scalarOp ev op r i s (g i)) (hfg : ∀ i a b, g i a b % 2 ^ 32 = f i a b % 2 ^ 32)
    (hop : op < 256 := by decide) (h6 : op ≠ 6 := by decide) : ScalarResult c op f := by
  intro s u r p i h
  rw [hexec]
  simp only [← hfg]
  exact scalarOp_result h hop h6 ev (g i)

/-- The same with a function that is the instruction's own. -/
theorem scalarResult_of_eq {c : PodRef → Ins → Instr} {op : Nat} {ev : String} {f g : Ins → Nat → Nat → Nat}
    (hexec : ∀ r i s, exec (c r i) s = scalarOp ev op r i s (g i)) (hfg : ∀ i a b, g i a b = f i a b)
    (hop : op < 256 := by decide) (h6 : op ≠ 6 := by decide) : ScalarResult c op f :=
  scalarResult_of_eq_mod hexec (fun i a b => by rw [hfg]) hop h6

/-- A scalar code takes no more than 32 bits. -/
theorem Pod.sput_mod (p : Pod) (c v : Nat) : p.sput c (v % 2 ^ 32) = p.sput c v := by
  unfold Pod.sput
  repeat' split
  all_goals simp only [Nat.mod_mod_of_dvd, Nat.reducePow, Nat.reduceDvd]

/-- SCMP sets the predicate that it names to the outcome of its condition (09 R245). -/
theorem scmp_result {s u : State} {r : PodRef} {p : Pod} {i : Ins} (h : IssuesAt s r p 0x2E i u) :
    ∃ t cyc, exec (.scmp r i) s = .next t ∧ CyclesAt r p 0x2E i cyc ∧
      PodAfter t r p { p with preds := setBit p.preds (i.d % 8) (intCond (i.m % 8) (i.m.testBit 3) (p.sv i cyc i.a) (p.sv i cyc i.b)) } 0x2E i ∧
      PodOnly u t r ∧ t.vrf r = u.vrf r := by
  obtain ⟨cyc, hread, hcyc⟩ := (u.moved r p 0x2E i).exists_cycles_eq r p 0x2E i
  let o := intCond (i.m % 8) (i.m.testBit 3) (p.sv i cyc i.a) (p.sv i cyc i.b)
  have hexec : execScmp r i s =
      .next (((u.moved r p 0x2E i).modPod r (fun q => { q with preds := setBit q.preds (i.d % 8) o })).ended r p 0x2E i 2) :=
    issue_done h (by decide) (by decide) "SCMP" (by simp only [hread, o])
  exact ⟨_, cyc, hexec, hcyc, State.update_podAfter 2 (PodUpdate.preds (fun w => setBit w (i.d % 8) o)) h.pod⟩

/-- SADD64 puts the sum of two pairs into a pair (09 Table ISA-9). -/
theorem sadd64_result {s u : State} {r : PodRef} {p : Pod} {i : Ins} (h : IssuesAt s r p 0x2F i u) :
    let v := addMod 64 (p.sv64 i i.a) (p.sv64 i i.b)
    ∃ t, exec (.sadd64 r i) s = .next t ∧ PodAfter t r p ((p.sput i.d v).sput (i.d + 1) (v / 2 ^ 32)) 0x2F i ∧ PodOnly u t r ∧ t.vrf r = u.vrf r := by
  intro v
  have hexec : execSadd64 r i s =
      .next (((u.moved r p 0x2F i).modPod r (fun q => (q.sput i.d v).sput (i.d + 1) (v / 2 ^ 32))).ended r p 0x2F i 2) :=
    issue_done h (by decide) (by decide) "SADD64" rfl
  exact ⟨_, hexec, State.update_podAfter 2 ((PodUpdate.sput (i.d + 1) (v / 2 ^ 32)).comp (PodUpdate.sput i.d v)) h.pod⟩

end Sys2Proof.Machine

open Sys2Proof Sys2Proof.Machine

/-- Settles O35: each instruction is of the scalar form with a function that agrees with the table's modulo 2^32; SCMP, whose conditions are those of R245, and
SADD64 update their pod alone. -/
theorem scalarResults : Obligations.ScalarResults := by
  refine ⟨⟨?sadd, ?ssub, ?smul, ?sand, ?sor, ?sxor, ?sandn, ?sshl, ?sshr, ?smin, ?smax, ?smov, ?spopc, ?sffs⟩, ?scmp, ?sadd64⟩
  case sadd => exact scalarResult_of_eq (g := fun _ a b => a + b) (fun _ _ _ => rfl) fun _ _ _ => rfl
  case ssub => exact scalarResult_of_eq_mod (g := fun _ => subMod 32) (fun _ _ _ => rfl) fun _ _ _ => Nat.mod_mod ..
  case smul => exact scalarResult_of_eq (g := fun _ a b => a * b) (fun _ _ _ => rfl) fun _ _ _ => rfl
  case sand => exact scalarResult_of_eq (g := fun _ a b => a &&& b) (fun _ _ _ => rfl) fun _ _ _ => rfl
  case sor => exact scalarResult_of_eq (g := fun _ a b => a ||| b) (fun _ _ _ => rfl) fun _ _ _ => rfl
  case sxor => exact scalarResult_of_eq (g := fun _ a b => a ^^^ b) (fun _ _ _ => rfl) fun _ _ _ => rfl
  case sandn =>
    refine scalarResult_of_eq_mod (g := fun _ a b => a &&& (0xFFFFFFFF - b % 2 ^ 32)) (fun _ _ _ => rfl) fun _ a b => ?_
    rw [← and_complement_mod, Nat.mod_mod]
  case sshl => exact scalarResult_of_eq (g := fun _ a b => a <<< (b % 32)) (fun _ _ _ => rfl) fun _ a b => Nat.shiftLeft_eq a (b % 32)
  case sshr =>
    refine scalarResult_of_eq (g := fun i a b => if i.m.testBit 3 then sar32 a (b % 32) else a >>> (b % 32)) (fun _ _ _ => rfl) fun i a b => ?_
    rw [sar32_eq_sshiftRight, Nat.shiftRight_eq_div_pow]
    rfl
  case smin => exact scalarResult_of_eq (g := fun i => minBy (i.m.testBit 3)) (fun _ _ _ => rfl) fun i a b => minBy_eq (i.m.testBit 3) a b
  case smax => exact scalarResult_of_eq (g := fun i => maxBy (i.m.testBit 3)) (fun _ _ _ => rfl) fun i a b => maxBy_eq (i.m.testBit 3) a b
  case smov => exact scalarResult_of_eq (g := fun _ a _ => a) (fun _ _ _ => rfl) fun _ _ _ => rfl
  case spopc => exact scalarResult_of_eq (g := fun _ a _ => popCount 32 a) (fun _ _ _ => rfl) fun _ a _ => popCount_eq_length 32 a
  case sffs => exact scalarResult_of_eq (g := fun _ a _ => lowestOne a) (fun _ _ _ => rfl) fun _ a _ => lowestOne_eq_find a
  case scmp =>
    intro s u r p i h
    obtain ⟨t, cyc, hexec, hcyc, hafter, hframe⟩ := scmp_result h
    refine ⟨t, cyc, hexec, hcyc, ⟨_, hafter, fun k => ?_⟩, hframe⟩
    rw [testBit_setBit, intCond_eq_getD (h.cond_le (.inl rfl))]
    rfl
  case sadd64 =>
    intro s u r p i h
    obtain ⟨t, hexec, hafter, hframe⟩ := sadd64_result h
    refine ⟨t, hexec, ?_, hframe⟩
    rwa [← Pod.sput_mod p] at hafter

end

section
/-! Vector registers in storage (09 R235, R246): reading and writing 32-bit lanes of a register, and what a write leaves alone. -/

namespace Sys2Proof.Machine

/-! ### Words in byte memories -/

theorem leBytes_length (n v : Nat) : (leBytes n v).length = n := by
  induction n generalizing v with
  | zero => rfl
  | succ n ih => rw [leBytes, List.length_cons, ih]

theorem leNat_leBytes (n v : Nat) : leNat (leBytes n v) = v % 256 ^ n := by
  induction n generalizing v with
  | zero => simp [leBytes, leNat, Nat.mod_one]
  | succ n ih => rw [leBytes, leNat, ih, BitVec.toNat_ofNat, Nat.pow_succ' (n := n), Nat.mod_mul (a := 256)]

theorem Mem.read_write_same (m : Mem) (a : Nat) (bs : List Byte) (h : m.wf = true) : (m.write a bs).read a bs.length = bs := by
  refine List.ext_getElem (by simp [Mem.read]) fun k hk _ => ?_
  simp only [Mem.read, List.length_map, List.length_range] at hk
  simp only [Mem.read, List.getElem_map, List.getElem_range]
  exact Mem.get_write_in bs m a k hk h

theorem Mem.read_write_out (m : Mem) (a b n : Nat) (bs : List Byte) (h : b + n ≤ a ∨ a + bs.length ≤ b) : (m.write a bs).read b n = m.read b n := by
  refine List.map_congr_left fun k hk => Mem.get_write_out bs m a (b + k) ?_
  have := List.mem_range.mp hk
  omega

/-- Write 32-bit words into lanes of a register that stands from byte b on. -/
def Mem.putLanes (m : Mem) (b : Nat) (ls : List Nat) (f : Nat → Nat) : Mem := ls.foldl (fun m l => m.write (b + l * 4) (leBytes 4 (f l))) m

theorem Mem.get_putLanes_out (m : Mem) (b : Nat) (ls : List Nat) (f : Nat → Nat) {a : Nat} (h : ∀ l ∈ ls, a < b + l * 4 ∨ b + l * 4 + 4 ≤ a) :
    (m.putLanes b ls f).get a = m.get a := by
  induction ls generalizing m with
  | nil => rfl
  | cons l ls ih =>
    have hl := h l (List.mem_cons_self ..)
    exact (ih _ fun x hx => h x (List.mem_cons_of_mem l hx)).trans (Mem.get_write_out _ _ _ _ (by rwa [leBytes_length]))

/-- Each lane written holds its own word, and the others keep theirs. -/
theorem Mem.read_putLanes (m : Mem) (b : Nat) (ls : List Nat) (f : Nat → Nat) (l : Nat) (h : m.wf = true) :
    leNat ((m.putLanes b ls f).read (b + l * 4) 4) = if l ∈ ls then f l % 2 ^ 32 else leNat (m.read (b + l * 4) 4) := by
  induction ls generalizing m with
  | nil => simp [Mem.putLanes]
  | cons k ls ih =>
    refine (ih _ (Mem.write_wf _ _ _ h)).trans ?_
    by_cases hls : l ∈ ls
    · rw [if_pos hls, if_pos (List.mem_cons_of_mem k hls)]
    · rw [if_neg hls]
      by_cases hlk : l = k
      · subst hlk
        have hread := m.read_write_same (b + l * 4) (leBytes 4 (f l)) h
        rw [leBytes_length] at hread
        rw [hread, leNat_leBytes, if_pos (List.mem_cons_self ..), show 256 ^ 4 = 2 ^ 32 from rfl]
      · rw [Mem.read_write_out _ _ _ _ _ (by rw [leBytes_length]; omega), if_neg (by simp [hlk, hls])]

/-! ### Reading and writing a lane -/

/-- A lane of a vector register is a word of the pod's storage; v255 reads 0. -/
theorem State.vget_eq (s : State) (r : PodRef) (p : Pod) (n l : Nat) :
    s.vget r p n l = if n = 255 then 0 else leNat ((s.vrf r).read (p.vbase r n + l * 4) 4) := by
  cases r <;> rfl

theorem State.vget_congr {s t : State} {r : PodRef} (h : t.vrf r = s.vrf r) (p : Pod) : t.vget r p = s.vget r p := by
  funext n l
  rw [State.vget_eq, State.vget_eq, h]

theorem State.vb_congr {s t : State} {r : PodRef} (h : t.vrf r = s.vrf r) (p : Pod) (i : Ins) (cyc : Nat) : t.vb r p i cyc = s.vb r p i cyc := by
  funext l
  rw [State.vb, State.vb, State.vget_congr h]

/-- Change the vector register storage that a pod's registers lie in. -/
def State.modVrf (s : State) (r : PodRef) (f : Mem → Mem) : State :=
  match r with
  | .guard => { s with gd := { s.gd with vrf := f s.gd.vrf } }
  | .slot c _ => s.modCore c (fun co => { co with vrf := f co.vrf })

theorem State.vput_eq (s : State) (r : PodRef) (p : Pod) (n l v : Nat) :
    s.vput r p n l v = if n = 255 then s else s.modVrf r (fun m => m.write (p.vbase r n + l * 4) (leBytes 4 v)) := by
  cases r <;> rfl

theorem State.pod_modVrf (s : State) (r r' : PodRef) (f : Mem → Mem) : (s.modVrf r f).pod? r' = s.pod? r' := by
  have hcore : ∀ (t : State) c k, t.pod? (.slot c k) = (t.core c).pods.find? (·.slot == k) := fun _ _ _ => rfl
  cases r with
  | guard => cases r' <;> rfl
  | slot c k =>
    cases r' with
    | guard => rfl
    | slot c' k' =>
      rw [hcore, hcore, State.modVrf, State.core_modCore]
      split
      · next h => rw [h.1]
      · rfl

theorem State.vrf_modVrf {s : State} {r : PodRef} {p : Pod} (f : Mem → Mem) (h : s.pod? r = some p) : (s.modVrf r f).vrf r = f (s.vrf r) := by
  cases r with
  | guard => rfl
  | slot c k => simp only [State.vrf, State.modVrf, State.core_modCore, State.pod_core_lt h, and_self, if_true]

theorem State.modVrf_podOnly (s : State) (r : PodRef) (f : Mem → Mem) : PodOnly s (s.modVrf r f) r where
  rest := by cases r <;> rfl
  pods := fun r' _ => s.pod_modVrf r r' f
  cores := fun c' => by
    cases r with
    | guard => rfl
    | slot c k =>
      rw [State.modVrf, State.core_modCore]
      split
      · next h => rw [h.1]
      · rfl
  guard := by cases r <;> rfl
  vrfs := fun r' hr => by
    cases r with
    | guard =>
      cases r' with
      | guard => exact absurd rfl hr
      | slot c' k' => rfl
    | slot c k =>
      cases r' with
      | guard => rfl
      | slot c' k' =>
        have hc : ¬(c' = c ∧ c < s.cores.length) := fun e => hr (congrArg some e.1)
        simp only [State.vrf, State.modVrf, State.core_modCore, if_neg hc]
  ao := by cases r <;> rfl
  regs := by cases r <;> exact fun _ _ => rfl

theorem State.modVrf_modVrf (s : State) (r : PodRef) (f g : Mem → Mem) : (s.modVrf r f).modVrf r g = s.modVrf r (fun m => g (f m)) := by
  cases r with
  | guard => rfl
  | slot c k => simp only [State.modVrf, State.modCore, List.modify_modify_eq]; rfl

theorem State.modVrf_id (s : State) (r : PodRef) : s.modVrf r (fun m => m) = s := by
  cases r with
  | guard => rfl
  | slot c k => rw [State.modVrf, State.modCore, show (fun co : Core => { co with vrf := co.vrf }) = id from rfl, List.modify_id]

/-- Writing lanes of one register is one change of the storage. -/
theorem State.vputs_eq (s : State) (r : PodRef) (p : Pod) (n mask : Nat) (f : Nat → Nat) :
    s.vputs r p n mask f = if n = 255 then s else s.modVrf r (fun m => m.putLanes (p.vbase r n) (lanesOf mask) f) := by
  rw [State.vputs]
  induction lanesOf mask generalizing s with
  | nil =>
    split
    · rfl
    · exact (s.modVrf_id r).symm
  | cons l ls ih =>
    rw [List.foldl_cons, ih, State.vput_eq]
    split
    · rfl
    · exact State.modVrf_modVrf ..

theorem mem_lanesOf {m l : Nat} : l ∈ lanesOf m ↔ l < 32 ∧ m.testBit l = true := by
  rw [lanesOf, setBits, List.mem_filter, List.mem_range]

/-! ### The rule of a register write -/

section
variable {s : State} {r : PodRef} {q : Pod} (p : Pod) (n mask : Nat) (f : Nat → Nat)

theorem State.pod_vputs (r' : PodRef) : (s.vputs r p n mask f).pod? r' = s.pod? r' := by
  rw [State.vputs_eq]
  split
  · rfl
  · exact s.pod_modVrf r r' _

theorem State.vputs_podOnly : PodOnly s (s.vputs r p n mask f) r := by
  rw [State.vputs_eq]
  split
  · exact PodOnly.refl s r
  · exact s.modVrf_podOnly r _

/-- The lanes of the mask take their words; the other lanes of the register keep theirs. -/
theorem State.vget_vputs (h : s.pod? r = some q) (hwf : (s.vrf r).wf = true) (hn : n ≠ 255) {l : Nat} (hl : l < 32) :
    (s.vputs r p n mask f).vget r p n l = if mask.testBit l then f l % 2 ^ 32 else s.vget r p n l := by
  rw [State.vget_eq, State.vget_eq, State.vputs_eq, if_neg hn, if_neg hn, if_neg hn, State.vrf_modVrf _ h, Mem.read_putLanes _ _ _ _ _ hwf]
  simp only [mem_lanesOf, hl, true_and]

/-- The storage outside the register keeps its bytes. -/
theorem State.vputs_vregsBut (h : s.pod? r = some q) : VregsBut s (s.vputs r p n mask f) r p n (if n = 255 then 0 else 1) := by
  intro a ha
  rw [State.vputs_eq]
  split at ha
  case isTrue hn => rw [if_pos hn]
  case isFalse hn =>
    have hnext : p.vbase r (n + 1) = p.vbase r n + 128 := by cases r <;> simp only [Pod.vbase] <;> omega
    rw [if_neg hn, State.vrf_modVrf _ h]
    refine Mem.get_putLanes_out _ _ _ _ fun l hl => ?_
    obtain ⟨hl, -⟩ := mem_lanesOf.mp hl
    omega

end

end Sys2Proof.Machine
end

section
/-! The vector integer group and the bit group (09 R246, R248, Tables ISA-11, ISA-13): results lane by lane, and the mask of VICMP. -/

namespace Sys2Proof.Machine

/-- The body of a vector instruction of 32-bit lanes: `g` of the lane's vector registers, operand b and the scalars goes to the lane of DST. -/
def laneBody (op : Nat) (r : PodRef) (i : Ins) (g : (Nat → Nat → Nat) → (Nat → Nat) → (Nat → Nat) → Nat → Nat) (s : State) (p : Pod) (e : Nat) : Body :=
  match s.cycles r p op i with
  | (cyc, s) => .done (s.vputs r p i.d e (g (s.vget r p) (s.vb r p i cyc) (p.sv i cyc))) 4

/-- The lanes that an instruction of this body writes are those of the effective mask, and they take `g` of what stood before it. -/
theorem laneBody_result {s u : State} {r : PodRef} {p : Pod} {op : Nat} {i : Ins} (h : IssuesAt s r p op i u) (hwf : (u.vrf r).wf = true) (hop : op < 256)
    (h6 : op ≠ 6) (ev : String) (g : (Nat → Nat → Nat) → (Nat → Nat) → (Nat → Nat) → Nat → Nat) :
    ∃ t cyc, issue ev op r i s (laneBody op r i g) = .next t ∧ CyclesAt r p op i cyc ∧
      (i.d ≠ 255 → ∀ l, l < 32 → t.vget r p i.d l =
        if p.m0.testBit l then g (u.vget r p) (u.vb r p i cyc) (p.sv i cyc) l % 2 ^ 32 else u.vget r p i.d l) ∧
      VregsBut u t r p i.d (if i.d = 255 then 0 else 1) ∧ PodAfter t r p p op i ∧ PodOnly u t r := by
  obtain ⟨monly, mvrf, mpod⟩ := u.moved_frame op i h.pod
  obtain ⟨cyc, hread, hcyc⟩ := (u.moved r p op i).exists_cycles_eq r p op i
  let w := g (u.vget r p) (u.vb r p i cyc) (p.sv i cyc)
  have hexec : issue ev op r i s (laneBody op r i g) = .next (((u.moved r p op i).vputs r p i.d p.m0 w).ended r p op i 4) :=
    issue_done h hop h6 ev (by simp only [laneBody, hread, State.vget_congr mvrf, State.vb_congr mvrf, w])
  have hpod := (State.pod_vputs (r := r) p i.d p.m0 w r).trans mpod
  obtain ⟨hafter, eonly, evrf⟩ := State.ended_podAfter 4 hpod
  refine ⟨_, cyc, hexec, hcyc, ?lanes, ?others, hafter, (monly.trans (State.vputs_podOnly ..)).trans eonly⟩
  case lanes =>
    intro hd l hl
    rw [State.vget_congr evrf, State.vget_vputs p i.d _ _ mpod (by rw [mvrf, hwf]) hd hl, State.vget_congr mvrf]
  case others =>
    intro a ha
    rw [evrf, State.vputs_vregsBut p i.d _ _ mpod a ha, mvrf]

/-- An instruction of this body computes any function of lanes that agrees with its own modulo 2^32. -/
theorem vectorResult_of_laneBody {c : PodRef → Ins → Instr} {op : Nat} {ev : String}
    {f g : Ins → (Nat → Nat → Nat) → (Nat → Nat) → (Nat → Nat) → Nat → Nat}
    (hexec : ∀ r i s, exec (c r i) s = issue ev op r i s (laneBody op r i (g i)))
    (hfg : ∀ i get b sc l, g i get b sc l % 2 ^ 32 = f i get b sc l % 2 ^ 32)
    (hop : op < 256 := by decide) (h6 : op ≠ 6 := by decide) : VectorResult c op f := by
  intro s u r p i h hwf
  simp only [hexec, ← hfg]
  exact laneBody_result h hwf hop h6 ev (g i)

/-- An instruction on the operands a and b of its lanes computes any function that agrees with its own modulo 2^32. -/
theorem vectorResult_of_vectorOp {c : PodRef → Ins → Instr} {op : Nat} {ev : String} {g : Ins → Nat → Nat → Nat}
    {f : Ins → (Nat → Nat → Nat) → (Nat → Nat) → (Nat → Nat) → Nat → Nat}
    (hexec : ∀ r i s, exec (c r i) s = vectorOp ev op r i s (g i))
    (hfg : ∀ i get b sc l, g i (get i.a l) (b l) % 2 ^ 32 = f i get b sc l % 2 ^ 32)
    (hop : op < 256 := by decide) (h6 : op ≠ 6 := by decide) : VectorResult c op f :=
  vectorResult_of_laneBody (g := fun i get b _ l => g i (get i.a l) (b l) % 2 ^ 32) hexec
    (fun i get b sc l => by rw [Nat.mod_mod, hfg]) hop h6

/-- VICMP gathers the lanes in which its condition holds into scalar DST (09 R246). -/
theorem vicmp_result {s u : State} {r : PodRef} {p : Pod} {i : Ins} (h : IssuesAt s r p 0x3E i u) :
    ∃ t cyc, exec (.vicmp r i) s = .next t ∧ CyclesAt r p 0x3E i cyc ∧
      PodAfter t r p (p.sput i.d (maskOf ((lanesOf p.m0).filter
        (fun l => intCond (i.m % 8) (i.m.testBit 3) (u.vget r p i.a l) (u.vb r p i cyc l))))) 0x3E i ∧
      PodOnly u t r ∧ t.vrf r = u.vrf r := by
  obtain ⟨-, mvrf, -⟩ := u.moved_frame 0x3E i h.pod
  obtain ⟨cyc, hread, hcyc⟩ := (u.moved r p 0x3E i).exists_cycles_eq r p 0x3E i
  let mask := maskOf ((lanesOf p.m0).filter (fun l => intCond (i.m % 8) (i.m.testBit 3) (u.vget r p i.a l) (u.vb r p i cyc l)))
  have hexec : execVicmp r i s = .next (((u.moved r p 0x3E i).modPod r (fun q => q.sput i.d mask)).ended r p 0x3E i 4) :=
    issue_done h (by decide) (by decide) "VICMP" (by simp only [hread, State.vget_congr mvrf, State.vb_congr mvrf, mask])
  exact ⟨_, cyc, hexec, hcyc, State.update_podAfter 4 (PodUpdate.sput i.d mask) h.pod⟩

end Sys2Proof.Machine

open Sys2Proof Sys2Proof.Machine

/-- Settles O36: each instruction writes the lanes of the effective mask with a function that agrees with its table's modulo 2^32; VICMP updates its
pod alone. VBFE, VBFI and VPOPC are those of R248, the conditions of VICMP those of R245. -/
theorem vectorIntegerResults : Obligations.VectorIntegerResults := by
  refine ⟨?viadd, ?visub, ?vimul, ?vimulhi, ?vimad, ?vand, ?vor, ?vxor, ?vshl, ?vshr, ?vimin, ?vimax, ?vmov, ?vsel, ?vshfl, ?vbfe, ?vbfi, ?vpopc, ?vicmp⟩
  case viadd => exact vectorResult_of_vectorOp (g := fun _ a b => a + b) (fun _ _ _ => rfl) fun _ _ _ _ _ => rfl
  case visub => exact vectorResult_of_vectorOp (g := fun _ => subMod 32) (fun _ _ _ => rfl) fun _ _ _ _ _ => Nat.mod_mod ..
  case vimul => exact vectorResult_of_vectorOp (g := fun _ a b => a * b) (fun _ _ _ => rfl) fun _ _ _ _ _ => rfl
  case vimulhi =>
    refine vectorResult_of_vectorOp (g := fun i a b => if i.m.testBit 3 then a * b / 2 ^ 32 else ofInt 32 (asInt 32 a * asInt 32 b / (2 ^ 32 : Nat)))
      (fun _ _ _ => rfl) fun i get b _ l => ?_
    rw [asInt_eq_toInt, asInt_eq_toInt, ofInt_eq_toNat]
    rfl
  case vimad =>
    exact vectorResult_of_laneBody (g := fun i get b _ l => (get i.a l * b l + get i.c l) % 2 ^ 32) (fun _ _ _ => rfl) fun _ _ _ _ _ => Nat.mod_mod ..
  case vand => exact vectorResult_of_vectorOp (g := fun _ a b => a &&& b) (fun _ _ _ => rfl) fun _ _ _ _ _ => rfl
  case vor => exact vectorResult_of_vectorOp (g := fun _ a b => a ||| b) (fun _ _ _ => rfl) fun _ _ _ _ _ => rfl
  case vxor => exact vectorResult_of_vectorOp (g := fun _ a b => a ^^^ b) (fun _ _ _ => rfl) fun _ _ _ _ _ => rfl
  case vshl => exact vectorResult_of_vectorOp (g := fun _ a b => a <<< (b % 32)) (fun _ _ _ => rfl) fun _ _ _ _ _ => by rw [Nat.shiftLeft_eq]
  case vshr =>
    refine vectorResult_of_vectorOp (g := fun i a b => if i.m.testBit 3 then sar32 a (b % 32) else a >>> (b % 32)) (fun _ _ _ => rfl) fun i get b _ l => ?_
    rw [sar32_eq_sshiftRight, Nat.shiftRight_eq_div_pow]
    rfl
  case vimin => exact vectorResult_of_vectorOp (g := fun i => minBy (i.m.testBit 3)) (fun _ _ _ => rfl) fun _ _ _ _ _ => by rw [minBy_eq]; rfl
  case vimax => exact vectorResult_of_vectorOp (g := fun i => maxBy (i.m.testBit 3)) (fun _ _ _ => rfl) fun _ _ _ _ _ => by rw [maxBy_eq]; rfl
  case vmov => exact vectorResult_of_vectorOp (g := fun _ _ b => b) (fun _ _ _ => rfl) fun _ _ _ _ _ => rfl
  case vsel =>
    exact vectorResult_of_laneBody (g := fun i get b sc l => if (sc i.c).testBit l then get i.a l else b l) (fun _ _ _ => rfl) fun _ _ _ _ _ => rfl
  case vshfl => exact vectorResult_of_laneBody (g := fun i get b _ l => get i.a (b l % 32)) (fun _ _ _ => rfl) fun _ _ _ _ _ => rfl
  case vbfe =>
    refine vectorResult_of_laneBody (g := fun i get _ sc l =>
        let b := sc i.b % 32
        let n := fieldWidth b (sc i.c)
        let v := get i.a l >>> b % 2 ^ n
        if i.m.testBit 3 && n ≠ 0 then ofInt 32 (asInt n v) else v) (fun _ _ _ => rfl) fun i get _ sc l => ?_
    simp only [ofInt_asInt, Nat.shiftRight_eq_div_pow]
    rfl
  case vbfi =>
    refine vectorResult_of_laneBody (g := fun i get _ sc l =>
        let b := sc i.b % 32
        let n := fieldWidth b (sc i.c)
        let d := get i.d l
        d - (d >>> b % 2 ^ n) <<< b + (get i.a l % 2 ^ n) <<< b) (fun _ _ _ => rfl) fun i get _ sc l => ?_
    simp only [insertField_eq]
    rfl
  case vpopc =>
    exact vectorResult_of_vectorOp (g := fun _ a _ => popCount 32 a) (fun _ _ _ => rfl) fun i get _ _ l => by rw [popCount_eq_length]
  case vicmp =>
    intro s u r p i h
    obtain ⟨t, cyc, hexec, hcyc, hafter, hframe⟩ := vicmp_result h
    refine ⟨t, cyc, hexec, hcyc, ?_, hframe⟩
    simp only [intCond_eq_getD (h.cond_le (.inr rfl))] at hafter
    exact hafter

end

section
/-! What the proofs below use of `if` and of lists. (The package stands on core Lean alone, without Mathlib.) -/

namespace Sys2Proof.Machine

theorem ite_of_iff {α : Sort _} {p q : Prop} [Decidable p] [Decidable q] {a b c d : α} (h : p ↔ q) (hpos : a = c) (hneg : b = d) :
    (if p then a else b) = if q then c else d :=
  ite_congr (propext h) (fun _ => hpos) (fun _ => hneg)

/-- Different numbers that all stand in a list are no more than it has. -/
theorem length_le_of_nodup {l m : List Nat} (hl : l.Nodup) (h : ∀ k ∈ l, k ∈ m) : l.length ≤ m.length := by
  induction l generalizing m with
  | nil => exact Nat.zero_le _
  | cons a l ih =>
    obtain ⟨ha, hl⟩ := List.nodup_cons.mp hl
    have ham : a ∈ m := h a List.mem_cons_self
    have hrest : l.length ≤ (m.erase a).length :=
      ih hl fun k hk => (List.mem_erase_of_ne (show k ≠ a from fun hka => ha (hka ▸ hk))).mpr (h k (List.mem_cons_of_mem _ hk))
    have hpos : 0 < m.length := List.length_pos_of_mem ham
    rw [List.length_erase_of_mem ham] at hrest
    rw [List.length_cons]
    omega

end Sys2Proof.Machine
end

section
/-! The step, the state after reset and byte memories: what a step runs, what reset leaves, and that a write is read back. -/

namespace Sys2Proof.Machine

/-- A store that lists one key reads its default at every other. -/
theorem storeGet_singleton_ne {α : Type} (d : Nat → α) {k j : Nat} (v : α) (h : j ≠ k) : storeGet d [(k, v)] j = d j := if_neg h

end Sys2Proof.Machine

open Sys2Proof Sys2Proof.Machine

/-- Settles O1: a step is `exec` of the front command by definition. -/
theorem stepRunsFront : Obligations.StepRunsFront := by
  intro s c rest h
  simp only [step, h]

/-- Settles O4: the one entry that the register file lists is the count of the reset log. -/
theorem resetState : Obligations.ResetState :=
  ⟨by decide, rfl, fun _ h => storeGet_singleton_ne regReset 1 h, rfl, rfl, rfl, rfl⟩

/-- Settles O5, by the laws of byte memories. -/
theorem memoryWrites : Obligations.MemoryWrites :=
  fun m a bs h => ⟨Mem.write_wf bs m a h, m.read_write_same a bs h, fun b hb => Mem.get_write_out bs m a b hb⟩

end

section
/-! The word of an instruction (09 Table ISA-2): its fields side by side, and that they determine it. -/

namespace Sys2Proof.Machine

/-- A field of a word, as bits of the natural that the word holds. -/
theorem toNat_extractLsb'_ofNat (w : Nat) (h : w < 2 ^ 64) (lo n : Nat) : ((BitVec.ofNat 64 w).extractLsb' lo n).toNat = w / 2 ^ lo % 2 ^ n := by
  rw [BitVec.extractLsb'_toNat, BitVec.toNat_ofNat, Nat.mod_eq_of_lt h, Nat.shiftRight_eq_div_pow]

/-- One bit of a word, as a bit of the natural that the word holds. -/
theorem getLsbD_ofNat_eq (w : Nat) (h : w < 2 ^ 64) (k : Nat) (b : Bool) (hb : w / 2 ^ k % 2 = b2n b) : (BitVec.ofNat 64 w).getLsbD k = b := by
  rw [BitVec.getLsbD, BitVec.toNat_ofNat, Nat.mod_eq_of_lt h, Nat.testBit_eq_decide_div_mod_eq, hb]
  cases b <;> rfl

theorem b2n_lt_two (b : Bool) : b2n b < 2 := by cases b <;> decide

/-- Each field of Table ISA-2 stands in its bits of the word. -/
theorem insWord_fields (op : Nat) (i : Ins) (hop : op < 256) :
    let w := BitVec.ofNat 64 (insWord op i)
    insWord op i < 2 ^ 64 ∧ w.extractLsb' 0 8 = i.dst ∧ w.extractLsb' 8 8 = i.src0 ∧ w.extractLsb' 16 8 = i.src1 ∧ w.extractLsb' 24 8 = i.src2 ∧ w.extractLsb' 32 5 = i.mod ∧
    w.extractLsb' 37 3 = i.preg ∧ w.getLsbD 40 = i.pn ∧ w.getLsbD 41 = i.pe ∧ (w.extractLsb' 42 8).toNat = op ∧ w.extractLsb' 50 6 = i.wait ∧ w.extractLsb' 56 3 = i.inc ∧
    w.getLsbD 59 = i.yield ∧ w.extractLsb' 60 4 = i.dist := by
  have h1 := i.dst.isLt
  have h2 := i.src0.isLt
  have h3 := i.src1.isLt
  have h4 := i.src2.isLt
  have h5 := i.mod.isLt
  have h6 := i.preg.isLt
  have h7 := b2n_lt_two i.pn
  have h8 := b2n_lt_two i.pe
  have h9 := i.wait.isLt
  have h10 := i.inc.isLt
  have h11 := b2n_lt_two i.yield
  have h12 := i.dist.isLt
  have hlt : insWord op i < 2 ^ 64 := by simp only [insWord, Ins.d, Ins.a, Ins.b, Ins.c, Ins.m]; omega
  refine ⟨hlt, ?_, ?_, ?_, ?_, ?_, ?_, ?_, ?_, ?_, ?_, ?_, ?_, ?_⟩
  case refine_7 | refine_8 | refine_12 => exact getLsbD_ofNat_eq _ hlt _ _ (by simp only [insWord, Ins.d, Ins.a, Ins.b, Ins.c, Ins.m]; omega)
  case refine_9 => rw [toNat_extractLsb'_ofNat _ hlt]; simp only [insWord, Ins.d, Ins.a, Ins.b, Ins.c, Ins.m]; omega
  all_goals
    refine BitVec.eq_of_toNat_eq ((toNat_extractLsb'_ofNat _ hlt _ _).trans ?_)
    simp only [insWord, Ins.d, Ins.a, Ins.b, Ins.c, Ins.m]
    omega

end Sys2Proof.Machine

open Sys2Proof Sys2Proof.Machine

/-- Settles O34: the fields tile the word, so equal words have equal fields. -/
theorem instructionWords : Obligations.InstructionWords := by
  intro op i hop w
  obtain ⟨hlt, f1, f2, f3, f4, f5, f6, f7, f8, f9, f10, f11, f12, f13⟩ := insWord_fields op i hop
  refine ⟨hlt, f1, f2, f3, f4, f5, f6, f7, f8, f9, f10, f11, f12, f13, fun op' i' hop' heq => ?_⟩
  obtain ⟨-, g1, g2, g3, g4, g5, g6, g7, g8, g9, g10, g11, g12, g13⟩ := insWord_fields op' i' hop'
  rw [← heq] at g1 g2 g3 g4 g5 g6 g7 g8 g9 g10 g11 g12 g13
  refine ⟨f9.symm.trans g9, ?_⟩
  obtain ⟨dist, yield, inc, wait, pe, pn, preg, mod, src2, src1, src0, dst, ext⟩ := i'
  rw [Ins.mk.injEq]
  exact ⟨f13.symm.trans g13, f12.symm.trans g12, f11.symm.trans g11, f10.symm.trans g10, f8.symm.trans g8, f7.symm.trans g7, f6.symm.trans g6,
    f5.symm.trans g5, f4.symm.trans g4, f3.symm.trans g3, f2.symm.trans g2, f1.symm.trans g1, rfl⟩

end

section
/-! Writes of BAR0 by row (00 R5 to R15, Table SCP-4): what a write of a register that no other rule governs changes, and which writes are discarded. -/

namespace Sys2Proof.Machine

/-- Writing a register changes the register file only. -/
theorem State.setReg_onlyRegs (s : State) (k : Nat) (v : BitVec 32) : OnlyRegs s (s.setReg k v) := rfl

/-- What a plain write makes of a register, bit by bit (00 Table SCP-4): reserved bits of the value are taken away before. -/
theorem getLsbD_putPlain {s : State} (r : RegRow) (k : Nat) (val : W32) (h : storeWf regPlain s.regs = true) {i : Nat} (hi : i < 32) :
    ((s.putPlain r k (val &&& BitVec.ofNat 32 r.named)).reg k).getLsbD i =
      if r.rw.testBit i then val.getLsbD i else if r.w1c.testBit i && val.getLsbD i then false else (s.reg k).getLsbD i := by
  rw [State.putPlain, State.reg_modReg _ _ _ h]
  simp only [BitVec.getLsbD_or, BitVec.getLsbD_and, BitVec.getLsbD_not, BitVec.getLsbD_ofNat, RegRow.named, RegRow.writable, Nat.testBit_or, hi, decide_true, Bool.true_and]
  cases r.rw.testBit i <;> cases r.w1c.testBit i <;> cases val.getLsbD i <;> simp

/-- A write that is not counted by its own rule is counted when it sets reserved bits: once. -/
theorem State.countRsv_eq {s t : State} (r : RegRow) (val : W32) (h : t.reg R.GLB_ACCESS_VIOL_COUNT = s.reg R.GLB_ACCESS_VIOL_COUNT) :
    s.countRsv t r val = if val &&& ~~~ BitVec.ofNat 32 r.named = 0 then t else t.viol := by
  by_cases hv : val &&& ~~~ BitVec.ofNat 32 r.named = 0 <;> simp [State.countRsv, h, hv]

/-- Registers that can be written in blocks of which no register has copies. -/
def soleCopies (rows : List RegRow) : Bool := rows.all (fun r => r.pair != .none || r.cp == .one || r.writable == 0 || governedRows.contains r.off)

/-- In such a block the copy that a write reaches is the only one. -/
theorem rk_of_soleCopies {s : State} {req : Req} {r : RegRow} {off c : Nat} (hrow : regRow? off = some r) (hblock : soleCopies (blockRows off) = true)
    (hcopy : s.copyOf req r = some c) (hw : r.writable ≠ 0) (hpair : r.pair = .none) (hgov : governedRows.contains r.off = false) : rk off c = off := by
  have hmem : r ∈ blockRows off := List.mem_of_find?_eq_some hrow
  have hr := List.all_eq_true.mp hblock r hmem
  simp only [hpair, hgov, bne_self_eq_false, Bool.false_or, Bool.or_false, Bool.or_eq_true, beq_iff_eq, hw, or_false] at hr
  simp only [State.copyOf, hr, Option.some.injEq] at hcopy
  rw [rk, ← hcopy, Nat.zero_mul, Nat.add_zero]

/-- A write of a register that no other rule governs sets and clears the bits that its row names. -/
theorem putReg_plain {s : State} {req : Req} {r : RegRow} {off c : Nat} (val : W32) (hrow : regRow? off = some r) (hcopy : s.copyOf req r = some c)
    (hw : r.writable ≠ 0) (hplain : plainAt r off = true) : s.putReg req r off c val = s.putPlain r (rk off c) val := by
  simp only [plainAt, Bool.and_eq_true, beq_iff_eq, Bool.not_eq_true'] at hplain
  obtain ⟨⟨hpair, hgovr⟩, hgov⟩ := hplain
  have hsole : soleCopies (blockRows off) = true → rk off c = off := fun h => rk_of_soleCopies hrow h hcopy hw hpair hgovr
  have hne : ∀ k ∈ governedRows, off ≠ k := fun k hk e => by rw [← e] at hk; simp [hk] at hgov
  have hner : ∀ k ∈ governedRows, r.off ≠ k := fun k hk e => by rw [← e] at hk; simp [hk] at hgovr
  simp only [governedRows, List.cons_append, List.nil_append, List.forall_mem_cons] at hne hner
  have hrows : ∀ rows, blockRows off = rows → soleCopies rows = true → rk off c = off := fun rows h h' => hsole (h ▸ h')
  unfold State.putReg
  split
  · next hhigh =>
    have h1 : blockRows off = regsQDB ∨ blockRows off = regsGDB ∨ blockRows off = [] := by
      rw [blockRows, if_neg (Nat.not_lt.mpr hhigh)]
      by_cases hq : off < 0x1100000
      · exact .inl (if_pos hq)
      · rw [if_neg hq]
        by_cases hg : off < 0x1200000
        · exact .inr (.inl (if_pos hg))
        · exact .inr (.inr (if_neg hg))
    have : rk off c = off := by
      rcases h1 with h | h | h <;> exact hrows _ h (by decide)
    simp [hner, this]
  · next hlow =>
    have hblock : blockRows off = _ := if_pos (Nat.not_le.mp hlow)
    split
    · simp [State.putHif, hne, hner]
    · simp [State.putMmu, hne]
    · simp [State.putQm, hne, hner]
    · simp [State.putPt, hne]
    · next h => simp [State.putGd, hne, hrows regsGD (by rw [hblock, h]; rfl) (by decide)]
    · simp [State.putUnits, hne]
    · simp [State.putUnits, hne]
    · simp [State.putUnits, hne]
    · simp [State.putFab, hne]
    · next h => simp [State.putPwr, hne, hrows regsPWR (by rw [hblock, h]; rfl) (by decide)]
    · next h => simp [State.putPwr, hne, hrows regsCLK (by rw [hblock, h]; rfl) (by decide)]
    · simp [State.putRst, hne, hner]
    · simp [hne]
    · next h => simp [State.putDbg, hne, hner, hrows regsDBG (by rw [hblock, h]; rfl) (by decide)]
    · rfl

/-- Which register writes are made at once, wait, or do nothing (02 R32; 03 R92; 19 R469; 20 R484). -/
theorem cmdWrite_cases (s : State) (req : Req) (off : Nat) (val : W32) (full : Bool) :
    (req = .host → s.hostReach = false → s.cmdWrite req off val full = s) ∧
    (req = .host → s.hostReach = true → s.direct req = false → s.cmdWrite req off val full = (s.perf 0x10 0 4).joinLane (.reg off val full)) ∧
    (req = .monitor → s.bit R.DBG_MON_STATUS 0 = true → s.cmdWrite req off val full = s) ∧
    (req ≠ .host → (req = .monitor → s.bit R.DBG_MON_STATUS 0 = false) → s.direct req = false → s.cmdWrite req off val full =
      { s with mmu := { s.mmu with held := s.mmu.held ++ [HeldWrite.mk req.num off val full] } }) := by
  obtain ⟨hh, hm⟩ := perf_hs_mmu s 0x10 0 4
  refine ⟨?_, ?_, ?_, ?_⟩
  · rintro rfl hr
    simp [State.cmdWrite, hr]
  · rintro rfl hr hd
    have hwait : ((s.perf 0x10 0 4).hs.lane.isEmpty && !(s.perf 0x10 0 4).holds 0) = false := by
      rw [hh, State.holds, hm, Bool.and_comm]
      simpa [State.direct, hr, State.holds, Req.num] using hd
    simp [State.cmdWrite, hr, hwait]
  · rintro rfl hl
    simp [State.cmdWrite, hl]
  · intro hhost hlock hd
    cases req with
    | host => exact absurd rfl hhost
    | monitor =>
      have hheld : s.holds Req.monitor.num = true := by simpa [State.direct, hlock rfl] using hd
      simp [State.cmdWrite, State.heldWrite, hlock rfl, hheld]
    | fec0 =>
      have hheld : s.holds Req.fec0.num = true := by simpa [State.direct] using hd
      simp [State.cmdWrite, State.heldWrite, hheld]
    | fec1 =>
      have hheld : s.holds Req.fec1.num = true := by simpa [State.direct] using hd
      simp [State.cmdWrite, State.heldWrite, hheld]

end Sys2Proof.Machine

open Sys2Proof Sys2Proof.Machine

/-- Settles O6: the write of a plain row, and then the count of reserved bits. What a write of the locked monitor, and one that does not reach Ruwen, do, and
where a write waits, are log entries 28, 29 and 35. -/
theorem plainRegisterWrite : Obligations.PlainRegisterWrite := by
  refine ⟨?_, ?_⟩
  · intro s req off c val r u hdirect hwf hrow hcopy hopen hw hplain hviol
    let v := val &&& BitVec.ofNat 32 r.named
    let t := u.putPlain r (rk off c) v
    have hpair : r.pair = .none := by
      simp only [plainAt, Bool.and_eq_true, beq_iff_eq] at hplain
      exact hplain.1.1
    have hput : u.putAny req r off c val = t := by
      rw [State.putAny, if_pos hpair, putReg_plain v (rowAt_regRow hrow) hcopy hw hplain]
    have hsame : ∀ k, k ≠ rk off c → t.reg k = u.reg k := fun k hk => State.reg_modReg_ne u _ hk
    have hexec : exec (.registerWrite req off val true) s = .next (if val &&& ~~~ BitVec.ofNat 32 r.named = 0 then t else t.viol) := by
      rw [← State.countRsv_eq r val (hsame _ hviol.symm), ← hput]
      simp [exec, execRegisterWrite, cmdWrite_of_direct hdirect, State.regWrite, u, hrow, hcopy, hopen, hw]
    have htwf : storeWf regPlain t.regs = true := u.modReg_wf _ _ hwf
    refine ⟨_, hexec, fun i hi => ?_, fun k hk hkv => ?_, ?_, ?_⟩
    · rw [← getLsbD_putPlain r (rk off c) val hwf hi]
      split
      · rfl
      · exact congrArg (·.getLsbD i) (State.reg_bump_ne t 1 hviol)
    · rw [← hsame k hk]
      split
      · rfl
      · exact State.reg_bump_ne t 1 hkv
    · rw [← hsame _ hviol.symm]
      split
      · exact (BitVec.add_zero _).symm
      · exact State.reg_bump t _ 1 htwf
    · split <;> rfl
  · intro s req off val full held
    obtain ⟨hunreached, hlane, hlocked, hheld⟩ := cmdWrite_cases s req off val full
    refine ⟨fun hd => ?_, fun h1 h2 => ?_, fun h1 h2 h3 => ?_, fun h1 h2 => ?_, fun h1 h2 h3 => ?_⟩
    · exact congrArg Host.Outcome.next (cmdWrite_of_direct hd)
    · exact congrArg Host.Outcome.next (hunreached h1 h2)
    · exact congrArg Host.Outcome.next (hlane h1 h2 h3)
    · exact congrArg Host.Outcome.next (hlocked h1 h2)
    · exact congrArg Host.Outcome.next (hheld h1 h2 h3)

/-- Settles O7: what a register write is discarded for, in the order of the checks; a block that a reset holds does nothing (log entries 13 and 29). -/
theorem discardedWrites : Obligations.DiscardedWrites := by
  intro s req off val full hd u counted
  have hexec : exec (.registerWrite req off val full) s = .next (u.regWrite req off val full) := congrArg Host.Outcome.next (cmdWrite_of_direct hd)
  refine ⟨fun h => ?_, fun r h hc => ?_, fun r c h hc ho hw => ?_, fun r c h hc ho => ?_⟩
  · exact hexec.trans (by rw [State.regWrite, h]; rfl)
  · exact hexec.trans (by simp only [State.regWrite, h, hc]; rfl)
  · have hdiscard : (!full || decide (r.writable = 0)) = true := by simpa using hw
    exact hexec.trans (by simp only [State.regWrite, h, hc, ho, hdiscard]; rfl)
  · exact hexec.trans (by simp only [State.regWrite, h, hc, ho]; rfl)

/-- Settles O9: Table MON-4 as log entry 28 reads it. -/
theorem lockedMonitorWrites : Obligations.LockedMonitorWrites := fun s off val full h =>
  congrArg Host.Outcome.next ((cmdWrite_cases s .monitor off val full).2.2.1 rfl h)

end

section
/-! Commands that are writes of one register: each is the operation of its row, in the state in which the write arrives. -/

namespace Sys2Proof.Machine

/-- What a command that is a write of a register comes to once the write reaches its row: the operation of the row on the value, whole. -/
theorem exec_of_reaches {c : Instr} {s : State} {req : Req} {off n : Nat} {val : W32} {row : RegRow} (h : s.reaches req off n val = true)
    (hrow : regRow? off = some row) (hexec : exec c s = .next (s.cmdWrite req off val true)) :
    exec c s = .next ((s.arriving req).putAny req row off n val) := by
  rw [hexec, (cmdWrite_row h hrow).2.2]

/-- The copy that a write reaches, of a register that every requester's window selects. -/
theorem copy_lt_of_reaches {s : State} {req : Req} {off n sel m : Nat} {val : W32} {row : RegRow} (h : s.reaches req off n val = true)
    (hrow : regRow? off = some row) (hcp : row.cp = .win sel m) : n < m := by
  have hcopy := (cmdWrite_row h hrow).1
  simp only [State.copyOf, hcp] at hcopy
  split at hcopy
  · next hlt => exact Option.some.inj hcopy ▸ hlt
  · cases hcopy

/-- A register that has no copies. -/
theorem copy_zero_of_reaches {s : State} {req : Req} {off n : Nat} {val : W32} {row : RegRow} (h : s.reaches req off n val = true)
    (hrow : regRow? off = some row) (hcp : row.cp = .one) : n = 0 := by
  have hcopy := (cmdWrite_row h hrow).1
  simp only [State.copyOf, hcp, Option.some.injEq] at hcopy
  exact hcopy.symm

/-- A command that is a write of a register outside pairs has the effect of the register's own operation. -/
theorem exec_putReg {c : Instr} {s : State} {req : Req} {off n : Nat} {val : W32} {row : RegRow} (h : s.reaches req off n val = true)
    (hrow : regRow? off = some row) (hpair : row.pair = .none) (hexec : exec c s = .next (s.cmdWrite req off val true)) :
    exec c s = .next ((s.arriving req).putReg req row off n val) := by
  rw [exec_of_reaches h hrow hexec, State.putAny, if_pos hpair, (cmdWrite_row h hrow).2.1]

/-- A command whose effect is always the operation of its register. -/
theorem writesTo_putReg {c : Instr} {req : Req} {off : Nat} {val : W32} {row : RegRow} {f : State → Nat → State} (hrow : regRow? off = some row)
    (hpair : row.pair = .none) (hexec : ∀ s, exec c s = .next (s.cmdWrite req off val true))
    (hput : ∀ (u : State) n, val &&& BitVec.ofNat 32 row.named = val → u.copyOf req row = some n → u.putReg req row off n val = f u n) :
    WritesTo c req off val f := fun s n h => by
  obtain ⟨hcopy, hmask, -⟩ := cmdWrite_row h hrow
  rw [exec_putReg h hrow hpair (hexec s), hput _ n hmask hcopy]

/-- A command that commits a pair whose writes no rule refuses. -/
theorem writesTo_commitPair {c : Instr} {req : Req} {off : Nat} {val : W32} {row : RegRow} {f : State → Nat → State} (lo : Nat)
    (hlo : off - 4 = lo) (hrow : regRow? off = some row) (hpair : row.pair = .hi) (hfree : ∀ (u : State) n, u.pairRefused lo n = none) (hexec : ∀ s, exec c s = .next (s.cmdWrite req off val true))
    (hput : ∀ (u : State) n, val &&& BitVec.ofNat 32 row.writable = val → u.copyOf req row = some n →
      (u.unstage req (rk lo n)).commitPair lo n ((u.staged req (rk lo n)).toNat + val.toNat * 2 ^ 32) = f u n)
    (hwritable : row.named = row.writable) : WritesTo c req off val f := fun s n h => by
  obtain ⟨hcopy, hmask, -⟩ := cmdWrite_row h hrow
  subst hlo
  rw [hwritable] at hmask
  rw [exec_of_reaches h hrow (hexec s), State.putAny, if_neg (by rw [hpair]; decide), putPair_hi hpair (hfree _ _), hmask, hput _ n hmask hcopy]

/-! ### The event of a command -/

theorem when'_of {ev : String} {c : Bool} {s : State} (h : c = true) : when' ev c s = .next s := if_pos h

theorem State.rooted_of {s : State} (ev : String) (out : Out) (h : s.rootLock = true) : s.rooted ev out = out := if_pos h

theorem bitOf_eq_getLsbD {n : Nat} (w : BitVec n) (i : Nat) : bitOf w i = w.getLsbD i := rfl

/-- A field of a register is a quotient's remainder. -/
theorem fld_eq {n : Nat} (w : BitVec n) (hi lo : Nat) : fld w hi lo = w.toNat / 2 ^ lo % 2 ^ (hi + 1 - lo) := by
  rw [fld, bits, Nat.shiftRight_eq_div_pow]

end Sys2Proof.Machine
open Sys2Proof Sys2Proof.Machine

end

section
/-! Staging of the halves of a 64-bit pair (00 R11 to R13). -/

namespace Sys2Proof.Machine

/-- A key that was dropped from a store reads its default. -/
theorem storeGet_filter_key {α : Type} (d : Nat → α) (k : Nat) (l : List (Nat × α)) : storeGet d (l.filter (fun c => c.1 ≠ k)) k = d k := by
  induction l with
  | nil => rfl
  | cons e t ih =>
    obtain ⟨j, v⟩ := e
    rw [List.filter_cons]
    split
    · next hj =>
      have hne : k ≠ j := fun e => of_decide_eq_true hj e.symm
      rw [storeGet, if_neg hne, ih]
    · exact ih

theorem Req.num_injective {a b : Req} (h : a.num = b.num) : a = b := by
  cases a <;> cases b <;> simp_all [Req.num]

/-- A half that a requester stages is staged for it, and for no other requester. -/
theorem State.staged_stageLo (s : State) (req other : Req) (key : Nat) (v : W32) (h : storeWf (fun _ _ => false) s.stage = true) :
    (s.stageLo req key v).staged other key = if other = req then v else s.staged other key := by
  by_cases ho : other = req
  · subst ho
    rw [if_pos rfl]
    exact storeGet_storePut (fun _ => s.reg key) (fun _ _ => false) _ v (fun e => by cases e) s.stage h
  · rw [if_neg ho]
    refine storeGet_storePut_ne (fun _ => s.reg key) (fun _ _ => false) v s.stage fun e => ho (Req.num_injective ?_)
    simp only [rk, copyStride] at e
    omega

/-- A commit leaves nothing staged. -/
theorem State.staged_unstage {s t : State} {req : Req} {key : Nat} (h : t.stage = (s.unstage req key).stage) : t.staged req key = t.reg key := by
  rw [State.staged, h]
  exact storeGet_filter_key _ _ _

/-- The first copy of a register stands under its offset. -/
theorem rk_zero (off : Nat) : rk off 0 = off := by rw [rk, Nat.zero_mul, Nat.add_zero]

/-- A write that reaches the low half of a pair stages it. -/
theorem exec_stageLo {c : Instr} {s : State} {req : Req} {off n : Nat} {val : W32} {row : RegRow} (h : s.reaches req off n val = true)
    (hrow : regRow? off = some row) (hpair : row.pair = .lo) (hnamed : row.named = row.writable) (hfree : (s.arriving req).pairRefused off n = none)
    (hexec : exec c s = .next (s.cmdWrite req off val true)) : exec c s = .next ((s.arriving req).stageLo req (rk off n) val) := by
  obtain ⟨-, hmask, -⟩ := cmdWrite_row h hrow
  rw [hnamed] at hmask
  rw [exec_of_reaches h hrow hexec, State.putAny, if_neg (by rw [hpair]; decide), putPair_lo hpair hfree, hmask]

/-- The low half of HIF_MWIN_BASE is staged. -/
theorem exec_mwinBaseLo {s : State} {req : Req} {val : W32} (h : s.reaches req R.HIF_MWIN_BASE_LO 0 val = true) :
    exec (.registerWrite req R.HIF_MWIN_BASE_LO val true) s = .next ((s.arriving req).stageLo req R.HIF_MWIN_BASE_LO val) := by
  have := exec_stageLo (c := .registerWrite req R.HIF_MWIN_BASE_LO val true) h rfl rfl rfl rfl rfl
  rwa [rk_zero] at this

/-- The high half of HIF_MWIN_BASE commits both. -/
theorem exec_mwinBaseHi {s : State} {req : Req} {val : W32} (h : s.reaches req R.HIF_MWIN_BASE_HI 0 val = true) :
    exec (.registerWrite req R.HIF_MWIN_BASE_HI val true) s = .next (((s.arriving req).unstage req R.HIF_MWIN_BASE_LO).setPair R.HIF_MWIN_BASE_LO
      (((s.arriving req).staged req R.HIF_MWIN_BASE_LO).toNat + val.toNat * 2 ^ 32)) := by
  have hwrites : WritesTo (.registerWrite req R.HIF_MWIN_BASE_HI val true) req R.HIF_MWIN_BASE_HI val (fun u n =>
      (u.unstage req (rk R.HIF_MWIN_BASE_LO n)).setPair (rk R.HIF_MWIN_BASE_LO n) ((u.staged req (rk R.HIF_MWIN_BASE_LO n)).toNat + val.toNat * 2 ^ 32)) := by
    refine writesTo_commitPair R.HIF_MWIN_BASE_LO rfl rfl rfl (fun _ _ => rfl) (fun _ => rfl) (fun _ _ _ _ => ?_) rfl
    simp +decide only [State.commitPair, if_false]
  have hexec := hwrites s 0 h
  simp only [rk_zero] at hexec
  exact hexec

/-- A pair committed from two words holds both. -/
theorem State.pair_setPair_words (s : State) (k : Nat) (lo hi : W32) (h : storeWf regPlain s.regs = true) :
    (s.setPair k (lo.toNat + hi.toNat * 2 ^ 32)).pair k = lo.toNat + hi.toNat * 2 ^ 32 := by
  rw [s.pair_setPair k _ h, Nat.mod_eq_of_lt]
  have h1 := lo.isLt
  have h2 := hi.isLt
  omega

/-- A commit changes the register file and what is staged only. -/
theorem State.commit_eq (s : State) (req : Req) (k v : Nat) :
    let t := (s.unstage req k).setPair k v
    t = { s with regs := t.regs, stage := t.stage } := rfl

end Sys2Proof.Machine

open Sys2Proof Sys2Proof.Machine

/-- Settles O8: a low half is staged under its requester's key, a high half commits both and drops that key. -/
theorem pairStaging : Obligations.PairStaging := by
  intro s req val u
  refine ⟨fun h hstage => ?_, fun h hregs hstage => ?_⟩
  · refine ⟨_, exec_mwinBaseLo h, rfl, ?_, fun other ho => ?_⟩
    · rw [State.staged_stageLo u req req _ _ hstage, if_pos rfl]
    · rw [State.staged_stageLo u req other _ _ hstage, if_neg ho]
  · refine ⟨_, exec_mwinBaseHi h, State.commit_eq u req _ _, ?_, State.staged_unstage rfl, fun k h1 h2 => ?_⟩
    · exact State.pair_setPair_words (u.unstage req R.HIF_MWIN_BASE_LO) _ _ val hregs
    · exact (State.reg_setPair_ne _ _ h1 h2).trans (State.reg_congr (State.unstage_regs u req _) k)

end

section
/-! Aperture control, consumption and watermarks (02 R45, R46, R51 to R53; 19 R472). -/

namespace Sys2Proof.Machine

/-- Two ranges do not meet. -/
theorem overlaps_eq_false {a n b m : Nat} : overlaps a n b m = false ↔ ¬(a < b + m ∧ b < a + n) := by
  simp [overlaps]

/-- The conditions of R45, one by one. -/
theorem State.apFit_iff (s : State) (ap : Nat) (guard : Bool) (action : Nat) :
    s.apFit ap guard action = true ↔ (0 < s.apBase ap ∧ 0 < s.apSize ap ∧ s.apBase ap % 65536 = 0 ∧ s.apSize ap % 65536 = 0 ∧ s.apSize ap ≤ 2 ^ 30 ∧
      s.apBase ap + s.apSize ap ≤ 0xF0000000 ∧
      (∀ o, o < 16 → o ≠ ap → s.apOn o = true → ¬(s.apBase ap < s.apBase o + s.apSize o ∧ s.apBase o < s.apBase ap + s.apSize ap)) ∧
      (if guard then s.apVa ap + s.apSize ap ≤ 2 ^ 21 else s.apVa ap % 4096 = 0 ∧ s.apVa ap + s.apSize ap ≤ 2 ^ 48) ∧ action ≠ 3) := by
  have hothers : (List.range 16).all (fun o => o == ap || !s.apOn o || !overlaps (s.apBase ap) (s.apSize ap) (s.apBase o) (s.apSize o)) = true ↔
      ∀ o, o < 16 → o ≠ ap → s.apOn o = true → ¬(s.apBase ap < s.apBase o + s.apSize o ∧ s.apBase o < s.apBase ap + s.apSize ap) := by
    simp only [List.all_eq_true, List.mem_range, Bool.or_eq_true, Bool.not_eq_true', beq_iff_eq, overlaps_eq_false]
    refine forall_congr' fun o => forall_congr' fun _ => ?_
    rw [or_assoc, Classical.or_iff_not_imp_left, Classical.or_iff_not_imp_left, Bool.not_eq_false]
  have hva : 0 < s.apSize ap → ((if guard then decide (s.apVa ap < 2 ^ 21) && decide (s.apVa ap + s.apSize ap ≤ sramSize)
        else s.apVa ap % 4096 == 0 && decide (s.apVa ap + s.apSize ap ≤ 2 ^ 48)) = true ↔
      if guard then s.apVa ap + s.apSize ap ≤ 2 ^ 21 else s.apVa ap % 4096 = 0 ∧ s.apVa ap + s.apSize ap ≤ 2 ^ 48) := by
    intro hn
    cases guard
    · simp
    · simp only [if_true, Bool.and_eq_true, decide_eq_true_eq, sramSize]
      omega
  simp only [State.apFit, Bool.and_eq_true, decide_eq_true_eq, beq_iff_eq, ← Nat.pos_iff_ne_zero, hothers, and_assoc]
  constructor
  · rintro ⟨h1, h2, h3, h4, h5, h6, h7, h8, h9⟩
    exact ⟨h1, h2, h3, h4, h5, h6, h7, (hva h2).mp h8, h9⟩
  · rintro ⟨h1, h2, h3, h4, h5, h6, h7, h8, h9⟩
    exact ⟨h1, h2, h3, h4, h5, h6, h7, (hva h2).mpr h8, h9⟩

theorem and_xor_right (a b m : W32) : (a ^^^ b) &&& m = (a &&& m) ^^^ (b &&& m) := by
  ext i hi
  simp only [BitVec.getElem_and, BitVec.getElem_xor]
  cases a[i] <;> cases b[i] <;> cases m[i] <;> rfl

/-- Setting bit 0 of a word leaves its fields from bit 1 on. -/
theorem or_one_getLsbD_succ (val : W32) (i : Nat) : (val ||| 1).getLsbD (i + 1) = val.getLsbD (i + 1) := by
  simp

theorem toNat_or_one_div_four (val : W32) : (val ||| 1).toNat / 4 = val.toNat / 4 := by
  have h : (val ||| 1) >>> 2 = val >>> 2 := by
    ext i hi
    simp [BitVec.getElem_ushiftRight]
  have := congrArg BitVec.toNat h
  simpa [BitVec.toNat_ushiftRight, Nat.shiftRight_eq_div_pow] using this

/-- A write of HIF_AP_CTRL whose value has bits 15 to 0 only and not 7 and 6: what it does by ENABLE, by the descriptor's state and by its fit (02 R45, R46, R51). -/
theorem State.wrApCtrl_disable {s : State} {ap : Nat} {v : W32} (hmask : v &&& 0xFF3F = v) (hoff : v.getLsbD 0 = false) :
    s.wrApCtrl ap v = (s.setReg (rk R.HIF_AP_CTRL ap) v).clrBits (rk R.HIF_AP_WM_STAT ap) 1 := by
  simp only [State.wrApCtrl, hmask, bitOf_eq_getLsbD, hoff, Bool.not_false, if_true]

theorem State.wrApCtrl_enable {s : State} {ap : Nat} {v : W32} (hmask : v &&& 0xFF3F = v) (hon : v.getLsbD 0 = true) (h : s.apOn ap = false) :
    s.wrApCtrl ap v = if s.apFit ap (v.getLsbD 1) (v.toNat / 4 % 4) then
        ((s.setReg (rk R.HIF_AP_CTRL ap) v).clrBits (rk R.HIF_AP_WM_STAT ap) 1).apEval ap
      else (s.setReg (rk R.HIF_AP_CTRL ap) (v &&& ~~~ 1)).apRefuse ap := by
  have hclear : v &&& 0xFF3E = v &&& ~~~ 1 := by
    rw [show (0xFF3E : W32) = 0xFF3F &&& ~~~ 1 by decide, ← BitVec.and_assoc, hmask]
  simp only [State.wrApCtrl, hmask, bitOf_eq_getLsbD, hon, h, Bool.not_true, Bool.not_false, Bool.false_eq_true, if_false, if_true, fld_eq, hclear] <;> rfl

theorem State.wrApCtrl_update {s : State} {ap : Nat} {v : W32} (hmask : v &&& 0xFF3F = v) (hon : v.getLsbD 0 = true) (h : s.apOn ap = true) :
    let k := rk R.HIF_AP_CTRL ap
    s.wrApCtrl ap v = if v.toNat / 4 % 4 = 3 then (s.setReg k (s.reg k &&& 0xFF2E ||| v &&& 0x11)).apRefuse ap
      else if (v ^^^ s.reg k) &&& 0xFF22 = 0 then s.setReg k (s.reg k &&& 0xFF22 ||| v &&& 0x1D)
      else (s.setReg k (s.reg k &&& 0xFF22 ||| v &&& 0x1D)).viol := by
  intro k
  have hbad : s.reg k &&& 0xFF22 ||| v &&& 0x11 ||| s.reg k &&& 0xC = s.reg k &&& 0xFF2E ||| v &&& 0x11 := by
    rw [show (0xFF2E : W32) = 0xFF22 ||| 0xC by decide, BitVec.and_or_distrib_left, BitVec.or_assoc, BitVec.or_assoc, BitVec.or_comm (v &&& 0x11)]
  have hgood : s.reg k &&& 0xFF22 ||| v &&& 0x11 ||| v &&& 0xC = s.reg k &&& 0xFF22 ||| v &&& 0x1D := by
    rw [show (0x1D : W32) = 0x11 ||| 0xC by decide, BitVec.and_or_distrib_left, BitVec.or_assoc]
  have hchange : (v ^^^ s.reg k) &&& 0xFF22 = 0 ↔ v &&& 0xFF22 = s.reg k &&& 0xFF22 := by
    rw [and_xor_right]
    exact BitVec.xor_eq_zero_iff
  simp only [hchange]
  simp only [State.wrApCtrl, hmask, bitOf_eq_getLsbD, hon, h, Bool.not_true, Bool.false_eq_true, if_false, fld_eq]
  have hfield : v.toNat / 2 ^ 2 % 2 ^ (3 + 1 - 2) = v.toNat / 4 % 4 := rfl
  rw [hfield, ← hbad, ← hgood]
  by_cases h3 : v.toNat / 4 % 4 = 3
  · simp only [if_pos h3]
    rfl
  · simp only [if_neg h3]
    by_cases hc : v &&& 0xFF22 = s.reg k &&& 0xFF22
    · rw [if_pos hc]
      exact if_neg (Classical.not_not.mpr hc)
    · rw [if_neg hc]
      exact if_pos hc

/-- The unconsumed amount is the difference of the counters as a 64-bit integer, no less than 0 (02 R51). -/
theorem State.apUnconsumed_eq (s : State) (ap : Nat) :
    s.apUnconsumed ap = (BitVec.ofInt 64 ((s.pair (rk R.HIF_AP_ARRIVED_LO ap) : Int) - s.pair (rk R.HIF_AP_CONSUMED_LO ap))).toInt.toNat := by
  have h : ∀ a b : Nat, BitVec.ofNat 64 (subMod 64 a b) = BitVec.ofInt 64 ((a : Int) - b) := by
    intro a b
    apply BitVec.eq_of_toNat_eq
    rw [BitVec.toNat_ofNat, BitVec.toNat_ofInt, subMod]
    omega
  rw [State.apUnconsumed, asInt_eq_toInt, h]

/-- What follows from an up-crossing of the watermark (02 R52). -/
theorem State.apAct_eq (s : State) (ap : Nat) :
    s.apAct ap =
      let v := if s.apAction ap = 1 then s.launchReq (s.apCtx ap) (s.reg (rk R.HIF_AP_GRAPH ap)).toNat (s.pair (rk R.HIF_AP_PARAM_LO ap))
        else if s.apAction ap = 2 then s.wake else s
      if v.apIrq ap then v.event 6 [] else v := by
  simp only [State.apAct]
  split
  · next h => simp only [h, if_true]
  · next h => simp only [h, if_true]; rfl
  · next h1 h2 => simp only [if_neg h1, if_neg h2]

end Sys2Proof.Machine

open Sys2Proof Sys2Proof.Machine

/-- Settles O10: a write of HIF_AP_CTRL by ENABLE, the descriptor's state and the conditions of R45; the watermark by LEVEL and the unconsumed amount. -/
theorem apertures : Obligations.Apertures := by
  refine ⟨⟨?_, ?_, ?_, ?_⟩, ?_⟩
  · intro s req ap val u k b n va fit
    have hrow : ∀ v, s.reaches req R.HIF_AP_CTRL ap v = true → v &&& 0xFF3F = v := fun v h => (cmdWrite_row h rfl).2.1
    have hbit : (val ||| 1).getLsbD 0 = true := by simp
    have hbit1 : (val ||| 1).getLsbD 1 = val.getLsbD 1 := or_one_getLsbD_succ val 0
    have hfit : u.apFit ap ((val ||| 1).getLsbD 1) ((val ||| 1).toNat / 4 % 4) = true ↔ fit := by
      rw [State.apFit_iff, hbit1, toNat_or_one_div_four]
    have hxor : ((val ||| 1) ^^^ u.reg k) &&& 0xFF22 = (val ^^^ u.reg k) &&& 0xFF22 := by
      rw [and_xor_right, and_xor_right, BitVec.and_or_distrib_right]
      simp
    have henable : ∀ h : s.reaches req R.HIF_AP_CTRL ap (val ||| 1) = true, exec (.apEnable req val) s = .next (u.wrApCtrl ap (val ||| 1)) :=
      fun h => exec_putReg h rfl rfl rfl
    have hupdate : ∀ h : s.reaches req R.HIF_AP_CTRL ap (val ||| 1) = true, exec (.apCtrlUpdate req val) s = .next (u.wrApCtrl ap (val ||| 1)) :=
      fun h => exec_putReg h rfl rfl rfl
    refine ⟨fun h hoff hf => ?_, fun h hoff hf => ?_, fun h hon h3 hx => ?_, fun h hon h3 hx => ?_, fun h hon h3 => ?_⟩
    · rw [henable h, State.wrApCtrl_enable (hrow _ h) hbit hoff, if_pos (hfit.mpr hf)]
    · rw [henable h, State.wrApCtrl_enable (hrow _ h) hbit hoff, if_neg (mt hfit.mp hf)]
      rfl
    · rw [hupdate h, State.wrApCtrl_update (hrow _ h) hbit hon, toNat_or_one_div_four, if_neg h3, hxor, if_pos hx]
    · rw [hupdate h, State.wrApCtrl_update (hrow _ h) hbit hon, toNat_or_one_div_four, if_neg h3, hxor, if_neg hx]
    · rw [hupdate h, State.wrApCtrl_update (hrow _ h) hbit hon, toNat_or_one_div_four, if_pos h3]
      rfl
  · intro req val
    refine writesTo_putReg rfl rfl (fun _ => rfl) (fun u ap hmask _ => ?_)
    exact State.wrApCtrl_disable hmask (by simp)
  · intro req val
    refine writesTo_commitPair R.HIF_AP_CONSUMED_LO rfl rfl rfl (fun _ _ => rfl) (fun _ => rfl) (fun _ _ _ _ => ?_) rfl
    simp +decide only [State.commitPair, if_false, if_true]
  · intro req val
    refine writesTo_commitPair R.HIF_AP_WM_LO rfl rfl rfl (fun _ _ => rfl) (fun _ => rfl) (fun _ _ _ _ => ?_) rfl
    simp +decide only [State.commitPair, if_false, if_true]
  · intro s ap k reached
    have hlevel : s.pair (rk R.HIF_AP_WM_LO ap) ≤ s.apUnconsumed ap ↔ reached := by rw [s.apUnconsumed_eq ap]
    refine ⟨fun hoff => ?_, fun hon hr hb => ?_, fun hon hr hb => ?_, fun hon hr hb => ?_, fun hon hr hb => ?_⟩
    · simp [State.apEval, hoff]
    · simp [State.apEval, hon, hlevel.mpr hr, show s.bit (rk R.HIF_AP_WM_STAT ap) 0 = true from hb]
    · simp [State.apEval, hon, mt hlevel.mp hr, show s.bit (rk R.HIF_AP_WM_STAT ap) 0 = false from hb]
    · simp [State.apEval, hon, mt hlevel.mp hr, show s.bit (rk R.HIF_AP_WM_STAT ap) 0 = true from hb]
      rfl
    · simp [State.apEval, hon, hlevel.mpr hr, show s.bit (rk R.HIF_AP_WM_STAT ap) 0 = false from hb, State.apAct_eq]
      rfl

end

section
/-! Writes and reads of BAR2 as they arrive (02 R47 to R49, R54; 19 R469). -/

namespace Sys2Proof.Machine

section
variable {u : State} {off rid ap : Nat} {data : List (Option Byte)}

theorem State.apAt_eq_some (hap : ap < 16) (hon : u.apOn ap = true) (hholds : u.apHolds ap off = true)
    (hfirst : ∀ k, k < ap → u.apOn k = true → u.apHolds k off = false) : u.apAt off = some ap := by
  refine List.find?_range_eq_some.mpr ⟨by rw [hon, hholds]; rfl, List.mem_range.mpr hap, fun k hk => ?_⟩
  cases hk' : u.apOn k
  · rfl
  · rw [hfirst k hk hk']; rfl

theorem State.apAt_eq_none (h : ∀ k, k < 16 → u.apOn k = true → u.apHolds k off = false) : u.apAt off = none := by
  refine List.find?_range_eq_none.mpr fun k hk => ?_
  cases hk' : u.apOn k
  · rfl
  · rw [h k hk hk']; rfl

/-- A range that holds an offset is not empty. -/
theorem State.apSize_ne_zero_of_holds (h : u.apHolds ap off = true) : u.apSize ap ≠ 0 := by
  simp only [State.apHolds, Bool.and_eq_true, decide_eq_true_eq] at h
  omega

/-- What forbids the arrival of a write inside an enabled aperture (02 R47, R49). -/
def State.apBarred (u : State) (ap rid : Nat) : Prop :=
  u.bit (rk R.HIF_AP_STATUS ap) 0 = true ∨ (u.apRidCheck ap = true ∧ u.field (rk R.HIF_AP_RID ap) 15 0 ≠ rid) ∨
    (if u.apGuard ap then u.on D.GD = false else u.lost (u.apCtx ap) = true)

/-- The judgement of a write inside an enabled aperture. -/
theorem State.apJudge_of_at (h : u.apAt off = some ap) :
    (u.apBarred ap rid → u.apJudge off rid data = (none, u.apDrop ap)) ∧
    (¬u.apBarred ap rid → u.apGuard ap = false →
      u.apJudge off rid data = (some (.ap ap (u.apCtx ap) (u.apVa ap + (off - u.apBase ap)) data), u)) ∧
    (¬u.apBarred ap rid → u.apGuard ap = true →
      u.apJudge off rid data = (none, (u.sramWrite2 (u.apVa ap + (off - u.apBase ap)) data).apLanded ap data)) := by
  rw [State.apJudge]
  simp only [h, State.apBarred]
  by_cases h1 : u.bit (rk R.HIF_AP_STATUS ap) 0 = true
  · simp [h1]
  · by_cases h2 : u.apRidCheck ap = true ∧ u.field (rk R.HIF_AP_RID ap) 15 0 ≠ rid
    · simp [h2]
    · have h12 : ¬(u.bit (rk R.HIF_AP_STATUS ap) 0 || u.apRidCheck ap && decide (u.field (rk R.HIF_AP_RID ap) 15 0 ≠ rid)) = true := by
        rw [Bool.or_eq_true, Bool.and_eq_true, decide_eq_true_eq]
        exact not_or.mpr ⟨h1, h2⟩
      rw [if_neg h12]
      cases u.apGuard ap <;> cases u.on D.GD <;> simp [h1, h2]

/-- A write that need not wait for one of a register, or is one to an enabled guard aperture, is judged as it arrives. -/
theorem State.apArrive_of_judged (h : u.regWaits = false ∨ ∃ ap, u.apAt off = some ap ∧ u.apGuard ap = true) :
    u.apArrive off rid data = match u.apJudge off rid data with
      | (some o, s) => s.joinMemory o
      | (none, s) => s := by
  have hnow : (u.regWaits && !(match u.apAt off with | some ap => u.apGuard ap | none => false)) = false := by
    rcases h with h | ⟨ap, hat, hg⟩
    · rw [h]; rfl
    · simp [hat, hg]
  exact if_neg (Bool.eq_false_iff.mp hnow)

/-- A write outside every enabled aperture is counted as a drop of the descriptor that holds it, or as a violation. -/
theorem State.apJudge_of_none (h : u.apAt off = none) :
    (ap < 16 → u.apHolds ap off = true → (∀ k, k < ap → u.apHolds k off = false) → u.apJudge off rid data = (none, u.apDrop ap)) ∧
    ((∀ k, k < 16 → u.apHolds k off = false) → u.apJudge off rid data = (none, u.bar2Viol)) := by
  refine ⟨fun hap hholds hfirst => ?_, fun hnone => ?_⟩
  · have hfind : (List.range 16).find? (fun k => u.apSize k ≠ 0 && u.apHolds k off) = some ap :=
      List.find?_range_eq_some.mpr ⟨by simp [hholds, State.apSize_ne_zero_of_holds hholds], List.mem_range.mpr hap, fun k hk => by simp [hfirst k hk]⟩
    simp only [State.apJudge, h, hfind]
  · have hfind : (List.range 16).find? (fun k => u.apSize k ≠ 0 && u.apHolds k off) = none :=
      List.find?_range_eq_none.mpr fun k hk => by simp [hnone k hk]
    simp only [State.apJudge, h, hfind]

theorem execApWrite_eq {s : State} (hreach : s.bar2Reach = true) (hdata : data ≠ []) (hpage : off % 4096 + data.length ≤ 4096) (hoff : off < 0xF0000000) :
    exec (.apWrite off rid data) s = .next ((s.perf 0x10 0 data.length).apArrive off rid data) := by
  have hok : (data.isEmpty || decide (4096 < off % 4096 + data.length) || decide (0xF0000000 ≤ off)) = false := by
    simp only [Bool.or_eq_false_iff, decide_eq_false_iff_not, List.isEmpty_eq_false_iff]
    exact ⟨⟨hdata, by omega⟩, by omega⟩
  simp only [exec, execApWrite, hok, hreach, Bool.not_true, Bool.false_eq_true, if_false]

end

end Sys2Proof.Machine

open Sys2Proof Sys2Proof.Machine

/-- Settles O11: a write of the region is judged as it arrives, or waits behind a write of a register (log entry 67); what the judgement is, by the aperture or
descriptor that holds it. -/
theorem memoryLaneArrivals : Obligations.MemoryLaneArrivals := by
  intro s off n w rid ap data u page hreach
  have hexec : page → exec (.apWrite off rid data) s = .next (u.apArrive off rid data) := fun ⟨h1, h2, h3⟩ => execApWrite_eq hreach h1 h2 h3
  refine ⟨?inside, ?disabled, ?outside, ?waits, ?read, ?window, ?store⟩
  case inside =>
    intro hpage hap hholds hon hfirst barred
    have hat : u.apAt off = some ap := State.apAt_eq_some hap hon hholds hfirst
    obtain ⟨hdrop, hjoin, hsram⟩ := State.apJudge_of_at (rid := rid) (data := data) hat
    refine ⟨fun hnow hb => ?_, fun hnow hb hg => ?_, fun hb hg => ?_⟩
    · rw [hexec hpage, State.apArrive_of_judged (hnow.imp id fun hg => ⟨ap, hat, hg⟩), hdrop hb]
      rfl
    · rw [hexec hpage, State.apArrive_of_judged (.inl hnow), hjoin hb hg]
    · rw [hexec hpage, State.apArrive_of_judged (.inr ⟨ap, hat, hg⟩), hsram hb hg]
  case disabled =>
    intro hpage hnow hoff hap hholds hfirst
    rw [hexec hpage, State.apArrive_of_judged (.inl hnow), (State.apJudge_of_none (State.apAt_eq_none hoff)).1 hap hholds hfirst]
    rfl
  case outside =>
    intro hpage hnow hnone
    rw [hexec hpage, State.apArrive_of_judged (.inl hnow), (State.apJudge_of_none (ap := ap) (State.apAt_eq_none fun k hk _ => hnone k hk)).2 hnone]
    rfl
  case waits =>
    intro hpage hwait hguard
    have hplain : (match u.apAt off with | some ap => u.apGuard ap | none => false) = false := by
      cases hat : u.apAt off with
      | none => rfl
      | some k =>
        obtain ⟨hk, hmem, -⟩ := List.find?_range_eq_some.mp hat
        rw [Bool.and_eq_true] at hk
        exact hguard k (List.mem_range.mp hmem) hk.2 hk.1
    rw [hexec hpage]
    refine congrArg Host.Outcome.next (?_ : u.apArrive off rid data = _)
    exact if_pos (by rw [hwait]; exact congrArg (!·) hplain)
  case read =>
    intro hn hend
    have hok : (decide (n = 0) || decide (0xF0000000 < off + n)) = false := by simp; omega
    simp only [exec, execBar2Read, hok, hreach, Bool.not_true, Bool.false_eq_true, if_false]
    rfl
  case window =>
    intro hn hpage hw
    have hok : (decide (n = 0) || decide (4096 < w % 4096 + n) || decide (2 ^ 28 ≤ w)) = false := by simp; omega
    simp only [exec, execMwinRead, hok, hreach, Bool.not_true, Bool.false_eq_true, if_false]
  case store =>
    intro hdata hpage hw
    have hok : (data.isEmpty || decide (4096 < w % 4096 + data.length) || decide (2 ^ 28 ≤ w)) = false := by
      simp only [Bool.or_eq_false_iff, decide_eq_false_iff_not, List.isEmpty_eq_false_iff]
      exact ⟨⟨hdata, by omega⟩, by omega⟩
    simp only [exec, execMwinWrite, hok, hreach, Bool.not_true, Bool.false_eq_true, if_false]
    rfl

end

section
/-! The links of the host and the die (01 R19; 02 R32, R33, R504; 19 R467). -/

open Sys2Proof Sys2Proof.Machine

/-- Settles O12: each event by the condition of its row. That every retry of a flit counts is log entry 72, that D_STATE_CHANGE takes D0 and D3hot alone log
entries 15 and 34. -/
theorem hostLink : Obligations.HostLink := by
  intro s
  refine ⟨?retry, ?lostStack, ?lostHio, ?lostFio, ?dState, ?l1Exit, ?credits, ?linkUp⟩
  case retry =>
    intro k again hon hlt
    have hle : (if again then s.ms.retries.getD k 0 + 1 else 1) ≤ 32 := by
      split
      · next h => exact hlt h
      · decide
    exact when'_of (by rw [hon, decide_eq_true hle]; rfl)
  case lostStack =>
    intro k hk hon hn
    simp only [exec, execLinkLost, hon, hn, hk, Bool.not_true, ne_eq, not_true_eq_false, decide_false, Bool.or_false, Bool.false_eq_true, if_false, if_true]
  case lostHio =>
    intro hon hn
    simp only [exec, execLinkLost, hon, hn, Bool.not_true, ne_eq, not_true_eq_false, decide_false, Bool.or_false, Bool.false_eq_true, if_false, if_true]
    rfl
  case lostFio =>
    intro hon hn
    simp only [exec, execLinkLost, hon, hn, Bool.not_true, ne_eq, not_true_eq_false, decide_false, Bool.or_false, Bool.false_eq_true, if_false]
    rfl
  case dState =>
    intro d3 hdl hdom
    have hok : (s.dlUp && s.dom D.HM == 2) = true := by simp [hdl, hdom]
    refine ⟨(when'_of hok).trans (by rw [if_pos rfl]), (when'_of hok).trans ?_⟩
    rw [if_neg (by cases d3 <;> decide)]
  case l1Exit =>
    intro hdl hpm hwait
    exact when'_of (by simp [hdl, hpm, hwait])
  case credits =>
    intro h d hdl hh hd
    exact when'_of (by simp [hdl, hh, hd])
  case linkUp =>
    intro speed width h d hdl hdom hheld hao h1 h5 hwidth t t' r
    have hok : (s.dlUp || decide (s.dom D.HM ≠ 2) || decide (s.ao.rst.held = 2) || s.ao.pwr.aoOff || decide (speed = 0) || decide (5 < speed) ||
        !([1, 2, 4].contains width)) = false := by
      have h0 : ¬speed = 0 := by omega
      have h5' : ¬5 < speed := by omega
      have hw : [1, 2, 4].contains width = true := List.contains_iff_mem.mpr hwidth
      rw [hdl, hdom, hao, hw]
      simp [hheld, h0, h5']
    have hr : markerReserve h d = r := by simp only [markerReserve, r, Bool.or_eq_true, decide_eq_true_eq]
    simp only [exec, execLinkUp, hok, Bool.false_eq_true, if_false, hr]
    rfl

end

section
/-! The end of walks and of line requests (03 R59, R60, R89; 08 R209). -/

open Sys2Proof Sys2Proof.Machine

/-- Settles O14: each outcome by the walk's or the line request's case. That a discarded walk is made again, and that the 16 oldest active walks run, are log
entry 37. -/
theorem walksAndLineRequestsEnd : Obligations.WalksAndLineRequestsEnd := by
  refine ⟨?_, ?_⟩
  · intro s k i w hk hw u hroot
    have hk' : ¬16 ≤ k := by omega
    refine ⟨fun hredo => ?_, fun hredo hcore => ?_, fun hredo hlane => ?_, fun hredo hge hne => ?_⟩ <;>
      simp only [exec, execWalkComplete, State.rooted_of _ _ hroot, hw, hk', hredo, if_false, ne_eq, not_true_eq_false, not_false_eq_true, if_true]
    · rw [if_pos hcore]
    · rw [if_neg (by omega), if_pos hlane]
    · rw [if_neg (by omega), if_neg hne]
  · intro s core id ev1 ev2 ue ce l x hl hx hans hwait hroot u
    have hgo : ((match x.dest with | .remote _ => l.ans.isEmpty | _ => false) || s.lineWaits core l) = false := by
      rw [hwait, Bool.or_false]
      cases hd : x.dest with
      | remote n => exact List.isEmpty_eq_false_iff.mpr (hans n hd)
      | loc => rfl
      | host => rfl
    refine ⟨fun e t he hcause => ?_, fun vs t o hok hop => ?_, fun vs t hok hop => ?_⟩
    all_goals
      simp only [exec, execLineRequestComplete, State.rooted_of _ _ hroot, hl, hx]
      refine (if_neg (Bool.eq_false_iff.mp hgo)).trans ?_
    · simp only [u] at he
      simp only [he, if_neg hcause]
    · simp only [u] at hok
      simp only [hok, hop]
    · simp only [u] at hok
      simp only [hok, hop]

end

section
/-! The registers of queues (04 R99; 05 R128, R131 to R133). -/

namespace Sys2Proof.Machine

/-- A difference modulo 2^w is the integers'. -/
theorem subMod_eq (w a b : Nat) : (subMod w a b : Int) = ((a : Int) - b) % 2 ^ w := by
  have hlt : b % 2 ^ w < 2 ^ w := Nat.mod_lt _ (Nat.two_pow_pos w)
  have hdiv : 2 ^ w * (b / 2 ^ w) + b % 2 ^ w = b := Nat.div_add_mod b (2 ^ w)
  have hsum : ((a + 2 ^ w - b % 2 ^ w : Nat) : Int) = (a - b) + (2 ^ w : Nat) * (1 + (b / 2 ^ w : Nat)) := by
    rw [Int.mul_add, Int.mul_one, ← Int.natCast_mul]
    omega
  rw [subMod, Int.natCast_emod, hsum]
  push_cast
  exact Int.add_mul_emod_self_left ..

/-- The register that a queue's doorbell page has first. -/
theorem regRow_qdbTail {n : Nat} {r : RegRow} (hn : n < 256) (h : regRow? (R.QDB_TAIL + 0x1000 * n) = some r) :
    r = ⟨R.QDB_TAIL, 53, 0x1000, .one, 0x0, 0x0, 0xFFFFFFFF, 0x0, .none, 0x0⟩ := by
  have hrows : blockRows (R.QDB_TAIL + 0x1000 * n) = regsQDB := by
    rw [blockRows, if_neg (by simp only [R.QDB_TAIL]; omega), if_pos (by simp only [R.QDB_TAIL]; omega)]
  rw [regRow?, hrows] at h
  have hhits := List.find?_some h
  have hmem := List.mem_of_find?_eq_some h
  simp only [RegRow.hits, Bool.and_eq_true, decide_eq_true_eq, beq_iff_eq] at hhits
  simp only [regsQDB, List.mem_cons, List.not_mem_nil, or_false] at hmem
  rcases hmem with rfl | rfl | rfl | rfl
  · rfl
  all_goals
    simp only [R.QDB_TAIL, R.QDB_DONE_LO, R.QDB_DONE_HI, R.QDB_STATUS] at hhits
    omega

theorem exec_queueDoorbell {s : State} {req : Req} {q : BitVec 8} {tail : W32} (h : s.reaches req (R.QDB_TAIL + 0x1000 * q.toNat) 0 tail = true) :
    exec (.queueDoorbell req q tail) s = .next ((s.arriving req).queueDoorbell q.toNat tail.toNat) := by
  obtain ⟨r, hrow, -, -⟩ := cmdWrite_of_reaches h
  have hrow := rowAt_regRow hrow
  obtain rfl := regRow_qdbTail q.isLt hrow
  have hpage : (R.QDB_TAIL + 0x1000 * q.toNat - R.QDB_TAIL) / 0x1000 = q.toNat := by omega
  rw [exec_putReg h hrow rfl rfl, State.putReg, if_pos (by simp only [R.QDB_TAIL]; omega), if_pos rfl, hpage]

/-- A word of QM_CTX_LOST has its own write. -/
theorem State.putReg_ctxLost (u : State) (req : Req) {row : RegRow} {off n : Nat} (val : W32) (hrow : row.off = R.QM_CTX_LOST) (hoff : off / 0x10000 = 3) :
    u.putReg req row off n val = u.clearLost ((off - R.QM_CTX_LOST) / 4) val := by
  rw [State.putReg, if_neg (by omega), hoff]
  simp only [State.putQm, hrow, if_true]

/-- A write of QM_Q_CTRL is the queue's. -/
theorem writesTo_qCtrl {c : Instr} {req : Req} {val : W32} {f : State → Nat → State} (hexec : ∀ s, exec c s = .next (s.cmdWrite req R.QM_Q_CTRL val true))
    (hval : ∀ u q, u.wrQCtrl q val = f u q) : WritesTo c req R.QM_Q_CTRL val f := by
  refine writesTo_putReg rfl rfl hexec (fun u n hmask hcopy => ?_)
  rw [← hval]
  rfl

/-! ENABLE is bit 0 of QM_Q_CTRL, RESET bit 1. -/

theorem State.wrQCtrl_zero (u : State) (q : Nat) : u.wrQCtrl q 0 = u.queueDisable q := by
  simp +decide only [State.wrQCtrl, if_false]

theorem State.wrQCtrl_one (u : State) (q : Nat) : u.wrQCtrl q 1 = u.queueEnable q := by
  simp +decide only [State.wrQCtrl, if_true, if_false]

theorem State.wrQCtrl_two (u : State) (q : Nat) : u.wrQCtrl q 2 = (u.queueReset q).queueDisable q := by
  simp +decide only [State.wrQCtrl, if_true, if_false]

theorem State.wrQCtrl_three (u : State) (q : Nat) : u.wrQCtrl q 3 = (u.queueReset q).queueEnable q := by
  simp +decide only [State.wrQCtrl, if_true]

theorem exec_queueEnable {s : State} {req : Req} {q : Nat} (h : s.reaches req R.QM_Q_CTRL q 1 = true) :
    exec (.queueEnable req) s = .next ((s.arriving req).queueEnable q) := by
  exact writesTo_qCtrl (c := .queueEnable req) (fun _ => rfl) (fun u q => u.wrQCtrl_one q) s q h

theorem State.queueEnable_of_enabled {u : State} {q : Nat} (h : (u.queue q).st ≠ .disabled) :
    u.queueEnable q = u.modQueue q (fun k => { k with closing := false }) := if_pos h

end Sys2Proof.Machine

open Sys2Proof Sys2Proof.Machine

/-- Settles O15: each register's operation by its cases. -/
theorem queueRegisters : Obligations.QueueRegisters := by
  refine ⟨?doorbell, ?enable, ?disable, ?resetOn, ?resetOff, ?reset, ?lost⟩
  case doorbell =>
    intro s req q tail h u n old d full
    have hd : (subMod 32 tail.toNat (old % 2 ^ 32) : Int) = d := subMod_eq _ _ _
    have hfull : full ↔ 2 ^ (u.queue n).log2 < subMod 64 (old + subMod 32 tail.toNat (old % 2 ^ 32)) (u.queue n).done := by
      rw [← Int.ofNat_lt, subMod_eq, Int.natCast_add, hd, Int.natCast_pow]
      rfl
    have hzero : subMod 32 tail.toNat (old % 2 ^ 32) = 0 ↔ d = 0 := by rw [← hd]; exact Int.natCast_eq_zero.symm
    rw [exec_queueDoorbell h]
    refine ⟨fun hoff => ?_, fun hon h0 => ?_, fun hon h0 hf => ?_, fun hon h0 hf => ?_⟩ <;> congr 1 <;> rw [State.queueDoorbell]
    · exact if_pos hoff
    · rw [if_neg hon, if_pos (hzero.mpr h0)]
    · rw [if_neg hon, if_neg (mt hzero.mp h0), if_pos (hfull.mp hf)]
    · rw [if_neg hon, if_neg (mt hzero.mp h0), if_neg (mt hfull.mpr hf)]
      have hnat : d.toNat = subMod 32 tail.toNat (old % 2 ^ 32) := by rw [← hd, Int.toNat_natCast]
      simp only [addMod, hnat, old, n, u]
  case enable =>
    intro s req q h u
    refine ⟨fun hon => ?_, fun b t hoff hread => ?_, fun e t hoff hread => ?_⟩
    · rw [exec_queueEnable h, State.queueEnable_of_enabled hon]
    · rw [exec_queueEnable h, State.queueEnable, if_neg (Classical.not_not.mpr hoff), hread]
      refine ⟨fun hbad => ?_, fun hgood => ?_⟩
      · simp only [hbad, if_true]
      · simp only [hgood, Bool.false_eq_true, if_false]
    · rw [exec_queueEnable h, State.queueEnable, if_neg (Classical.not_not.mpr hoff), hread]
  case disable => exact fun req => writesTo_qCtrl (fun _ => rfl) (fun u q => u.wrQCtrl_zero q)
  case resetOn => exact fun req => writesTo_qCtrl (fun _ => rfl) (fun u q => u.wrQCtrl_three q)
  case resetOff => exact fun req => writesTo_qCtrl (fun _ => rfl) (fun u q => u.wrQCtrl_two q)
  case reset => exact fun s q => ⟨fun h => if_pos h, fun h => if_neg h⟩
  case lost =>
    intro req ix val
    have hrow : regRow? (R.QM_CTX_LOST + 4 * ix.toNat) = regRow? R.QM_CTX_LOST := by
      revert ix; decide
    refine writesTo_putReg hrow rfl (fun _ => rfl) (fun u n hmask hcopy => ?_)
    have hword : (R.QM_CTX_LOST + 4 * ix.toNat - R.QM_CTX_LOST) / 4 = ix.toNat := by omega
    rw [State.putReg_ctxLost u req val rfl (by simp only [R.QM_CTX_LOST]; omega), hword]
    rfl

end

section
/-! Launch requests, the page ring, launches and the posting of strands (04 R103, R104; 05 R136 to R140). -/

namespace Sys2Proof.Machine

/-- The high half of a graph doorbell. -/
theorem regRow_gdbLaunchHi {n : Nat} {r : RegRow} (hn : n < 256) (h : regRow? (R.GDB_LAUNCH_HI + 0x1000 * n) = some r) :
    r = ⟨R.GDB_LAUNCH_HI, 256, 0x1000, .one, 0x0, 0x0, 0xFFFFFFFF, 0x0, .hi, 0x0⟩ := by
  have hrows : blockRows (R.GDB_LAUNCH_HI + 0x1000 * n) = regsGDB := by
    rw [blockRows, if_neg (by simp only [R.GDB_LAUNCH_HI]; omega), if_neg (by simp only [R.GDB_LAUNCH_HI]; omega),
      if_pos (by simp only [R.GDB_LAUNCH_HI]; omega)]
  rw [regRow?, hrows] at h
  have hhits := List.find?_some h
  have hmem := List.mem_of_find?_eq_some h
  simp only [RegRow.hits, Bool.and_eq_true, decide_eq_true_eq, beq_iff_eq] at hhits
  simp only [regsGDB, List.mem_cons, List.not_mem_nil, or_false] at hmem
  rcases hmem with rfl | rfl | rfl | rfl | rfl | rfl | rfl
  case inr.inl => rfl
  all_goals
    simp only [R.GDB_LAUNCH_HI, R.GDB_LAUNCH_LO, R.GDB_ACCEPT_COUNT, R.GDB_REFUSE_COUNT, R.GDB_LAST_REFUSE, R.GDB_DONE_COUNT, R.GDB_STATUS] at hhits
    omega

/-- The pair of a doorbell page is refused by no other rule. -/
theorem State.pairRefused_doorbell (u : State) {lo : Nat} (c : Nat) (h : 0x1100000 ≤ lo) : u.pairRefused lo c = none := by
  have hne : ∀ k, k < 0x1100000 → ¬lo = k := fun k hk => by omega
  simp only [State.pairRefused, hne _ (show R.QM_CTX_TABLE_LO < 0x1100000 by decide), hne _ (show R.QM_QDESC_TABLE_LO < 0x1100000 by decide),
    hne _ (show R.GX_GRAPH_TABLE_LO < 0x1100000 by decide), hne _ (show R.HIF_AP_VA_LO < 0x1100000 by decide),
    hne _ (show R.QM_Q_BASE_SEQ_LO < 0x1100000 by decide), hne _ (show R.PT_P_RING_BASE_LO < 0x1100000 by decide), decide_false, Bool.or_false,
    Bool.false_eq_true, if_false]

theorem bits_eq (w hi lo : Nat) : bits w hi lo = w / 2 ^ lo % 2 ^ (hi + 1 - lo) := by rw [bits, Nat.shiftRight_eq_div_pow]

/-- The value that two words make. -/
theorem words_lt (lo hi : W32) : lo.toNat + hi.toNat * 2 ^ 32 < 2 ^ 64 := by
  have h1 := lo.isLt
  have h2 := hi.isLt
  omega

/-- A commit of a context's graph doorbell is a launch request. -/
theorem State.commitPair_launch (u : State) {n v : Nat} (c : Nat) (hv : v < 2 ^ 64) :
    u.commitPair (R.GDB_LAUNCH_LO + 0x1000 * n) c v = u.launchReq n (v / 2 ^ 48) (v / 64 % 2 ^ 42 * 64) := by
  have hpage : (R.GDB_LAUNCH_LO + 0x1000 * n - 0x1100000) / 0x1000 = n := by simp only [R.GDB_LAUNCH_LO]; omega
  have hhi : bits v 63 48 = v / 2 ^ 48 := by rw [bits_eq, Nat.mod_eq_of_lt (by omega)]
  rw [State.commitPair, if_pos (by simp only [R.GDB_LAUNCH_LO]; omega), hpage, hhi, bits_eq, show 2 ^ 6 = 64 from rfl, show 47 + 1 - 6 = 42 from rfl]

theorem writesTo_graphDoorbell (req : Req) (ctx : BitVec 8) (val : W32) :
    WritesTo (.graphDoorbell req ctx val) req (R.GDB_LAUNCH_HI + 0x1000 * ctx.toNat) val (fun u _ =>
      let k := R.GDB_LAUNCH_LO + 0x1000 * ctx.toNat
      let v := (u.staged req k).toNat + val.toNat * 2 ^ 32
      (u.unstage req k).launchReq ctx.toNat (v / 2 ^ 48) (v / 64 % 2 ^ 42 * 64)) := by
  intro s n h
  obtain ⟨r, hrow, -, -⟩ := cmdWrite_of_reaches h
  have hrow := rowAt_regRow hrow
  obtain rfl := regRow_gdbLaunchHi ctx.isLt hrow
  have hlo : R.GDB_LAUNCH_HI + 0x1000 * ctx.toNat - 4 = R.GDB_LAUNCH_LO + 0x1000 * ctx.toNat := by simp only [R.GDB_LAUNCH_LO, R.GDB_LAUNCH_HI]; omega
  refine writesTo_commitPair (c := .graphDoorbell req ctx val) (f := fun u _ =>
    let k := R.GDB_LAUNCH_LO + 0x1000 * ctx.toNat
    let v := (u.staged req k).toNat + val.toNat * 2 ^ 32
    (u.unstage req k).launchReq ctx.toNat (v / 2 ^ 48) (v / 64 % 2 ^ 42 * 64)) (R.GDB_LAUNCH_LO + 0x1000 * ctx.toNat) hlo hrow rfl (fun u n => ?_) (fun _ => rfl)
    (fun u n _ hcopy => ?_) rfl s n h
  · exact u.pairRefused_doorbell n (by simp only [R.GDB_LAUNCH_LO]; omega)
  · obtain rfl : 0 = n := Option.some.inj hcopy
    rw [rk_zero, State.commitPair_launch _ _ (words_lt _ _)]

theorem writesTo_ringPush (req : Req) (val : W32) : WritesTo (.ringPush req val) req R.PT_P_RING_PUSH_HI val (fun u p =>
    let k := rk R.PT_P_RING_PUSH_LO p
    (u.unstage req k).ringPush p ((u.staged req k).toNat + val.toNat * 2 ^ 32)) := by
  refine writesTo_commitPair R.PT_P_RING_PUSH_LO rfl rfl rfl (fun _ _ => rfl) (fun _ => rfl) (fun _ _ _ _ => ?_) rfl
  simp +decide only [State.commitPair, if_false, if_true]

theorem addMod_eq (w a b : Nat) : addMod w a b = (a + b) % 2 ^ w := rfl

/-! The conditions of a launch request, in the order in which they are looked at. -/

section
variable {s t : State} {c handle param : Nat}

theorem State.launchReq_of_off (h : s.bit R.GX_CTRL 0 = false) : s.launchReq c handle param = s.launchRefuse c handle 4 := by
  simp only [State.launchReq, h, Bool.not_false, if_true]

variable (hon : s.bit R.GX_CTRL 0 = true)
include hon

theorem State.launchReq_of_full (h : 256 ≤ s.qm.fifo.length) : s.launchReq c handle param = s.launchRefuse c handle 1 := by
  simp only [State.launchReq, hon, Bool.not_true, Bool.false_eq_true, if_false, h, if_true]

variable (hroom : s.qm.fifo.length < 256)
include hroom

theorem State.launchReq_of_big (h : 2 ^ 16 ≤ handle) : s.launchReq c handle param = s.launchRefuse c handle 2 := by
  have hbig : handle / 2 ^ 16 ≠ 0 := by omega
  simp only [State.launchReq, hon, Bool.not_true, Bool.false_eq_true, if_false, Nat.not_le.mpr hroom, hbig, ne_eq, not_false_eq_true, if_true]

variable (hsmall : handle < 2 ^ 16)
include hsmall

theorem State.launchReq_of_unread {e : MErr} (h : s.readLoc (s.pair R.GX_GRAPH_TABLE_LO + 32 * (handle % 2 ^ 12)) 32 = (.error e, t)) :
    s.launchReq c handle param = t.launchRefuse c handle 2 := by
  have hidx : bits handle 11 0 = handle % 2 ^ 12 := by rw [bits_eq, Nat.pow_zero, Nat.div_one]
  simp only [State.launchReq, hon, Bool.not_true, Bool.false_eq_true, if_false, Nat.not_le.mpr hroom, Nat.div_eq_of_lt hsmall, ne_eq, not_true_eq_false, hidx, h]

/-- The request, once its entry of the graph table is read. -/
theorem State.launchReq_of_read {b : List Byte} (h : s.readLoc (s.pair R.GX_GRAPH_TABLE_LO + 32 * (handle % 2 ^ 12)) 32 = (.ok b, t)) :
    let w := fieldAt b 8 4
    let n := (fieldAt b 16 8 + 1) % 2 ^ 64
    let v := (((t.writeLoc (s.pair R.GX_GRAPH_TABLE_LO + 32 * (handle % 2 ^ 12) + 16) (leBytes 8 n) true).2.inc (R.GDB_ACCEPT_COUNT + 0x1000 * c)).inc R.GX_LAUNCH_COUNT)
    s.launchReq c handle param =
      if w.testBit 12 = true ∧ w / 2 ^ 8 % 16 = handle / 2 ^ 12 ∧ w % 2 ^ 8 = c then
        if (t.adm? c).isNone then t.launchRefuse c handle 3
        else if param % 64 ≠ 0 then t.launchRefuse c handle 4
        else { v with qm := { v.qm with fifo := v.qm.fifo ++
          [{ ctx := c, handle := handle, param := param, header := fieldAt b 0 8 / 64 % 2 ^ 42 * 64, count := n }] } }
      else t.launchRefuse c handle 2 := by
  intro w n v
  have hidx : bits handle 11 0 = handle % 2 ^ 12 := by rw [bits_eq, Nat.pow_zero, Nat.div_one]
  have htop : bits handle 15 12 = handle / 2 ^ 12 := by rw [bits_eq, Nat.mod_eq_of_lt (by omega)]
  have hlow : bits w 7 0 = w % 2 ^ 8 := by rw [bits_eq, Nat.pow_zero, Nat.div_one]
  have hhdr : bits (fieldAt b 0 8) 47 6 = fieldAt b 0 8 / 64 % 2 ^ 42 := bits_eq _ _ _
  have hmid : bits w 11 8 = w / 2 ^ 8 % 16 := bits_eq _ _ _
  simp only [State.launchReq, hon, Bool.not_true, Bool.false_eq_true, if_false, Nat.not_le.mpr hroom, Nat.div_eq_of_lt hsmall, ne_eq, not_true_eq_false, hidx, h]
  have hbad : (!w.testBit 12 || decide (bits w 11 8 ≠ bits handle 15 12) || decide (bits w 7 0 ≠ c)) = true ↔
      ¬(w.testBit 12 = true ∧ w / 2 ^ 8 % 16 = handle / 2 ^ 12 ∧ w % 2 ^ 8 = c) := by
    rw [hmid, htop, hlow]
    cases w.testBit 12
    · simp
    · simp
      grind
  by_cases hknown : w.testBit 12 = true ∧ w / 2 ^ 8 % 16 = handle / 2 ^ 12 ∧ w % 2 ^ 8 = c
  · rw [if_pos hknown, if_neg (mt hbad.mp (Classical.not_not.mpr hknown))]
    simp only [addMod_eq, hhdr, v, n]
  · rw [if_neg hknown, if_pos (hbad.mpr hknown)]

end

end Sys2Proof.Machine

open Sys2Proof Sys2Proof.Machine

/-- Settles O16: a launch request by the first condition that forbids it; a launch that reads; and the posting of its strands, or the hold. -/
theorem graphLaunches : Obligations.GraphLaunches := by
  refine ⟨⟨writesTo_graphDoorbell, writesTo_ringPush, ?request⟩, ?slot, ?post⟩
  case request =>
    intro s c handle param page refused
    refine ⟨State.launchReq_of_off, State.launchReq_of_full, State.launchReq_of_big, fun hon hroom hsmall e t => State.launchReq_of_unread hon hroom hsmall,
      fun hon hroom hsmall => ?_⟩
    intro a b t hread w known n v
    have hreq := State.launchReq_of_read (c := c) (param := param) hon hroom hsmall hread
    refine ⟨fun hnot => ?_, fun hk hnone => ?_, fun hk hadm hpar => ?_, fun hk hadm hpar => ?_⟩
    · rw [hreq, if_neg hnot]; rfl
    · rw [hreq, if_pos hk, if_pos hnone]; rfl
    · rw [hreq, if_pos hk, hadm, if_neg (by decide), if_pos hpar]; rfl
    · rw [hreq, if_pos hk, hadm, if_neg (by decide), if_neg (Classical.not_not.mpr hpar)]
  case slot =>
    intro s t l rest b w sl u hroot hfifo hslots hposted hread hdone hirq
    have hfree : (decide (64 ≤ s.qm.slots.length) || s.qm.slots.any (fun t => !t.posted)) = false := by
      rw [Bool.or_eq_false_iff, decide_eq_false_iff_not, List.any_eq_false]
      exact ⟨by omega, fun k hk => by rw [hposted k hk]; decide⟩
    have hgood : (decide (fieldAt b 0 8 % 16 ≠ 0) || decide (fieldAt b 8 4 / 2 ≠ 0)) = false := by
      simp [hdone, Nat.div_eq_of_lt hirq]
    unfold w at hread
    have hrecord : (fieldAt b 0 8 % 16 == 0) = true := by rw [hdone]; rfl
    refine ⟨fun st ps sems vs v x hgraph hvalues => ?_, fun d a v hgraph => ?_⟩ <;>
      simp only [exec, execLaunchSlot, State.rooted_of _ _ hroot, State.launchSlot, hfifo, hfree, Bool.false_eq_true, if_false, hread, hgood, hrecord]
    · unfold u sl w at hgraph
      unfold w at hvalues
      simp only [hgraph, hvalues]
      rfl
    · unfold u sl w at hgraph
      simp only [hgraph]
      rfl
  case post =>
    intro s sl hroot hfind
    refine ⟨fun hroom => ?_, fun ⟨k, hk, hfull⟩ hheld => ?_⟩ <;>
      simp only [exec, execStrandPost, State.rooted_of _ _ hroot, State.strandPost, hfind]
    · rw [if_pos (List.all_eq_true.mpr fun k hk => decide_eq_true (hroom k hk))]
      rfl
    · rw [if_neg fun hall => by have := of_decide_eq_true (List.all_eq_true.mp hall k hk); omega, hheld]
      rfl

end

section
/-! Packets: fetched, started, completed (04 R107, R112; 05 R120 to R127, R141, R147). -/

namespace Sys2Proof.Machine

theorem Queue.canFetch_of {u : Queue} (hst : u.st = .enabled) (hopen : u.closing = false) (hroom : (u.pkts.filter (fun p => !p.started)).length < 4)
    (htimed : ∀ p ∈ u.pkts, p.timedOut = false) : u.canFetch = true := by
  have hany : u.pkts.any (·.timedOut) = false := List.any_eq_false.mpr fun p hp => by rw [htimed p hp]; decide
  simp [Queue.canFetch, hst, hopen, Queue.waiting, hroom, hany]

/-- What a packet that an engine starts without work of its own comes to. -/
theorem State.startNow_of_start {s t : State} {q op : Nat} {p : QPkt} (f : State → QPkt → State) (hon : s.engineOn q = true)
    (hstart : s.start q op = some (p, t)) : s.startNow q op f = some ((f t p).finish p.id) := by
  simp only [State.startNow, hon, hstart, Bool.not_true, Bool.false_eq_true, if_false]

end Sys2Proof.Machine

open Sys2Proof Sys2Proof.Machine

/-- Settles O17: a queue that may fetch takes the packet at the front of its feed. -/
theorem packetFetches : Obligations.PacketFetches := by
  intro s t q rest b u k hroot hst hopen hroom htimed
  have hcan : (s.queue q).canFetch = true := Queue.canFetch_of hst hopen hroom htimed
  refine ⟨fun n hfeed hread => ?_, fun l st i sl hfeed hslot hread => ?_⟩ <;> unfold u at hfeed
  · unfold k u at hread
    simp only [exec, execPacketFetch, State.rooted_of _ _ hroot, State.fetchNext, hcan, Bool.not_true, Bool.false_eq_true, if_false, hfeed, State.fetchRing, addMod_eq, hread]
    rfl
  · simp only [exec, execPacketFetch, State.rooted_of _ _ hroot, State.fetchNext, hcan, Bool.not_true, Bool.false_eq_true, if_false, hfeed, State.fetchStrand, hslot, hread]
    rfl

/-- Settles O18: a start, the completion of a queue's head and a poll of its fence, each by its outcome. That a remote signal completes in two commands is log
entry 65. -/
theorem packetsStartAndComplete : Obligations.PacketsStartAndComplete := by
  refine ⟨?start, ?complete, ?poll⟩
  case start =>
    intro s t q p begins
    refine ⟨fun ⟨hroot, hon, hstart⟩ => ?_, fun ⟨hroot, hon, hstart⟩ => ?_, fun l a b ⟨hroot, hon, hstart⟩ hsrc => ?_, fun op hp hop hroom htest hhead => ?_⟩
    · simp only [exec, execNopPacket, State.rooted_of _ _ hroot, State.startNow_of_start _ hon hstart, orNever]
    · simp only [exec, execSemWait, State.rooted_of _ _ hroot, State.startNow_of_start _ hon hstart, orNever]
    · simp only [exec, execSemSignal, State.rooted_of _ _ hroot, State.startNow_of_start _ hon hstart, orNever, hsrc, addMod_eq]
    · have hgo : (decide (p.pkt.op ≠ op) || decide (qRoom q ≤ s.executing q) || s.selfTest q || decide ((s.candidates q).head? ≠ some q)) = false := by
        have hroom' : ¬qRoom q ≤ s.executing q := by omega
        simp [hop, hroom', htest, hhead]
      simp only [State.start, hp, hgo, Bool.false_eq_true, if_false]
  case complete =>
    intro s q st p rest hroot hpkts hfin habort htimed hremote
    have hgo : (p.abort.isSome || p.timedOut || s.remoteOpen p.id) = false := by rw [habort, htimed, hremote]; rfl
    refine ⟨fun hplain => ?_, fun r t hst hsig hnot hfence => ?_, fun v t hst hsig hnot hfence => ?_⟩ <;>
      simp only [exec, execPacketComplete, State.rooted_of _ _ hroot, State.completeHead, hpkts, hfin, hgo, Bool.false_eq_true, if_false]
    · have hno : (decide (st = 0) && p.pkt.signal && !p.signalled) = false := by
        rcases hplain with h | h | h <;> simp [h]
      rw [hno]
      rfl
    all_goals
      have hyes : (decide (st = 0) && p.pkt.signal && !p.signalled) = true := by rw [hsig, hnot, decide_eq_true hst]; rfl
      rw [if_pos hyes, hfence]
      rfl
  case poll =>
    intro s t q v p first hroot hold hwait habort hfin htimed hguilty hread
    have hgo : (!p.pkt.wait || p.abort.isSome || p.fin.isSome || p.timedOut || decide ((s.queue q).st = .guilty)) = false := by
      rw [hwait, habort, hfin, htimed, decide_eq_false hguilty]; rfl
    have hpoll : exec (.fencePoll q) s = if 2 ^ 63 ≤ v then .next (t.pktFault p.id ⟨qEng q, C.FENCE_ERRORED, 0, none⟩ C.FENCE_ERRORED)
        else .next (t.modPkt p.id (fun k => { k with ready := decide (p.pkt.waitTgt ≤ v) })) := by
      simp only [exec, execFencePoll, State.rooted_of _ _ hroot, hold, hgo, Bool.false_eq_true, if_false, hread]
    refine ⟨fun herr => ?_, fun hok hge => ?_, fun hok hlt => ?_⟩
    · rw [hpoll, if_pos herr]
    · rw [hpoll, if_neg (by omega), decide_eq_true hge]
    · rw [hpoll, if_neg (by omega), decide_eq_false (by omega)]

end

section
/-! Kernels, workgroups and pods (08 R200 to R204, R216, R217). -/

namespace Sys2Proof.Machine

/-! ### The pods that a workgroup starts -/

/-- What a pod of a workgroup begins as: in its slot, with its kernel's context, packet, code, trap handler and registers. -/
def Pod.Begins (p : Pod) (d : Disp) (slot : Nat) : Prop :=
  p.slot = slot ∧ p.ctx = d.ctx ∧ p.pkt = some d.pkt ∧ p.pc = d.code ∧ p.trapVA = d.trapVA ∧ p.vregs = d.vregs

/-- Writing a scalar register leaves alone what a pod began as. -/
theorem Pod.Begins.sput {p : Pod} {d : Disp} {slot : Nat} (h : p.Begins d slot) (c v : Nat) : (p.sput c v).Begins d slot := by
  unfold Pod.sput
  split
  · exact h
  · split
    · exact h
    · split <;> exact h

theorem startPod_begins (d : Disp) (w c slot k uid serial regKib : Nat) (ts : Nat × Nat) (wg : Nat) :
    (startPod d w c slot k uid serial regKib ts wg).Begins d slot :=
  List.foldlRecOn (motive := fun (p : Pod) => p.Begins d slot) _ _ ⟨rfl, rfl, rfl, rfl, rfl, rfl⟩ fun _ hp x _ => hp.sput x.2 x.1

theorem firstFits_length (lo len n k : Nat) (taken : List (Nat × Nat)) {regs : List Nat} (h : firstFits lo len n k taken = some regs) : regs.length = k := by
  induction k generalizing taken regs with
  | zero => cases h; rfl
  | succ k ih =>
    rw [firstFits] at h
    split at h
    · cases h
    · obtain ⟨rest, hrest, rfl⟩ := Option.map_eq_some_iff.mp h
      rw [List.length_cons, ih _ hrest]

/-! ### What the launch leaves alone -/

/-- Nothing differs but vector register storage. -/
structure VrfOnly (s t : State) : Prop where
  rest : t = { s with cores := t.cores }
  cores : ∀ c, { t.core c with vrf := (s.core c).vrf } = s.core c

theorem VrfOnly.refl (s : State) : VrfOnly s s := ⟨rfl, fun _ => rfl⟩

theorem VrfOnly.trans {s t u : State} (h1 : VrfOnly s t) (h2 : VrfOnly t u) : VrfOnly s u where
  rest := by rw [h2.rest, h1.rest]
  cores := fun c => by rw [← h1.cores c, ← h2.cores c]

theorem VrfOnly.regs {s t : State} (h : VrfOnly s t) : t.regs = s.regs := by rw [h.rest]
theorem VrfOnly.disps {s t : State} (h : VrfOnly s t) : t.disps = s.disps := by rw [h.rest]
theorem VrfOnly.pods {s t : State} (h : VrfOnly s t) (c : Nat) : (t.core c).pods = (s.core c).pods := by rw [← h.cores c]
theorem VrfOnly.wgs {s t : State} (h : VrfOnly s t) (c : Nat) : (t.core c).wgs = (s.core c).wgs := by rw [← h.cores c]

theorem State.vput_vrfOnly (s : State) (c k : Nat) (p : Pod) (n l v : Nat) : VrfOnly s (s.vput (.slot c k) p n l v) := by
  rw [State.vput_eq]
  split
  · exact VrfOnly.refl s
  · refine ⟨rfl, fun c' => ?_⟩
    rw [State.modVrf, State.core_modCore]
    split
    · next h => rw [h.1]
    · rfl

/-- The lane numbers that the pods of a workgroup start with are written to vector registers. -/
theorem State.startLanes_vrfOnly (s : State) (c : Nat) (pods : List (Pod × Nat)) :
    VrfOnly s (pods.foldl (fun s (p, k) => (List.range 32).foldl (fun s l => s.vput (.slot c p.slot) p 0 l (32 * k + l)) s) s) :=
  List.foldlRecOn (motive := VrfOnly s) _ _ (VrfOnly.refl s) fun _ ht _ _ =>
    List.foldlRecOn (motive := VrfOnly s) _ _ ht fun _ hu _ _ => hu.trans (State.vput_vrfOnly ..)

/-- A part of a core that a change keeps. -/
theorem State.core_modCore_same {α : Type} (g : Core → α) {f : Core → Core} (s : State) (c c' : Nat) (hf : ∀ co, g (f co) = g co) :
    g ((s.modCore c f).core c') = g (s.core c') := by
  rw [State.core_modCore]
  split
  · next h => rw [hf, h.1]
  · rfl

/-- The first workgroup of a packet on a core drops lines that caches hold. -/
theorem State.kernelBegin_same (s : State) (c ctx : Nat) :
    (s.kernelBegin c ctx).regs = s.regs ∧ (s.kernelBegin c ctx).disps = s.disps ∧ (s.kernelBegin c ctx).qm = s.qm ∧
      (s.kernelBegin c ctx).cores.length = s.cores.length ∧
      ∀ c', ((s.kernelBegin c ctx).core c').pods = (s.core c').pods ∧ ((s.kernelBegin c ctx).core c').wgs = (s.core c').wgs := by
  refine ⟨rfl, rfl, rfl, ?_, ?_⟩
  · simp only [State.kernelBegin, State.l1Drop, State.modCore, List.length_modify]
  · intro c'
    have hsame : ∀ {α : Type} (g : Core → α), (∀ co l, g { co with icache := l } = g co) → (∀ co l, g { co with l1 := l } = g co) →
        g ((s.kernelBegin c ctx).core c') = g (s.core c') := by
      intro α g hi hl
      refine (State.core_modCore_same g _ c c' ?_).trans (State.core_modCore_same g s c c' ?_)
      · exact fun co => hi co _
      · exact fun co => hl co _
    exact ⟨hsame (·.pods) (fun _ _ => rfl) (fun _ _ => rfl), hsame (·.wgs) (fun _ _ => rfl) (fun _ _ => rfl)⟩

/-- The slots that a context may still take. -/
theorem State.mem_slotsFree {s : State} {a : Adm} {core k : Nat} : k ∈ s.slotsFree a core ↔ k ∈ a.slots ∧ ∀ x ∈ (s.core core).pods, x.slot ≠ k := by
  rw [State.slotsFree, List.mem_filter]
  simp

/-! ### The launch -/

/-- A workgroup is counted and its pods stand on the core; the next one is due. -/
def State.wgStart (s : State) (d : Disp) (pkt core start : Nat) (pods : List Pod) (wg : Workgroup) : State :=
  let s := { s with
    qm := { s.qm with nextId := s.qm.nextId + 1 + d.pods }
    disps := s.disps.map (fun (e : Disp) => if e.pkt = pkt then { e with next := d.next + 1, used := (core :: e.used).eraseDups } else e) }
  let s := s.modCore core (fun co => { co with pods := co.pods ++ pods, starts := start + d.pods, wgs := co.wgs ++ [wg] })
  s.bump (rk R.CORE_WG_LAUNCH_COUNT core) 1

section
variable {s : State} {d : Disp} {pkt core start : Nat} {pods : List Pod} {wg : Workgroup}

theorem State.wgStart_reg (h : storeWf regPlain s.regs = true) :
    (s.wgStart d pkt core start pods wg).reg (rk R.CORE_WG_LAUNCH_COUNT core) = s.reg (rk R.CORE_WG_LAUNCH_COUNT core) + 1 :=
  State.reg_bump _ _ _ h

theorem State.wgStart_core (h : core < s.cores.length) :
    ((s.wgStart d pkt core start pods wg).core core).pods = (s.core core).pods ++ pods ∧
      ((s.wgStart d pkt core start pods wg).core core).wgs = (s.core core).wgs ++ [wg] := by
  have hcore : (s.wgStart d pkt core start pods wg).core core =
      { s.core core with pods := (s.core core).pods ++ pods, starts := start + d.pods, wgs := (s.core core).wgs ++ [wg] } :=
    (State.core_modCore _ core core _).trans (if_pos ⟨rfl, h⟩)
  rw [hcore]
  exact ⟨rfl, rfl⟩

theorem State.wgStart_core_ne {c : Nat} (h : c ≠ core) : (s.wgStart d pkt core start pods wg).core c = s.core c :=
  (State.core_modCore _ core c _).trans (if_neg fun e => h e.1)

theorem State.wgStart_disps : (s.wgStart d pkt core start pods wg).disps.map (·.next) = s.disps.map (fun e => if e.pkt = pkt then d.next + 1 else e.next) := by
  refine List.map_map.trans (List.map_congr_left fun e _ => ?_)
  simp only [Function.comp]
  split <;> rfl

end

/-- The pods of the next workgroup of a packet, in the slots and at the registers that it takes. -/
def wgPods (d : Disp) (core first start : Nat) (slots regs : List Nat) (view : Nat × Nat) : List Pod :=
  (slots.zip regs).zipIdx.map (fun (x, k) => startPod d d.next core x.1 k (first + 1 + k) (start + k) x.2 view first)

theorem wgPods_slots {d : Disp} {core first start : Nat} {slots regs : List Nat} {view : Nat × Nat} (h : regs.length = slots.length) :
    (wgPods d core first start slots regs view).map (·.slot) = slots := by
  have hslot : ∀ x ∈ (slots.zip regs).zipIdx, ((·.slot) ∘ fun (x : (Nat × Nat) × Nat) =>
      startPod d d.next core x.1.1 x.2 (first + 1 + x.2) (start + x.2) x.1.2 view first) x = (Prod.fst ∘ Prod.fst) x :=
    fun x _ => (startPod_begins ..).1
  rw [wgPods, List.map_map]
  refine (List.map_congr_left hslot).trans ?_
  rw [← List.map_map (g := Prod.fst) (f := Prod.fst), List.zipIdx_map_fst, List.map_fst_zip (by omega)]

theorem begins_of_mem_wgPods {d : Disp} {core first start : Nat} {slots regs : List Nat} {view : Nat × Nat} {p : Pod}
    (h : p ∈ wgPods d core first start slots regs view) : ∃ k, p.Begins d k := by
  obtain ⟨x, -, rfl⟩ := List.mem_map.mp h
  exact ⟨_, startPod_begins ..⟩

section
variable {s : State} {pkt core q ts : Nat} {slots regs : List Nat} {d : Disp} {p : QPkt}

/-- A workgroup that fits has room. -/
theorem State.wgRoom_of (hcluster : core / 4 = d.cluster) (hon : s.on (D.CL + d.cluster) = true) (hopen : s.closed core = false)
    (hleft : d.next < d.nx * d.ny * d.nz) (hlen : slots.length = d.pods) (hnodup : slots.Nodup)
    (hfree : ∀ k ∈ slots, k ∈ ((s.adm? d.ctx).getD {}).slots ∧ ∀ x ∈ (s.core core).pods, x.slot ≠ k)
    (hlimit : ((s.core core).pods.filter (·.ctx == d.ctx)).length + d.pods ≤ ((s.adm? d.ctx).getD {}).pods)
    (hregs : firstFits ((s.adm? d.ctx).getD {}).regLo ((s.adm? d.ctx).getD {}).regKib (d.vregs / 8) d.pods (s.core core).regsTaken = some regs)
    (hts : firstFit ((s.adm? d.ctx).getD {}).tsLo ((s.adm? d.ctx).getD {}).tsKib (if d.view = 0 then d.shared else 0) (s.core core).tilesTaken = some ts) :
    s.wgRoom d core = some (regs, ts) := by
  have hslots : d.pods ≤ (s.slotsFree ((s.adm? d.ctx).getD {}) core).length :=
    hlen ▸ length_le_of_nodup hnodup fun k hk => State.mem_slotsFree.mpr (hfree k hk)
  have hok : (core / 4 == d.cluster && s.on (D.CL + d.cluster) && !s.closed core && decide (d.next < d.nx * d.ny * d.nz) &&
      decide (((s.core core).pods.filter (·.ctx == d.ctx)).length + d.pods ≤ ((s.adm? d.ctx).getD {}).pods) &&
      decide (d.pods ≤ (s.slotsFree ((s.adm? d.ctx).getD {}) core).length)) = true := by
    rw [hcluster, hon, hopen, decide_eq_true hleft, decide_eq_true hlimit, decide_eq_true hslots, beq_self_eq_true]
    rfl
  simp only [State.wgRoom, hok, if_true, hregs, hts]

theorem eraseDups_of_nodup {l : List Nat} (h : l.Nodup) : l.eraseDups = l := by
  induction l with
  | nil => rfl
  | cons a l ih =>
    obtain ⟨hne, hl⟩ := List.nodup_cons.mp h
    have hfilter : l.filter (fun b => !b == a) = l := List.filter_eq_self.mpr fun b hb => by
      have : b ≠ a := fun e => hne (e ▸ hb)
      simpa using this
    rw [List.eraseDups_cons, hfilter, ih hl]

/-- Slots that are free, none named twice. -/
theorem State.wgOk_of (hturn : s.wgTurn d = true) (hfind : s.findPkt pkt = some (q, p)) (habort : p.abort = none) (htimed : p.timedOut = false)
    (hlen : slots.length = d.pods) (hnodup : slots.Nodup)
    (hfree : ∀ k ∈ slots, k ∈ ((s.adm? d.ctx).getD {}).slots ∧ ∀ x ∈ (s.core core).pods, x.slot ≠ k) :
    (s.goesOn pkt && s.wgTurn d && slots.length == d.pods && slots.all (s.slotsFree ((s.adm? d.ctx).getD {}) core).contains && slots.eraseDups == slots) = true := by
  have hgo : s.goesOn pkt = true := by simp only [State.goesOn, hfind, habort, htimed]; rfl
  have hall : slots.all (s.slotsFree ((s.adm? d.ctx).getD {}) core).contains = true :=
    List.all_eq_true.mpr fun k hk => List.contains_iff_mem.mpr (State.mem_slotsFree.mpr (hfree k hk))
  rw [hgo, hturn, hlen, hall, eraseDups_of_nodup hnodup, beq_self_eq_true, beq_self_eq_true]
  rfl

end

end Sys2Proof.Machine

open Sys2Proof Sys2Proof.Machine

/-- Settles O19: each event by its cases. That the trap which waits next enters in its turn, and the address of a misaligned scalar access, are log entry 75. -/
theorem kernelsAndPods : Obligations.KernelsAndPods := by
  refine ⟨⟨?dispatch, ?misaligned, ?retire, ?trap⟩, ?launch⟩
  case dispatch =>
    intro s t u v q p k args hroot hstart halign hread
    have hal : ¬(p.pkt.a0 % 64 ≠ 0) := Classical.not_not.mpr halign
    refine ⟨fun d hbad => ?_, ?_⟩
    · simp only [exec, execDispatch, State.rooted_of _ _ hroot, hstart, if_neg hal, hread, hbad]
      rfl
    · intro n fl x y z hgood hargs
      have hx : bits p.pkt.a1 15 0 = x := by rw [bits_eq, Nat.pow_zero, Nat.div_one]
      have hy : bits p.pkt.a1 31 16 = y := bits_eq _ _ _
      have hz : bits p.pkt.a1 47 32 = z := bits_eq _ _ _
      simp only [exec, execDispatch, State.rooted_of _ _ hroot, hstart, if_neg hal, hread, hgood, hx, hy, hz]
      split
      · next v' w hw => exact absurd (hw.symm.trans hargs) (by simp)
      · next bs w hw =>
        obtain ⟨rfl, rfl⟩ : bs = args ∧ w = v := by simpa using hw.symm.trans hargs
        refine ⟨fun h0 => if_pos h0, fun h0 => (if_neg h0).trans ?_⟩
        have hva : ∀ v, bits v 47 3 = v / 8 % 2 ^ 45 := fun v => bits_eq v 47 3
        simp only [hva, b2n, n, fl]
  case misaligned =>
    intro s t q p hroot hstart halign
    simp only [exec, execDispatch, State.rooted_of _ _ hroot, hstart, if_pos halign]
    rfl
  case retire =>
    intro s core slot p hroot hpod hlive hsb
    have hall : p.sb.all (· == 0) = true := List.all_eq_true.mpr fun n hn => by rw [hsb n hn]; rfl
    refine ⟨fun hpkt => ?_, fun id hpkt hpix => ?_, fun id hpkt hpix => ?_⟩ <;>
      simp only [exec, execPodRetire, State.rooted_of _ _ hroot, hpod, hlive, hall, decide_true, Bool.and_true, if_true, hpkt]
    · rw [hpix]; rfl
    · rw [if_pos hpix]
  case trap =>
    intro s core slot p t hroot hpod htrap hdead hsb
    have hall : p.sb.all (· == 0) = true := List.all_eq_true.mpr fun n hn => by rw [hsb n hn]; rfl
    have hgo : (p.dead || !p.sb.all (· == 0)) = false := by rw [hdead, hall]; rfl
    refine ⟨fun hva hmode => ?_, fun hfail h3 h5 => ?_, fun hfail hcause => ?_⟩ <;>
      simp only [exec, execTrapEntry, State.rooted_of _ _ hroot, hpod, htrap, hgo, Bool.false_eq_true, if_false]
    · have hgood : ¬(decide (p.trapVA = 0) || p.trapMode) = true := by rw [decide_eq_false hva, hmode]; decide
      rw [if_neg hgood]
      rfl
    · have hbad : (decide (p.trapVA = 0) || p.trapMode) = true := by rcases hfail with h | h <;> simp [h]
      have hno : ¬(decide (t.cause = 3) || decide (t.cause = 5)) = true := by simp [h3, h5]
      rw [if_pos hbad, if_neg hno]
    · have hbad : (decide (p.trapVA = 0) || p.trapMode) = true := by rcases hfail with h | h <;> simp [h]
      have hyes : (decide (t.cause = 3) || decide (t.cause = 5)) = true := by rcases hcause with h | h <;> simp [h]
      rw [if_pos hbad, if_pos hyes]
      cases t.va with
      | some a => rfl
      | none =>
        rw [lanesOf, Machine.setBits, List.head?_filter]
        rfl
  case launch =>
    intro s pkt core q slots regs ts d p co a shared hroot hdisp hturn hfind hcore hcores hcluster hon hopen hleft habort htimed hlen hnodup hfree hlimit hregs hts hwf
    have hroom : s.wgRoom d core = some (regs, ts) := State.wgRoom_of hcluster hon hopen hleft hlen hnodup hfree hlimit hregs hts
    have hok := State.wgOk_of hturn hfind habort htimed hlen hnodup hfree
    obtain ⟨base, hbase, hbregs, hbdisps, hbqm, hblen, hbcore⟩ : ∃ base : State, (if d.used.contains core then s else s.kernelBegin core d.ctx) = base ∧
        base.regs = s.regs ∧ base.disps = s.disps ∧ base.qm = s.qm ∧ base.cores.length = s.cores.length ∧
        ∀ c', (base.core c').pods = (s.core c').pods ∧ (base.core c').wgs = (s.core c').wgs := by
      split
      · exact ⟨s, rfl, rfl, rfl, rfl, rfl, fun _ => ⟨rfl, rfl⟩⟩
      · exact ⟨_, rfl, s.kernelBegin_same core d.ctx⟩
    let view := if d.view = 0 then (ts, d.shared) else (a.tsLo, a.tsKib)
    let pods := wgPods d core s.qm.nextId (base.core core).starts slots regs view
    let v := base.wgStart d pkt core (base.core core).starts pods (Workgroup.mk s.qm.nextId pkt d.ctx slots (regs.map (fun r => (r, d.vregs / 8))) (ts, shared))
    have hvrf := v.startLanes_vrfOnly core pods.zipIdx
    have hlt : core < base.cores.length := by rw [hblen, hcores]; exact hcore
    obtain ⟨hvpods, hvwgs⟩ := State.wgStart_core (d := d) (pkt := pkt) (start := (base.core core).starts) (pods := pods)
      (wg := Workgroup.mk s.qm.nextId pkt d.ctx slots (regs.map (fun r => (r, d.vregs / 8))) (ts, shared)) hlt
    have hexec : exec (.workgroupLaunch pkt core slots) s =
        .next (pods.zipIdx.foldl (fun s (p, k) => (List.range 32).foldl (fun s l => s.vput (.slot core p.slot) p 0 l (32 * k + l)) s) v) := by
      simp only [exec, execWorkgroupLaunch, State.rooted_of _ _ hroot, hdisp, hroom, hok, Bool.not_true, Bool.false_eq_true, if_false, hbase, hbqm, v, pods, view, shared, a, wgPods, State.wgStart]
    have hdpkt : d.pkt = pkt := by simpa using List.find?_some hdisp
    refine ⟨_, hexec, ?_, ?_, fun c hc => ?_, ⟨pods, ?_, ?_, fun x hx => ?_⟩, ?_⟩
    · rw [State.reg_congr hvrf.regs, State.wgStart_reg (hbregs ▸ hwf), State.reg_congr hbregs]
    · rw [hvrf.wgs, hvwgs, (hbcore core).2]
    · rw [hvrf.pods, State.wgStart_core_ne hc, (hbcore c).1]
    · rw [hvrf.pods, hvpods, (hbcore core).1]
    · exact wgPods_slots ((firstFits_length _ _ _ _ _ hregs).trans hlen.symm)
    · obtain ⟨k, -, hctx, hpkt, hrest⟩ := begins_of_mem_wgPods hx
      exact ⟨hctx, hpkt.trans (congrArg some hdpkt), hrest⟩
    · rw [hvrf.disps, State.wgStart_disps, hbdisps]

end

section
/-! Timers, drains, kills and the end of aborted jobs (04 R111, R112; 05 R146 to R148). -/

namespace Sys2Proof.Machine

/-- A kill ends work where a pod, a query, a tile or a copy line of the packet is there. -/
theorem State.killEnds_iff (s : State) (id : Nat) : s.killEnds id = true ↔
    (∃ co ∈ s.cores, ∃ x ∈ co.pods, x.pkt = some id) ∨ (∃ u ∈ s.rtus, ∃ x ∈ u.queries, x.pkt = id) ∨
      (∃ a, s.pass = some a ∧ a.pkt = id ∧ a.tiles ≠ []) ∨ (∃ j ∈ s.copies, j.pkt = id ∧ j.busy ≠ []) := by
  unfold State.killEnds
  cases s.pass <;> simp [or_assoc]

/-- The end of a timed-out packet's drain, by whether its kill ended any work. -/
theorem execDrainWindowEnd_timeout {s : State} {id q : Nat} {p : QPkt} (hroot : s.rootLock = true) (hfind : s.findPkt id = some (q, p)) (htimed : p.timedOut = true) :
    let t := ((s.kill p.id).modQueue q (fun u => { u with st := .guilty })).inc (rk R.QM_Q_TIMEOUT_COUNT q)
    let u := (if s.killEnds p.id then t.inc (rk R.QM_Q_KILL_COUNT q) else t).modPkt p.id (fun k => { k with timedOut := false })
    let g := u.ctxGen p.ctx
    exec (.drainWindowEnd true id) s = .next (g.2.abortFrom p.ctx (g.2.pktOnion q p g.1 ⟨qEng q, C.TIMEOUT_KILLED, 0, none⟩)
      (if p.open then some (p.job, 0x20, fun x => if x.id = p.id || x.started then 0x20 else 0x81) else none)) := by
  simp only [exec, execDrainWindowEnd, State.rooted_of _ _ hroot, if_true, hfind, when'_of htimed]
  rfl

end Sys2Proof.Machine

open Sys2Proof Sys2Proof.Machine

/-- Settles O20: the timer, the two drains and the end of an abort. That a packet which an earlier abort reached keeps that abort's status while its queue becomes
GUILTY is log entry 66. -/
theorem abortsAndTimeouts : Obligations.AbortsAndTimeouts := by
  refine ⟨?timer, ?drain, ?stopped⟩
  case timer =>
    intro s id q p hroot hfind
    refine ⟨fun hruns => ?_, fun htimed => ?_⟩
    · simp only [exec, execPacketTimeout, State.rooted_of _ _ hroot, hfind, when'_of hruns]
    · have hdrain := execDrainWindowEnd_timeout hroot hfind htimed
      have hended := s.killEnds_iff p.id
      refine ⟨fun h => ?_, fun h => ?_⟩
      · rw [hended.mpr h] at hdrain
        exact hdrain
      · rw [Bool.eq_false_iff.mpr (mt hended.mp h)] at hdrain
        exact hdrain
  case drain =>
    intro s n hroot hne
    have hany : (!(s.aborted n).isEmpty) = true := by simpa using hne
    simp only [exec, execDrainWindowEnd, State.rooted_of _ _ hroot, Bool.false_eq_true, if_false, when'_of hany]
  case stopped =>
    intro s t seq hroot hne hwork hfinish
    have hgo : ((!(s.aborted seq).isEmpty || !(s.abortedSlots seq).isEmpty) && (s.aborted seq).all (fun x => !s.hasWork x.2.id)) = true := by
      rw [Bool.and_eq_true, Bool.or_eq_true, List.all_eq_true]
      exact ⟨by simpa using hne, fun x hx => by rw [hwork x hx]; rfl⟩
    simp only [exec, execAbortStopped, State.rooted_of _ _ hroot, hgo, if_true, hfinish]

end

section
/-! Copy engines (11 R297 to R301; 14 R351 to R362). -/

namespace Sys2Proof.Machine

section
variable {s t u v : State} {pkt : Nat} {j : CopyJob} {b : List Byte} {event : String} {takes : Desc → Bool}

/-- A descriptor that is read and that the event takes up is checked, and moves if it is right. -/
theorem State.descStart_of_read (hcopy : s.copy? pkt = some j) (hnext : s.descNext j = some (.ok b, t)) (htakes : takes (parseDesc b) = true)
    (horder : (parseDesc b).kind = 1 ∨ (parseDesc b).kind = 2 → (parseDesc b).order = true → j.busy = []) :
    s.descStart event pkt takes = match t.descBad (parseDesc b) j.ctx with
      | some n => .next (t.copyBad pkt j.eng n j.here)
      | none => match t.descRun j (parseDesc b) with
        | (.error v, u) => if v.e.cause = C.HOST_WAIT then s.waitOr u event else .next (u.descFault j v)
        | (.ok _, u) => .next u := by
  have hgo : (!takes (parseDesc b) || ((decide ((parseDesc b).kind = 1) || decide ((parseDesc b).kind = 2)) && (parseDesc b).order && !j.busy.isEmpty)) = false := by
    rw [htakes, Bool.not_true, Bool.false_or]
    cases horder' : (parseDesc b).order with
    | false => simp
    | true =>
      by_cases hk : (parseDesc b).kind = 1 ∨ (parseDesc b).kind = 2
      · simp [horder hk horder']
      · simp [not_or.mp hk]
  simp only [State.descStart, hcopy, hnext, hgo, Bool.false_eq_true, if_false] <;> rfl

/-- What such a descriptor comes to. -/
theorem State.descStart_outcomes (hcopy : s.copy? pkt = some j) (hnext : s.descNext j = some (.ok b, t)) (htakes : takes (parseDesc b) = true)
    (horder : (parseDesc b).kind = 1 ∨ (parseDesc b).kind = 2 → (parseDesc b).order = true → j.busy = []) :
    (∀ n, t.descBad (parseDesc b) j.ctx = some n → s.descStart event pkt takes =
      .next (t.pktFault pkt ⟨34 + j.eng, C.COPY_DESC_INVALID, n, some (j.list + 64 * j.next)⟩ 0x80)) ∧
    (∀ u, t.descBad (parseDesc b) j.ctx = none → t.descRun j (parseDesc b) = (.ok (), u) → s.descStart event pkt takes = .next u) ∧
    (∀ v u, t.descBad (parseDesc b) j.ctx = none → t.descRun j (parseDesc b) = (.error v, u) → v.e.cause ≠ C.HOST_WAIT →
      s.descStart event pkt takes = .next (u.descFault j v)) := by
  rw [State.descStart_of_read hcopy hnext htakes horder]
  refine ⟨fun n hbad => ?_, fun u hgood hrun => ?_, fun v u hgood hrun hcause => ?_⟩
  · rw [hbad]; rfl
  · rw [hgood, hrun]
  · rw [hgood, hrun]
    exact if_neg hcause

end

section
variable {s t u v : State} {pkt kind : Nat} {j : CopyJob} {d : List Byte} {event : String}

/-- A batch descriptor that breaks a check. -/
theorem State.batchDesc_of_bad {n : Nat} (hcopy : s.copy? pkt = some j) (hnext : s.descNext j = some (.ok d, t)) (hkind : fieldAt d 0 1 = kind) (hbusy : j.busy = [])
    (hcheck : t.batchCheck j.who (t.ctxPart j.ctx) d (kind == 0x20) = (.error (.bad n), u)) :
    s.batchDesc event pkt kind = .next (u.pktFault pkt ⟨34 + j.eng, C.COPY_DESC_INVALID, n, some (j.list + 64 * j.next)⟩ 0x80) := by
  have hgo : (decide (fieldAt d 0 1 ≠ kind) || !j.busy.isEmpty) = false := by simp [hkind, hbusy]
  simp only [State.batchDesc, hcopy, hnext, hgo, Bool.false_eq_true, if_false, hcheck]
  rfl

/-- A batch descriptor that breaks none does its work and stands in flight, all of it taken. -/
theorem State.batchDesc_of_good {b : Batch} {es : List SeqEntry} (hcopy : s.copy? pkt = some j) (hnext : s.descNext j = some (.ok d, t)) (hkind : fieldAt d 0 1 = kind)
    (hbusy : j.busy = []) (hcheck : t.batchCheck j.who (t.ctxPart j.ctx) d (kind == 0x20) = (.ok (b, es), u))
    (hwork : (if kind = 0x20 then u.batchBegin j.who (t.ctxPart j.ctx) b es else u.batchCommit j.who (t.ctxPart j.ctx) b es) = (.ok (), v)) :
    s.batchDesc event pkt kind = .next ({ v with qm := { v.qm with nextId := v.qm.nextId + 1 } }.modCopy pkt
      (fun k => { k with next := k.next + 1, busy := [{ id := v.qm.nextId, taken := true }] })) := by
  have hgo : (decide (fieldAt d 0 1 ≠ kind) || !j.busy.isEmpty) = false := by simp [hkind, hbusy]
  simp only [State.batchDesc, hcopy, hnext, hgo, Bool.false_eq_true, if_false, hcheck, hwork]

end

section
variable {s t u : State} {pkt k : Nat} {j : CopyJob} {c : CopyDesc}

/-- A descriptor that has moved everything, its writes visible, comes to its end. -/
theorem execDescriptorComplete_of_moved (hroot : s.rootLock = true) (hcopy : s.copy? pkt = some j) (hbusy : j.busy[k]? = some c) (hmoved : c.isMoved = true)
    (hopen : s.descOpen j c = false) : exec (.descriptorComplete pkt k) s = s.descEnd s j c := by
  have hwait : (if c.isMoved || !s.copyRuns j then (CopyGo.wait c, s) else s.copyPump j c.d.work c) = (.wait c, s) := by rw [hmoved]; rfl
  have hgo : (!c.isMoved || s.descOpen j c) = false := by rw [hmoved, hopen]; rfl
  simp only [exec, execDescriptorComplete, State.rooted_of _ _ hroot, hcopy, hbusy, hwait, hgo, Bool.false_eq_true, if_false]

theorem State.reportDone_of_ok {va : Nat} {x : State} (h : t.vwrite (j.whoD c.id) va (leBytes 4 1) true = (.ok (), x)) :
    s.reportDone t j c va = .next (x.descDone j c.id) := by
  simp only [State.reportDone, h]

theorem State.reportDone_of_error {va : Nat} {e : VErr} {x : State} (h : t.vwrite (j.whoD c.id) va (leBytes 4 1) true = (.error e, x)) (hcause : e.e.cause ≠ C.HOST_WAIT) :
    s.reportDone t j c va = .next (x.descFault j e) := by
  simp only [State.reportDone, h, hcause, if_false]

end

end Sys2Proof.Machine

open Sys2Proof Sys2Proof.Machine

/-- Settles O21: packets, descriptors, their ends, batch descriptors and CLEAR_MAXE, each by its outcome. How much one command moves, and what then waits, are log
entries 25 and 71; the order of a batch descriptor's errors is log entry 55. -/
theorem copyEngines : Obligations.CopyEngines := by
  refine ⟨?packet, ?start, ?complete, ?batch, ?maxe⟩
  case packet =>
    intro s t q p hroot hon hlo hhi hstart ok
    have hgo : (s.on D.CE && decide (36 ≤ q) && decide (q < 52)) = true := by rw [hon, decide_eq_true hlo, decide_eq_true hhi]; rfl
    have hbad : (decide (p.pkt.a0 % 64 ≠ 0) || decide (p.pkt.a1 / 2 ^ 16 ≠ 0) || decide (p.pkt.a2 ≠ 0)) = true ↔ ¬ok := by
      simp only [Bool.or_eq_true, decide_eq_true_eq, ok]
      omega
    have hexec : exec (.copyPacket q) s =
        if (decide (p.pkt.a0 % 64 ≠ 0) || decide (p.pkt.a1 / 2 ^ 16 ≠ 0) || decide (p.pkt.a2 ≠ 0)) = true then .next (t.copyBad p.id (ceOf q) 9 p.pkt.a0)
        else if p.pkt.a1 = 0 then .next (t.finish p.id)
        else .next { t with copies := t.copies ++ [({ pkt := p.id, ctx := p.ctx, eng := ceOf q, list := p.pkt.a0, count := p.pkt.a1 } : CopyJob)] } := by
      simp only [exec, execCopyPacket, State.rooted_of _ _ hroot, hgo, if_true, hstart]
    refine ⟨fun hno => ?_, fun hyes h0 => ?_, fun hyes h0 => ?_⟩
    · rw [hexec, if_pos (hbad.mpr hno)]; rfl
    · rw [hexec, if_neg (fun h => hbad.mp h hyes), if_pos h0]
    · rw [hexec, if_neg (fun h => hbad.mp h hyes), if_neg h0]; rfl
  case start =>
    intro s t pkt j b hroot hcopy hnext d takes
    refine ⟨fun h2 h20 h21 horder => ?_, fun h2 horder => ?_⟩
    · have hexec : exec (.copyDescriptor pkt) s = s.descStart "COPY_DESCRIPTOR" pkt (fun d => d.kind ≠ 2 && d.kind ≠ 0x20 && d.kind ≠ 0x21) :=
        State.rooted_of _ _ hroot
      simp only [takes, hexec]
      have htakes : (decide (d.kind ≠ 2) && decide (d.kind ≠ 0x20) && decide (d.kind ≠ 0x21)) = true := by simp [h2, h20, h21]
      exact State.descStart_outcomes hcopy hnext htakes (fun h => h.elim horder (absurd · h2))
    · have hexec : exec (.fillDescriptor pkt) s = s.descStart "FILL_DESCRIPTOR" pkt (fun d => d.kind == 2) := State.rooted_of _ _ hroot
      simp only [takes, hexec]
      exact State.descStart_outcomes hcopy hnext (beq_iff_eq.mpr h2) (fun _ => horder)
  case complete =>
    intro s t u pkt k j c r w hroot hcopy hbusy hmoved hopen hcrcR hcrcW
    rw [execDescriptorComplete_of_moved hroot hcopy hbusy hmoved hopen]
    refine ⟨fun hnone => ?_, fun va v hrep hnot hwrite => ?_, fun va x hrep hyes hdone => ?_, fun va e v hrep hnot hwrite hcause => ?_⟩
    · simp only [State.descEnd, hnone, hcrcR, hcrcW]
    · have hend : s.descEnd s j c = if v.descRemote j c then .next (v.putDesc j.pkt { c with reported := true }) else s.reportDone v j c va := by
        simp only [State.descEnd, hrep, hnot, Bool.false_eq_true, if_false, hcrcR, hcrcW, hwrite]
      rw [hend]
      refine ⟨fun hrem => if_pos hrem, fun x hrem hdone => ?_, fun e x hrem hdone hcause => ?_⟩
      · rw [hrem, if_neg (by decide), State.reportDone_of_ok hdone]
      · rw [hrem, if_neg (by decide), State.reportDone_of_error hdone hcause]
    · simp only [State.descEnd, hrep, hyes, if_true, State.reportDone_of_ok hdone]
    · simp only [State.descEnd, hrep, hnot, Bool.false_eq_true, if_false, hcrcR, hcrcW, hwrite, hcause]
  case batch =>
    intro s t u v pkt kind j d b es hroot hcopy hnext hkind hbusy
    have hbegin : exec (.batchBegin pkt) s = s.batchDesc "BATCH_BEGIN" pkt 0x20 := State.rooted_of _ _ hroot
    have hcommit : exec (.batchCommit pkt) s = s.batchDesc "BATCH_COMMIT" pkt 0x21 := State.rooted_of _ _ hroot
    refine ⟨fun n hcheck => ⟨fun h => ?_, fun h => ?_⟩, ?_⟩
    · subst h
      rw [hbegin, State.batchDesc_of_bad hcopy hnext hkind hbusy hcheck]
    · subst h
      rw [hcommit, State.batchDesc_of_bad hcopy hnext hkind hbusy hcheck]
    · intro done hcheck
      refine ⟨fun h hwork => ?_, fun h hwork => ?_⟩ <;> subst h
      · rw [hbegin, State.batchDesc_of_good hcopy hnext hkind hbusy hcheck ((if_pos rfl).trans hwork)]
      · rw [hcommit, State.batchDesc_of_good hcopy hnext hkind hbusy hcheck ((if_neg (by decide)).trans hwork)]
  case maxe =>
    intro req
    refine writesTo_putReg rfl rfl (fun _ => rfl) (fun u n hmask hcopy => ?_)
    rfl

end

section
/-! The control registers of a partition (06 R155 to R160, R169). -/

namespace Sys2Proof.Machine

/-! ### Fields of words -/

theorem fld_bit (w : W32) (i : Nat) : fld w i i = (w.getLsbD i).toNat := by
  rw [fld_eq, show i + 1 - i = 1 by omega, Nat.pow_one, BitVec.getLsbD, Nat.testBit_eq_decide_div_mod_eq]
  rcases Nat.mod_two_eq_zero_or_one (w.toNat / 2 ^ i) with h | h <;> simp [h]

/-- Two bits of a word, by themselves. -/
theorem fld_two_one (w : W32) : fld w 2 1 = (w.getLsbD 1).toNat + 2 * (w.getLsbD 2).toNat := by
  rw [← fld_bit, ← fld_bit, fld_eq, fld_eq, fld_eq]
  simp only [Nat.reduceAdd, Nat.reduceSub, Nat.reducePow]
  omega

theorem setRegN_toNat (s : State) (k : Nat) (v : W32) : s.setRegN k v.toNat = s.setReg k v := by
  rw [State.setRegN, BitVec.ofNat_toNat, BitVec.setWidth_eq]

/-! ### A write of PT_P_CTRL -/

theorem writesTo_ptCtrl {c : Instr} {req : Req} {val : W32} (hexec : ∀ s, exec c s = .next (s.cmdWrite req R.PT_P_CTRL val true)) :
    WritesTo c req R.PT_P_CTRL val (fun u p => u.wrPtCtrl p val) := by
  refine writesTo_putReg rfl rfl hexec (fun u n hmask hcopy => ?_)
  rfl

theorem State.mem_otherParts {u : State} {p o : Nat} : o ∈ u.otherParts p ↔ o < 8 ∧ o ≠ p ∧ u.pEnabled o = true := by
  rw [State.otherParts, List.mem_filter, List.mem_range, Bool.and_eq_true, decide_eq_true_eq]

/-- The checks of an enable. -/
theorem State.partFits_iff (u : State) (p : Nat) : u.partFits p (u.pClusters p) (u.pCe p) = true ↔
    0 < u.pClusters p ∧ (∀ o, o < 8 → o ≠ p → u.pEnabled o = true → u.pClusters o &&& u.pClusters p = 0 ∧ u.pCe o &&& u.pCe p = 0) ∧
      (∀ n, n < 8 → (u.pClusters p).testBit n = true → u.on (D.CL + n) = true) ∧ u.pBw p + ((u.otherParts p).map u.pBw).sum ≤ 64 := by
  simp only [State.partFits, State.bwFits, Machine.setBits, Bool.and_eq_true, List.all_eq_true, State.mem_otherParts, List.mem_filter, List.mem_range,
    decide_eq_true_eq, beq_iff_eq, ← Nat.pos_iff_ne_zero, and_imp, and_assoc]

section
variable {u : State} {p : Nat} {v : W32}

theorem State.pEnabled_eq_false (h : u.pState p = .disabled) : u.pEnabled p = false := by rw [State.pEnabled, h]; rfl

theorem State.pEnabled_eq_true (h : u.pState p ≠ .disabled) : u.pEnabled p = true := decide_eq_true h

theorem State.wrPtCtrl_enable (hst : u.pState p = .disabled) (hon : v.getLsbD 0 = true) : u.wrPtCtrl p v =
    if u.partFits p (u.pClusters p) (u.pCe p) then
      let w := ((u.setField (rk R.PT_P_CTRL p) 2 1 (fld v 2 1)).setField (rk R.PT_P_CTRL p) 0 0 1).setPState p .active
      (if v.getLsbD 1 then (w.setPState p .quiescing).quiesceSettle else w).recountForeign
    else (u.setBits (rk R.PT_P_STATUS p) 4).viol := by
  simp only [State.wrPtCtrl, State.pEnabled_eq_false hst, bitOf_eq_getLsbD, hon, Bool.not_true, Bool.false_eq_true, if_false]
  rfl

theorem State.wrPtCtrl_off (hst : u.pState p = .disabled) (hoff : v.getLsbD 0 = false) :
    u.wrPtCtrl p v = u.setField (rk R.PT_P_CTRL p) 2 1 (fld v 2 1) := by
  simp only [State.wrPtCtrl, State.pEnabled_eq_false hst, bitOf_eq_getLsbD, hoff, Bool.not_false, Bool.false_eq_true, if_false, if_true]

theorem State.wrPtCtrl_disable (hst : u.pState p ≠ .disabled) (hoff : v.getLsbD 0 = false) : u.wrPtCtrl p v =
    if (u.residents p).isEmpty then
      (((((u.wrQuiesce p v).setPState p .disabled).setField (rk R.PT_P_CTRL p) 0 0 0).setField (rk R.PT_P_RING_CTRL p) 0 0 0).recountForeign)
    else u.setBits (rk R.PT_P_STATUS p) 4 := by
  simp only [State.wrPtCtrl, State.pEnabled_eq_true hst, bitOf_eq_getLsbD, hoff, Bool.false_eq_true, if_false, if_true]
  cases (u.residents p).isEmpty <;> rfl

theorem State.wrPtCtrl_on (hst : u.pState p ≠ .disabled) (hon : v.getLsbD 0 = true) : u.wrPtCtrl p v = u.wrQuiesce p v := by
  simp only [State.wrPtCtrl, State.pEnabled_eq_true hst, bitOf_eq_getLsbD, hon, if_true]

/-- While a partition runs its FEC field stays, and a change of it is counted. -/
theorem State.wrQuiesce_running (hst : u.pState p = .active ∨ u.pState p = .quiescing) : u.wrQuiesce p v =
    let w := if v.getLsbD 2 = u.bit (rk R.PT_P_CTRL p) 2 then u else u.viol
    let w := w.setField (rk R.PT_P_CTRL p) 1 1 (v.getLsbD 1).toNat
    match u.pState p, v.getLsbD 1 with
    | .active, true => (w.setPState p .quiescing).quiesceSettle
    | .quiescing, false => w.setPState p .active
    | _, _ => w := by
  have hlocked : (decide (u.pState p = .active) || decide (u.pState p = .quiescing)) = true := by
    rcases hst with h | h <;> rw [h] <;> rfl
  simp only [State.wrQuiesce, hlocked, bitOf_eq_getLsbD, if_true, fld_bit]
  by_cases hfec : v.getLsbD 2 = u.bit (rk R.PT_P_CTRL p) 2
  · simp only [hfec, ne_eq, not_true_eq_false, decide_false, Bool.and_false, Bool.false_eq_true, if_false, if_true]
    rcases hst with h | h <;> rw [h] <;> cases v.getLsbD 1 <;> rfl
  · simp only [hfec, ne_eq, not_false_eq_true, decide_true, Bool.and_true, if_false, if_true]
    rcases hst with h | h <;> rw [h] <;> cases v.getLsbD 1 <;> rfl

/-- While it is quiesced the field follows the write. -/
theorem State.wrQuiesce_quiesced (hst : u.pState p = .quiesced) : u.wrQuiesce p v =
    let w := (u.setField (rk R.PT_P_CTRL p) 2 2 (fld v 2 2)).setField (rk R.PT_P_CTRL p) 1 1 (v.getLsbD 1).toNat
    if v.getLsbD 1 then w else w.setPState p .active := by
  simp only [State.wrQuiesce, hst, bitOf_eq_getLsbD, fld_bit]
  cases v.getLsbD 1 <;> rfl

end

/-! ### Other registers -/

theorem State.wrPtResize_eq (u : State) (p : Nat) (ce : Bool) (val : W32) : u.wrPtResize p ce val.toNat =
    match u.pState p with
    | .disabled => u.setReg (rk (if ce then R.PT_P_CE else R.PT_P_CLUSTERS) p) val
    | .active | .quiescing => u.viol
    | .quiesced =>
      if u.partFits p (if ce then u.pClusters p else val.toNat) (if ce then val.toNat else u.pCe p) then
        if ce then u.setReg (rk R.PT_P_CE p) val
        else ((coresOf (u.pClusters p ^^^ val.toNat)).foldl (fun v c => v.coreLose c) (u.setReg (rk R.PT_P_CLUSTERS p) val)).recountForeign
      else u.setBits (rk R.PT_P_STATUS p) 4 := by
  simp only [State.wrPtResize, setRegN_toNat, State.cfgErr]
  cases u.pState p with
  | quiesced => cases ce <;> simp only [Bool.false_eq_true, if_false, if_true]
  | _ => rfl

theorem writesTo_ringCtrl {c : Instr} {req : Req} {val : W32} (hexec : ∀ s, exec c s = .next (s.cmdWrite req R.PT_P_RING_CTRL val true)) :
    WritesTo c req R.PT_P_RING_CTRL val (fun u p => u.wrRingCtrl p val) := by
  refine writesTo_putReg rfl rfl hexec (fun u n hmask hcopy => ?_)
  rfl

theorem toNat_and_not_one_div_four (val : W32) : (val &&& ~~~ 1).toNat / 4 = val.toNat / 4 := by
  have h : (val &&& ~~~ 1) >>> 2 = val >>> 2 := by
    ext i hi
    rw [BitVec.getElem_ushiftRight, BitVec.getElem_ushiftRight, BitVec.getLsbD_and, BitVec.getLsbD_not]
    cases hbit : val.getLsbD (2 + i) with
    | false => rfl
    | true => simp [BitVec.lt_of_getLsbD hbit]
  have := congrArg BitVec.toNat h
  simpa only [BitVec.toNat_ushiftRight, Nat.shiftRight_eq_div_pow, Nat.reducePow] using this

/-- LOG2 of a write of PT_P_RING_CTRL, whatever its ENABLE. -/
theorem fld_ringLog {v val : W32} (h : v.toNat / 4 = val.toNat / 4) : fld v 11 8 = val.toNat / 2 ^ 8 % 16 := by
  rw [fld_eq]
  simp only [Nat.reduceAdd, Nat.reduceSub, Nat.reducePow]
  omega

section
variable {u : State} {p : Nat} {v : W32}

theorem State.wrRingCtrl_enable (hon : v.getLsbD 0 = true) (hoff : u.bit (rk R.PT_P_RING_CTRL p) 0 = false) : u.wrRingCtrl p v =
    let n := fld v 11 8
    let b := u.pair (rk R.PT_P_RING_BASE_LO p)
    if n < 4 ∨ b % (8 * 2 ^ n) ≠ 0 ∨ 2 ^ n ≤ u.ringOut p then u.viol
    else ((({ u with pt := { u.pt with rings := u.pt.rings.set p (b, n) } }.setRegN (rk R.PT_P_RING_CTRL p) (1 + 2 ^ 8 * n)).setRegN (rk R.PT_P_RING_POS p) 0).setRegN
      (rk R.PT_P_RING_OCC p) 0) := by
  simp only [State.wrRingCtrl, bitOf_eq_getLsbD, hon, hoff, Bool.not_false, Bool.and_true, if_true, Bool.or_eq_true, decide_eq_true_eq, or_assoc]

theorem State.wrRingCtrl_keep (h : v.getLsbD 0 = false ∨ u.bit (rk R.PT_P_RING_CTRL p) 0 = true) :
    u.wrRingCtrl p v = u.setRegN (rk R.PT_P_RING_CTRL p) ((v.getLsbD 0).toNat + 2 ^ 8 * fld v 11 8) := by
  have hno : (v.getLsbD 0 && !u.bit (rk R.PT_P_RING_CTRL p) 0) = false := by
    rcases h with h | h <;> rw [h]
    · rfl
    · exact Bool.and_false _
  simp only [State.wrRingCtrl, bitOf_eq_getLsbD, hno, Bool.false_eq_true, if_false, fld_bit]

end

end Sys2Proof.Machine

open Sys2Proof Sys2Proof.Machine

/-- Settles O22: each command is a write of one register, taken by the state of its partition. That QUIESCE written with ENABLE starts in QUIESCING is log entry 31,
that LOG2 is stored while the ring is enabled log entry 73, and a window's mask and share are log entry 76. -/
theorem partitionControl : Obligations.PartitionControl := by
  refine ⟨?ctrl, ?resize, ?ring, ?fav, ?window⟩
  case ctrl =>
    intro s req p val u k w fits
    have hfits : u.partFits p (u.pClusters p) (u.pCe p) = true ↔ fits := u.partFits_iff p
    have hfld : ∀ v : W32, v.getLsbD 1 = val.getLsbD 1 → v.getLsbD 2 = val.getLsbD 2 → fld v 2 1 = val.toNat / 2 % 4 := fun v h1 h2 => by
      rw [fld_two_one, h1, h2, ← fld_two_one, fld_eq] <;> rfl
    have hfec : ∀ v : W32, v.getLsbD 2 = val.getLsbD 2 → fld v 2 2 = val.toNat / 4 % 2 := fun v h => by
      rw [fld_bit, h, ← fld_bit, fld_eq] <;> rfl
    refine ⟨fun h hst => ?_, fun h => ?_, ?_, fun h hon hst => ?_, fun h => ?_⟩
    · have hexec : exec (.partitionEnable req val) s = .next (u.wrPtCtrl p (val ||| 1)) := writesTo_ptCtrl (fun _ => rfl) s p h
      simp only [State.wrPtCtrl_enable hst (show (val ||| 1).getLsbD 0 = true by simp)] at hexec
      rw [hfld (val ||| 1) (by simp) (by simp), show (val ||| 1).getLsbD 1 = val.getLsbD 1 by simp] at hexec
      rw [hexec]
      refine ⟨fun hno => ?_, fun hyes hq => ?_, fun hyes hq => ?_⟩
      · rw [if_neg (mt hfits.mp hno)]
      · rw [if_pos (hfits.mpr hyes), hq]; rfl
      · rw [if_pos (hfits.mpr hyes), hq]; rfl
    · have hexec : exec (.partitionDisable req val) s = .next (u.wrPtCtrl p (val &&& ~~~ 1)) := writesTo_ptCtrl (fun _ => rfl) s p h
      have hoff : (val &&& ~~~ 1).getLsbD 0 = false := by simp
      rw [hexec]
      refine ⟨fun hst => ?_, fun hst hres => ?_, fun hst hres => ?_⟩
      · simp only [State.wrPtCtrl_off hst hoff, hfld (val &&& ~~~ 1) (by simp) (by simp), w, k, u]
      · simp only [State.wrPtCtrl_disable hst hoff]
        rw [if_neg (mt List.isEmpty_iff.mp hres)]
      · simp only [State.wrPtCtrl_disable hst hoff]
        rw [if_pos (List.isEmpty_iff.mpr hres)]
    · intro v
      refine ⟨fun h hon hst => ?_, fun h hon hst => ?_⟩
      · have hexec : exec (.partitionQuiesce req val) s = .next (u.wrPtCtrl p (val ||| 2)) := writesTo_ptCtrl (fun _ => rfl) s p h
        have hne : u.pState p ≠ .disabled := by rw [hst]; decide
        simp only [State.wrPtCtrl_on hne (show (val ||| 2).getLsbD 0 = true by simpa using hon), State.wrQuiesce_running (.inl hst)] at hexec
        rw [hexec, hst, show (val ||| 2).getLsbD 1 = true by simp, show (val ||| 2).getLsbD 2 = val.getLsbD 2 by simp]
        rfl
      · have hexec : exec (.partitionResume req val) s = .next (u.wrPtCtrl p (val &&& ~~~ 2)) := writesTo_ptCtrl (fun _ => rfl) s p h
        have hne : u.pState p ≠ .disabled := by rw [hst]; decide
        simp only [State.wrPtCtrl_on hne (show (val &&& ~~~ 2).getLsbD 0 = true by simpa using hon), State.wrQuiesce_running (.inr hst)] at hexec
        rw [hexec, hst, show (val &&& ~~~ 2).getLsbD 1 = false by simp, show (val &&& ~~~ 2).getLsbD 2 = val.getLsbD 2 by simp]
        rfl
    · have hexec : exec (.partitionResume req val) s = .next (u.wrPtCtrl p (val &&& ~~~ 2)) := writesTo_ptCtrl (fun _ => rfl) s p h
      have hne : u.pState p ≠ .disabled := by rw [hst]; decide
      simp only [State.wrPtCtrl_on hne (show (val &&& ~~~ 2).getLsbD 0 = true by simpa using hon), State.wrQuiesce_quiesced hst] at hexec
      rw [hexec, hfec (val &&& ~~~ 2) (by simp), show (val &&& ~~~ 2).getLsbD 1 = false by simp]
      rfl
    · have hexec : exec (.partitionFecSelect req val) s = .next (u.wrPtCtrl p val) := writesTo_ptCtrl (fun _ => rfl) s p h
      rw [hexec]
      refine ⟨fun hst hoff => ?_, fun hst hon hq => ?_⟩
      · simp only [State.wrPtCtrl_off hst hoff, hfld val rfl rfl, w, k, u]
      · have hne : u.pState p ≠ .disabled := by rw [hst]; decide
        simp only [State.wrPtCtrl_on hne hon, State.wrQuiesce_quiesced hst, hfec val rfl, hq, if_true]
        rfl
  case resize =>
    intro req ce val
    cases ce
    · refine writesTo_putReg rfl rfl (fun _ => rfl) (fun u n hmask hcopy => ?_)
      exact u.wrPtResize_eq n false val
    · refine writesTo_putReg rfl rfl (fun _ => rfl) (fun u n hmask hcopy => ?_)
      exact u.wrPtResize_eq n true val
  case ring =>
    intro s req p val u k n b
    have hon : (val ||| 1).getLsbD 0 = true := by simp
    have hoff : (val &&& ~~~ 1).getLsbD 0 = false := by simp
    have hn : fld (val ||| 1) 11 8 = n := fld_ringLog (toNat_or_one_div_four val)
    have hexec : s.reaches req R.PT_P_RING_CTRL p (val ||| 1) = true → exec (.ringEnable req val) s = .next (u.wrRingCtrl p (val ||| 1)) :=
      fun h => writesTo_ringCtrl (fun _ => rfl) s p h
    refine ⟨fun h hbit => ?_, fun h hbit => ?_, fun h => ?_⟩
    · rw [hexec h, State.wrRingCtrl_enable hon hbit, hn]
      refine ⟨fun h4 hal hroom => ?_, fun hbad => ?_⟩
      · exact congrArg Host.Outcome.next (if_neg (by
          rintro (h | h | h)
          · exact absurd h (Nat.not_lt.mpr h4)
          · exact h hal
          · exact absurd h (Nat.not_le.mpr hroom)))
      · exact congrArg Host.Outcome.next (if_pos hbad)
    · rw [hexec h, State.wrRingCtrl_keep (.inr hbit), hon, hn]
      rfl
    · have hexec : exec (.ringDisable req val) s = .next (u.wrRingCtrl p (val &&& ~~~ 1)) := writesTo_ringCtrl (fun _ => rfl) s p h
      rw [hexec, State.wrRingCtrl_keep (.inl hoff), hoff, fld_ringLog (toNat_and_not_one_div_four val), Bool.toNat_false, Nat.zero_add]
  case fav =>
    intro req val
    refine writesTo_putReg rfl rfl (fun _ => rfl) (fun u n hmask hcopy => ?_)
    change u.wrPtFav n val.toNat = _
    simp only [State.wrPtFav, setRegN_toNat, Bool.or_eq_true, Bool.and_eq_true, decide_eq_true_eq]
  case window =>
    intro s mask hroot overs t
    have hover : (Machine.setBits 8 mask.toNat).filter s.bwOver = (List.range 8).filter overs := by
      rw [Machine.setBits, List.filter_filter]
      refine List.filter_congr fun p _ => ?_
      simp only [overs, State.bwOver, State.bwShare, BitVec.getLsbD]
      rw [Bool.and_comm, Bool.and_assoc]
      rfl
    simp only [exec, execBwWindowEnd, State.rooted_of _ _ hroot, hover, t]

end

section
/-! Admission and eviction (06 R163 to R165). -/

namespace Sys2Proof.Machine

/-! ### Commands in a word: OP in bits 9:8 above a small index -/

/-- The value of a write of a command register: OP, in place, above the index that the command names. -/
theorem ofNat_add_toNat {n : Nat} (k : Nat) (x : BitVec n) : BitVec.ofNat 32 (k + x.toNat) = BitVec.ofNat 32 k + x.setWidth 32 := by
  apply BitVec.eq_of_toNat_eq
  rw [BitVec.toNat_add, BitVec.toNat_ofNat, BitVec.toNat_ofNat, BitVec.toNat_setWidth, Nat.add_mod]

section
variable {v : W32} {n k op : Nat} {x : BitVec n}

theorem fld_op (hv : v = BitVec.ofNat 32 k + x.setWidth 32) (hk : k = op * 2 ^ 8) (hn : n ≤ 8) (hop : op < 4) : fld v 9 8 = op := by
  have hx : x.toNat < 2 ^ 8 := Nat.lt_of_lt_of_le x.isLt (Nat.pow_le_pow_right (by decide) hn)
  rw [fld_eq, hv, ← ofNat_add_toNat, BitVec.toNat_ofNat, hk]
  simp only [Nat.reduceAdd, Nat.reduceSub, Nat.reducePow] at hx ⊢
  omega

theorem fld_index {hi : Nat} (hv : v = BitVec.ofNat 32 k + x.setWidth 32) (hk : k = op * 2 ^ 8) (hn : n = hi + 1) (h8 : hi < 8) (hop : op < 4) :
    fld v hi 0 = x.toNat := by
  have hx : x.toNat < 2 ^ (hi + 1) := hn ▸ x.isLt
  have hx8 : x.toNat < 2 ^ 8 := Nat.lt_of_lt_of_le hx (Nat.pow_le_pow_right (by decide) h8)
  have hdvd : 2 ^ (hi + 1) ∣ op * 2 ^ 8 := Nat.dvd_mul_left_of_dvd (Nat.pow_dvd_pow 2 h8) op
  rw [fld_eq, hv, ← ofNat_add_toNat, BitVec.toNat_ofNat, hk, Nat.pow_zero, Nat.div_one, Nat.sub_zero, Nat.mod_eq_of_lt (a := op * 2 ^ 8 + x.toNat) (by
    simp only [Nat.reducePow] at hx8 ⊢
    omega), Nat.add_mod, Nat.mod_eq_zero_of_dvd hdvd, Nat.zero_add, Nat.mod_mod, Nat.mod_eq_of_lt hx]

end

theorem writesTo_admit {c : Instr} {req : Req} {val : W32} (hexec : ∀ s, exec c s = .next (s.cmdWrite req R.PT_ADMIT val true)) :
    WritesTo c req R.PT_ADMIT val (fun u _ => u.wrAdmit req val) := by
  refine writesTo_putReg rfl rfl hexec (fun u n hmask hcopy => ?_)
  rfl

/-! ### Admission -/

theorem State.wrAdmit_admit {u : State} {req : Req} {v : W32} (hop : fld v 9 8 = 1) : u.wrAdmit req v = u.admitCtx req (fld v 7 0) := by
  simp only [State.wrAdmit, hop]

theorem State.wrAdmit_evict {u : State} {req : Req} {v : W32} (hop : fld v 9 8 = 2) : u.wrAdmit req v = u.evict req (fld v 7 0) := by
  simp only [State.wrAdmit, hop]

theorem writesTo_admitCtx (req : Req) (ctx : BitVec 8) :
    WritesTo (.admitCtx req ctx) req R.PT_ADMIT (0x100 + ctx.setWidth 32) (fun u _ => u.admitCtx req ctx.toNat) := by
  have hexec : ∀ s, exec (.admitCtx req ctx) s = .next (s.cmdWrite req R.PT_ADMIT (0x100 + ctx.setWidth 32) true) := fun s =>
    (congrArg (fun v => Host.Outcome.next (s.cmdWrite req R.PT_ADMIT v true)) (ofNat_add_toNat (2 ^ 8) ctx) :)
  intro s n h
  have hop : fld (0x100 + ctx.setWidth 32) 9 8 = 1 := fld_op (k := 2 ^ 8) rfl rfl (Nat.le_refl _) (by decide)
  have hix : fld (0x100 + ctx.setWidth 32) 7 0 = ctx.toNat := fld_index (k := 2 ^ 8) (op := 1) rfl rfl rfl (by decide) (by decide)
  refine (writesTo_admit hexec s n h).trans (congrArg Host.Outcome.next ?_)
  simp only [State.wrAdmit_admit hop, hix]

theorem writesTo_evict (req : Req) (ctx : BitVec 8) :
    WritesTo (.evict req ctx) req R.PT_ADMIT (0x200 + ctx.setWidth 32) (fun u _ => u.evict req ctx.toNat) := by
  have hexec : ∀ s, exec (.evict req ctx) s = .next (s.cmdWrite req R.PT_ADMIT (0x200 + ctx.setWidth 32) true) := fun s =>
    (congrArg (fun v => Host.Outcome.next (s.cmdWrite req R.PT_ADMIT v true)) (ofNat_add_toNat (2 * 2 ^ 8) ctx) :)
  intro s n h
  have hop : fld (0x200 + ctx.setWidth 32) 9 8 = 2 := fld_op (k := 2 * 2 ^ 8) rfl rfl (Nat.le_refl _) (by decide)
  have hix : fld (0x200 + ctx.setWidth 32) 7 0 = ctx.toNat := fld_index (k := 2 * 2 ^ 8) (op := 2) rfl rfl rfl (by decide) (by decide)
  refine (writesTo_admit hexec s n h).trans (congrArg Host.Outcome.next ?_)
  simp only [State.wrAdmit_evict hop, hix]

section
variable {u t : State} {req : Req} {c : Nat} {b : List Byte}

/-- An admission whose descriptor cannot be read. (The function is unfolded as a whole: the kernel would else evaluate the read.) -/
theorem State.admitCtx_of_error {e : MErr} (h : u.readLoc (u.ctxDesc c) 64 = (.error e, t)) :
    u.admitCtx req c = t.setRegN (rk R.PT_ADMIT_RESULT req.num) (2 ^ 8 + c) := by
  generalize hf : State.admitCtx = f
  delta State.admitCtx at hf
  subst hf
  dsimp -zeta -iota -proj only
  rw [h]

theorem State.admitCtx_of_refused {r : Nat} (h : u.readLoc (u.ctxDesc c) 64 = (.ok b, t)) (hr : t.admitResult c b = (r, none)) : u.admitCtx req c =
    let v := t.setRegN (rk R.PT_ADMIT_RESULT req.num) (r * 2 ^ 8 + c)
    if r = 5 then v.inc (rk R.PT_P_ADMIT_REFUSE_COUNT (bits (fieldAt b 0 4) 11 8)) else v := by
  generalize hf : State.admitCtx = f
  delta State.admitCtx at hf
  subst hf
  dsimp -zeta -iota -proj only
  rw [h]
  simp only [hr]

theorem State.admitCtx_of_ok {a : Adm} {r : Nat} (h : u.readLoc (u.ctxDesc c) 64 = (.ok b, t)) (hr : t.admitResult c b = (r, some a)) (h0 : r = 0) :
    u.admitCtx req c =
      let v := t.setRegN (rk R.PT_ADMIT_RESULT req.num) c
      { v with qm := { v.qm with adm := storePut (fun _ _ => false) c a v.qm.adm } }.recountForeign := by
  have hword : r * 2 ^ 8 + c = c := by rw [h0, Nat.zero_mul, Nat.zero_add]
  have h5 : r ≠ 5 := h0 ▸ (by decide)
  generalize hf : State.admitCtx = f
  delta State.admitCtx at hf
  subst hf
  dsimp -zeta -iota -proj only
  rw [h]
  simp only [hr, if_neg h5, hword]

end

/-- A context descriptor that Table OBJ-2 allows. -/
def CtxDescGood (b : List Byte) : Prop :=
  (fieldAt b 0 4).testBit 0 = true ∧ fieldAt b 0 4 / 2 ^ 8 % 16 ≤ 8 ∧ 4 ≤ fieldAt b 0x10 2 ∧ fieldAt b 0x10 2 ≤ 256 ∧ fieldAt b 0x10 2 % 4 = 0 ∧
    fieldAt b 0x12 2 ≤ 512 ∧ fieldAt b 0x12 2 % 4 = 0 ∧ 1 ≤ fieldAt b 0x14 1 ∧ fieldAt b 0x14 1 ≤ 48

theorem bits_part (w : Nat) : bits w 11 8 = w / 2 ^ 8 % 16 := bits_eq w 11 8

theorem bits_resIdx (w : Nat) : bits w 20 16 = w / 2 ^ 16 % 32 := bits_eq w 20 16

theorem ctxDescBad_eq_false {b : List Byte} : ctxDescBad b = false ↔ CtxDescGood b := by
  simp only [ctxDescBad, CtxDescGood, bits_part, Bool.or_eq_false_iff, Bool.not_eq_false', decide_eq_false_iff_not, Nat.not_lt, ne_eq, Classical.not_not, and_assoc,
    Nat.one_le_iff_ne_zero]

section
variable {s : State} {c : Nat} {b : List Byte}

theorem State.admitResult_of_bad (h : ¬CtxDescGood b) : s.admitResult c b = (1, none) := by
  rw [State.admitResult, if_pos (by simpa using mt ctxDescBad_eq_false.mp h)]

theorem State.admitResult_of_held (h : CtxDescGood b) (hadm : (s.adm? c).isSome = true) : s.admitResult c b = (2, none) := by
  simp only [State.admitResult, ctxDescBad_eq_false.mpr h, hadm, Bool.false_eq_true, if_false, if_true]

/-- What is left to check of a good descriptor of a context that holds nothing: the guard partition and the others. -/
theorem State.admitResult_of_guard (h : CtxDescGood b) (hadm : s.adm? c = none) (hp : fieldAt b 0 4 / 2 ^ 8 % 16 = 8) : s.admitResult c b =
    if s.on D.GD = false then (3, none)
    else if s.residents 8 ≠ [] ∨ fieldAt b 0 4 / 2 ^ 16 % 32 ≠ 0 then (4, none) else (0, some { part := 8, gen := fieldAt b 4 4 }) := by
  simp only [State.admitResult, ctxDescBad_eq_false.mpr h, hadm, bits_part, hp, Option.isSome_none, Bool.false_eq_true, if_false, if_true,
    Bool.not_eq_true', Bool.or_eq_true, decide_eq_true_eq, List.isEmpty_eq_false_iff, bits_resIdx, ne_eq]

theorem State.admitResult_of_part (h : CtxDescGood b) (hadm : s.adm? c = none) (hp : fieldAt b 0 4 / 2 ^ 8 % 16 < 8) : s.admitResult c b =
    let p := fieldAt b 0 4 / 2 ^ 8 % 16
    let ix := fieldAt b 0 4 / 2 ^ 16 % 32
    if s.pState p = .disabled then (3, none)
    else if ∃ x ∈ s.residents p, x.2.resIdx = ix then (4, none)
    else match place (s.residents p) (fieldAt b 0x10 2) (fieldAt b 0x12 2) (fieldAt b 0x14 1) with
      | none => (5, none)
      | some a => (0, some { a with part := p, resIdx := ix }) := by
  simp only [State.admitResult, ctxDescBad_eq_false.mpr h, hadm, bits_part, Nat.ne_of_lt hp, Option.isSome_none, Bool.false_eq_true, if_false,
    Bool.not_eq_true', State.pEnabled, decide_eq_false_iff_not, ne_eq, Classical.not_not, List.any_eq_true, beq_iff_eq, bits_resIdx] <;> rfl

end

end Sys2Proof.Machine

open Sys2Proof Sys2Proof.Machine

/-- Settles O23: an admission is the write of PT_ADMIT with OP 1, an eviction that with OP 2; the conditions of Table PRT-4 are judged in the order of the table. -/
theorem admission : Obligations.Admission := by
  refine ⟨?admits, ?result, ?evict⟩
  case admits =>
    intro s t req ctx b h u k c
    have hexec : exec (.admitCtx req ctx) s = .next (u.admitCtx req c) := writesTo_admitCtx req ctx s 0 h
    rw [hexec]
    refine ⟨fun e he => ?_, fun hb => ⟨fun r hr hr5 => ?_, fun hr => ?_, fun a hr => ?_⟩⟩
    · exact congrArg Host.Outcome.next (State.admitCtx_of_error he)
    · exact congrArg Host.Outcome.next ((State.admitCtx_of_refused hb hr).trans (if_neg hr5))
    · exact congrArg Host.Outcome.next ((State.admitCtx_of_refused hb hr).trans ((if_pos rfl).trans (by rw [bits_part])))
    · exact congrArg Host.Outcome.next (State.admitCtx_of_ok hb hr rfl)
  case result =>
    intro s c b w p ix r t n good
    refine ⟨fun h => State.admitResult_of_bad h, fun h hadm => State.admitResult_of_held h hadm, fun h hadm hp hdis => ?_, fun h hadm hp hen hix => ?_,
      fun h hadm hp hen hix => ⟨fun hpl => ?_, fun a hpl => ?_⟩, fun h hadm hp hon => ?_, fun h hadm hp hon hres => ?_, fun h hadm hp hon hres hix => ?_⟩
    · exact (State.admitResult_of_part h hadm hp).trans (if_pos hdis)
    · exact (State.admitResult_of_part h hadm hp).trans ((if_neg hen).trans (if_pos hix))
    · refine (State.admitResult_of_part h hadm hp).trans ((if_neg hen).trans ((if_neg fun ⟨x, hx, h⟩ => hix x hx h).trans ?_))
      rw [hpl]
    · refine (State.admitResult_of_part h hadm hp).trans ((if_neg hen).trans ((if_neg fun ⟨x, hx, h⟩ => hix x hx h).trans ?_))
      rw [hpl]
    · exact (State.admitResult_of_guard h hadm hp).trans (if_pos hon)
    · exact (State.admitResult_of_guard h hadm hp).trans ((if_neg (by rw [hon]; decide)).trans (if_pos hres))
    · exact (State.admitResult_of_guard h hadm hp).trans ((if_neg (by rw [hon]; decide)).trans (if_neg (by
        rintro (h | h)
        · exact h hres
        · exact h hix)))
  case evict =>
    intro s req ctx h u k c
    have hexec : exec (.evict req ctx) s = .next (u.evict req c) := writesTo_evict req ctx s 0 h
    rw [hexec]
    refine ⟨fun hb => ?_, fun hb hadm => ?_, fun hb hadm => ?_⟩
    · simp only [State.evict, hb, if_true, k]
    · simp only [State.evict, hb, hadm, Option.isNone_none, Bool.false_eq_true, if_false, if_true, k]
    · simp only [State.evict, hb, Option.isNone_eq_false_iff.mpr hadm, Bool.false_eq_true, if_false, k]

end

section
/-! The cyclic schedule (06 R167 to R170). -/

namespace Sys2Proof.Machine

theorem writesTo_schedCtrl {c : Instr} {req : Req} {val : W32} (hexec : ∀ s, exec c s = .next (s.cmdWrite req R.PT_SCHED_CTRL val true)) :
    WritesTo c req R.PT_SCHED_CTRL val (fun u _ => u.wrSchedCtrl val) := by
  refine writesTo_putReg rfl rfl hexec (fun u n hmask hcopy => ?_)
  rfl

section
variable {u : State} {v : W32}

/-- A write of PT_SCHED_CTRL without SWITCH. -/
theorem State.wrSchedCtrl_of_stay (hsw : v.getLsbD 1 = false) : u.wrSchedCtrl v = u.schedRun (v.getLsbD 0) := by
  simp only [State.wrSchedCtrl, bitOf_eq_getLsbD, hsw, Bool.false_and, Bool.false_eq_true, if_false]

/-- One with SWITCH. -/
theorem State.wrSchedCtrl_of_switch (hsw : v.getLsbD 1 = true) : u.wrSchedCtrl v =
    if u.schedLen (1 - u.field R.PT_SCHED_CTRL 2 2) = 0 then u.viol else u.schedSwitch.schedRun (v.getLsbD 0) := by
  simp only [State.wrSchedCtrl, State.otherBank, bitOf_eq_getLsbD, hsw, Bool.true_and, beq_iff_eq, if_true]

theorem State.schedRun_stop : u.schedRun false = u.clrBits R.PT_SCHED_CTRL 9 := rfl

theorem State.schedRun_start : u.schedRun true = if u.bit R.PT_SCHED_CTRL 0 then u
    else if u.schedLen (u.field R.PT_SCHED_CTRL 2 2) = 0 then u.viol else (u.setBits R.PT_SCHED_CTRL 1).entryBegin 0 := by
  simp only [State.schedRun, Bool.not_true, Bool.false_eq_true, if_false]

/-- The entry ends: overruns are counted, and the next entry or the next frame begins. -/
theorem State.entryNext_eq (u : State) : u.entryNext =
    let bank := u.field R.PT_SCHED_CTRL 2 2
    let i := u.field R.PT_SCHED_POS 7 0
    let e := u.schedEntry bank i
    let t := (List.range 8).foldl (fun v p => if favOf e p ≠ 0xFF ∧ v.slotOverrun p (favOf e p) = true then v.inc (rk R.PT_P_SLOT_OVERRUN_COUNT p) else v) u
    if i + 1 < t.schedLen bank then t.entryBegin (i + 1)
    else
      let v := t.inc R.PT_SCHED_FRAME_COUNT
      (if v.bit R.PT_SCHED_CTRL 3 then (v.clrBits R.PT_SCHED_CTRL 8).setBank (1 - bank) else v).entryBegin 0 := by
  simp only [State.entryNext, Bool.and_eq_true, decide_eq_true_eq]

theorem State.schedCommit_eq (u : State) (val : W32) : u.schedCommit val =
    let e := (u.reg R.PT_SCHED_WDATA0 &&& 0xFFFFF, u.reg R.PT_SCHED_WDATA1, val)
    let bank := u.field R.PT_SCHED_WIDX 8 8
    if e.1.toNat % 2 ^ 16 = 0 ∨ (∃ p ∈ List.range 8, 31 < favOf e p ∧ favOf e p ≠ 0xFF) ∨ (u.bit R.PT_SCHED_CTRL 0 = true ∧ bank = u.field R.PT_SCHED_CTRL 2 2) then u.viol
    else { u with pt := { u.pt with sched := storePut (fun _ _ => false) (bank * 256 + u.field R.PT_SCHED_WIDX 7 0) e u.pt.sched } }.setReg R.PT_SCHED_WDATA2 val := by
  have hdur : ∀ w : W32, fld w 15 0 = w.toNat % 2 ^ 16 := fun w => by rw [fld_eq, Nat.pow_zero, Nat.div_one]
  simp only [State.schedCommit, hdur, Bool.or_eq_true, List.any_eq_true, Bool.and_eq_true, decide_eq_true_eq, or_assoc]

end

end Sys2Proof.Machine

open Sys2Proof Sys2Proof.Machine

/-- Settles O24: the commands of PT_SCHED_CTRL are one write, by its SWITCH and its RUN; SWITCH is judged by the RUN that stands before the write, and a write of SWITCH
towards an empty bank is discarded whole (log entry 30). -/
theorem schedule : Obligations.Schedule := by
  refine ⟨?commit, ?run, ?runSwitch, ?stop, ?stopSwitch, ?switch, ?switchRun, ?bank, ?next⟩
  case commit =>
    intro req val
    refine writesTo_putReg rfl rfl (fun _ => rfl) (fun u n hmask hcopy => ?_)
    exact u.schedCommit_eq val
  case run =>
    intro req s n h
    have hexec : exec (.schedRun req false) s = .next ((s.arriving req).wrSchedCtrl 1) := writesTo_schedCtrl (fun _ => rfl) s n h
    rw [hexec, State.wrSchedCtrl_of_stay (by decide), show (1 : W32).getLsbD 0 = true by decide, State.schedRun_start]
  case runSwitch =>
    intro req s n h
    have hexec : exec (.schedRun req true) s = .next ((s.arriving req).wrSchedCtrl 3) := writesTo_schedCtrl (fun _ => rfl) s n h
    rw [hexec, State.wrSchedCtrl_of_switch (by decide), show (3 : W32).getLsbD 0 = true by decide]
  case stop =>
    intro req s n h
    have hexec : exec (.schedStop req false) s = .next ((s.arriving req).wrSchedCtrl 0) := writesTo_schedCtrl (fun _ => rfl) s n h
    rw [hexec, State.wrSchedCtrl_of_stay (by decide), show (0 : W32).getLsbD 0 = false by decide, State.schedRun_stop]
  case stopSwitch =>
    intro req s n h
    have hexec : exec (.schedStop req true) s = .next ((s.arriving req).wrSchedCtrl 2) := writesTo_schedCtrl (fun _ => rfl) s n h
    rw [hexec, State.wrSchedCtrl_of_switch (by decide), show (2 : W32).getLsbD 0 = false by decide, State.schedRun_stop]
  case switch =>
    intro req s n h
    have hexec : exec (.schedSwitch req false) s = .next ((s.arriving req).wrSchedCtrl 2) := writesTo_schedCtrl (fun _ => rfl) s n h
    rw [hexec, State.wrSchedCtrl_of_switch (by decide), show (2 : W32).getLsbD 0 = false by decide, State.schedRun_stop]
  case switchRun =>
    intro req s n h
    have hexec : exec (.schedSwitch req true) s = .next ((s.arriving req).wrSchedCtrl 3) := writesTo_schedCtrl (fun _ => rfl) s n h
    rw [hexec, State.wrSchedCtrl_of_switch (by decide), show (3 : W32).getLsbD 0 = true by decide]
  case bank =>
    intro s b
    refine ⟨fun hrun => ?_, fun hrun => ?_⟩
    · simp only [State.schedSwitch, hrun, if_true]
    · simp only [State.schedSwitch, State.otherBank, State.setBank, hrun, Bool.false_eq_true, if_false, b]
  case next =>
    intro s hroot hrun bank i e t
    have hexec : exec .schedEntryStart s = .next s.entryNext := by
      simp only [exec, execSchedEntryStart, State.rooted_of _ _ hroot, hrun, when'_of]
    rw [hexec, State.entryNext_eq]
    refine ⟨fun hi => congrArg Host.Outcome.next (if_pos hi), fun hi => ?_⟩
    intro v
    refine ⟨fun hsw => ?_, fun hsw => ?_⟩
    · refine congrArg Host.Outcome.next ((if_neg (Nat.not_lt.mpr hi)).trans ?_)
      exact congrArg (fun w => State.entryBegin w 0) (if_neg (Bool.eq_false_iff.mp hsw))
    · refine congrArg Host.Outcome.next ((if_neg (Nat.not_lt.mpr hi)).trans ?_)
      exact congrArg (fun w => State.entryBegin w 0) (if_pos hsw)

end

section
/-! Self-tests and repair (06 R171 to R174). -/

namespace Sys2Proof.Machine

theorem writesTo_repair {c : Instr} {req : Req} {val : W32} (hexec : ∀ s, exec c s = .next (s.cmdWrite req R.PT_REPAIR val true)) :
    WritesTo c req R.PT_REPAIR val (fun u _ => u.wrRepair val) := by
  refine writesTo_putReg rfl rfl hexec (fun u n hmask hcopy => ?_)
  rfl

section
variable {u : State} {v : W32}

theorem State.wrRepair_test (hop : fld v 9 8 = 1) : u.wrRepair v =
    if u.bit R.PT_REPAIR_STATUS 7 = true ∨ u.repairable (fld v 4 0) = false then u.viol else u.setRegN R.PT_REPAIR_STATUS (2 ^ 7 + fld v 4 0) := by
  simp only [State.wrRepair, hop, Bool.or_eq_true, Bool.not_eq_true']

theorem State.wrRepair_fence (hop : fld v 9 8 = 2) : u.wrRepair v = u.fenceCore (fld v 4 0) := by
  simp only [State.wrRepair, hop]

theorem State.wrRepair_unfence (hop : fld v 9 8 = 3) : u.wrRepair v =
    if u.repairable (fld v 4 0) = false then u.viol
    else if u.fenced (fld v 4 0) then (u.clrBits R.PT_FENCED (2 ^ fld v 4 0)).coreLose (fld v 4 0) else u := by
  simp only [State.wrRepair, hop, Bool.not_eq_true']

end

/-- A command of PT_REPAIR: OP above the core that it names. -/
theorem writesTo_repair_op {c : Instr} {req : Req} {core : BitVec 5} {w : W32} {f : State → State} (k op : Nat) (hw : w = BitVec.ofNat 32 k) (hk : k = op * 2 ^ 8) (hop4 : op < 4)
    (hexec : ∀ s, exec c s = .next (s.cmdWrite req R.PT_REPAIR (BitVec.ofNat 32 (k + core.toNat)) true))
    (hf : ∀ (u : State) (v : W32), fld v 9 8 = op → fld v 4 0 = core.toNat → u.wrRepair v = f u) :
    WritesTo c req R.PT_REPAIR (w + core.setWidth 32) (fun u _ => f u) := by
  subst hw
  intro s n h
  have hexec' : ∀ s, exec c s = .next (s.cmdWrite req R.PT_REPAIR (BitVec.ofNat 32 k + core.setWidth 32) true) := fun s => by
    rw [hexec, ofNat_add_toNat]
  refine (writesTo_repair hexec' s n h).trans (congrArg Host.Outcome.next (hf _ _ ?_ ?_))
  · exact fld_op rfl hk (by decide) hop4
  · exact fld_index rfl hk rfl (by decide) hop4

/-- A test holds at most as many packets as it looks for. -/
theorem State.heldByTest_le (k : Nat) (s : State) (n : Nat) : State.heldByTest k s n ≤ k := by
  induction k generalizing s with
  | zero => exact Nat.le_refl _
  | succ k ih =>
    rw [State.heldByTest]
    split
    · exact Nat.zero_le _
    split
    · exact Nat.zero_le _
    split
    · exact Nat.zero_le _
    · have := ih (s.modPkt ‹QPkt›.id (fun p => { p with started := true }))
      omega

end Sys2Proof.Machine

open Sys2Proof Sys2Proof.Machine

/-- Settles O25: the requests are writes of PT_SELFTEST_REQ and of PT_REPAIR, and each test has its end. That at most 2 packets are counted, that a test is ignored while CE is
off and that unfencing leaves the contents undefined are log entry 31. -/
theorem selfTestsAndRepair : Obligations.SelfTestsAndRepair := by
  refine ⟨?req, ?ceEnd, ?test, ?fence, ?unfence, ?coreEnd⟩
  case req =>
    intro req val
    refine writesTo_putReg rfl rfl (fun _ => rfl) (fun u n hmask hcopy => ?_)
    change u.wrSelftestReq (fld val 3 0) = _
    have hset : Machine.setBits 4 (fld val 3 0) = (List.range 4).filter val.getLsbD := by
      refine List.filter_congr fun n hn => ?_
      have hn4 : n < 4 := List.mem_range.mp hn
      rw [fld_eq, Nat.pow_zero, Nat.div_one, Nat.testBit_mod_two_pow, BitVec.getLsbD]
      simp [hn4]
    simp only [State.wrSelftestReq, hset, State.ceTest, State.ceBusy, decide_eq_true_eq]
  case ceEnd =>
    intro s n pass hroot hn hbit h t u
    refine ⟨State.heldByTest_le 2 s n, ?_⟩
    simp only [exec, execCeSelftestEnd, State.rooted_of _ _ hroot, hn, hbit, decide_true, Bool.and_self, if_true]
    rfl
  case test =>
    intro req core
    refine writesTo_repair_op (2 ^ 8) 1 rfl rfl (by decide) (fun _ => rfl) (fun u v hop hcore => ?_)
    rw [State.wrRepair_test hop, hcore]
  case fence =>
    intro req core
    refine writesTo_repair_op (2 * 2 ^ 8) 2 rfl rfl (by decide) (fun _ => rfl) (fun u v hop hcore => ?_)
    rw [State.wrRepair_fence hop, hcore, State.fenceCore]
    rfl
  case unfence =>
    intro req core
    refine writesTo_repair_op (3 * 2 ^ 8) 3 rfl rfl (by decide) (fun _ => rfl) (fun u v hop hcore => ?_)
    rw [State.wrRepair_unfence hop, hcore]
    rfl
  case coreEnd =>
    intro s hroot hbusy c
    refine ⟨?_, ?_⟩
    · simp only [exec, execCoreSelftestEnd, State.rooted_of _ _ hroot, hbusy, b2n, Nat.one_mul, if_true, c]
    · simp only [exec, execCoreSelftestEnd, State.rooted_of _ _ hroot, hbusy, b2n, Nat.zero_mul, Nat.zero_add, Bool.false_eq_true, if_false, if_true, c]

end

section
/-! The packets of the guard queue (07 R181 to R183, R195). -/

namespace Sys2Proof.Machine

/-- The offset and the length of a GLOAD or GSTORE. -/
theorem guardSpan_eq (p : Packet) : guardSpan p = (p.a1 % 2 ^ 21, p.a2 % 2 ^ 22) := by
  rw [guardSpan, bits_eq, bits_eq, Nat.pow_zero, Nat.div_one, Nat.div_one]

theorem guardSpanBad_iff {off len : Nat} : guardSpanBad off len = true ↔ off % 64 ≠ 0 ∨ len % 64 ≠ 0 ∨ 2 ^ 21 < off + len := by
  simp only [guardSpanBad, Bool.or_eq_true, decide_eq_true_eq, or_assoc]

section
variable {s t u : State} {p : QPkt} {off pkt : Nat}

theorem execGload_of_bad (hroot : s.rootLock = true) (hst : s.start 52 0x40 = some (p, t))
    (h : guardSpanBad (guardSpan p.pkt).1 (guardSpan p.pkt).2 = true ∨ t.gArmedOver (guardSpan p.pkt).1 (guardSpan p.pkt).2 = true) :
    exec .gload s = .next (t.pktBad p.id 52 0) := by
  simp only [exec, execGload, State.rooted_of _ _ hroot, hst]
  exact if_pos (by rwa [Bool.or_eq_true])

theorem execGload_of_go (hroot : s.rootLock = true) (hst : s.start 52 0x40 = some (p, t))
    (hspan : guardSpanBad (guardSpan p.pkt).1 (guardSpan p.pkt).2 = false) (harm : t.gArmedOver (guardSpan p.pkt).1 (guardSpan p.pkt).2 = false)
    (hgo : t.gloadGo (fenceWho 52 p) (guardSpan p.pkt).1 (linePieces p.pkt.a0 (guardSpan p.pkt).2) = (.ok (), u)) :
    exec .gload s = .next (u.finish52 p.id 0) := by
  simp only [exec, execGload, State.rooted_of _ _ hroot, hst]
  refine (if_neg (by rw [hspan, harm]; decide)).trans ?_
  rw [hgo]

theorem execGstore_of_bad (hroot : s.rootLock = true) (hst : s.start 52 0x41 = some (p, t))
    (h : guardSpanBad (guardSpan p.pkt).1 (guardSpan p.pkt).2 = true) : exec .gstore s = .next (t.pktBad p.id 52 0) := by
  simp only [exec, execGstore, State.rooted_of _ _ hroot, hst]
  exact if_pos h

theorem execGstore_of_go (hroot : s.rootLock = true) (hst : s.start 52 0x41 = some (p, t))
    (hspan : guardSpanBad (guardSpan p.pkt).1 (guardSpan p.pkt).2 = false)
    (hgo : (t.sramRead2 (guardSpan p.pkt).1 (guardSpan p.pkt).2).2.vwrite (fenceWho 52 p) p.pkt.a0 (t.sramRead2 (guardSpan p.pkt).1 (guardSpan p.pkt).2).1 false = (.ok (), u)) :
    exec .gstore s = .next (u.finish52 p.id 0) := by
  simp only [exec, execGstore, State.rooted_of _ _ hroot, hst]
  refine (if_neg (by rw [hspan]; decide)).trans ?_
  rw [hgo]

/-! ### Arming -/

/-- Check a header and arm it, or refuse. -/
theorem State.tryArm_of_refused {held : State → State} {r : Nat} {x : State}
    (h : (s.sramRead2 off 64).2.armRefusal (s.sramRead2 off 64).1 (parseGHdr off (s.sramRead2 off 64).1) = (some r, x)) :
    s.tryArm off pkt held = held (x.refuseArm r pkt) := by
  simp only [State.tryArm, h]

theorem State.tryArm_of_ok {held : State → State} {x : State}
    (h : (s.sramRead2 off 64).2.armRefusal (s.sramRead2 off 64).1 (parseGHdr off (s.sramRead2 off 64).1) = (none, x)) :
    s.tryArm off pkt held = x.beginArm (parseGHdr off (s.sramRead2 off 64).1) pkt := by
  simp only [State.tryArm, h]

/-- After a publication the ARM that waited is tried. -/
theorem State.afterPublish_of_arm (harm : u.gd.waitArm = some (off, pkt)) (htest : u.gd.waitTest = none) (hdis : u.gd.waitDisarm = none) :
    u.afterPublish =
      let v := { u with gd := { u.gd with pod := none } }.setField R.GD_STATUS 2 0 2
      { v with gd := { v.gd with waitArm := none } }.tryArm off pkt (fun s => s.enterIdle.settlePin) := by
  simp only [State.afterPublish, harm, htest, hdis]
  rfl

theorem execArmPacket_of (hroot : s.rootLock = true) (hst : s.start 52 0x42 = some (p, t)) : exec .armPacket s =
    if p.pkt.a0 % 2 ^ 21 % 64 ≠ 0 then .next (t.pktBad p.id 52 0)
    else if t.gState = 3 then .next { t with gd := { t.gd with waitArm := some (p.pkt.a0 % 2 ^ 21, p.id) } }
    else .next (t.tryArm (p.pkt.a0 % 2 ^ 21) p.id id) := by
  have hoff : bits p.pkt.a0 20 0 = p.pkt.a0 % 2 ^ 21 := by rw [bits_eq, Nat.pow_zero, Nat.div_one]
  simp only [exec, execArmPacket, State.rooted_of _ _ hroot, hst, hoff]

theorem execDisarmPacket_of (hroot : s.rootLock = true) (hst : s.start 52 0x43 = some (p, t)) : exec .disarmPacket s =
    if t.gState = 3 then .next { t with gd := { t.gd with waitDisarm := some p.id } } else .next (t.disarm.finish52 p.id 0) := by
  simp only [exec, execDisarmPacket, State.rooted_of _ _ hroot, hst]

theorem execGuardSelftest_of (hroot : s.rootLock = true) (hst : s.start 52 0x44 = some (p, t)) : exec .guardSelftest s =
    if t.gState = 0 ∨ t.gState = 5 then .next (t.beginTest p.id)
    else if t.gState = 4 ∨ 15000 + (t.gd.hdr.map (·.bound)).getD 0 ≤ t.field R.GD_STALE_LIMIT 7 0 * t.field R.GD_PERIOD 23 0 then
      .next { t with gd := { t.gd with waitTest := some p.id } }
    else .next (t.skipTest p.id) := by
  simp only [exec, execGuardSelftest, State.rooted_of _ _ hroot, hst, State.testFits, Bool.or_eq_true, decide_eq_true_eq]

end

end Sys2Proof.Machine

open Sys2Proof Sys2Proof.Machine

/-- Settles O26: a guard packet starts on queue 52 and does what its own step says. What waits for a run's end, and that an ARM that waited is checked then, is log entry 51. -/
theorem guardPackets : Obligations.GuardPackets := by
  refine ⟨?packets, ?complete⟩
  case packets =>
    intro s t p off len bad invalid hroot
    have hspan : guardSpan p.pkt = (off, len) := guardSpan_eq p.pkt
    have hbad : ¬bad → guardSpanBad (guardSpan p.pkt).1 (guardSpan p.pkt).2 = false := fun h => by
      rw [hspan]
      exact Bool.eq_false_iff.mpr (mt guardSpanBad_iff.mp h)
    refine ⟨fun hst => ⟨fun h => ?_, fun u hgood harm hgo => ?_⟩, fun hst => ⟨fun h => ?_, fun u hgood hgo => ?_⟩, fun hst => ?arm, fun hst => ?disarm, fun hst => ?test⟩
    · exact execGload_of_bad hroot hst (by rw [hspan]; exact h.imp_left guardSpanBad_iff.mpr)
    · exact execGload_of_go hroot hst (hbad hgood) (by rw [hspan]; exact harm) (by rw [hspan]; exact hgo)
    · exact execGstore_of_bad hroot hst (by rw [hspan]; exact guardSpanBad_iff.mpr h)
    · exact execGstore_of_go hroot hst (hbad hgood) (by rw [hspan]; exact hgo)
    case arm =>
      intro a b refused
      rw [execArmPacket_of hroot hst]
      refine ⟨fun hal => if_pos hal, fun hal hrun => ?_, fun r x hal hrun hr => ?_, fun x hal hrun hr => ?_, fun u harm htest hdis => ?_⟩
      · exact (if_neg (Classical.not_not.mpr hal)).trans (if_pos hrun)
      · exact (if_neg (Classical.not_not.mpr hal)).trans ((if_neg hrun).trans (congrArg Host.Outcome.next (State.tryArm_of_refused hr)))
      · exact (if_neg (Classical.not_not.mpr hal)).trans ((if_neg hrun).trans (congrArg Host.Outcome.next (State.tryArm_of_ok hr)))
      · intro v c
        rw [State.afterPublish_of_arm harm htest hdis]
        exact ⟨fun x hr => State.tryArm_of_ok hr, fun r x hr => State.tryArm_of_refused hr⟩
    case disarm =>
      rw [execDisarmPacket_of hroot hst]
      exact ⟨fun h => if_pos h, fun h => if_neg h⟩
    case test =>
      intro fresh
      rw [execGuardSelftest_of hroot hst]
      refine ⟨fun h => if_pos h, fun h0 h5 h => ?_, fun h0 h5 h4 h => ?_⟩
      · exact (if_neg (not_or.mpr ⟨h0, h5⟩)).trans (if_pos h.symm)
      · exact (if_neg (not_or.mpr ⟨h0, h5⟩)).trans (if_neg (not_or.mpr ⟨h4, h⟩))
  case complete =>
    intro s p hroot harming hst t
    simp only [exec, execArmComplete, State.rooted_of _ _ hroot, harming, hst, if_true]
    rfl

end

section
/-! Runs of the guard (07 R179, R186 to R196; 09 R264). -/

namespace Sys2Proof.Machine

theorem writesTo_gdWake {c : Instr} {req : Req} {val : W32} (hexec : ∀ s, exec c s = .next (s.cmdWrite req R.GD_WAKE val true)) :
    WritesTo c req R.GD_WAKE val (fun u _ => u.wrGdWake val) := by
  refine writesTo_putReg rfl rfl hexec (fun u n hmask hcopy => ?_)
  rfl

section
variable {s : State}

/-! ### Wakes -/

theorem State.wake_of_off (hon : s.on D.GD = false) : s.wake = s := by
  simp only [State.wake, hon, Bool.not_false, if_true]

theorem State.wake_of_merged (hon : s.on D.GD = true) (h : s.gState = 0 ∨ s.gState = 5 ∨ s.bit R.GD_STATUS 6 = true) : s.wake = s.inc R.GD_WAKE_MERGE_COUNT := by
  simp only [State.wake, hon, Bool.not_true, Bool.false_eq_true, if_false]
  rcases h with h | h | h
  · exact if_pos (by rw [h]; rfl)
  · exact if_pos (by rw [h]; rfl)
  · have hpend : s.gPending = true := h
    simp only [hpend, if_true, ite_self]

theorem State.wake_of_free (hon : s.on D.GD = true) (h0 : s.gState ≠ 0) (h5 : s.gState ≠ 5) (h : s.bit R.GD_STATUS 6 = false) : s.wake =
    if s.gState = 2 then (s.setField R.GD_STATUS 6 6 1).enterIdle else s.setField R.GD_STATUS 6 6 1 := by
  have hpend : s.gPending = false := h
  simp only [State.wake, hon, Bool.not_true, hpend, h0, h5, decide_false, Bool.or_false, Bool.false_eq_true, if_false]
  rfl

/-! ### Staleness, restart and self-test -/

theorem State.testAtPublication_of_none (h : s.gd.waitTest = none) : s.testAtPublication = s := by
  simp only [State.testAtPublication, h]

theorem State.testAtPublication_of_some {p : Nat} (h : s.gd.waitTest = some p) : s.testAtPublication = if s.gState = 2 then s.beginTest p else s := by
  simp only [State.testAtPublication, h]

theorem State.restartIdle_of_none (h : s.gd.waitTest = none) : s.restartIdle = { s with gd := { s.gd with watchdog := true } }.enterIdle.settlePin := by
  simp only [State.restartIdle, h]

theorem State.restartIdle_of_some {p : Nat} (h : s.gd.waitTest = some p) : s.restartIdle =
    let w := { s with gd := { s.gd with watchdog := true } }
    if w.testFits then w.enterIdle.settlePin else (w.skipTest p).enterIdle.settlePin := by
  simp only [State.restartIdle, h]
  split <;> rfl

theorem execStaleExpiry_of (hroot : s.rootLock = true) (hdog : s.gd.watchdog = true) (hst : s.gState = 2 ∨ s.gState = 3) : exec .staleExpiry s = .next (
    let t := (({ s with gd := { s.gd with watchdog := false } }.setField R.GD_STATUS 4 4 1).setField R.GD_STATUS 15 8 0)
    let came : Nat := if t.gd.hdr.any (fun (h : GHdr) => h.inAp == 0xFF) then 0 else Config.freeValue t.free % 2 ^ 32
    ((({ t with free := t.free + 1 }.publish (0x2E + (if t.bit R.GD_CTRL 0 then 0x100 else 0)) 0 0 came).inc R.GD_STALE_COUNT).event 1 [tagGF]).settlePin.testAtPublication) := by
  have hgo : (s.gd.watchdog && (s.gState == G.IDLE || s.gState == G.RUNNING)) = true := by
    rw [hdog, Bool.true_and, Bool.or_eq_true, beq_iff_eq, beq_iff_eq]
    exact hst
  have hforced : ∀ b : Bool, b2n b * 2 ^ 8 = if b then 0x100 else 0 := by decide
  simp only [exec, execStaleExpiry, State.rooted_of _ _ hroot, hgo, when'_of, hforced]
  rfl

theorem execRestartEnd_of {h : GHdr} {crc : Nat} {read : State} (hcrc : s.codeCrc h = (crc, read)) (hroot : s.rootLock = true) (hhdr : s.gd.hdr = some h) (hst : s.gState = 4) : exec .restartEnd s = .next (
    let t := (((read.sramZero h.stateOff h.stateSize).inc R.GD_RESTART_COUNT).event 1 [tagGF]).setField R.GD_STATUS 15 8 0
    if crc = h.crc then t.restartIdle
    else { (t.guardOnion 0x65 32 none).2 with gd := { (t.guardOnion 0x65 32 none).2.gd with hdr := none } }.enterFailed) := by
  have hgo : (s.gState == G.RESTARTING) = true := beq_iff_eq.mpr hst
  simp only [exec, execRestartEnd, State.rooted_of _ _ hroot, hhdr, hgo, when'_of, hcrc]
  rfl

theorem execGuardSelftestEnd_of {p : Nat} (pass : Bool) (hroot : s.rootLock = true) (htest : s.gd.testPkt = some p) : exec (.guardSelftestEnd pass) s = .next (
    let t := ({ s with gd := { s.gd with testPkt := none } }.clrBits R.GD_ST_STATUS 0x11).finish52 p 0
    let u := t.setBits R.GD_ST_STATUS 0x10
    if pass then
      if u.bit R.GD_STATUS 6 && u.gState == 2 then (((u.setField R.GD_STATUS 6 6 0).setBits R.GD_ST_STATUS 2).inc R.GD_ST_DELAY_COUNT).runStart true else u
    else ((t.setBits R.GD_ST_STATUS 4).guardOnion 0x66 32 none).2.enterFailed) := by
  simp only [exec, execGuardSelftestEnd, State.rooted_of _ _ hroot, htest]
  cases pass with
  | false => rfl
  | true =>
    simp only [Bool.not_true, Bool.false_eq_true, if_false, if_true]
    exact (apply_ite Host.Outcome.next _ _ _).symm

end

/-- An issued instruction of the guard core leaves the armed header. -/
theorem State.moved_guard_hdr (u : State) (p : Pod) (op : Nat) (i : Ins) : (u.moved .guard p op i).gd.hdr = u.gd.hdr := rfl

end Sys2Proof.Machine

open Sys2Proof Sys2Proof.Machine

/-- Settles O27: wakes by the state of the guard, then each end of a run by its own step. The free IN_ARRIVED and FORCED of a stale record, that a publication in IDLE starts a
test that waits, and the steps of RESTART_END are log entry 51. -/
theorem guardRuns : Obligations.GuardRuns := by
  refine ⟨?wakeOne, ?wakeZero, ?ends, ?verdict⟩
  case wakeOne =>
    intro req s n h
    have hexec : exec (.gdWake req true) s = .next ((s.arriving req).wrGdWake 1) := writesTo_gdWake (fun _ => rfl) s n h
    rw [hexec]
    rfl
  case wakeZero =>
    intro req s n h
    have hexec : exec (.gdWake req false) s = .next ((s.arriving req).wrGdWake 0) := writesTo_gdWake (fun _ => rfl) s n h
    rw [hexec]
    rfl
  case ends =>
    intro s
    refine ⟨State.wake_of_off, State.wake_of_merged, fun hon hst hpend => ?held, fun hon hst hpend => ?start, fun hroot hst hb => ?bound, rfl, ?stale, ?restart, ?test⟩
    case held =>
      have hne : s.gState ≠ 0 ∧ s.gState ≠ 5 ∧ s.gState ≠ 2 := by
        simp only [List.mem_cons, List.not_mem_nil, or_false] at hst
        omega
      obtain ⟨h0, h5, h2⟩ := hne
      rw [State.wake_of_free hon h0 h5 hpend, if_neg h2]
    case start =>
      rw [State.wake_of_free hon (by omega) (by omega) hpend, if_pos hst]
    case bound =>
      have hgo : (s.gState == G.RUNNING && s.boundReached) = true := by rw [hb, Bool.and_true]; exact beq_iff_eq.mpr hst
      simp only [exec, execBoundExceeded, State.rooted_of _ _ hroot, hgo, when'_of]
    case stale =>
      intro hroot hdog hst t came u
      rw [execStaleExpiry_of hroot hdog hst]
      exact ⟨fun hnone => congrArg Host.Outcome.next (State.testAtPublication_of_none hnone), fun p hsome => congrArg Host.Outcome.next (State.testAtPublication_of_some hsome)⟩
    case restart =>
      intro h crc read hroot hhdr hst hcrc t u
      rw [execRestartEnd_of hcrc hroot hhdr hst]
      refine ⟨fun heq hnone => ?_, fun p heq hsome => ?_, fun hne => ?_⟩
      · exact congrArg Host.Outcome.next ((if_pos heq).trans (State.restartIdle_of_none hnone))
      · intro w
        refine congrArg Host.Outcome.next ((if_pos heq).trans ((State.restartIdle_of_some hsome).trans ?_))
        simp only [State.testFits, decide_eq_true_eq]
        rfl
      · exact congrArg Host.Outcome.next (if_neg hne)
    case test =>
      intro p hroot htest t u
      refine ⟨execGuardSelftestEnd_of false hroot htest, fun hno => ?_, fun hpend hidle => ?_⟩
      · refine (execGuardSelftestEnd_of true hroot htest).trans (congrArg Host.Outcome.next ((if_pos rfl).trans (if_neg ?_)))
        rw [Bool.and_eq_true, beq_iff_eq]
        exact hno
      · refine (execGuardSelftestEnd_of true hroot htest).trans (congrArg Host.Outcome.next ((if_pos rfl).trans (if_pos ?_)))
        rw [Bool.and_eq_true, beq_iff_eq]
        exact ⟨hpend, hidle⟩
  case verdict =>
    intro s u p i h fin cyc hissue hhdr hfin hraw
    have hcyc : (u.moved .guard p 0x06 i).cycles .guard p 0x06 i = (cyc, u.moved .guard p 0x06 i) := by
      simp only [State.cycles, cyc]
      split <;> rfl
    have hbound : (((u.moved .guard p 0x06 i).gd.hdr.map (·.bound)).getD 0) = h.bound := by rw [State.moved_guard_hdr, hhdr]; rfl
    simp only [exec, execVerdict]
    rw [issue_of_issuesAt hissue (by decide)]
    have hlt : ¬h.bound < p.verdictEnd i := Nat.not_lt.mpr hfin
    simp only [hcyc, hbound, if_neg hraw, if_neg hlt]
    rfl

end

section
/-! A render pass: its start, binning, tiles and end (12 R303 to R321). -/

namespace Sys2Proof.Machine

/-- RAS_STATUS of the first segment. -/
theorem State.rasStatus_zero (s : State) (ctx st : Nat) : s.rasStatus 0 ctx st = s.setRegN R.RAS_STATUS (ctx % 256 * 2 ^ 8 + st) := by
  rw [State.rasStatus, Nat.zero_mod, Nat.zero_mul, Nat.zero_add]

section
variable {s t u v w : State} {q : Nat} {p : QPkt} {a : Pass}

/-! ### RENDER_PASS -/

theorem execRenderPass_of_bad (hroot : s.rootLock = true) (hon : (s.on D.BN && decide (32 ≤ q) && decide (q < 36)) = true) (hst : s.start q 2 = some (p, t))
    (hbad : ¬(p.pkt.a1 = 0 ∧ p.pkt.a2 = 0 ∧ p.pkt.a0 % 64 = 0)) : exec (.renderPass q) s = .next (t.pktBad p.id q 0x20) := by
  simp only [exec, execRenderPass, State.rooted_of _ _ hroot, hon, if_true, hst]
  refine if_pos ?_
  simp only [Bool.or_eq_true, decide_eq_true_eq, ne_eq]
  grind

section
variable {d : List Byte} (hroot : s.rootLock = true) (hon : (s.on D.BN && decide (32 ≤ q) && decide (q < 36)) = true)
  (hst : s.start q 2 = some (p, t)) (hok : p.pkt.a1 = 0 ∧ p.pkt.a2 = 0 ∧ p.pkt.a0 % 64 = 0) (hread : t.vread (fenceWho q p) p.pkt.a0 512 = (.ok d, u))
include hroot hon hst hok hread

theorem execRenderPass_of_refused {n : Nat} (hpass : u.passRead (fenceWho q p) d ((u.adm? p.ctx).getD {}) = (.error (.bad n), v)) :
    exec (.renderPass q) s = .next (v.pktBad p.id q n) := by
  obtain ⟨h1, h2, h0⟩ := hok
  simp only [exec, execRenderPass, State.rooted_of _ _ hroot, hon, if_true, hst, hread, h1, h2, h0, ne_eq, not_true_eq_false, decide_false, Bool.or_false, Bool.false_eq_true,
    if_false, hpass]

theorem execRenderPass_of_ok {sh : List Shader} (hpass : u.passRead (fenceWho q p) d ((u.adm? p.ctx).getD {}) = (.ok sh, v))
    (hwrite : v.vwrite (fenceWho q p) (passOf p d ((u.adm? p.ctx).getD {}) sh).hdrVA
      (List.replicate (16 * ((passOf p d ((u.adm? p.ctx).getD {}) sh).tx * (passOf p d ((u.adm? p.ctx).getD {}) sh).ty)) 0) false = (.ok (), w)) :
    exec (.renderPass q) s = .next ({ w with pass := some (passOf p d ((u.adm? p.ctx).getD {}) sh) }.rasStatus 0 p.ctx (if fieldAt d 0x28 4 = 0 then 4 else 2)) := by
  obtain ⟨h1, h2, h0⟩ := hok
  simp only [exec, execRenderPass, State.rooted_of _ _ hroot, hon, if_true, hst, hread, h1, h2, h0, ne_eq, not_true_eq_false, decide_false, Bool.or_false, Bool.false_eq_true,
    if_false, hpass, hwrite]
  rfl

end

/-! ### PRIMITIVE_BIN -/

/-- The packet of the pass that binning leaves. -/
def BinRes.pkt : BinRes → Nat
  | .ok a => a.pkt
  | .flush a => a.pkt
  | .fault a _ => a.pkt

theorem State.carve_pkt (s : State) (a : Pass) : (s.carve a).1.pkt = a.pkt := by
  unfold State.carve
  split
  · rfl
  split
  · rfl
  split
  · rfl
  · split <;> rfl
  · rfl

theorem State.binAppend_pkt (s : State) (a : Pass) (tile ix : Nat) : (s.binAppend a tile ix).1.pkt = a.pkt := by
  unfold State.binAppend
  simp only
  split
  · split <;> rfl
  split
  · rename_i c u hcarve
    have hpkt : c.pkt = a.pkt := by simpa only [hcarve, BinRes.pkt] using s.carve_pkt a
    split <;> exact hpkt
  · exact s.carve_pkt a

theorem State.binAll_pkt (s : State) (a : Pass) (ix : Nat) (ts : List Nat) : (s.binAll a ix ts).1.pkt = a.pkt := by
  induction ts generalizing s a with
  | nil => rfl
  | cons t ts ih =>
    unfold State.binAll
    split
    · rename_i c u happend
      have hpkt : c.pkt = a.pkt := by simpa only [happend, BinRes.pkt] using s.binAppend_pkt a t ix
      rw [ih, hpkt]
    · exact s.binAppend_pkt a t ix

section
variable {b : List Byte} (hroot : s.rootLock = true) (hpass : s.pass = some a) (hphase : a.phase = .binning) (hlive : s.pktLive a.pkt = true)
  (hon : s.on D.BN = true) (hread : s.vread a.who (a.primVA + 48 * a.prim) 48 = (.ok b, t))
include hroot hpass hphase hlive hon hread

theorem execPrimitiveBin_of_rejected (hrej : primRejected a.shaders.length (parsePrim a.prim b) b = true) :
    exec .primitiveBin s = .next ((t.inc R.RAS_PRIM_REJECT_COUNT).primNext a) := by
  simp only [exec, execPrimitiveBin, State.rooted_of _ _ hroot, hpass, hphase, hlive, hon, ne_eq, not_true_eq_false, decide_false, Bool.not_true, Bool.or_false,
    Bool.false_eq_true, if_false, hread, hrej, if_true]

theorem execPrimitiveBin_of_degenerate (hrej : primRejected a.shaders.length (parsePrim a.prim b) b = false) (harea : (parsePrim a.prim b).area = 0) :
    exec .primitiveBin s = .next ((t.inc R.RAS_PRIM_DEGEN_COUNT).primNext a) := by
  simp only [exec, execPrimitiveBin, State.rooted_of _ _ hroot, hpass, hphase, hlive, hon, ne_eq, not_true_eq_false, decide_false, Bool.not_true, Bool.or_false,
    Bool.false_eq_true, if_false, hread, hrej, harea, if_true]

/-- A primitive that is appended to the bins of its tiles, or finds bin memory out, or cannot be written. -/
theorem execPrimitiveBin_of_binned {r : BinRes} (hrej : primRejected a.shaders.length (parsePrim a.prim b) b = false) (harea : (parsePrim a.prim b).area ≠ 0)
    (hbin : t.binAll a a.prim (a.tilesMet (parsePrim a.prim b)) = (r, u)) :
    (∀ c, r = .ok c → exec .primitiveBin s = .next ((u.inc R.RAS_PRIM_COUNT).primNext c)) ∧
    (∀ c, r = .flush c → exec .primitiveBin s = .next ({ u with pass := some { c with phase := .flushing, nextTile := 0 } }.rasStatus c.seg c.ctx 3)) ∧
    (∀ c f, r = .fault c f → f.waits = false → exec .primitiveBin s = .next ({ u with pass := some c }.pktFault a.pkt f 0x80)) := by
  simp only [exec, execPrimitiveBin, State.rooted_of _ _ hroot, hpass, hphase, hlive, hon, ne_eq, not_true_eq_false, decide_false, Bool.not_true, Bool.or_false,
    Bool.false_eq_true, if_false, hread, hrej, harea, hbin]
  refine ⟨fun c h => ?_, fun c h => ?_, fun c f h hw => ?_⟩
  · rw [h]
  · rw [h]
  · have hpkt : c.pkt = a.pkt := by simpa only [hbin, h, BinRes.pkt] using t.binAll_pkt a a.prim (a.tilesMet (parsePrim a.prim b))
    simp only [h, hw, Bool.false_eq_true, if_false, hpkt]

end

/-! ### FLUSH_RESUME and PASS_PAGE_RETURN -/

theorem execFlushResume_of (hroot : s.rootLock = true) (hpass : s.pass = some a) (hphase : a.phase = .flushing) (htiles : a.tiles = []) (hlin : a.nextLin = none)
    (hlive : s.pktLive a.pkt = true) (hon : s.on D.BN = true)
    (hwrite : s.vwrite a.who a.hdrVA ((List.range (a.tx * a.ty)).flatMap (fun k => hdrBytes 0 0 (a.written.contains k))) false = (.ok (), t)) :
    exec .flushResume s = .next (({ t with pass := some { a with phase := .binning, bins := [], carved := 0, nextTile := 0, seg := a.seg + 1 } }.inc
      R.RAS_FLUSH_COUNT).rasStatus (a.seg + 1) a.ctx 2) := by
  simp only [exec, execFlushResume, State.rooted_of _ _ hroot, hpass, hphase, htiles, hlin, hlive, hon, ne_eq, not_true_eq_false, decide_false, Bool.not_true, Bool.or_false,
    List.isEmpty_nil, Option.isSome_none, Bool.false_eq_true, if_false, hwrite]

theorem execPassPageReturn_of (hroot : s.rootLock = true) (hpass : s.pass = some a) (hphase : a.phase = .final) (htiles : a.tiles = []) (hlin : a.nextLin = none)
    (hlive : s.pktLive a.pkt = true) (hdrained : s.pktDrained a.pkt = true) :
    exec .passPageReturn s = .next (((s.l1CleanAll a.ctx).passEnd a).finish a.pkt) := by
  simp only [exec, execPassPageReturn, State.rooted_of _ _ hroot, hpass, hphase, htiles, hlin, hlive, hdrained, beq_self_eq_true, Bool.and_true,
    List.isEmpty_nil, Option.isNone_none, when'_of]

theorem State.passEnd_eq (s : State) (a : Pass) :
    s.passEnd a = { (if a.pages = [] then s else s.ringReturn a.part a.pages) with pass := none }.setRegN R.RAS_STATUS 0 := by
  rw [State.passEnd, State.rasStatus_zero]
  simp only [List.isEmpty_iff, Nat.zero_mod, Nat.zero_mul]

/-! ### TILE_DISPATCH -/

/-- The core that a raster unit chooses: the lowest of its cluster that is not fenced and has a free tile set. -/
theorem tileCore_eq {core cluster : Nat} (hcore : core / 4 = cluster) (hfence : s.fenced core = false) (hset : (a.freeSet core).isSome = true)
    (hlow : ∀ c, c / 4 = cluster → c < core → s.fenced c = true ∨ a.freeSet c = none) :
    ((List.range 4).map (4 * cluster + ·)).find? (fun c => !s.fenced c && (a.freeSet c).isSome) = some core := by
  rw [List.find?_map, Option.map_eq_some_iff]
  refine ⟨core % 4, List.find?_range_eq_some.mpr ⟨?_, List.mem_range.mpr (Nat.mod_lt _ (by decide)), fun j hj => ?_⟩, by omega⟩
  · rw [Function.comp_apply, show 4 * cluster + core % 4 = core by omega, hfence, hset]
    rfl
  · rw [Function.comp_apply]
    rcases hlow (4 * cluster + j) (by omega) (by omega) with h | h
    · rw [h]; rfl
    · rw [h, Option.isSome_none, Bool.and_false]; rfl

theorem execTileDispatch_of {cluster core lin : Nat} {x : Except VErr Unit} (hroot : s.rootLock = true) (hpass : s.pass = some a) (hlin : a.nextLin = some lin)
    (hphase : a.phase ≠ .binning) (hlive : s.pktLive a.pkt = true) (hbn : s.on D.BN = true) (h8 : cluster < 8) (hcl : s.on (D.CL + cluster) = true)
    (hown : s.clusterOwner cluster = some a.part)
    (hcore : ((List.range 4).map (4 * cluster + ·)).find? (fun c => !s.fenced c && (a.freeSet c).isSome) = some core)
    (hstart : ((s.modPass (fun b => { b with nextTile := lin + 1 })).inc R.RAS_TILE_COUNT).tileStart a core ((a.freeSet core).getD 0) lin = (x, u)) :
    (x = .ok () → exec (.tileDispatch cluster) s = .next u) ∧
    (∀ v, x = .error v → v.e.cause ≠ C.HOST_WAIT → exec (.tileDispatch cluster) s = .next (u.pktFault a.pkt (v.at 33) 0x80)) := by
  simp only [exec, execTileDispatch, State.rooted_of _ _ hroot, hpass, hlin, hcore, hlive, hbn, hcl, hown, hphase, Nat.not_le.mpr h8, ne_eq, not_true_eq_false, decide_false,
    Bool.not_true, Bool.or_false, Bool.false_eq_true, if_false, hstart]
  refine ⟨fun h => ?_, fun v h hw => ?_⟩
  · simp only [h]
  · simp only [h, hw, if_false]

/-! ### TILE_WRITE_OUT -/

theorem execTileWriteOut_of {core set : Nat} {j : TileJob} (hroot : s.rootLock = true) (hpass : s.pass = some a)
    (hjob : a.tiles.find? (fun t => t.core == core && t.set == set) = some j) (htodo : j.todo = []) (hfrags : j.frags = [])
    (hpods : ∀ p ∈ (s.core core).pods, p.pixel = false ∨ p.tile ≠ j.lin ∨ p.pkt ≠ some a.pkt) (htq : ∀ o ∈ (s.core core).tq, o.tile ≠ some (a.pkt, j.lin))
    (hstore : (s.modPass (fun b => { b with tiles := b.tiles.filter (fun k => !(k.core == core && k.set == set)) })).storePlanes a core set j.lin a.planes = (.ok (), u)) :
    (a.phase ≠ .flushing → exec (.tileWriteOut core set) s = .next u) ∧
    (∀ v, a.phase = .flushing → u.vwrite a.who (a.hdrVA + 16 * j.lin + 12) (leBytes 4 1) false = (.ok (), v) →
      exec (.tileWriteOut core set) s = .next (v.modPass (fun b => { b with written := j.lin :: b.written }))) := by
  have hpod : ((s.core core).pods.any (fun p => p.pixel && p.tile == j.lin && p.pkt == some a.pkt)) = false := by
    refine List.any_eq_false.mpr fun p hp h => ?_
    simp only [Bool.and_eq_true, beq_iff_eq] at h
    obtain ⟨⟨hpix, htile⟩, hpkt⟩ := h
    rcases hpods p hp with hno | hno | hno
    · rw [hpix] at hno; exact Bool.noConfusion hno
    · exact hno htile
    · exact hno hpkt
  have hqueue : ((s.core core).tq.any (fun o => o.tile == some (a.pkt, j.lin))) = false :=
    List.any_eq_false.mpr fun o ho h => htq o ho (beq_iff_eq.mp h)
  simp only [exec, execTileWriteOut, State.rooted_of _ _ hroot, hpass, hjob, htodo, hfrags, hpod, hqueue, List.isEmpty_nil, Bool.not_true, Bool.or_false, Bool.false_eq_true,
    if_false, hstore]
  refine ⟨fun hphase => if_pos hphase, fun v hphase hwrite => ?_⟩
  simp only [hphase, ne_eq, not_true_eq_false, if_false, hwrite]

end

end Sys2Proof.Machine

open Sys2Proof Sys2Proof.Machine

/-- Settles O29: each step of a pass by what it reads and writes. That a tile set is the lowest free one, and the linear order of tiles, are log entry 54, which tiles a
primitive meets log entry 53. -/
theorem rasterPasses : Obligations.RasterPasses := by
  refine ⟨⟨?start, ?bin, ?flush, ?pages⟩, ?dispatch, ?launch, ?write⟩
  case start =>
    intro s t q p hroot hbn hlo hhi hst ok invalid
    have hon : (s.on D.BN && decide (32 ≤ q) && decide (q < 36)) = true := by rw [hbn, decide_eq_true hlo, decide_eq_true hhi]; rfl
    refine ⟨fun hbad => execRenderPass_of_bad hroot hon hst hbad, fun d u hok hread => ?_⟩
    intro a
    refine ⟨fun n v herr => execRenderPass_of_refused hroot hon hst hok hread herr, fun sh v w hsh hwrite => ?_⟩
    rw [execRenderPass_of_ok hroot hon hst hok hread hsh hwrite, State.rasStatus_zero]
  case bin =>
    intro s t a b hroot hpass hphase hlive hon ht hb p
    have hread : s.vread a.who (a.primVA + 48 * a.prim) 48 = (.ok b, t) := Prod.ext hb ht.symm
    refine ⟨execPrimitiveBin_of_rejected hroot hpass hphase hlive hon hread, execPrimitiveBin_of_degenerate hroot hpass hphase hlive hon hread, fun hrej harea => ?_⟩
    have hbin := fun {r u} => execPrimitiveBin_of_binned (r := r) (u := u) hroot hpass hphase hlive hon hread hrej harea
    refine ⟨fun c u h => ?_, fun c u h => ?_, fun c f u h hw => ?_⟩
    · obtain ⟨hok, -, -⟩ := hbin h
      exact hok c rfl
    · obtain ⟨-, hflush, -⟩ := hbin h
      exact hflush c rfl
    · obtain ⟨-, -, hfault⟩ := hbin h
      exact hfault c f rfl hw
  case flush => exact fun s t a => execFlushResume_of
  case pages =>
    intro s a hroot hpass hphase htiles hlin hlive hdrained w
    rw [execPassPageReturn_of hroot hpass hphase htiles hlin hlive hdrained, State.passEnd_eq]
  case dispatch =>
    intro s a cluster core lin hroot hpass hlin hphase hlive hbn h8 hcl hown hcore hfence hset hlow t
    have hstart := fun {x u} => execTileDispatch_of (x := x) (u := u) hroot hpass hlin hphase hlive hbn h8 hcl hown (tileCore_eq hcore hfence hset hlow)
    refine ⟨fun u h => ?_, fun v u h hw => ?_⟩
    · obtain ⟨hok, -⟩ := hstart h
      exact hok rfl
    · obtain ⟨-, herr⟩ := hstart h
      exact herr v rfl hw
  case launch =>
    intro s a t core set slot reg hroot hpass hjob ad sh p hclosed hlive hopen hcl hslot hfree hpods hreg u v w
    have hany : (s.core core).pods.any (·.slot == slot) = false := List.any_eq_false.mpr fun x hx h => hfree x hx (beq_iff_eq.mp h)
    have hok : (t.closed a && s.pktLive a.pkt && !s.closed core && s.on (D.CL + core / 4) && ad.slots.contains slot && !(s.core core).pods.any (·.slot == slot) &&
        decide (((s.core core).pods.filter (·.ctx == a.ctx)).length + 1 ≤ ad.pods)) = true := by
      rw [hclosed, hlive, hopen, hcl, List.contains_iff_mem.mpr hslot, hany, decide_eq_true (Nat.succ_le_of_lt hpods)]
      rfl
    simp only [exec, execPixelPodLaunch, State.rooted_of _ _ hroot, hpass, hjob]
    simp only [ad, sh] at hreg hok
    simp only [hreg, hok, Bool.not_true, Bool.false_eq_true, if_false]
    simp only [w, v, u, p, sh, ad, hpass, State.inc]
  case write => exact fun s u a t core set => execTileWriteOut_of

end

section
/-! Ray queries (09 R259; 13 R323, R331, R337 to R341). -/

namespace Sys2Proof.Machine

/-- No register that counts issued instructions is one of PWR_STATE. -/
theorem countKey_pwrState (r : PodRef) : countKey r R.PWR_STATE_LO = false ∧ countKey r R.PWR_STATE_HI = false := by
  simp only [countKey, rk, copyStride, R.PWR_STATE_LO, R.PWR_STATE_HI, R.DBG_PC_LO, R.CORE_ISSUE_COUNT_LO]
  cases r with
  | guard => exact ⟨rfl, rfl⟩
  | slot c k =>
    simp only [Bool.or_eq_false_iff, Bool.and_eq_false_iff, decide_eq_false_iff_not, beq_eq_false_iff_ne]
    omega

/-- An instruction leaves the domains as they are. -/
theorem PodOnly.on {u t : State} {r : PodRef} (h : PodOnly u t r) (d : Nat) : t.on d = u.on d := by
  obtain ⟨hlo, hhi⟩ := countKey_pwrState r
  have hlinger : t.ao.pwr.linger = u.ao.pwr.linger := congrArg (fun a => a.pwr.linger) h.ao
  simp only [State.on, State.dom, State.field, h.regs _ hlo, h.regs _ hhi, hlinger]

/-- A RAYQ that finds its slots starts the queries of its lanes. -/
theorem execRayq_of_room {s u : State} {c k : Nat} {p : Pod} {i : Ins} (h : IssuesAt s (.slot c k) p 0xC0 i u) (hon : u.on D.RT = true)
    (hroom : (u.rtu (c / 2)).queries.length + (lanesOf p.m0).length ≤ 128) (hturn : (u.moved (.slot c k) p 0xC0 i).rayTurn c p = false) :
    exec (.rayq (.slot c k) i) s = .next (
      let m := u.moved (.slot c k) p 0xC0 i
      let w := if p.stalled.contains R.RTU_SLOT_FULL_COUNT then m.modRtu (c / 2) (fun x => { x with turn := some c }) else m
      let v := w.opStart (.slot c k) c p 0xC0 i (.ray i.d) (lanesOf p.m0).length
      let qs := (lanesOf p.m0).zipIdx.map (fun (x : Nat × Nat) =>
        let f := (List.range 8).map (fun j => v.2.vget (.slot c k) p (i.a + j) x.1)
        Prod.mk { id := v.2.qm.nextId + x.2, op := v.1, core := c, slot := k, uid := p.uid, lane := x.1, ctx := p.ctx, pkt := p.pkt, kind := i.mod.toNat % 4, tmin := comp f 3
                  tlim := comp f 7, limit := v.2.field (rk R.RTU_NODE_LIMIT (c / 2)) 15 0 : Query } f)
      let t := qs.foldl (fun (x : State) y => x.rayTake (c / 2) y.1) { v.2 with qm := { v.2.qm with nextId := v.2.qm.nextId + (lanesOf p.m0).length } }
      (qs.foldl (fun (x : State) y => x.rayStart (c / 2) y.1 y.2 (p.sv64 i i.b)) t).ended (.slot c k) p 0xC0 i 0) := by
  obtain ⟨hmoved, -, -⟩ := u.moved_frame 0xC0 i h.pod
  have hon' : (u.moved (.slot c k) p 0xC0 i).on D.RT = true := (hmoved.on D.RT).trans hon
  have hrtu : (u.moved (.slot c k) p 0xC0 i).rtu (c / 2) = u.rtu (c / 2) := by rw [State.rtu, hmoved.rest]; rfl
  have hfree : (decide (128 < (u.rtu (c / 2)).queries.length + (lanesOf p.m0).length) || (u.moved (.slot c k) p 0xC0 i).rayTurn c p) = false := by
    rw [hturn, decide_eq_false (Nat.not_lt.mpr hroom)]
    rfl
  simp only [exec, execRayq]
  refine issue_done h (by decide) (by decide) "RAYQ" ?_
  simp only [hon', hrtu, hfree, Bool.not_true, Bool.false_eq_true, if_false]
  rfl

section
variable {s t : State} {unit query : Nat} {q : Query} {e : RayRec}

/-! ### The record of a query -/

/-- What a record that has come is checked for. -/
def recordChecked (e : RayRec) (b : List Byte) : Except (Nat × Nat) (List Byte) :=
  match malformed e b with
  | some d => .error (C.RAY_MALFORMED, d)
  | none => .ok b

theorem State.nodeRead_of_bytes {b : List Byte} (hb : q.bytes = some b) : s.nodeRead unit q e = some (recordChecked e b, s) := by
  simp only [State.nodeRead, hb]
  rfl

theorem State.nodeRead_of_deep {x : XAddr} (hb : q.bytes = none) (hx : q.x = some x) (hdeep : 33 ≤ e.depth) :
    s.nodeRead unit q e = some (.error (C.RAY_MALFORMED, 3), s) := by
  simp only [State.nodeRead, hb, hx, hdeep, if_true]

theorem State.nodeRead_of_line {x : XAddr} {y : Except MErr (List Byte)} (hb : q.bytes = none) (hx : q.x = some x) (hdeep : e.depth < 33)
    (hline : s.readAt ⟨38 + unit, 38 + unit, q.ctx, none, none⟩ (e.va - e.va % 128) 128
      (if x.comp = 0 then { x with addr := x.addr - e.va % 128 } else { x with off := x.off - e.va % 128 }) = (y, t)) :
    (∀ d, y = .ok d → s.nodeRead unit q e = some (recordChecked e ((d.drop (e.va % 128)).take 64), t.nodeFill unit q.ctx e.va d)) ∧
    (∀ m, y = .error m → s.nodeRead unit q e = some (.error (m.cause, m.detail), t)) := by
  simp only [State.nodeRead, hb, hx, Nat.not_le.mpr hdeep, if_false, hline]
  refine ⟨fun d h => ?_, fun m h => ?_⟩
  · rw [h]
    rfl
  · rw [h]

section
variable {event : String} {limited : Bool} {go : State → Query → RayRec → List Byte → State}

theorem State.nodeDone_of_error {c d : Nat} (hq : (s.rtu unit).queries.find? (·.id == query) = some q) (he : q.cur = some e)
    (hlim : decide (q.limit < q.reads) = limited) (hread : s.nodeRead unit q e = some (.error (c, d), t)) :
    s.nodeDone event unit query limited go = .next (t.rayFault unit q c d e.va) := by
  simp only [State.nodeDone, hq, he, hlim, ne_eq, not_true_eq_false, if_false, hread]

theorem State.nodeDone_of_ok {b : List Byte} (hq : (s.rtu unit).queries.find? (·.id == query) = some q) (he : q.cur = some e)
    (hlim : decide (q.limit < q.reads) = limited) (hread : s.nodeRead unit q e = some (.ok b, t)) :
    s.nodeDone event unit query limited go = .next (go t q e b) := by
  simp only [State.nodeDone, hq, he, hlim, ne_eq, not_true_eq_false, if_false, hread]

end

theorem execNodeReadComplete_of_error {c d : Nat} (hroot : s.rootLock = true) (hq : (s.rtu unit).queries.find? (·.id == query) = some q) (he : q.cur = some e)
    (hlim : q.reads ≤ q.limit) (hread : s.nodeRead unit q e = some (.error (c, d), t)) :
    exec (.nodeReadComplete unit query) s = .next (t.rayFault unit q c d e.va) := by
  have hno : decide (q.limit < q.reads) = false := decide_eq_false (Nat.not_lt.mpr hlim)
  simp only [exec, execNodeReadComplete, State.rooted_of _ _ hroot, State.nodeDone_of_error hq he hno hread]

/-- A record that has come takes its query on, or its fault ends the RAYQ. -/
theorem execNodeReadComplete_of_checked {b : List Byte} (hroot : s.rootLock = true) (hq : (s.rtu unit).queries.find? (·.id == query) = some q) (he : q.cur = some e)
    (hlim : q.reads ≤ q.limit) (hread : s.nodeRead unit q e = some (recordChecked e b, t)) : exec (.nodeReadComplete unit query) s =
      .next (match malformed e b with
        | some d => t.rayFault unit q C.RAY_MALFORMED d e.va
        | none => t.rayTest unit q e b) := by
  cases hm : malformed e b with
  | some d =>
    rw [recordChecked, hm] at hread
    exact execNodeReadComplete_of_error hroot hq he hlim hread
  | none =>
    rw [recordChecked, hm] at hread
    have hno : decide (q.limit < q.reads) = false := decide_eq_false (Nat.not_lt.mpr hlim)
    simp only [exec, execNodeReadComplete, State.rooted_of _ _ hroot, State.nodeDone_of_ok hq he hno hread]

end

end Sys2Proof.Machine

open Sys2Proof Sys2Proof.Machine

/-- Settles O30: a RAYQ starts one query a lane, and a record that has come is judged once, for the next step of its query or for its limit. The turn of the two cores of a
pair, and that the record of a read beyond the limit is read and checked first, are log entry 70. -/
theorem rayQueries : Obligations.RayQueries := by
  refine ⟨fun s u c k p i h hon hroom => ?start, fun s unit query q e hroot hq he => ?record⟩
  case start =>
    intro m w v qs t hturn
    exact execRayq_of_room h hon hroom hturn
  case record =>
    intro got line
    refine ⟨fun hlim => ⟨fun b hb => ?_, fun x hb hx hdeep => ?_, fun x d t hb hx hdeep hline => ?_, fun x m t hb hx hdeep hline => ?_⟩, fun hlim => ?_⟩
    · exact execNodeReadComplete_of_checked hroot hq he hlim (State.nodeRead_of_bytes hb)
    · exact execNodeReadComplete_of_error hroot hq he hlim (State.nodeRead_of_deep hb hx hdeep)
    · obtain ⟨hok, -⟩ := State.nodeRead_of_line hb hx hdeep hline
      exact execNodeReadComplete_of_checked hroot hq he hlim (hok d rfl)
    · obtain ⟨-, herr⟩ := State.nodeRead_of_line hb hx hdeep hline
      exact execNodeReadComplete_of_error hroot hq he hlim (herr m rfl)
    · have hyes : decide (q.limit < q.reads) = true := decide_eq_true hlim
      refine ⟨fun b t hread => ?_, fun c d t hread => ?_⟩
      · simp only [exec, execNodeLimit, State.rooted_of _ _ hroot, State.nodeDone_of_ok hq he hyes hread]
      · simp only [exec, execNodeLimit, State.rooted_of _ _ hroot, State.nodeDone_of_error hq he hyes hread]

end

section
/-! CRC units (14 R365 to R368). -/

namespace Sys2Proof.Machine

/-- A write of CRC_CTRL that sets no reserved bit. -/
theorem writesTo_crcCtrl {c : Instr} {req : Req} {val : W32} (hexec : ∀ s, exec c s = .next (s.cmdWrite req R.CRC_CTRL val true)) :
    WritesTo c req R.CRC_CTRL val (fun u k =>
      if u.bit (rk R.CRC_CTRL k) 0 then (if val.getLsbD 0 then u.viol else u.setReg (rk R.CRC_CTRL k) val)
      else if val.getLsbD 0 = false then u.setReg (rk R.CRC_CTRL k) val
      else if u.attachOk (val.toNat / 2 ^ 8 % 64) (val.getLsbD 1) = true ∧ (val.getLsbD 1 = true ∨ u.reg (rk R.CRC_FRAME_BYTES k) ≠ 0) then
        { u.setReg (rk R.CRC_CTRL k) val with crc := u.crc.set k {} }
      else (u.setBits (rk R.CRC_STATUS k) 2).viol) := by
  refine writesTo_putReg rfl rfl hexec (fun u n hmask hcopy => ?_)
  have hv : val &&& 0x3F1F = val := hmask
  change u.wrCrcCtrl n val = _
  have hattach : fld val 13 8 = val.toNat / 2 ^ 8 % 64 := fld_eq val 13 8
  have hfits : (!u.attachOk (val.toNat / 2 ^ 8 % 64) (val.getLsbD 1) || (!val.getLsbD 1 && decide (u.reg (rk R.CRC_FRAME_BYTES n) = 0))) = true ↔
      ¬(u.attachOk (val.toNat / 2 ^ 8 % 64) (val.getLsbD 1) = true ∧ (val.getLsbD 1 = true ∨ u.reg (rk R.CRC_FRAME_BYTES n) ≠ 0)) := by
    simp only [Bool.or_eq_true, Bool.and_eq_true, Bool.not_eq_true', decide_eq_true_eq]
    cases u.attachOk (val.toNat / 2 ^ 8 % 64) (val.getLsbD 1) <;> cases val.getLsbD 1 <;> simp
  simp only [State.wrCrcCtrl, hv, bitOf_eq_getLsbD, hattach, hfits, Bool.not_eq_true', ite_not]

theorem execCrcFrameCompare_of {s : State} {k : Nat} (hroot : s.rootLock = true) (hk : k < 8) (hon : s.crcOn k = true) (hdesc : s.crcDesc k = false)
    (hn : 0 < (s.reg (rk R.CRC_FRAME_BYTES k)).toNat)
    (hlen : (s.reg (rk R.CRC_FRAME_BYTES k)).toNat + s.crcTrailer k ≤ (s.crc.getD k {}).buf.length) : exec (.crcFrameCompare k) s = .next (
      let n := (s.reg (rk R.CRC_FRAME_BYTES k)).toNat
      let b := (s.crc.getD k {}).buf
      let e := if s.crcTrailer k = 0 then s.pair (rk R.CRC_EXPECT_LO k) % 2 ^ (s.crcSel k).width else leNat ((b.drop n).take (s.crcTrailer k))
      let u := s.crcCompare k (crcOf (s.crcSel k) (b.take n)) e
      { u with crc := u.crc.modify k (fun c => { c with buf := c.buf.drop (n + s.crcTrailer k) }) }) := by
  simp only [exec, execCrcFrameCompare, State.rooted_of _ _ hroot, hk, hon, hdesc, Nat.pos_iff_ne_zero.mp hn, hlen, ne_eq, not_false_eq_true, decide_true, Bool.not_false,
    Bool.and_true, if_true]

end Sys2Proof.Machine

open Sys2Proof Sys2Proof.Machine

/-- Settles O31: a write of CRC_CTRL by the unit's ENABLE and the value's, and the comparison of a frame that is there whole. -/
theorem crcUnits : Obligations.CrcUnits := by
  refine ⟨?enable, ?disable, ?compare⟩
  case enable =>
    intro s req k val u v fits h
    have hexec := writesTo_crcCtrl (c := .crcEnable req val) (fun _ => rfl) s k h
    have hon : v.getLsbD 0 = true := by simp [v]
    have hnot : ¬v.getLsbD 0 = false := by rw [hon]; decide
    rw [hexec]
    refine ⟨fun hb => ?_, fun hb hfits => ?_, fun hb hfits => ?_⟩
    · exact congrArg Host.Outcome.next ((if_pos hb).trans (if_pos hon))
    · exact congrArg Host.Outcome.next ((if_neg (Bool.eq_false_iff.mp hb)).trans ((if_neg hnot).trans (if_pos hfits)))
    · exact congrArg Host.Outcome.next ((if_neg (Bool.eq_false_iff.mp hb)).trans ((if_neg hnot).trans (if_neg hfits)))
  case disable =>
    intro req val s k h
    have hoff : (val &&& ~~~ 1).getLsbD 0 = false := by simp
    rw [writesTo_crcCtrl (c := .crcDisable req val) (fun _ => rfl) s k h]
    simp only [hoff, Bool.false_eq_true, if_false, if_true, ite_self]
  case compare =>
    intro s k n p t b e u hroot hk hon hdesc hn hlen
    exact execCrcFrameCompare_of hroot hk hon hdesc hn hlen

end

section
/-! The configuration of the fabric (15 R371 to R375, R380, R383, R385). -/

namespace Sys2Proof.Machine

section
variable {c : Instr} {req : Req} {val : W32}

theorem writesTo_nodeId (hexec : ∀ s, exec c s = .next (s.cmdWrite req R.FAB_NODE_ID val true)) :
    WritesTo c req R.FAB_NODE_ID val (fun u _ => if u.validGroups = [] then u.setReg R.FAB_NODE_ID (val &&& 0x800007FF) else u.viol) := by
  refine writesTo_putReg rfl rfl hexec (fun u n hmask hcopy => ?_)
  change u.wrNodeId val = _
  rw [State.wrNodeId]
  cases u.validGroups <;> rfl

theorem writesTo_fabLeave (hexec : ∀ s, exec c s = .next (s.cmdWrite req R.FAB_LEAVE val true)) :
    WritesTo c req R.FAB_LEAVE val (fun u _ => u.fabLeave (val.toNat % 2 ^ 11)) := by
  refine writesTo_putReg rfl rfl hexec (fun u n hmask hcopy => ?_)
  change u.fabLeave (fld val 10 0) = _
  rw [fld_eq, Nat.pow_zero, Nat.div_one]

theorem writesTo_window (hexec : ∀ s, exec c s = .next (s.cmdWrite req R.FAB_WIN_DATA3 val true)) :
    WritesTo c req R.FAB_WIN_DATA3 val (fun u _ => u.wrWin val) := by
  refine writesTo_putReg rfl rfl hexec (fun u n hmask hcopy => ?_)
  rfl

theorem writesTo_group (hexec : ∀ s, exec c s = .next (s.cmdWrite req R.FAB_GRP_DATA3 val true)) :
    WritesTo c req R.FAB_GRP_DATA3 val (fun u _ => u.wrGrp val) := by
  refine writesTo_putReg rfl rfl hexec (fun u n hmask hcopy => ?_)
  rfl

theorem writesTo_portCtrl (hexec : ∀ s, exec c s = .next (s.cmdWrite req R.FAB_P_CTRL val true)) :
    WritesTo c req R.FAB_P_CTRL val (fun u p => u.wrPortCtrl p val) := by
  refine writesTo_putReg rfl rfl hexec (fun u n hmask hcopy => ?_)
  rfl

end

section
variable {u : State} {val : W32}

/-! ### The group table -/

/-- Another valid entry has the context or the number of an entry. -/
def GrpTaken (u : State) (ix : Nat) (q : Quad) : Prop :=
  ∃ g ∈ u.fab.grps, g.1 ≠ ix ∧ g.2.d0.getLsbD 31 = true ∧ (fld g.2.d0 23 16 = fld q.d0 23 16 ∨ fld g.2.d0 15 0 = fld q.d0 15 0)

theorem grpTaken_iff {ix : Nat} {q : Quad} : (u.fab.grps.any (fun g => g.1 ≠ ix && bitOf g.2.d0 31 &&
    (fld g.2.d0 23 16 == fld q.d0 23 16 || fld g.2.d0 15 0 == fld q.d0 15 0))) = true ↔ GrpTaken u ix q := by
  simp only [GrpTaken, List.any_eq_true, Bool.and_eq_true, Bool.or_eq_true, decide_eq_true_eq, beq_iff_eq, bitOf_eq_getLsbD, and_assoc]

/-- The entry that a write of FAB_GRP_DATA3 commits. -/
def State.grpStaged (u : State) (val : W32) : Quad := ⟨u.reg R.FAB_GRP_DATA0, u.reg R.FAB_GRP_DATA1, u.reg R.FAB_GRP_DATA2, val⟩

theorem State.wrGrp_of_locked (hlock : u.grpLocked = true) (hq : quadOf u.fab.grps (u.field R.FAB_GRP_IDX 5 0) ≠ u.grpStaged val) : u.wrGrp val = u.viol := by
  rw [State.wrGrp]
  refine if_pos ?_
  rw [hlock, Bool.true_and, decide_eq_true_eq]
  exact hq

/-- The entry is free to change, or does not: it is then refused, or stands. -/
theorem State.wrGrp_of_free (hfree : u.grpLocked = false ∨ quadOf u.fab.grps (u.field R.FAB_GRP_IDX 5 0) = u.grpStaged val) :
    let n := (u.grpStaged val).d1.toNat % 2 ^ 12
    let bad := n = 0 ∨ 2048 < n ∨ GrpTaken u (u.field R.FAB_GRP_IDX 5 0) (u.grpStaged val)
    (bad → u.wrGrp val = (u.setBits R.FAB_CFG_STATUS 4).viol) ∧
    (¬bad → u.wrGrp val =
      { u with fab := { u.fab with grps := storePut (fun _ v => v == quad0) (u.field R.FAB_GRP_IDX 5 0) (u.grpStaged val) u.fab.grps } }.setReg R.FAB_GRP_DATA3 val) := by
  have hopen : (u.grpLocked && decide (quadOf u.fab.grps (u.field R.FAB_GRP_IDX 5 0) ≠ u.grpStaged val)) = false := by
    rcases hfree with h | h
    · rw [h, Bool.false_and]
    · rw [decide_eq_false (Classical.not_not.mpr h), Bool.and_false]
  have hn : ∀ w : W32, fld w 11 0 = w.toNat % 2 ^ 12 := fun w => by rw [fld_eq, Nat.pow_zero, Nat.div_one]
  rw [State.wrGrp]
  refine ⟨fun hbad => (if_neg (Bool.eq_false_iff.mp hopen)).trans (if_pos ?_), fun hgood => (if_neg (Bool.eq_false_iff.mp hopen)).trans (if_neg ?_)⟩
  · rw [Bool.or_eq_true, Bool.or_eq_true, decide_eq_true_eq, decide_eq_true_eq, grpTaken_iff, hn, or_assoc]
    exact hbad
  · rw [Bool.or_eq_true, Bool.or_eq_true, decide_eq_true_eq, decide_eq_true_eq, grpTaken_iff, hn, or_assoc]
    exact hgood

/-! ### Ports -/

theorem State.wrPortCtrl_same {p : Nat} {b : Bool} (hbit : u.bit (rk R.FAB_P_CTRL p) 0 = b) (hval : val.getLsbD 0 = b) :
    u.wrPortCtrl p val = u.setReg (rk R.FAB_P_CTRL p) (val &&& 1) := by
  cases b <;> simp only [State.wrPortCtrl, hbit, bitOf_eq_getLsbD, hval]

theorem State.wrPortCtrl_up {p : Nat} (hbit : u.bit (rk R.FAB_P_CTRL p) 0 = false) (hval : val.getLsbD 0 = true) :
    u.wrPortCtrl p val = (u.setReg (rk R.FAB_P_CTRL p) (val &&& 1)).setRegN (rk R.FAB_P_STATUS p) 2 := by
  simp only [State.wrPortCtrl, hbit, bitOf_eq_getLsbD, hval]

theorem State.wrPortCtrl_down {p : Nat} (hbit : u.bit (rk R.FAB_P_CTRL p) 0 = true) (hval : val.getLsbD 0 = false) :
    u.wrPortCtrl p val = (u.setReg (rk R.FAB_P_CTRL p) (val &&& 1)).portLost p := by
  simp only [State.wrPortCtrl, hbit, bitOf_eq_getLsbD, hval]

theorem State.portLost_of_up {p : Nat} (hup : u.portUp p = true) : u.portLost p =
    ((u.setRegN (rk R.FAB_P_STATUS p) 0).inc (rk R.FAB_P_DOWN_COUNT p)).fabFaultAll (·.port == p) ⟨C.NODE_LEFT, 3, 0⟩ := by
  rw [State.portLost]
  exact if_pos hup

end

end Sys2Proof.Machine

open Sys2Proof Sys2Proof.Machine

/-- Settles O32: each register of the fabric's configuration by its write, and a port that comes up or goes down. That FAB_P_CTRL written 0 takes the port down is log
entry 32, the fault of its requests log entry 56. -/
theorem fabricConfiguration : Obligations.FabricConfiguration := by
  refine ⟨fun req val => writesTo_nodeId (fun _ => rfl), ?route, fun req val => writesTo_fabLeave (fun _ => rfl), ?window, ?group, ?enable, ?disable, ?ports⟩
  case route =>
    intro req val
    refine writesTo_putReg rfl rfl (fun _ => rfl) (fun u n hmask hcopy => ?_)
    rfl
  case window =>
    intro s req val u q h
    have hexec : exec (.windowCommit req val) s = .next (u.wrWin val) := writesTo_window (fun _ => rfl) s 0 h
    rw [hexec, State.wrWin]
    refine ⟨fun hbad => congrArg Host.Outcome.next (if_pos ?_), fun h1 hend => congrArg Host.Outcome.next (if_neg ?_)⟩
    · rwa [Bool.or_eq_true, decide_eq_true_eq, decide_eq_true_eq]
    · rw [Bool.or_eq_true, decide_eq_true_eq, decide_eq_true_eq]
      exact not_or.mpr ⟨h1, Nat.not_lt.mpr hend⟩
  case group =>
    intro s req val u ix q n taken h
    have hexec : exec (.groupCommit req val) s = .next (u.wrGrp val) := writesTo_group (fun _ => rfl) s 0 h
    rw [hexec]
    refine ⟨fun hlock hq => congrArg Host.Outcome.next (State.wrGrp_of_locked hlock hq), fun hfree => ?_⟩
    obtain ⟨hrefused, hstands⟩ := State.wrGrp_of_free hfree
    refine ⟨fun hbad => congrArg Host.Outcome.next (hrefused hbad), fun hn0 hn htaken => congrArg Host.Outcome.next (hstands ?_)⟩
    rintro (h | h | h)
    · exact absurd h (Nat.pos_iff_ne_zero.mp hn0)
    · exact absurd h (Nat.not_lt.mpr hn)
    · exact htaken h
  case enable =>
    intro s req p h u
    have hexec : exec (.portEnable req) s = .next (u.wrPortCtrl p 1) := writesTo_portCtrl (fun _ => rfl) s p h
    rw [hexec]
    exact ⟨fun hbit => congrArg Host.Outcome.next (State.wrPortCtrl_up hbit rfl), fun hbit => congrArg Host.Outcome.next (State.wrPortCtrl_same hbit rfl)⟩
  case disable =>
    intro s req p h u v
    have hexec : exec (.registerWrite req R.FAB_P_CTRL 0 true) s = .next (u.wrPortCtrl p 0) := writesTo_portCtrl (fun _ => rfl) s p h
    rw [hexec]
    exact ⟨fun hbit => congrArg Host.Outcome.next (State.wrPortCtrl_same hbit rfl), fun hbit => congrArg Host.Outcome.next (State.wrPortCtrl_down hbit rfl)⟩
  case ports =>
    intro s p hp hfio
    refine ⟨fun htrain => ?_, fun hup => ?_⟩
    · simp only [exec, execPortUp, hfio, hp, htrain, decide_true, Bool.and_self, when'_of]
    · have hopen : s.portOpen p = true := by rw [State.portOpen, hfio, hup, decide_eq_true hp]; rfl
      simp only [exec, execPortDown, hopen, when'_of, State.portLost_of_up hup]

end

section
/-! Packets of other nodes (15 R376 to R389). -/

namespace Sys2Proof.Machine

section
variable {s : State} {port src id : Nat}

/-- A request that has been served is answered on the way back. -/
theorem State.fabReply_ok (k : FabKind) (b : List Byte) : s.fabReply port src id k (.ok b) = s.fabSend ⟨s.backPort src port, src, k, id, 0, b, none⟩ := rfl

theorem State.fabReply_error (k : FabKind) (d : Nat) : s.fabReply port src id k (.error d) = s.fabSend ⟨s.backPort src port, src, .refuse, id, d, [], none⟩ := rfl

theorem State.backPort_eq (s : State) (node port : Nat) :
    s.backPort node port = if (s.route node).getLsbD 0 && s.portUp (fld (s.route node) 2 1) then fld (s.route node) 2 1 else port := by
  rw [State.backPort, bitOf_eq_getLsbD]

/-! ### Requests -/

theorem execFabReadReq_of {addr n : Nat} (hroot : s.rootLock = true) (hopen : s.portOpen port = true) (hsrc : src < 2048) (hn0 : 0 < n) (hn : n ≤ 128) :
    exec (.fabReadReq port src id addr n) s =
      .next (((s.fabArrive port .readReq []).serveRead src addr n).2.fabReply port src id .readRsp ((s.fabArrive port .readReq []).serveRead src addr n).1) := by
  simp only [exec, execFabReadReq, State.rooted_of _ _ hroot, hopen, Nat.pos_iff_ne_zero.mp hn0, Nat.not_lt.mpr hn, Nat.not_le.mpr hsrc, Bool.not_true, decide_false, Bool.or_false,
    Bool.false_eq_true, if_false]

theorem execFabWrite_of {addr : Nat} {data : List (Option Byte)} {x : Except Nat Unit} {t : State} (hroot : s.rootLock = true) (hopen : s.portOpen port = true)
    (hsrc : src < 2048) (hne : data ≠ []) (hlen : data.length ≤ 128) (hserve : (s.fabArrive port .write (enabled data)).serveWrite src addr data = (x, t)) :
    exec (.fabWrite port src id addr data) s = .next (t.fabReply port src id .writeAck (x.map (fun _ => []))) := by
  simp only [exec, execFabWrite, State.rooted_of _ _ hroot, hopen, List.isEmpty_eq_false_iff.mpr hne, Nat.not_lt.mpr hlen, Nat.not_le.mpr hsrc, Bool.not_true, decide_false,
    Bool.or_false, Bool.false_eq_true, if_false, hserve]
  cases x <;> rfl

theorem execFabAtomic_of {addr op : Nat} {wide ftz : Bool} {a : List (Nat × Nat)} {b : List Nat} (hroot : s.rootLock = true) (hopen : s.portOpen port = true) (hsrc : src < 2048)
    (hop : op ≤ 10) (hne : a ≠ []) (hlen : a.length ≤ 32) (hal : ∀ l ∈ a, (addr + l.1) % (if wide then 8 else 4) = 0 ∧ addr % 128 + l.1 < 128) :
    exec (.fabAtomic port src id addr op wide ftz a b) s =
      let r := (s.fabArrive port .atomic ((atomLanes op wide ftz a b).flatMap (fun x => x.2.bytes))).serveAtom src addr (atomLanes op wide ftz a b)
      .next (r.2.fabReply port src id .atomicRsp r.1) := by
  have hany : a.any (fun l => (addr + l.1) % (if wide then 8 else 4) ≠ 0 || 128 ≤ addr % 128 + l.1) = false := by
    refine List.any_eq_false.mpr fun l hl h => ?_
    obtain ⟨h0, h1⟩ := hal l hl
    rw [Bool.or_eq_true, decide_eq_true_eq, decide_eq_true_eq] at h
    omega
  simp only [exec, execFabAtomic, State.rooted_of _ _ hroot, hopen, Nat.not_le.mpr hsrc, Nat.not_lt.mpr hop, List.isEmpty_eq_false_iff.mpr hne, Nat.not_lt.mpr hlen, hany,
    Bool.not_true, decide_false, Bool.or_false, Bool.false_eq_true, if_false]
  rfl

/-! ### Answers -/

theorem State.fabResponse_of_late {event : String} {k of : FabKind} {data : List Byte} (hopen : s.portOpen port = true)
    (hreq : s.fab.inflight.find? (·.id == id) = none) : s.fabResponse event port id k of data = .next ((s.fabArrive port k data).inc R.FAB_LATE_RSP_COUNT) := by
  simp only [State.fabResponse, State.fabReq?, hopen, hreq, Bool.not_true, Bool.false_eq_true, if_false]

theorem State.fabResponse_of_found {event : String} {k of : FabKind} {data : List Byte} {r : FabReq} (hopen : s.portOpen port = true)
    (hreq : s.fab.inflight.find? (·.id == id) = some r) (hkind : r.kind = of) :
    s.fabResponse event port id k of data = .next ((s.fabArrive port k data).fabAnswer r data).fabSettle := by
  simp only [State.fabResponse, State.fabReq?, hopen, hreq, hkind, Bool.not_true, Bool.false_eq_true, if_false, if_true]

theorem execFabRefuse_of_late {detail : Nat} (hroot : s.rootLock = true) (hopen : s.portOpen port = true) (hreq : s.fab.inflight.find? (·.id == id) = none) :
    exec (.fabRefuse port id detail) s = .next ((s.fabArrive port .refuse []).inc R.FAB_LATE_RSP_COUNT) := by
  simp only [exec, execFabRefuse, State.rooted_of _ _ hroot, State.fabReq?, hopen, hreq, Bool.not_true, Bool.false_eq_true, if_false]

theorem execFabRefuse_of_found {detail : Nat} {r : FabReq} (hroot : s.rootLock = true) (hopen : s.portOpen port = true)
    (hreq : s.fab.inflight.find? (·.id == id) = some r) :
    exec (.fabRefuse port id detail) s = .next (((s.fabArrive port .refuse []).fabFault r ⟨C.REMOTE_REFUSED, detail, 0⟩).fabSettle) := by
  simp only [exec, execFabRefuse, State.rooted_of _ _ hroot, State.fabReq?, hopen, hreq, Bool.not_true, Bool.false_eq_true, if_false]

/-! ### Aborts -/

theorem execFabAbort_of_unknown {group cause origin seq : Nat} (hroot : s.rootLock = true) (hopen : s.portOpen port = true) (horigin : origin < 2048)
    (hctx : (s.fabArrive port .abort []).groupCtx group = none) :
    exec (.fabAbort port group cause origin seq) s = .next ((s.fabArrive port .abort []).inc R.FAB_ABORT_IGNORED_COUNT) := by
  simp only [exec, execFabAbort, State.rooted_of _ _ hroot, hopen, Nat.not_le.mpr horigin, Bool.not_true, decide_false, Bool.or_false, Bool.false_eq_true, if_false, hctx]

theorem execFabAbort_of_known {group cause origin seq c : Nat} (hroot : s.rootLock = true) (hopen : s.portOpen port = true) (horigin : origin < 2048)
    (hctx : (s.fabArrive port .abort []).groupCtx group = some c) : exec (.fabAbort port group cause origin seq) s =
      let t := (s.fabArrive port .abort []).inc R.FAB_ABORT_RX_COUNT
      .next (if (s.fabArrive port .abort []).lost c then t
        else (t.groupAbort c C.REMOTE_FAULT cause (origin + seq % 2 ^ 48 * 2 ^ 16) false false).fabSettle) := by
  simp only [exec, execFabAbort, State.rooted_of _ _ hroot, hopen, Nat.not_le.mpr horigin, Bool.not_true, decide_false, Bool.or_false, Bool.false_eq_true, if_false, hctx]

end

end Sys2Proof.Machine

open Sys2Proof Sys2Proof.Machine

/-- Settles O33: each packet of another node by its step. The port of a response is log entry 33, an ATOMIC packet of several lanes log entry 69, late and refused answers
log entry 56. -/
theorem fabricPackets : Obligations.FabricPackets := by
  refine ⟨?requests, ?answers, ?aborts⟩
  case requests =>
    intro s port src id addr hroot hopen hsrc back answers
    have hreply : ∀ (c : Instr) (k : FabKind) (r : Except Nat (List Byte) × State), exec c s = .next (r.2.fabReply port src id k r.1) → answers c k r := by
      intro c k r hc
      refine ⟨fun b hb => ?_, fun d hd => ?_⟩
      · rw [hc, hb, State.fabReply_ok, State.backPort_eq]
      · rw [hc, hd, State.fabReply_error, State.backPort_eq]
    refine ⟨fun n hn0 hn => ?_, fun data hne hlen => ?_, fun op wide ftz a b hop hne hlen hal => ?_⟩
    · exact hreply _ _ _ (execFabReadReq_of hroot hopen hsrc hn0 hn)
    · intro r
      exact hreply _ _ _ (execFabWrite_of hroot hopen hsrc hne hlen rfl)
    · intro os
      exact hreply _ _ _ (execFabAtomic_of hroot hopen hsrc hop hne hlen hal)
  case answers =>
    intro s port id data hroot hopen
    refine ⟨fun hreq => ⟨?_, ?_, ?_, fun d => execFabRefuse_of_late hroot hopen hreq⟩,
      fun r hreq => ⟨fun hk => ?_, fun hk => ?_, fun hk => ?_, fun d => execFabRefuse_of_found hroot hopen hreq, ?_⟩⟩
    · simp only [exec, execFabReadRsp, State.rooted_of _ _ hroot, State.fabResponse_of_late hopen hreq]
    · simp only [exec, execFabWriteAck, State.rooted_of _ _ hroot, State.fabResponse_of_late hopen hreq]
    · simp only [exec, execFabAtomicRsp, State.rooted_of _ _ hroot, State.fabResponse_of_late hopen hreq]
    · simp only [exec, execFabReadRsp, State.rooted_of _ _ hroot, State.fabResponse_of_found hopen hreq hk]
    · simp only [exec, execFabWriteAck, State.rooted_of _ _ hroot, State.fabResponse_of_found hopen hreq hk]
    · simp only [exec, execFabAtomicRsp, State.rooted_of _ _ hroot, State.fabResponse_of_found hopen hreq hk]
    · simp only [exec, execFabResponseTimeout, State.rooted_of _ _ hroot, State.fabReq?, hreq]
  case aborts =>
    intro s port group cause origin seq hroot hopen horigin t
    refine ⟨execFabAbort_of_unknown hroot hopen horigin, fun c hctx hlost => ?_, fun c hctx hlost => ?_⟩
    · exact (execFabAbort_of_known hroot hopen horigin hctx).trans (congrArg Host.Outcome.next (if_pos hlost))
    · exact (execFabAbort_of_known hroot hopen horigin hctx).trans (congrArg Host.Outcome.next (if_neg (Bool.eq_false_iff.mp hlost)))

end

section
/-! Instructions that write one or two words in each lane and raise flags: what a storage holds after several words, flags that nothing enables, and the
frame of a write of lanes (09 R235, R246, R247; 10 R276). -/

namespace Sys2Proof.Machine

/-! ### Words in storage -/

/-- Write 32-bit words one after another. -/
def Mem.putWords (m : Mem) (ws : List (Nat × Nat)) : Mem := ws.foldl (fun m w => m.write w.1 (leBytes 4 w.2)) m

theorem Mem.putWords_wf {m : Mem} (ws : List (Nat × Nat)) (h : m.wf = true) : (m.putWords ws).wf = true := by
  induction ws generalizing m with
  | nil => exact h
  | cons w ws ih => exact ih (Mem.write_wf _ _ _ h)

theorem Mem.get_putWords_out (m : Mem) (ws : List (Nat × Nat)) {a : Nat} (h : ∀ w ∈ ws, a < w.1 ∨ w.1 + 4 ≤ a) : (m.putWords ws).get a = m.get a := by
  induction ws generalizing m with
  | nil => rfl
  | cons w ws ih =>
    have hw := h w (List.mem_cons_self ..)
    exact (ih _ fun x hx => h x (List.mem_cons_of_mem w hx)).trans (Mem.get_write_out _ _ _ _ (by rwa [leBytes_length]))

theorem Mem.read_putWords_out (m : Mem) (ws : List (Nat × Nat)) {b : Nat} (h : ∀ w ∈ ws, b + 4 ≤ w.1 ∨ w.1 + 4 ≤ b) :
    (m.putWords ws).read b 4 = m.read b 4 := by
  refine List.map_congr_left fun k hk => m.get_putWords_out ws fun w hw => ?_
  have := List.mem_range.mp hk
  have := h w hw
  omega

/-- A word that no other write of the list meets is read back. -/
theorem Mem.read_putWords (m : Mem) (ws : List (Nat × Nat)) {b v : Nat} (hwf : m.wf = true) (hmem : (b, v) ∈ ws)
    (h : ∀ w ∈ ws, w = (b, v) ∨ b + 4 ≤ w.1 ∨ w.1 + 4 ≤ b) : leNat ((m.putWords ws).read b 4) = v % 2 ^ 32 := by
  induction ws generalizing m with
  | nil => exact absurd hmem List.not_mem_nil
  | cons w ws ih =>
    have htail : ∀ x ∈ ws, x = (b, v) ∨ b + 4 ≤ x.1 ∨ x.1 + 4 ≤ b := fun x hx => h x (List.mem_cons_of_mem w hx)
    by_cases hin : (b, v) ∈ ws
    · exact ih _ (Mem.write_wf _ _ _ hwf) hin htail
    · have hw : w = (b, v) := (List.mem_cons.mp hmem).elim Eq.symm fun hx => absurd hx hin
      have hout : ∀ x ∈ ws, b + 4 ≤ x.1 ∨ x.1 + 4 ≤ b := fun x hx => (htail x hx).elim (fun e => absurd (e ▸ hx) hin) fun e => e
      have hread := m.read_write_same b (leBytes 4 v) hwf
      rw [leBytes_length] at hread
      have hlast : ((m.putWords (w :: ws)).read b 4) = (m.write b (leBytes 4 v)).read b 4 := by
        subst hw
        exact Mem.read_putWords_out _ ws hout
      rw [hlast, hread, leNat_leBytes, show 256 ^ 4 = 2 ^ 32 from rfl]

/-! ### One or two words in each lane -/

/-- Write the low word of a result to a lane of register d and, where it is wide, the high word to that of d + 1. -/
def State.putResult (s : State) (r : PodRef) (p : Pod) (d : Nat) (wide : Bool) (l w : Nat) : State :=
  let s := s.vput r p d l (w % 2 ^ 32)
  if wide then s.vput r p (d + 1) l (w / 2 ^ 32) else s

/-- The words that this writes. -/
def resultWords (r : PodRef) (p : Pod) (d : Nat) (wide : Bool) (l w : Nat) : List (Nat × Nat) :=
  (if d = 255 then [] else [(p.vbase r d + l * 4, w % 2 ^ 32)]) ++ (if wide = true ∧ d + 1 ≠ 255 then [(p.vbase r (d + 1) + l * 4, w / 2 ^ 32)] else [])

theorem State.putResult_eq (s : State) (r : PodRef) (p : Pod) (d : Nat) (wide : Bool) (l w : Nat) :
    s.putResult r p d wide l w = s.modVrf r (fun m => m.putWords (resultWords r p d wide l w)) := by
  simp only [State.putResult, State.vput_eq, resultWords]
  by_cases hd : d = 255
  · cases wide
    · simp only [hd, if_true, Bool.false_eq_true, if_false, false_and, List.append_nil]
      exact (s.modVrf_id r).symm
    · simp only [hd, if_true, true_and, Nat.reduceAdd, Nat.reduceEqDiff, if_false, ne_eq, not_false_eq_true, List.nil_append]
      rfl
  · cases wide
    · simp only [hd, if_false, Bool.false_eq_true, false_and, List.append_nil]
      rfl
    · by_cases hd' : d + 1 = 255
      · simp only [hd, hd', if_true, if_false, ne_eq, not_true_eq_false, and_false, List.append_nil]
        rfl
      · simp only [hd, hd', if_true, if_false, ne_eq, not_false_eq_true, and_self, State.modVrf_modVrf]
        rfl

/-- Write the results of several lanes. -/
def State.putResults (s : State) (r : PodRef) (p : Pod) (d : Nat) (wide : Bool) (ls : List Nat) (w : Nat → Nat) : State :=
  ls.foldl (fun s l => s.putResult r p d wide l (w l)) s

theorem State.putResults_eq (s : State) (r : PodRef) (p : Pod) (d : Nat) (wide : Bool) (ls : List Nat) (w : Nat → Nat) :
    s.putResults r p d wide ls w = s.modVrf r (fun m => m.putWords (ls.flatMap (fun l => resultWords r p d wide l (w l)))) := by
  induction ls generalizing s with
  | nil => exact (s.modVrf_id r).symm
  | cons l ls ih =>
    refine (ih (s.putResult r p d wide l (w l))).trans ?_
    rw [State.putResult_eq, State.modVrf_modVrf]
    refine congrArg (s.modVrf r) (funext fun m => ?_)
    rw [List.flatMap_cons, Mem.putWords, Mem.putWords, Mem.putWords, List.foldl_append]

section
variable {s : State} {r : PodRef} {q : Pod} (p : Pod) (d : Nat) (wide : Bool) (mask : Nat) (w : Nat → Nat)

theorem State.pod_putResults (ls : List Nat) (r' : PodRef) : (s.putResults r p d wide ls w).pod? r' = s.pod? r' := by
  rw [State.putResults_eq]
  exact s.pod_modVrf r r' _

theorem State.putResults_podOnly (ls : List Nat) : PodOnly s (s.putResults r p d wide ls w) r := by
  rw [State.putResults_eq]
  exact s.modVrf_podOnly r _

theorem Pod.vbase_add (r : PodRef) (k : Nat) : p.vbase r (d + k) = p.vbase r d + k * 128 := by
  cases r <;> simp only [Pod.vbase] <;> omega

/-- A word that a lane of one of the two registers takes. -/
theorem mem_resultWords {x : Nat × Nat} {l v : Nat} : x ∈ resultWords r p d wide l v ↔
    (d ≠ 255 ∧ x = (p.vbase r d + l * 4, v % 2 ^ 32)) ∨ (wide = true ∧ d + 1 ≠ 255 ∧ x = (p.vbase r d + 128 + l * 4, v / 2 ^ 32)) := by
  have hnext : p.vbase r (d + 1) = p.vbase r d + 128 := p.vbase_add d r 1
  rw [resultWords, List.mem_append, hnext]
  refine or_congr ?_ ?_
  · split
    · next h => exact ⟨fun hx => absurd hx List.not_mem_nil, fun hx => absurd h hx.1⟩
    · next h => exact List.mem_singleton.trans (and_iff_right h).symm
  · split
    · next h => exact List.mem_singleton.trans ⟨fun hx => ⟨h.1, h.2, hx⟩, fun hx => hx.2.2⟩
    · next h => exact ⟨fun hx => absurd hx List.not_mem_nil, fun hx => absurd ⟨hx.1, hx.2.1⟩ h⟩

/-- The lanes of the mask take the low words in register d. -/
theorem State.vget_putResults (h : s.pod? r = some q) (hwf : (s.vrf r).wf = true) (hd : d ≠ 255) {l : Nat} (hl : l < 32) :
    (s.putResults r p d wide (lanesOf mask) w).vget r p d l = if mask.testBit l then w l % 2 ^ 32 else s.vget r p d l := by
  rw [State.vget_eq, State.vget_eq, State.putResults_eq, if_neg hd, if_neg hd, State.vrf_modVrf _ h]
  split
  case isTrue hbit =>
    rw [Mem.read_putWords _ _ hwf (v := w l % 2 ^ 32), Nat.mod_mod]
    · exact List.mem_flatMap.mpr ⟨l, mem_lanesOf.mpr ⟨hl, hbit⟩, (mem_resultWords p d wide).mpr (.inl ⟨hd, rfl⟩)⟩
    · intro x hx
      obtain ⟨k, hk, hx⟩ := List.mem_flatMap.mp hx
      obtain ⟨hk32, -⟩ := mem_lanesOf.mp hk
      rcases (mem_resultWords p d wide).mp hx with ⟨-, rfl⟩ | ⟨-, -, rfl⟩
      · rcases Nat.lt_trichotomy k l with hlt | rfl | hgt
        · exact .inr (.inr (by dsimp only; omega))
        · exact .inl rfl
        · exact .inr (.inl (by dsimp only; omega))
      · exact .inr (.inl (by dsimp only; omega))
  case isFalse hbit =>
    rw [Mem.read_putWords_out]
    intro x hx
    obtain ⟨k, hk, hx⟩ := List.mem_flatMap.mp hx
    obtain ⟨hk32, hkbit⟩ := mem_lanesOf.mp hk
    have hne : k ≠ l := fun e => hbit (e ▸ hkbit)
    rcases (mem_resultWords p d wide).mp hx with ⟨-, rfl⟩ | ⟨-, -, rfl⟩ <;> dsimp only <;> omega

/-- They take the high words in register d + 1. -/
theorem State.vget_putResults_succ (h : s.pod? r = some q) (hwf : (s.vrf r).wf = true) (hwide : wide = true) (hd : d + 1 ≠ 255) {l : Nat} (hl : l < 32) :
    (s.putResults r p d wide (lanesOf mask) w).vget r p (d + 1) l = if mask.testBit l then w l / 2 ^ 32 % 2 ^ 32 else s.vget r p (d + 1) l := by
  rw [State.vget_eq, State.vget_eq, State.putResults_eq, if_neg hd, if_neg hd, State.vrf_modVrf _ h, p.vbase_add d r 1, Nat.one_mul]
  split
  case isTrue hbit =>
    rw [Mem.read_putWords _ _ hwf (v := w l / 2 ^ 32)]
    · exact List.mem_flatMap.mpr ⟨l, mem_lanesOf.mpr ⟨hl, hbit⟩, (mem_resultWords p d wide).mpr (.inr ⟨hwide, hd, rfl⟩)⟩
    · intro x hx
      obtain ⟨k, hk, hx⟩ := List.mem_flatMap.mp hx
      obtain ⟨hk32, -⟩ := mem_lanesOf.mp hk
      rcases (mem_resultWords p d wide).mp hx with ⟨-, rfl⟩ | ⟨-, -, rfl⟩
      · exact .inr (.inr (by dsimp only; omega))
      · rcases Nat.lt_trichotomy k l with hlt | rfl | hgt
        · exact .inr (.inr (by dsimp only; omega))
        · exact .inl rfl
        · exact .inr (.inl (by dsimp only; omega))
  case isFalse hbit =>
    rw [Mem.read_putWords_out]
    intro x hx
    obtain ⟨k, hk, hx⟩ := List.mem_flatMap.mp hx
    obtain ⟨hk32, hkbit⟩ := mem_lanesOf.mp hk
    have hne : k ≠ l := fun e => hbit (e ▸ hkbit)
    rcases (mem_resultWords p d wide).mp hx with ⟨-, rfl⟩ | ⟨-, -, rfl⟩ <;> dsimp only <;> omega

/-- The storage outside the registers keeps its bytes; a wide result has an even register. -/
theorem State.putResults_vregsBut (h : s.pod? r = some q) (heven : wide = true → d % 2 = 0) :
    VregsBut s (s.putResults r p d wide (lanesOf mask) w) r p d (if d = 255 then 0 else if wide then 2 else 1) := by
  intro a ha
  rw [State.putResults_eq, State.vrf_modVrf _ h]
  refine Mem.get_putWords_out _ _ fun x hx => ?_
  obtain ⟨k, hk, hx⟩ := List.mem_flatMap.mp hx
  obtain ⟨hk32, -⟩ := mem_lanesOf.mp hk
  rw [p.vbase_add d r] at ha
  rcases (mem_resultWords p d wide).mp hx with ⟨hd, rfl⟩ | ⟨hw, -, rfl⟩
  · rw [if_neg hd] at ha
    dsimp only
    split at ha <;> omega
  · have := heven hw
    rw [if_neg (by omega), if_pos hw] at ha
    dsimp only
    omega

end

/-! ### Flags that nothing enables -/

theorem State.modPod_modPod (s : State) (r : PodRef) {f : Pod → Pod} (hf : ∀ q, (f q).slot = q.slot) (g : Pod → Pod) :
    (s.modPod r f).modPod r g = s.modPod r (fun q => g (f q)) := by
  cases r with
  | guard => simp only [State.modPod, Option.map_map]; rfl
  | slot c k =>
    have hpod : ∀ q : Pod, (if (if q.slot = k then f q else q).slot = k then g (if q.slot = k then f q else q) else if q.slot = k then f q else q) =
        if q.slot = k then g (f q) else q := by
      intro q
      by_cases h : q.slot = k
      · rw [if_pos h, if_pos h, if_pos ((hf q).trans h)]
      · rw [if_neg h, if_neg h, if_neg h]
    have hcore : ∀ co : Core, (co.pods.map (fun q => if q.slot = k then f q else q)).map (fun q => if q.slot = k then g q else q) =
        co.pods.map (fun q => if q.slot = k then g (f q) else q) := fun co => by
      rw [List.map_map]
      exact List.map_congr_left fun q _ => hpod q
    simp only [State.modPod, State.modCore, List.modify_modify_eq]
    refine congrArg (fun l => { s with cores := l }) (congrArg (s.cores.modify c) (funext fun co => ?_))
    simp only [Function.comp, hcore co]

theorem State.modPod_id (s : State) (r : PodRef) : s.modPod r (fun q => q) = s := by
  cases r with
  | guard => simp only [State.modPod, Option.map_id']
  | slot c k =>
    have hcore : (fun co : Core => { co with pods := co.pods.map (fun q => if q.slot = k then q else q) }) = id := by
      funext co
      simp only [ite_self, List.map_id', id]
    rw [State.modPod, State.modCore, hcore, List.modify_id]

theorem PodUpdate.flags (n : Nat) : PodUpdate (fun q => { q with fpstat := q.fpstat ||| n }) := ⟨fun _ => rfl, fun _ _ _ => rfl⟩

/-- Flags that TRAP_EN does not enable go to FPSTAT, and nothing else comes of them (10 R276). -/
theorem State.raise_quiet (s : State) (r : PodRef) (p : Pod) (next : Nat) {fl : List (Nat × Nat)} (h : ∀ x ∈ fl, x.2 &&& p.trapEn = 0) :
    s.raise r p next fl = s.modPod r (fun q => { q with fpstat := q.fpstat ||| (fl.map (·.2)).foldl (· ||| ·) 0 }) := by
  have hen : fl.filter (fun x => decide (x.2 &&& p.trapEn ≠ 0)) = [] :=
    List.filter_eq_nil_iff.mpr fun x hx => by simp only [h x hx, ne_eq, not_true, decide_false, Bool.false_eq_true, not_false_eq_true]
  simp only [State.raise, hen, List.isEmpty_nil, if_true, List.foldl_map]
  split
  · next hall =>
    simp only [hall, Nat.or_zero]
    exact (s.modPod_id r).symm
  · rfl

/-! ### A write of lanes and an update of the pod -/

/-- The state after an instruction that writes lanes of DST (`wide`: of a pair) and updates its pod. -/
def State.wroteLanes (u : State) (r : PodRef) (p : Pod) (op : Nat) (i : Ins) (wide : Bool) (w : Nat → Nat) (f : Pod → Pod) (lat : Nat) : State :=
  (((u.moved r p op i).putResults r p i.d wide (lanesOf p.m0) w).modPod r f).ended r p op i lat

section
variable {u : State} {r : PodRef} {p : Pod} {op : Nat} {i : Ins} (wide : Bool) (w : Nat → Nat) {f : Pod → Pod} (lat : Nat)

theorem State.vrf_wroteLanes (hf : PodUpdate f) (h : u.pod? r = some p) :
    (u.wroteLanes r p op i wide w f lat).vrf r = ((u.moved r p op i).putResults r p i.d wide (lanesOf p.m0) w).vrf r := by
  obtain ⟨-, -, mpod⟩ := u.moved_frame op i h
  have hput := (State.pod_putResults (r := r) p i.d wide w (lanesOf p.m0) r).trans mpod
  obtain ⟨-, evrf, -⟩ := State.ended_frame p op i lat (State.pod_modPod f hf.slot hput)
  exact evrf.trans (State.modPod_podOnly _ r f hf.slot).2.1

theorem State.wroteLanes_frame (hf : PodUpdate f) (h : u.pod? r = some p) :
    PodAfter (u.wroteLanes r p op i wide w f lat) r p (f p) op i ∧ PodOnly u (u.wroteLanes r p op i wide w f lat) r := by
  obtain ⟨monly, -, mpod⟩ := u.moved_frame op i h
  have hput := (State.pod_putResults (r := r) p i.d wide w (lanesOf p.m0) r).trans mpod
  have hmod := State.pod_modPod f hf.slot hput
  rw [hf.moved] at hmod
  obtain ⟨hafter, eonly, -⟩ := State.ended_podAfter lat hmod
  exact ⟨hafter, ((monly.trans (State.putResults_podOnly ..)).trans (State.modPod_podOnly _ r f hf.slot).1).trans eonly⟩

theorem State.vget_wroteLanes (hf : PodUpdate f) (h : u.pod? r = some p) (hwf : (u.vrf r).wf = true) (hd : i.d ≠ 255) {l : Nat} (hl : l < 32) :
    (u.wroteLanes r p op i wide w f lat).vget r p i.d l = if p.m0.testBit l then w l % 2 ^ 32 else u.vget r p i.d l := by
  obtain ⟨-, mvrf, mpod⟩ := u.moved_frame op i h
  rw [State.vget_congr (State.vrf_wroteLanes wide w lat hf h), State.vget_putResults p i.d wide _ w mpod (by rwa [mvrf]) hd hl, State.vget_congr mvrf]

theorem State.vget_succ_wroteLanes (hf : PodUpdate f) (h : u.pod? r = some p) (hwf : (u.vrf r).wf = true) (hwide : wide = true) (hd : i.d + 1 ≠ 255)
    {l : Nat} (hl : l < 32) :
    (u.wroteLanes r p op i wide w f lat).vget r p (i.d + 1) l = if p.m0.testBit l then w l / 2 ^ 32 % 2 ^ 32 else u.vget r p (i.d + 1) l := by
  obtain ⟨-, mvrf, mpod⟩ := u.moved_frame op i h
  rw [State.vget_congr (State.vrf_wroteLanes wide w lat hf h), State.vget_putResults_succ p i.d wide _ w mpod (by rwa [mvrf]) hwide hd hl,
    State.vget_congr mvrf]

theorem State.wroteLanes_vregsBut (hf : PodUpdate f) (h : u.pod? r = some p) (heven : wide = true → i.d % 2 = 0) :
    VregsBut u (u.wroteLanes r p op i wide w f lat) r p i.d (if i.d = 255 then 0 else if wide then 2 else 1) := by
  obtain ⟨-, mvrf, mpod⟩ := u.moved_frame op i h
  intro a ha
  rw [State.vrf_wroteLanes wide w lat hf h, State.putResults_vregsBut p i.d wide _ w mpod heven a ha, mvrf]

end

/-- A DST of two vector registers is even in a legal instruction (09 Table ISA-6, DETAIL 4). -/
theorem dst_even_of_legal {guard pixel : Bool} {op : Nat} {i : Ins} (h : illegal guard pixel op i = none) (hk : (kindsOf op i).1 = .v 2) : i.d % 2 = 0 := by
  refine Classical.byContradiction fun hodd => ?_
  have hd : kindErrs (kindsOf op i).1 i.d = [4] := by rw [hk, kindErrs, if_neg hodd]
  have hfour : ∀ a b c : List Nat, ([4] ++ a ++ b ++ c).contains 4 = true := by simp
  simp only [illegal, hd, hfour, if_true] at h
  repeat' split at h
  all_goals cases h

/-- An instruction that issues is legal. -/
theorem IssuesAt.legal {s u : State} {r : PodRef} {p : Pod} {op : Nat} {i : Ins} (h : IssuesAt s r p op i u) :
    illegal (r == .guard) p.pixel op i = none := by
  obtain ⟨-, hs, -⟩ := h
  exact (State.spelled_inv hs).2.2.1

theorem State.vget64_congr {s t : State} {r : PodRef} (h : t.vrf r = s.vrf r) (p : Pod) : t.vget64 r p = s.vget64 r p := by
  funext n l
  rw [State.vget64, State.vget64, State.vget_congr h]

theorem State.vb64_congr {s t : State} {r : PodRef} (h : t.vrf r = s.vrf r) (p : Pod) (i : Ins) : t.vb64 r p i = s.vb64 r p i := by
  funext l
  rw [State.vb64, State.vb64, State.vget64_congr h]

/-! ### Floating-point instructions -/

theorem State.fpDone_quiet (s : State) (r : PodRef) (p : Pod) (op : Nat) (i : Ins) (wide : Bool) {x : Nat → FR}
    (h : ∀ l ∈ lanesOf p.m0, (x l).fl &&& p.trapEn = 0) :
    s.fpDone r p op i wide ((lanesOf p.m0).map (fun l => (l, x l))) =
      (s.putResults r p i.d wide (lanesOf p.m0) (fun l => (x l).w)).modPod r (fun q => { q with fpstat := q.fpstat ||| laneFlags p x }) := by
  have hquiet : ∀ y ∈ ((lanesOf p.m0).map (fun l => (l, x l))).map (fun y => (y.1, y.2.fl)), y.2 &&& p.trapEn = 0 := by
    intro y hy
    obtain ⟨z, hz, rfl⟩ := List.mem_map.mp hy
    obtain ⟨l, hl, rfl⟩ := List.mem_map.mp hz
    exact h l hl
  rw [State.fpDone, State.raise_quiet _ r p _ hquiet, List.foldl_map]
  simp only [List.map_map]
  rfl

/-- An instruction whose lanes raise no enabled flag writes their results and gathers their flags. -/
theorem float_result {s u : State} {r : PodRef} {p : Pod} {op : Nat} {i : Ins} {wide : Bool} {x : Nat → FR} {o : Out} (lat : Nat)
    (h : IssuesAt s r p op i u) (hwf : (u.vrf r).wf = true) (hkind : wide = true → (kindsOf op i).1 = .v 2)
    (ho : o = .next (((u.moved r p op i).fpDone r p op i wide ((lanesOf p.m0).map (fun l => (l, x l)))).ended r p op i lat))
    (hquiet : ∀ l, p.m0.testBit l → l < 32 → (x l).fl &&& p.trapEn = 0) :
    ∃ t, o = .next t ∧ (i.d ≠ 255 → ∀ l, l < 32 → t.vget r p i.d l = if p.m0.testBit l then (x l).w % 2 ^ 32 else u.vget r p i.d l) ∧
      (wide = true → i.d + 1 ≠ 255 → ∀ l, l < 32 → t.vget r p (i.d + 1) l =
        if p.m0.testBit l then (x l).w / 2 ^ 32 % 2 ^ 32 else u.vget r p (i.d + 1) l) ∧
      VregsBut u t r p i.d (if i.d = 255 then 0 else if wide then 2 else 1) ∧
      PodAfter t r p { p with fpstat := p.fpstat ||| laneFlags p x } op i ∧ PodOnly u t r := by
  have heven : wide = true → i.d % 2 = 0 := fun hw => dst_even_of_legal h.legal (hkind hw)
  rw [State.fpDone_quiet _ r p op i wide fun l hl => hquiet l (mem_lanesOf.mp hl).2 (mem_lanesOf.mp hl).1] at ho
  have hf := PodUpdate.flags (laneFlags p x)
  obtain ⟨hafter, honly⟩ := State.wroteLanes_frame wide (fun l => (x l).w) lat hf h.pod
  exact ⟨_, ho, fun hd l hl => State.vget_wroteLanes wide _ lat hf h.pod hwf hd hl,
    fun hw hd l hl => State.vget_succ_wroteLanes wide _ lat hf h.pod hwf hw hd hl, State.wroteLanes_vregsBut wide _ lat hf h.pod heven, hafter, honly⟩

/-- An FP32 instruction computes the function of its sources under their modifiers. -/
theorem floatResult_of_f32Op {c : PodRef → Ins → Instr} {op : Nat} {ev : String} {f : Nat → Bool → Nat → Nat → Nat → FR}
    (hexec : ∀ r i s, exec (c r i) s = f32Op ev op r i s f) (hop : op < 256 := by decide) (h6 : op ≠ 6 := by decide) :
    FloatResult c op false (fun p i g y l =>
      f p.arith p.ftz (srcMod 32 i.m 0 (g i.a l)) (srcMod 32 i.m 1 (y l)) (srcMod 32 i.m 2 (g i.c l))) := by
  intro s u r p i h hwf
  obtain ⟨-, mvrf, -⟩ := u.moved_frame op i h.pod
  obtain ⟨cyc, hread, hcyc⟩ := (u.moved r p op i).exists_cycles_eq r p op i
  refine ⟨cyc, hcyc, fun hquiet => float_result (latOf op) h hwf (fun hw => absurd hw (by decide)) ((hexec r i s).trans ?_) hquiet⟩
  exact issue_done h hop h6 ev (by simp only [hread, State.vget_congr mvrf, State.vb_congr mvrf]; rfl)

/-- An FP64 instruction computes the function of its sources under their modifiers. -/
theorem floatResult_of_f64Op {c : PodRef → Ins → Instr} {op : Nat} {ev : String} {f : Nat → Bool → Nat → Nat → Nat → FR}
    (hexec : ∀ r i s, exec (c r i) s = f64Op ev op r i s f) (hkind : ∀ i, (kindsOf op i).1 = .v 2) (hop : op < 256 := by decide)
    (h6 : op ≠ 6 := by decide) :
    FloatResult c op true (fun p i g y l =>
      f p.arith p.ftz (srcMod 64 i.m 0 (g i.a l)) (srcMod 64 i.m 1 (y l)) (srcMod 64 i.m 2 (g i.c l))) := by
  intro s u r p i h hwf
  obtain ⟨-, mvrf, -⟩ := u.moved_frame op i h.pod
  obtain ⟨cyc, -, hcyc⟩ := (u.moved r p op i).exists_cycles_eq r p op i
  refine ⟨cyc, hcyc, fun hquiet => float_result (latOf op) h hwf (fun _ => hkind i) ((hexec r i s).trans ?_) hquiet⟩
  exact issue_done h hop h6 ev (by simp only [State.vget64_congr mvrf, State.vb64_congr mvrf, if_true])

/-- The FMA of one 16-bit half, from bit k on, of the operands of a lane. -/
def halfFma (f : Fmt) (p : Pod) (i : Ins) (g : Nat → Nat → Nat) (b : Nat → Nat) (l k : Nat) : FR :=
  f.fma p.arith p.ftz (srcMod 16 i.m 0 (g i.a l / 2 ^ k % 2 ^ 16)) (srcMod 16 i.m 1 (b l / 2 ^ k % 2 ^ 16)) (srcMod 16 i.m 2 (g i.c l / 2 ^ k % 2 ^ 16))

/-- The half-precision FMAs work on both halves of a lane (10 R277). -/
theorem floatResult_of_halfOp {c : PodRef → Ins → Instr} {op : Nat} {ev : String} {f : Fmt}
    (hexec : ∀ r i s, exec (c r i) s = halfOp ev op f r i s) (hop : op < 256 := by decide) (h6 : op ≠ 6 := by decide) :
    FloatResult c op false (fun p i g y l =>
      ⟨(halfFma f p i g y l 0).w + (halfFma f p i g y l 16).w * 2 ^ 16, (halfFma f p i g y l 0).fl ||| (halfFma f p i g y l 16).fl, false⟩) := by
  intro s u r p i h hwf
  obtain ⟨-, mvrf, -⟩ := u.moved_frame op i h.pod
  obtain ⟨cyc, hread, hcyc⟩ := (u.moved r p op i).exists_cycles_eq r p op i
  refine ⟨cyc, hcyc, fun hquiet => float_result 4 h hwf (fun hw => absurd hw (by decide)) ((hexec r i s).trans ?_) hquiet⟩
  exact issue_done h hop h6 ev (by simp only [hread, State.vget_congr mvrf, State.vb_congr mvrf, Nat.shiftRight_eq_div_pow]; rfl)

/-- The mask of the lanes in which a compare holds, out of the outcomes of all. -/
theorem maskOf_outcomes (ls : List Nat) (x : Nat → Bool × Nat) :
    maskOf (((ls.map (fun l => (l, x l))).filter (fun y => y.2.1)).map (·.1)) = maskOf (ls.filter (fun l => (x l).1)) := by
  rw [List.filter_map, List.map_map]
  exact congrArg maskOf (List.map_id _)

theorem fpCond_fst (f : Fmt) (z : Bool) (m a b : Nat) :
    (fpCond f z m a b).1 = if (f.decode z a).isNan || (f.decode z b).isNan then m.testBit 3 else (f.cmp z (m % 8) a b).1 := rfl

theorem fpCond_snd (f : Fmt) (z : Bool) (m a b : Nat) : (fpCond f z m a b).2 = (f.cmp z (m % 8) a b).2 := rfl

/-- A compare whose lanes raise no enabled flag writes its mask and gathers their flags (09 R247). -/
theorem compare_result {s u : State} {r : PodRef} {p : Pod} {op : Nat} {i : Ins} {ev : String} {f : Fmt} {a b : State → Pod → Nat → Nat → Nat} {cyc : Nat}
    {a' b' : Nat → Nat} (h : IssuesAt s r p op i u) (hop : op < 256) (h6 : op ≠ 6) (hread : (u.moved r p op i).cycles r p op i = (cyc, u.moved r p op i))
    (ha : a (u.moved r p op i) p cyc = a') (hb : b (u.moved r p op i) p cyc = b')
    (hquiet : ∀ l, p.m0.testBit l → l < 32 → (f.cmp p.ftz (i.m % 8) (a' l) (b' l)).2 &&& p.trapEn = 0) :
    ∃ t q, cmpOp ev op r i s f a b = .next t ∧ t.pod? r = some q ∧
      (let p' := p.sput i.d (maskOf ((lanesOf p.m0).filter (fun l =>
         if (f.decode p.ftz (a' l)).isNan || (f.decode p.ftz (b' l)).isNan then i.m.testBit 3 else (f.cmp p.ftz (i.m % 8) (a' l) (b' l)).1)))
       q = { p' with
         fpstat := p'.fpstat ||| ((lanesOf p.m0).map (fun l => (f.cmp p.ftz (i.m % 8) (a' l) (b' l)).2)).foldl (· ||| ·) 0
         pc := p.pc + insLen op i, stalled := [], tm := q.tm }) ∧
      PodOnly u t r ∧ t.vrf r = u.vrf r := by
  simp only [← fpCond_fst, ← fpCond_snd] at hquiet ⊢
  let x := fun l => fpCond f p.ftz i.m (a' l) (b' l)
  let v := maskOf ((lanesOf p.m0).filter (fun l => (x l).1))
  let fl := ((lanesOf p.m0).map (fun l => (x l).2)).foldl (· ||| ·) 0
  have hf : PodUpdate (fun q => { q.sput i.d v with fpstat := (q.sput i.d v).fpstat ||| fl }) := (PodUpdate.flags fl).comp (PodUpdate.sput i.d v)
  have hlanes : ∀ y ∈ ((lanesOf p.m0).map (fun l => (l, x l))).map (fun y => (y.1, y.2.2)), y.2 &&& p.trapEn = 0 := by
    intro y hy
    obtain ⟨z, hz, rfl⟩ := List.mem_map.mp hy
    obtain ⟨l, hl, rfl⟩ := List.mem_map.mp hz
    exact hquiet l (mem_lanesOf.mp hl).2 (mem_lanesOf.mp hl).1
  have hbody : ((u.moved r p op i).modPod r (fun q => q.sput i.d v)).raise r p (p.pc + insLen op i)
      (((lanesOf p.m0).map (fun l => (l, x l))).map (fun y => (y.1, y.2.2))) =
      (u.moved r p op i).modPod r (fun q => { q.sput i.d v with fpstat := (q.sput i.d v).fpstat ||| fl }) := by
    rw [State.raise_quiet _ r p _ hlanes, State.modPod_modPod _ r (PodUpdate.sput i.d v).slot, List.map_map, List.map_map]
    rfl
  have hexec : cmpOp ev op r i s f a b = .next (((u.moved r p op i).modPod r
      (fun q => { q.sput i.d v with fpstat := (q.sput i.d v).fpstat ||| fl })).ended r p op i (latOf op)) :=
    issue_done h hop h6 ev (by
      simp only [hread, ha, hb]
      rw [maskOf_outcomes (lanesOf p.m0) x]
      exact congrArg (Body.done · (latOf op)) hbody)
  obtain ⟨⟨q, hpod, hq⟩, honly, hvrf⟩ := State.update_podAfter (latOf op) hf h.pod
  exact ⟨_, q, hexec, hpod, hq, honly, hvrf⟩

/-- What VCVT makes of its pod: the lanes converted move their generators on, and their flags are gathered. -/
def Pod.converted (q p : Pod) (x : Nat → FR × Nat) : Pod :=
  { q with
    fpstat := q.fpstat ||| laneFlags p (fun l => (x l).1)
    gens := (lanesOf p.m0).foldl (fun g l => g.set l (x l).2) q.gens }

theorem PodUpdate.converted (p : Pod) (x : Nat → FR × Nat) : PodUpdate (fun q => q.converted p x) := ⟨fun _ => rfl, fun _ _ _ => rfl⟩

/-- A lane of VCVT converted: the result with its flags, and the lane's generator. -/
def State.convertedLane (u : State) (r : PodRef) (p : Pod) (i : Ins) (l : Nat) : FR × Nat :=
  convertLane i.b i.c (p.cvtMode (i.m / 2 % 8)) p.ftz (i.m.testBit 0) (p.gens.getD l 0) (if i.b = 0x11 then u.vget64 r p i.a l else u.vget r p i.a l)

/-- VCVT whose lanes raise no enabled flag writes their results and updates its pod. -/
theorem vcvt_exec {s u : State} {r : PodRef} {p : Pod} {i : Ins} (h : IssuesAt s r p 0x60 i u)
    (hquiet : ∀ l, p.m0.testBit l → l < 32 → (u.convertedLane r p i l).1.fl &&& p.trapEn = 0) :
    execVcvt r i s = .next (u.wroteLanes r p 0x60 i (decide (i.c = 0x11)) (fun l => (u.convertedLane r p i l).1.w)
      (fun q => q.converted p (u.convertedLane r p i)) 4) := by
  obtain ⟨-, mvrf, -⟩ := u.moved_frame 0x60 i h.pod
  have hlanes : ∀ y ∈ ((lanesOf p.m0).map (fun l => (l, u.convertedLane r p i l))).map (fun y => (y.1, y.2.1.fl)), y.2 &&& p.trapEn = 0 := by
    intro y hy
    obtain ⟨z, hz, rfl⟩ := List.mem_map.mp hy
    obtain ⟨l, hl, rfl⟩ := List.mem_map.mp hz
    exact hquiet l (mem_lanesOf.mp hl).2 (mem_lanesOf.mp hl).1
  refine issue_done h (by decide) (by decide) "VCVT" ?_
  simp only [State.vget_congr mvrf, State.vget64_congr mvrf]
  refine congrArg (Body.done · 4) ?_
  refine (State.raise_quiet _ r p _ hlanes).trans ?_
  refine (State.modPod_modPod _ r (by exact fun _ => rfl) _).trans ?_
  simp only [List.foldl_map, State.putResults, State.putResult, decide_eq_true_eq, Pod.converted, laneFlags]
  rfl

end Sys2Proof.Machine

open Sys2Proof Sys2Proof.Machine

/-- Settles O38: each instruction is of the FP32, the half-precision or the FP64 form, whose lanes raise no enabled flag here. -/
theorem floatResults : Obligations.FloatResults := by
  refine ⟨?single, ?double⟩
  case single =>
    intro a b c half
    refine ⟨?vfadd, ?vfmul, ?vffma, ?vfmin, ?vfmax, ?vfdiv, ?vfsqrt, ?vfrcp, ?vfrsq, ?vfexp2, ?vflog2, ?vhfma, ?vbfma⟩
    case vfadd => exact floatResult_of_f32Op (f := fun m z a b _ => fp32.add m z a b) fun _ _ _ => rfl
    case vfmul => exact floatResult_of_f32Op (f := fun m z a b _ => fp32.mul m z a b) fun _ _ _ => rfl
    case vffma => exact floatResult_of_f32Op (f := fun m z a b c => fp32.fma m z a b c) fun _ _ _ => rfl
    case vfmin => exact floatResult_of_f32Op (f := fun _ z a b _ => fp32.minMax z false a b) fun _ _ _ => rfl
    case vfmax => exact floatResult_of_f32Op (f := fun _ z a b _ => fp32.minMax z true a b) fun _ _ _ => rfl
    case vfdiv => exact floatResult_of_f32Op (f := fun m z a b _ => fp32.div m z a b) fun _ _ _ => rfl
    case vfsqrt => exact floatResult_of_f32Op (f := fun m z a _ _ => fp32.sqrt m z a) fun _ _ _ => rfl
    case vfrcp => exact floatResult_of_f32Op (f := fun _ z a _ _ => vfrcp z a) fun _ _ _ => rfl
    case vfrsq => exact floatResult_of_f32Op (f := fun _ z a _ _ => vfrsq z a) fun _ _ _ => rfl
    case vfexp2 => exact floatResult_of_f32Op (f := fun _ z a _ _ => vfexp2 z a) fun _ _ _ => rfl
    case vflog2 => exact floatResult_of_f32Op (f := fun _ z a _ _ => vflog2 z a) fun _ _ _ => rfl
    case vhfma => exact floatResult_of_halfOp (f := fp16) fun _ _ _ => rfl
    case vbfma => exact floatResult_of_halfOp (f := bf16) fun _ _ _ => rfl
  case double =>
    intro a b
    refine ⟨?vdadd, ?vdmul, ?vdfma, ?vddiv, ?vdsqrt⟩
    case vdadd => exact floatResult_of_f64Op (f := fun m z a b _ => fp64.add m z a b) (fun _ _ _ => rfl) fun _ => rfl
    case vdmul => exact floatResult_of_f64Op (f := fun m z a b _ => fp64.mul m z a b) (fun _ _ _ => rfl) fun _ => rfl
    case vdfma => exact floatResult_of_f64Op (f := fun m z a b c => fp64.fma m z a b c) (fun _ _ _ => rfl) fun _ => rfl
    case vddiv => exact floatResult_of_f64Op (f := fun m z a b _ => fp64.div m z a b) (fun _ _ _ => rfl) fun _ => rfl
    case vdsqrt => exact floatResult_of_f64Op (f := fun m z a _ _ => fp64.sqrt m z a) (fun _ _ _ => rfl) fun _ => rfl

/-- Settles O37: a compare updates its pod alone; its mask takes the lanes by their outcomes. -/
theorem compareMasks : Obligations.CompareMasks := by
  intro s u r p i wide
  cases wide
  case false =>
    intro op f h
    obtain ⟨cyc, hread, hcyc⟩ := (u.moved r p 0x49 i).exists_cycles_eq r p 0x49 i
    obtain ⟨-, mvrf, -⟩ := u.moved_frame 0x49 i h.pod
    simp only [Bool.false_eq_true, if_false, op, f]
    exact ⟨cyc, hcyc, fun hquiet => compare_result (a := fun s p _ l => s.vget r p i.a l) (b := fun s p cyc l => s.vb r p i cyc l)
      h (by decide) (by decide) hread (congrFun (State.vget_congr mvrf p) i.a) (State.vb_congr mvrf p i cyc) hquiet⟩
  case true =>
    intro op f h
    obtain ⟨cyc, hread, hcyc⟩ := (u.moved r p 0x57 i).exists_cycles_eq r p 0x57 i
    obtain ⟨-, mvrf, -⟩ := u.moved_frame 0x57 i h.pod
    simp only [if_true, op, f]
    exact ⟨cyc, hcyc, fun hquiet => compare_result (a := fun s p _ l => s.vget64 r p i.a l) (b := fun s p _ l => s.vb64 r p i l)
      h (by decide) (by decide) hread (congrFun (State.vget64_congr mvrf p) i.a) (State.vb64_congr mvrf p i) hquiet⟩

/-- Settles O39: VCVT writes its lanes and, in its pod, the generators and the flags. -/
theorem convertResults : Obligations.ConvertResults := by
  intro s u r p i h hwf x hquiet
  have heven : decide (i.c = 0x11) = true → i.d % 2 = 0 := fun hc =>
    dst_even_of_legal h.legal (by simp only [kindsOf, of_decide_eq_true hc, if_true])
  have hf := PodUpdate.converted p x
  have hexec := vcvt_exec h hquiet
  obtain ⟨hafter, honly⟩ := State.wroteLanes_frame (decide (i.c = 0x11)) (fun l => (x l).1.w) 4 hf h.pod
  have hothers := State.wroteLanes_vregsBut (op := 0x60) (decide (i.c = 0x11)) (fun l => (x l).1.w) 4 hf h.pod heven
  simp only [decide_eq_true_eq] at hothers
  exact ⟨_, hexec, fun hd l hl => State.vget_wroteLanes _ _ 4 hf h.pod hwf hd hl,
    fun hc hd l hl => State.vget_succ_wroteLanes _ _ 4 hf h.pod hwf (decide_eq_true hc) hd hl, hothers, hafter, honly⟩

end

section
/-! The control and branch groups, the raster-order interlock, and instructions that are refused (08 R211, R215 to R217, R229; 09 R235, R238, R241 to R243, R257,
R258). -/

namespace Sys2Proof.Machine

/-- The pod after an instruction whose whole effect on it is an update of the pod moved past it. -/
theorem State.update_pod {u : State} {r : PodRef} {p : Pod} {op : Nat} {i : Ins} (lat : Nat) (f : Pod → Pod) (hf : ∀ q, (f q).slot = q.slot)
    (h : u.pod? r = some p) :
    let t := ((u.moved r p op i).modPod r f).ended r p op i lat
    (∃ q, t.pod? r = some q ∧ q = { f { p with pc := p.pc + insLen op i, stalled := [] } with tm := q.tm }) ∧ PodOnly u t r ∧ t.vrf r = u.vrf r := by
  obtain ⟨honly, hvrf, hpod⟩ := u.moved_frame op i h
  obtain ⟨monly, mvrf, -⟩ := (u.moved r p op i).modPod_podOnly r f hf
  obtain ⟨eonly, evrf, tm, epod⟩ := State.ended_frame p op i lat (State.pod_modPod f hf hpod)
  exact ⟨⟨_, epod, rfl⟩, (honly.trans monly).trans eonly, evrf.trans (mvrf.trans hvrf)⟩

/-! ### Branches -/

/-- OFF24 is the three source fields of the word, the last on top (09 R243). -/
theorem off24_eq (i : Ins) : BitVec.ofNat 24 (Ins.off24 i) = (i.src2 ++ i.src1 ++ i.src0 : BitVec 24) := by
  apply BitVec.eq_of_toNat_eq
  have h0 := i.src0.isLt
  have h1 := i.src1.isLt
  have h2 := i.src2.isLt
  rw [BitVec.toNat_append, BitVec.toNat_append, ← Nat.shiftLeft_add_eq_or_of_lt h1, ← Nat.shiftLeft_add_eq_or_of_lt h0, BitVec.toNat_ofNat, Ins.off24]
  simp only [Nat.shiftLeft_eq]
  omega

theorem branchTo_eq (p : Pod) (i : Ins) :
    branchTo p.pc (Ins.off24 i) = (((p.pc : Int) + 8 * (i.src2 ++ i.src1 ++ i.src0 : BitVec 24).toInt) % 2 ^ 64).toNat := by
  rw [branchTo, ofInt, asInt_eq_toInt, off24_eq]
  rfl

/-- An instruction that updates its pod and leaves its PC at an address. -/
theorem goes_of_update {s u : State} {r : PodRef} {p p' : Pod} {op : Nat} {i : Ins} {cyc : Nat} {o : Out} (next : Nat → Nat) (f : Pod → Pod)
    (h : IssuesAt s r p op i u) (hcyc : CyclesAt r p op i cyc) (hf : ∀ q, (f q).slot = q.slot)
    (hp : f { p with pc := p.pc + insLen op i, stalled := [] } = { p' with pc := next cyc, stalled := [] })
    (ho : o = .next (((u.moved r p op i).modPod r f).ended r p op i 2)) :
    ∃ t q cyc, o = .next t ∧ CyclesAt r p op i cyc ∧ t.pod? r = some q ∧ q = { p' with pc := next cyc, stalled := [], tm := q.tm } ∧
      PodOnly u t r ∧ t.vrf r = u.vrf r := by
  obtain ⟨⟨q, hpod, hq⟩, honly, hvrf⟩ := State.update_pod (op := op) (i := i) 2 f hf h.pod
  rw [hp] at hq
  exact ⟨_, q, cyc, ho, hcyc, hpod, hq, honly, hvrf⟩

/-- A conditional branch is a change of the PC that may leave it as it is. -/
theorem State.jump_ite (s : State) (r : PodRef) (b : Prop) [Decidable b] (a : Nat) :
    (if b then s.jump r a else s) = s.modPod r (fun q => if b then { q with pc := a } else q) := by
  split
  · rfl
  · exact (s.modPod_id r).symm

theorem branch_slot (b : Prop) [Decidable b] (a : Nat) (q : Pod) : (if b then { q with pc := a } else q : Pod).slot = q.slot := by
  split <;> rfl

/-! ### Traps -/

/-- A pod of a shader core that issues has no trap waiting (08 R216). -/
theorem State.trap_none_of_spelled {s u : State} {c k : Nat} {p : Pod} {op : Nat} {i : Ins} (h : s.spelled (.slot c k) p op i = some u) : p.trap = none := by
  obtain ⟨hready, -⟩ := State.spelled_inv h
  simp only [State.podReady, Bool.and_eq_true, Option.isNone_iff_eq_none] at hready
  grind

/-- A trap waits at its pod, and changes nothing else. -/
theorem State.trap_frame {v : State} {c k : Nat} {p : Pod} (t : Trap) (hpod : v.pod? (.slot c k) = some p) (hnone : p.trap = none) :
    (v.trap (.slot c k) t).pod? (.slot c k) = some { p with trap := some t } ∧ PodOnly v (v.trap (.slot c k) t) (.slot c k) ∧
      (v.trap (.slot c k) t).vrf (.slot c k) = v.vrf (.slot c k) := by
  have hslot : ∀ q : Pod, (if q.trap.isSome then { q with lateTraps := q.lateTraps ++ [t] } else { q with trap := some t }).slot = q.slot := fun q => by
    split <;> rfl
  have hmod := State.pod_modPod (fun q : Pod => if q.trap.isSome then { q with lateTraps := q.lateTraps ++ [t] } else { q with trap := some t }) hslot hpod
  rw [hnone] at hmod
  obtain ⟨honly, hvrf, -⟩ := v.modPod_podOnly (.slot c k)
    (fun q : Pod => if q.trap.isSome then { q with lateTraps := q.lateTraps ++ [t] } else { q with trap := some t }) hslot
  exact ⟨hmod, honly, hvrf⟩

theorem State.core_moved_ts (u : State) (r : PodRef) (p : Pod) (op : Nat) (i : Ins) (h : u.pod? r = some p) (c : Nat) :
    ((u.moved r p op i).core c).ts = (u.core c).ts := by
  obtain ⟨honly, -, -⟩ := u.moved_frame op i h
  have hcore := congrArg Core.ts (honly.cores c)
  exact hcore

end Sys2Proof.Machine

open Sys2Proof Sys2Proof.Machine

/-- Settles O40: branches, TRAP and the guard core's BAR and FENCE update their pod alone; EXIT, BAR, TRET and FENCE do what their operation of the core does. That a
FENCE completes once its pod has no operation in flight is the model's choice (log entry 21). -/
theorem controlInstructions : Obligations.ControlInstructions := by
  refine ⟨?branches, ⟨?exit, ?trap, ?bar, ?barGuard, ?tret⟩, ?fence, ?fenceGuard⟩
  case branches =>
    intro target goes
    have hcycles := fun (u : State) r p op i => (u.moved r p op i).exists_cycles_eq r p op i
    refine ⟨?nop, ?jmp, ?jz, ?jnz, ?call, ?jmpr⟩
    case nop =>
      intro s u r p i h _
      obtain ⟨cyc, -, hcyc⟩ := hcycles u r p 0x00 i
      refine goes_of_update (fun _ => p.pc + insLen 0x00 i) (fun q => q) h hcyc (fun _ => rfl) rfl ?_
      rw [State.modPod_id]
      exact issue_done h (by decide) (by decide) "NOP" rfl
    case jmp =>
      intro s u r p i h _
      obtain ⟨cyc, -, hcyc⟩ := hcycles u r p 0x10 i
      refine goes_of_update (fun _ => target p i) (fun q => { q with pc := target p i }) h hcyc (fun _ => rfl) rfl ?_
      exact issue_done h (by decide) (by decide) "JMP" (by rw [branchTo_eq]; rfl)
    case jz =>
      intro s u r p i h _
      obtain ⟨cyc, hread, hcyc⟩ := hcycles u r p 0x11 i
      refine goes_of_update (fun cyc => if p.sv i cyc i.d = 0 then target p i else p.pc + 8)
        (fun q => if p.sv i cyc i.d = 0 then { q with pc := target p i } else q) h hcyc (branch_slot _ _) ?_ ?_
      · by_cases hz : p.sv i cyc i.d = 0
        · simp only [if_pos hz]
        · simp only [if_neg hz]; rfl
      · exact issue_done h (by decide) (by decide) "JZ" (by simp only [hread, branchTo_eq, State.jump_ite]; rfl)
    case jnz =>
      intro s u r p i h _
      obtain ⟨cyc, hread, hcyc⟩ := hcycles u r p 0x12 i
      refine goes_of_update (fun cyc => if p.sv i cyc i.d = 0 then p.pc + 8 else target p i)
        (fun q => if p.sv i cyc i.d ≠ 0 then { q with pc := target p i } else q) h hcyc (branch_slot _ _) ?_ ?_
      · by_cases hz : p.sv i cyc i.d = 0
        · simp only [ne_eq, hz, not_true, if_false]; rfl
        · simp only [ne_eq, hz, not_false_eq_true, if_true, if_false]
      · exact issue_done h (by decide) (by decide) "JNZ" (by simp only [hread, branchTo_eq, State.jump_ite]; rfl)
    case call =>
      intro s u r p i h _
      obtain ⟨cyc, -, hcyc⟩ := hcycles u r p 0x13 i
      let put := fun q : Pod => (q.sput i.d (p.pc + 8)).sput (i.d + 1) ((p.pc + 8) / 2 ^ 32)
      have hput : PodUpdate put := (PodUpdate.sput (i.d + 1) ((p.pc + 8) / 2 ^ 32)).comp (PodUpdate.sput i.d (p.pc + 8))
      refine goes_of_update (fun _ => target p i) (fun q => { put q with pc := target p i }) h hcyc hput.slot ?_ ?_
      · rw [hput.moved]
        dsimp only
        rw [Pod.sput_mod]
      · refine issue_done h (by decide) (by decide) "CALL" ?_
        simp only [branchTo_eq, State.jump]
        exact congrArg (Body.done · 2) (State.modPod_modPod _ r hput.slot _)
    case jmpr =>
      intro s u r p i h halign
      obtain ⟨cyc, -, hcyc⟩ := hcycles u r p 0x14 i
      refine goes_of_update (fun _ => p.sv64 i i.a) (fun q => { q with pc := p.sv64 i i.a }) h hcyc (fun _ => rfl) rfl ?_
      exact issue_done h (by decide) (by decide) "JMPR" (if_neg (not_not_intro (halign rfl)))
  case exit =>
    intro s u r p i h
    exact issue_done h (by decide) (by decide) "EXIT" rfl
  case trap =>
    intro s u c k p i h
    obtain ⟨-, hs, -⟩ := id h
    obtain ⟨monly, mvrf, mpod⟩ := u.moved_frame 0x02 i h.pod
    have hnone : p.trap = none := State.trap_none_of_spelled hs
    obtain ⟨tpod, tonly, tvrf⟩ := State.trap_frame { cause := 1, detail := i.a, pc := p.pc, resume := after p 0x02 i } mpod hnone
    obtain ⟨hafter, eonly, evrf⟩ := State.ended_podAfter (p' := { p with trap := _ }) 2 tpod
    exact ⟨_, issue_done h (by decide) (by decide) "TRAP" rfl, hafter, (monly.trans tonly).trans eonly, evrf.trans (tvrf.trans mvrf)⟩
  case bar =>
    intro s u c k p i h
    exact issue_done h (by decide) (by decide) "BAR" rfl
  case barGuard =>
    intro s u p i h
    obtain ⟨monly, -, mpod⟩ := u.moved_frame 0x04 i h.pod
    obtain ⟨hafter, eonly, -⟩ := State.ended_podAfter 0 mpod
    exact ⟨_, issue_done h (by decide) (by decide) "BAR" rfl, hafter, monly.trans eonly⟩
  case tret =>
    intro s u c k p i h hmode
    refine issue_done h (by decide) (by decide) "TRET" ?_
    simp only [hmode, if_true, State.core_moved_ts u _ p 0x03 i h.pod]
    rfl
  case fence =>
    intro s u c k p i h
    obtain ⟨-, -, mpod⟩ := u.moved_frame 0x05 i h.pod
    let v := u.moved (.slot c k) p 0x05 i
    let w := if 3 ≤ i.mod.toNat % 8 then v.inc (rk R.CORE_FENCE_DEV_COUNT c) else v
    let join := fun q : Pod =>
      { q with fences := q.fences ++ [(i.mod.toNat % 8, i.inc.toNat)], sb := if i.inc.toNat < 6 then q.sb.modify i.inc.toNat (· + 1) else q.sb }
    have hw : w.pod? (.slot c k) = some { p with pc := p.pc + insLen 0x05 i, stalled := [] } := by
      have hsame : w.pod? (.slot c k) = v.pod? (.slot c k) := by simp only [w]; split <;> rfl
      exact hsame.trans mpod
    have hx : (w.modPod (.slot c k) join).pod? (.slot c k) = some (join { p with pc := p.pc + insLen 0x05 i, stalled := [] }) :=
      State.pod_modPod join (fun _ => rfl) hw
    refine ⟨_, _, issue_done h (by decide) (by decide) "FENCE" ?_, hx, rfl⟩
    change (match (w.modPod (.slot c k) join).pod? (.slot c k) with
      | some q => Body.done ((w.modPod (.slot c k) join).fencesDone c q) 0
      | none => Body.done (w.modPod (.slot c k) join) 0) = _
    rw [hx]
  case fenceGuard =>
    intro s u p i h
    obtain ⟨monly, -, mpod⟩ := u.moved_frame 0x05 i h.pod
    obtain ⟨hafter, eonly, -⟩ := State.ended_podAfter (p.tm.busy - p.issueAt 0x05 i) mpod
    exact ⟨_, issue_done h (by decide) (by decide) "FENCE" rfl, hafter, monly.trans eonly⟩

end

section
/-! The raster-order interlock, and instructions that are refused (09 R235, R238, R257, R258; 08 Table COR-7). -/

namespace Sys2Proof.Machine

/-- A pod that has a defined opcode's words at its PC and may not execute them is refused: the instruction is not performed (09 R238). -/
theorem issue_of_illegal {s u v : State} {r : PodRef} {p : Pod} {op : Nat} {i : Ins} {d : Nat} (hop : op < 256) (hdef : opDefined op = true)
    (hpod : s.pod? r = some p) (hready : s.podReady r p op i = true) (hfetch : s.fetch r p p.pc = (.word (insWord op i), u))
    (hext : insLen op i = 8 ∧ v = u ∨ insLen op i ≠ 8 ∧ u.fetch r p (p.pc + 8) = (.word i.ext.toNat, v))
    (hbad : illegal (r == .guard) p.pixel op i = some d) (ev : String) (body : State → Pod → Nat → Body) :
    issue ev op r i s body = .next (v.illegalFault r p d) := by
  rcases hext with ⟨hlen, rfl⟩ | ⟨hlen, hx⟩
  · simp [issue, hpod, hready, hfetch, insWord_opcode op i hop, hdef, hlen, hbad]
  · simp [issue, hpod, hready, hfetch, insWord_opcode op i hop, hdef, hlen, hx, hbad]

/-- The lowest vector register out of range is the one that REG_RANGE names (09 R235). -/
theorem regRange_eq_some {vregs op n : Nat} {i : Ins} (hmem : n ∈ vregsOf op i) (hge : vregs ≤ n) (hn : n ≠ 255)
    (hmin : ∀ m ∈ vregsOf op i, vregs ≤ m → m ≠ 255 → n ≤ m) : regRange vregs op i = some n := by
  rw [regRange, List.min?_eq_some_iff]
  constructor
  · simp only [List.mem_filter, Bool.and_eq_true, decide_eq_true_eq]
    exact ⟨hmem, hge, hn⟩
  · intro m hm
    simp only [List.mem_filter, Bool.and_eq_true, decide_eq_true_eq] at hm
    exact hmin m hm.1 hm.2.1 hm.2.2

/-- An instruction that executes on a register out of range traps, its pod moved past it but for its cycles. -/
theorem issueGo_of_regRange {u : State} {r : PodRef} {p : Pod} {op : Nat} {i : Ins} {n : Nat} (hfree : p.freeFor r op i = true) (hpred : predOk p i = true)
    (hroom : u.lineRoom r op = true) (hlane : laneOp op = true → p.m0 ≠ 0) (hrange : regRange p.vregs op i = some n) (ev : String)
    (body : State → Pod → Nat → Body) :
    issueGo ev op r i u p (p.issueCycle r op i) body =
      .next ((u.moved r p op i).trap r { cause := 4, detail := n, lanes := if laneOp op then p.m0 else 0, pc := p.pc, resume := p.pc }) := by
  obtain ⟨hregs, hinc⟩ := Pod.not_held_of_freeFor hfree
  rw [hpred, Bool.and_true] at hinc
  have hlanes : (laneOp op && decide (p.m0 = 0)) = false := by
    by_cases hl : laneOp op = true
    · rw [hl, decide_eq_false (hlane hl)]; rfl
    · rw [Bool.eq_false_iff.mpr hl]; rfl
  simp only [issueGo, hregs, hinc, hpred, hroom, hlanes, hrange, Bool.and_true, Bool.not_true, Bool.false_eq_true, if_false]
  rfl

end Sys2Proof.Machine

open Sys2Proof Sys2Proof.Machine

/-- Settles O46: both are what their body does to the pod and its tile. -/
theorem pixelInterlock : Obligations.PixelInterlock := by
  refine ⟨?pixlock, ?pixunlk⟩
  case pixlock =>
    intro s u c k p i h
    refine issue_done h (by decide) (by decide) "PIXLOCK" ?_
    simp only [List.partition_eq_filter_filter, Function.comp_def, Bool.not_not]
    rfl
  case pixunlk =>
    intro s u c k p i h
    exact issue_done h (by decide) (by decide) "PIXUNLK" rfl

/-- Settles O47: an illegal instruction is found before its predicate is asked for, and its pod issues nothing more (log entry 20). -/
theorem instructionsRefused : Obligations.InstructionsRefused := by
  refine ⟨?illegal, ?range⟩
  case illegal =>
    intro s u v r p ev op i body d hop hdef hpod hready hfetch hext hbad
    rw [issue_of_illegal hop hdef hpod hready hfetch hext hbad]
    cases r <;> rfl
  case range =>
    intro s u c k p ev op i body n r hop hpod hs hu hfree hpred hroom hlane hmem hge hn hmin
    have hrange := regRange_eq_some hmem hge hn hmin
    obtain ⟨monly, -, mpod⟩ := u.moved_frame op i hu
    have hnone : p.trap = none := State.trap_none_of_spelled hs
    obtain ⟨tpod, tonly, -⟩ := State.trap_frame { cause := 4, detail := n, lanes := if laneOp op then p.m0 else 0, pc := p.pc, resume := p.pc }
      mpod hnone
    exact ⟨_, (issue_of_spelled hpod hs hop ev body).trans (issueGo_of_regRange hfree hpred hroom hlane hrange ev body), ⟨_, tpod, rfl⟩, monly.trans tonly⟩

end

section
/-! The memory group on the guard core and in tile store (08 R218 to R223; 09 R249 to R254, R261, R262). -/

namespace Sys2Proof.Machine

/-! ### Addresses and data are read from the vector registers -/

section
variable {s t : State} {r : PodRef} (h : t.vrf r = s.vrf r) (p : Pod) (i : Ins)
include h

theorem State.memAddrs_congr (e size : Nat) : t.memAddrs r p i e size = s.memAddrs r p i e size := by
  simp only [State.memAddrs, State.vget_congr h, State.vget64_congr h]

theorem State.tileAddrs_congr (cyc e size : Nat) : t.tileAddrs r p i cyc e size = s.tileAddrs r p i cyc e size := by
  simp only [State.tileAddrs, State.vget_congr h]

theorem State.laneData_congr (d size : Nat) : t.laneData r p d size = s.laneData r p d size := by
  funext l
  simp only [State.laneData, State.vget_congr h]

theorem State.laneAtom_congr : t.laneAtom r p i = s.laneAtom r p i := by
  funext l
  simp only [State.laneAtom, State.laneData_congr h]

end

/-- Accesses whose addresses are multiples of their size raise no MISALIGNED trap (08 R219). -/
theorem misaligned_eq_none {p : Pod} {as : List (Nat × Nat)} {size : Nat} (h : ∀ a ∈ as, a.2 % size = 0) : misaligned p as size = none := by
  have hbad : as.filter (fun a => decide (a.2 % size ≠ 0)) = [] :=
    List.filter_eq_nil_iff.mpr fun a ha => by simp only [h a ha, ne_eq, not_true, decide_false, Bool.false_eq_true, not_false_eq_true]
  simp only [misaligned, hbad, List.map_nil, List.isEmpty_nil, if_true]

theorem State.gRange_moved (u : State) (p : Pod) (op : Nat) (i : Ins) (wr : Bool) (n : Nat) (as : List (Nat × Nat)) :
    (u.moved .guard p op i).gRange wr n as = u.gRange wr n as := rfl

/-! ### Guard SRAM -/

section
variable {s u : State} {p : Pod} {i : Ins}

theorem ld_guard (h : IssuesAt s .guard p 0x70 i u) (hm : misaligned p (u.memAddrs .guard p i p.m0 (Machine.sizeOf i.m)) (Machine.sizeOf i.m) = none)
    (hr : u.gRange false (Machine.sizeOf i.m) (u.memAddrs .guard p i p.m0 (Machine.sizeOf i.m)) = none) :
    execLd .guard i s = .next (((u.moved .guard p 0x70 i).gLoads (Machine.sizeOf i.m)
      (fun s l v => s.putLane .guard p i.d l (Machine.sizeOf i.m) (extend (Machine.sizeOf i.m) (i.m.testBit 3) v))
      (u.memAddrs .guard p i p.m0 (Machine.sizeOf i.m))).ended .guard p 0x70 i (6 + extraWords (u.memAddrs .guard p i p.m0 (Machine.sizeOf i.m)))) := by
  obtain ⟨-, hvrf, -⟩ := u.moved_frame 0x70 i h.pod
  exact issue_done h (by decide) (by decide) "LD" (by simp only [State.memAddrs_congr hvrf, State.gRange_moved, hm, hr])

theorem st_guard (h : IssuesAt s .guard p 0x71 i u) (hm : misaligned p (u.memAddrs .guard p i p.m0 (Machine.sizeOf i.m)) (Machine.sizeOf i.m) = none)
    (hr : u.gRange true (Machine.sizeOf i.m) (u.memAddrs .guard p i p.m0 (Machine.sizeOf i.m)) = none) :
    execSt .guard i s = .next (((u.moved .guard p 0x71 i).gStores (Machine.sizeOf i.m) (u.laneData .guard p i.d (Machine.sizeOf i.m))
      (u.memAddrs .guard p i p.m0 (Machine.sizeOf i.m))).ended .guard p 0x71 i (6 + extraWords (u.memAddrs .guard p i p.m0 (Machine.sizeOf i.m)))) := by
  obtain ⟨-, hvrf, -⟩ := u.moved_frame 0x71 i h.pod
  exact issue_done h (by decide) (by decide) "ST" (by simp only [State.memAddrs_congr hvrf, State.laneData_congr hvrf, State.gRange_moved, hm, hr])

theorem sld_guard (h : IssuesAt s .guard p 0x72 i u) (hm : misaligned p [(32, scalarAddr p i)] (Machine.sizeOf i.m) = none)
    (hr : u.gRange false (Machine.sizeOf i.m) [(32, scalarAddr p i)] = none) :
    execSld .guard i s = .next (((u.moved .guard p 0x72 i).gLoads (Machine.sizeOf i.m) (fun s _ v => s.modPod .guard (fun q =>
      if Machine.sizeOf i.m = 8 then (q.sput i.d v).sput (i.d + 1) (v / 2 ^ 32) else q.sput i.d v)) [(32, scalarAddr p i)]).ended .guard p 0x72 i 6) :=
  issue_done h (by decide) (by decide) "SLD" (by simp only [State.gRange_moved, hm, hr])

theorem sst_guard (h : IssuesAt s .guard p 0x73 i u) (hm : misaligned p [(32, scalarAddr p i)] (Machine.sizeOf i.m) = none)
    (hr : u.gRange true (Machine.sizeOf i.m) [(32, scalarAddr p i)] = none) :
    execSst .guard i s = .next (((u.moved .guard p 0x73 i).gStores (Machine.sizeOf i.m)
      (fun _ => if Machine.sizeOf i.m = 8 then p.sget i.d + p.sget (i.d + 1) * 2 ^ 32 else p.sget i.d) [(32, scalarAddr p i)]).ended .guard p 0x73 i 6) :=
  issue_done h (by decide) (by decide) "SST" (by simp only [State.gRange_moved, hm, hr])

theorem atom_guard {as : List (Nat × Nat)} (has : as = (lanesOf p.m0).map (fun l => (l, u.vget64 .guard p i.a l))) (h : IssuesAt s .guard p 0x80 i u)
    (hm : misaligned p as (if i.m.testBit 4 then 8 else 4) = none) (hr : u.gRange true (if i.m.testBit 4 then 8 else 4) as = none) :
    execAtom .guard i s = .next (((u.moved .guard p 0x80 i).gAtoms .guard p i.d (if i.m.testBit 4 then 8 else 4) (fun l => u.laneAtom .guard p i l)
      as).ended .guard p 0x80 i (6 + extraWords as)) := by
  obtain ⟨-, hvrf, -⟩ := u.moved_frame 0x80 i h.pod
  exact issue_done h (by decide) (by decide) "ATOM"
    (by simp only [State.vget64_congr hvrf, State.laneAtom_congr hvrf, ← has, State.gRange_moved, hm, hr])

end

end Sys2Proof.Machine

open Sys2Proof Sys2Proof.Machine

/-- Settles O42: accesses that are aligned and lie in guard SRAM are made lane by lane. -/
theorem guardMemoryIssues : Obligations.GuardMemoryIssues := by
  intro s u p i r size wide go vec one word
  refine ⟨?ld, ?st, ?sld, ?sst, ?atom⟩
  case ld => exact fun ⟨h, halign, hrange⟩ => ld_guard h (misaligned_eq_none halign) hrange
  case st => exact fun ⟨h, halign, hrange⟩ => st_guard h (misaligned_eq_none halign) hrange
  case sld => exact fun ⟨h, halign, hrange⟩ => sld_guard h (misaligned_eq_none halign) hrange
  case sst => exact fun ⟨h, halign, hrange⟩ => sst_guard h (misaligned_eq_none halign) hrange
  case atom =>
    intro as
    exact fun ⟨h, halign, hrange⟩ => atom_guard rfl h (misaligned_eq_none halign) hrange

end

section
/-! Tile store as pods access it (08 R218 to R223; 09 R249, R252, R253). -/

namespace Sys2Proof.Machine

/-! ### Bytes that several lanes write -/

theorem leBytes_getElem (n v j : Nat) (h : j < (leBytes n v).length) : (leBytes n v)[j] = BitVec.ofNat 8 (v / 2 ^ (8 * j)) := by
  induction n generalizing v j with
  | zero => exact absurd h (Nat.not_lt_zero j)
  | succ n ih =>
    cases j with
    | zero => rw [Nat.mul_zero, Nat.pow_zero, Nat.div_one]; rfl
    | succ j =>
      have hj : j < (leBytes n (v / 256)).length := Nat.lt_of_succ_lt_succ h
      have hpow : 256 * 2 ^ (8 * j) = 2 ^ (8 * (j + 1)) := by rw [Nat.mul_add, Nat.pow_add, Nat.mul_comm]
      have := ih (v / 256) j hj
      rw [Nat.div_div_eq_div_mul, hpow] at this
      exact this

/-- Lanes write their data, one after another. -/
def Mem.putData (m : Mem) (size : Nat) (val : Nat → Nat) (as : List (Nat × Nat)) : Mem := as.foldl (fun m a => m.write a.2 (leBytes size (val a.1))) m

theorem Mem.get_putData_out (m : Mem) {size : Nat} {val : Nat → Nat} {as : List (Nat × Nat)} {x : Nat} (h : ∀ a ∈ as, x < a.2 ∨ a.2 + size ≤ x) :
    (m.putData size val as).get x = m.get x := by
  induction as generalizing m with
  | nil => rfl
  | cons a as ih =>
    have ha := h a (List.mem_cons_self ..)
    exact (ih _ fun b hb => h b (List.mem_cons_of_mem a hb)).trans (Mem.get_write_out _ _ _ _ (by rwa [leBytes_length]))

/-- Of the lanes that write a byte the last one's stands. -/
theorem Mem.get_putData_last (m : Mem) {size : Nat} {val : Nat → Nat} {as : List (Nat × Nat)} {l b j : Nat} (hwf : m.wf = true)
    (hlt : as.Pairwise (fun x y => x.1 < y.1)) (hmem : (l, b) ∈ as) (hj : j < size) (hlast : ∀ a ∈ as, l < a.1 → b + j < a.2 ∨ a.2 + size ≤ b + j) :
    (m.putData size val as).get (b + j) = BitVec.ofNat 8 (val l / 2 ^ (8 * j)) := by
  induction as generalizing m with
  | nil => exact absurd hmem List.not_mem_nil
  | cons a as ih =>
    obtain ⟨hhead, htail⟩ := List.pairwise_cons.mp hlt
    have hlast' : ∀ a ∈ as, l < a.1 → b + j < a.2 ∨ a.2 + size ≤ b + j := fun x hx => hlast x (List.mem_cons_of_mem a hx)
    rcases List.mem_cons.mp hmem with rfl | hin
    · have hlen : j < (leBytes size (val l)).length := by rwa [leBytes_length]
      refine ((m.write b (leBytes size (val l))).get_putData_out fun x hx => hlast' x hx (hhead x hx)).trans ?_
      rw [Mem.get_write_in _ _ _ _ hlen hwf, leBytes_getElem]
    · exact ih _ (Mem.write_wf _ _ _ hwf) htail hin hlast'

/-- The lanes of a mask go from the lowest up. -/
theorem lanesOf_pairwise (m : Nat) : (lanesOf m).Pairwise (· < ·) := List.pairwise_lt_range.filter _

/-! ### Accesses that are mapped -/

/-- Accesses that are aligned and lie in what the pod may reach go to the places that they name (08 R218, R219). -/
theorem State.tileGo_eq (s : State) {c k : Nat} {p : Pod} {as : List (Nat × Nat)} {size : Nat} (halign : ∀ a ∈ as, a.2 % size = 0)
    (hmap : ∀ a ∈ as, ∃ o, p.tsMap a.2 size = .ok o) (go : State → Nat → List (Nat × Nat) → State) :
    s.tileGo (.slot c k) p as size go = go (s.tsReplay (.slot c k) p.ctx as size) c (as.map (fun a => (a.1, (p.tsMap a.2 size).toOption.getD 0))) := by
  have hnone : as.findSome? (fun a => match p.tsMap a.2 size with | .error d => some (d, a.2) | .ok _ => none) = none := by
    rw [List.findSome?_eq_none_iff]
    intro a ha
    obtain ⟨o, ho⟩ := hmap a ha
    rw [ho]
  simp only [State.tileGo, misaligned_eq_none halign]
  split
  · next h => exact absurd (h.symm.trans hnone) (by simp)
  · rfl

theorem State.cycles_of_unread {s : State} {r : PodRef} {p : Pod} {op : Nat} {i : Ins} (h : (keysOf op i).contains (256 + 0x89) = false) :
    s.cycles r p op i = (0, s) := by
  rw [State.cycles, h]
  rfl

/-- Replays are counted, and nothing else. -/
theorem State.tsReplay_cores (s : State) (r : PodRef) (ctx : Nat) (as : List (Nat × Nat)) (size : Nat) : (s.tsReplay r ctx as size).cores = s.cores := by
  cases r with
  | guard => rfl
  | slot c k =>
    obtain ⟨⟨g, a, h⟩, -⟩ := (s.bump (rk R.CORE_TS_REPLAY_COUNT c) (replays as size)).perf_frame 0xA
      ((s.bump (rk R.CORE_TS_REPLAY_COUNT c) (replays as size)).ctxPart ctx) (replays as size)
    rw [State.tsReplay, State.perfCtx, h]
    rfl

/-! ### Stores -/

/-- Stores of lanes in tile store. -/
def State.tsStores (s : State) (c size : Nat) (val : Nat → Nat) (as : List (Nat × Nat)) : State :=
  as.foldl (fun s a => s.tsWrite c a.2 (leBytes size (val a.1))) s

theorem State.tsStores_ts (s : State) {c size : Nat} {val : Nat → Nat} {as : List (Nat × Nat)} (h : c < s.cores.length) :
    ((s.tsStores c size val as).core c).ts = (s.core c).ts.putData size val as := by
  induction as generalizing s with
  | nil => rfl
  | cons a as ih =>
    have hlen : c < (s.tsWrite c a.2 (leBytes size (val a.1))).cores.length := by
      rw [State.tsWrite, State.modCore, List.length_modify]
      exact h
    refine (ih _ hlen).trans ?_
    rw [State.tsWrite, State.core_modCore, if_pos ⟨rfl, h⟩]
    rfl

theorem State.tsStores_pods (s : State) (c size : Nat) (val : Nat → Nat) (as : List (Nat × Nat)) (c' : Nat) :
    ((s.tsStores c size val as).core c').pods = (s.core c').pods := by
  induction as generalizing s with
  | nil => rfl
  | cons a as ih => exact (ih _).trans (s.core_modCore_same Core.pods c c' fun _ => rfl)

/-- Stores touch neither the pods nor the registers, nor any byte that no lane writes. -/
theorem State.pod_tsStores (s : State) (c size : Nat) (val : Nat → Nat) (as : List (Nat × Nat)) (k : Nat) :
    (s.tsStores c size val as).pod? (.slot c k) = s.pod? (.slot c k) := by
  have hpods := s.tsStores_pods c size val as c
  simp only [State.core] at hpods
  simp only [State.pod?, hpods]

/-! ### The instructions -/

section
variable {s u : State} {c k : Nat} {p : Pod} {i : Ins} {as : List (Nat × Nat)}

/-- Where the accesses of lanes lie in the core's tile store. -/
def Pod.places (p : Pod) (as : List (Nat × Nat)) (size : Nat) : List (Nat × Nat) := as.map (fun a => (a.1, (p.tsMap a.2 size).toOption.getD 0))

theorem ldt_exec (h : IssuesAt s (.slot c k) p 0x90 i u) (hcyc : (keysOf 0x90 i).contains (256 + 0x89) = false)
    (has : as = u.tileAddrs (.slot c k) p i 0 p.m0 (Machine.sizeOf i.m))
    (hmap : ∀ a ∈ as, a.2 % Machine.sizeOf i.m = 0 ∧ ∃ o, p.tsMap a.2 (Machine.sizeOf i.m) = .ok o) :
    execLdt (.slot c k) i s = .next (((p.places as (Machine.sizeOf i.m)).foldl (fun s a =>
      (s.tsRead c a.2 (Machine.sizeOf i.m)).2.putLane (.slot c k) p i.d a.1 (Machine.sizeOf i.m)
        (extend (Machine.sizeOf i.m) (i.m.testBit 3) (leNat (s.tsRead c a.2 (Machine.sizeOf i.m)).1)))
      ((u.moved (.slot c k) p 0x90 i).tsReplay (.slot c k) p.ctx as (Machine.sizeOf i.m))).ended (.slot c k) p 0x90 i 0) := by
  obtain ⟨-, hvrf, -⟩ := u.moved_frame 0x90 i h.pod
  refine issue_done h (by decide) (by decide) "LDT" ?_
  simp only [State.cycles_of_unread hcyc, State.tileAddrs_congr hvrf, ← has]
  exact congrArg (Body.done · 0) (State.tileGo_eq _ (fun a ha => (hmap a ha).1) (fun a ha => (hmap a ha).2) _)

theorem atomt_exec (h : IssuesAt s (.slot c k) p 0x92 i u) (has : as = (lanesOf p.m0).map (fun l => (l, u.vget (.slot c k) p i.a l)))
    (hmap : ∀ a ∈ as, a.2 % (if i.m.testBit 4 then 8 else 4) = 0 ∧ ∃ o, p.tsMap a.2 (if i.m.testBit 4 then 8 else 4) = .ok o) :
    execAtomt (.slot c k) i s = .next (((p.places as (if i.m.testBit 4 then 8 else 4)).foldl (fun s a =>
      let o := u.laneAtom (.slot c k) p i a.1
      let old := leNat (s.tsRead c a.2 (if i.m.testBit 4 then 8 else 4)).1
      ((s.tsRead c a.2 (if i.m.testBit 4 then 8 else 4)).2.tsWrite c a.2
        (leBytes (if i.m.testBit 4 then 8 else 4) (atomApply o.op (8 * if i.m.testBit 4 then 8 else 4) o.ftz old o.a o.b))).putLane (.slot c k) p i.d a.1
          (if i.m.testBit 4 then 8 else 4) old)
      ((u.moved (.slot c k) p 0x92 i).tsReplay (.slot c k) p.ctx as (if i.m.testBit 4 then 8 else 4))).ended (.slot c k) p 0x92 i 0) := by
  obtain ⟨-, hvrf, -⟩ := u.moved_frame 0x92 i h.pod
  refine issue_done h (by decide) (by decide) "ATOMT" ?_
  simp only [State.vget_congr hvrf, State.laneAtom_congr hvrf, ← has]
  exact congrArg (Body.done · 0) (State.tileGo_eq _ (fun a ha => (hmap a ha).1) (fun a ha => (hmap a ha).2) _)

theorem stt_exec (h : IssuesAt s (.slot c k) p 0x91 i u) (hcyc : (keysOf 0x91 i).contains (256 + 0x89) = false)
    (has : as = u.tileAddrs (.slot c k) p i 0 p.m0 (Machine.sizeOf i.m))
    (hmap : ∀ a ∈ as, a.2 % Machine.sizeOf i.m = 0 ∧ ∃ o, p.tsMap a.2 (Machine.sizeOf i.m) = .ok o) :
    execStt (.slot c k) i s = .next ((((u.moved (.slot c k) p 0x91 i).tsReplay (.slot c k) p.ctx as (Machine.sizeOf i.m)).tsStores c (Machine.sizeOf i.m)
      (u.laneData (.slot c k) p i.d (Machine.sizeOf i.m)) (p.places as (Machine.sizeOf i.m))).ended (.slot c k) p 0x91 i 0) := by
  obtain ⟨-, hvrf, -⟩ := u.moved_frame 0x91 i h.pod
  refine issue_done h (by decide) (by decide) "STT" ?_
  simp only [State.cycles_of_unread hcyc, State.tileAddrs_congr hvrf, State.laneData_congr hvrf, ← has]
  exact congrArg (Body.done · 0) (State.tileGo_eq _ (fun a ha => (hmap a ha).1) (fun a ha => (hmap a ha).2) _)

/-- A store of lanes that are mapped leaves the pod past it and its tile store with the lanes' bytes. -/
theorem stt_frame (size : Nat) (val : Nat → Nat) (at' : List (Nat × Nat)) (hpod : u.pod? (.slot c k) = some p) :
    let t := (((u.moved (.slot c k) p 0x91 i).tsReplay (.slot c k) p.ctx as size).tsStores c size val at').ended (.slot c k) p 0x91 i 0
    PodAfter t (.slot c k) p p 0x91 i ∧ (t.core c).ts = (u.core c).ts.putData size val at' := by
  obtain ⟨-, -, mpod⟩ := u.moved_frame 0x91 i hpod
  let v := (u.moved (.slot c k) p 0x91 i).tsReplay (.slot c k) p.ctx as size
  have hcores : v.cores = (u.moved (.slot c k) p 0x91 i).cores := State.tsReplay_cores ..
  have vpod : v.pod? (.slot c k) = some { p with pc := p.pc + insLen 0x91 i, stalled := [] } := by
    rw [← mpod]
    simp only [State.pod?, hcores]
  have vts : (v.core c).ts = (u.core c).ts := by
    rw [← State.core_moved_ts u _ p 0x91 i hpod c]
    simp only [State.core, hcores]
  have spod := (v.pod_tsStores c size val at' k).trans vpod
  obtain ⟨hafter, eonly, -⟩ := State.ended_podAfter (op := 0x91) (i := i) 0 spod
  have ets := congrArg Core.ts (eonly.cores c)
  exact ⟨hafter, Eq.trans ets (by rw [State.tsStores_ts v (State.pod_core_lt vpod), vts])⟩

end

/-- The place of a lane's access is where its offset is mapped. -/
theorem Pod.mem_places {p : Pod} {as : List (Nat × Nat)} {size : Nat} (hmap : ∀ a ∈ as, ∃ o, p.tsMap a.2 size = .ok o) {x : Nat × Nat} :
    x ∈ p.places as size ↔ ∃ o, (x.1, o) ∈ as ∧ p.tsMap o size = .ok x.2 := by
  rw [Pod.places, List.mem_map]
  constructor
  · rintro ⟨a, ha, rfl⟩
    obtain ⟨o, ho⟩ := hmap a ha
    exact ⟨a.2, ha, by rw [ho]; rfl⟩
  · rintro ⟨o, ho, hx⟩
    exact ⟨(x.1, o), ho, by rw [hx]; rfl⟩

/-- The lanes of tile store accesses go from the lowest up, and stay in order where they are placed. -/
theorem State.places_tileAddrs_pairwise (u : State) (r : PodRef) (p : Pod) (i : Ins) (cyc e size n : Nat) :
    (p.places (u.tileAddrs r p i cyc e size) n).Pairwise (fun x y => x.1 < y.1) := by
  rw [Pod.places, State.tileAddrs, List.map_map, List.pairwise_map]
  exact lanesOf_pairwise e

end Sys2Proof.Machine

open Sys2Proof Sys2Proof.Machine

/-- Settles O43: aligned accesses that the pod's view maps are made by the command that issues them (log entry 21); of the stores at a byte the last, that of the highest
lane, stands. -/
theorem tileStoreAccesses : Obligations.TileStoreAccesses := by
  intro s u c k p i op r size h hcyc hwf as hmap at' v
  refine ⟨?ldt, ?atomt, ?stt⟩
  case ldt =>
    rintro rfl
    exact ldt_exec h hcyc rfl hmap
  case atomt =>
    rintro rfl
    exact atomt_exec h rfl hmap
  case stt =>
    rintro rfl
    have hplace := fun {x} => Pod.mem_places (x := x) (fun a ha => (hmap a ha).2)
    obtain ⟨hafter, hts⟩ := stt_frame (i := i) (as := as) size (u.laneData r p i.d size) (p.places as size) h.pod
    refine ⟨_, stt_exec h hcyc rfl hmap, hafter, ?highest, ?others⟩
    case highest =>
      intro l o hmem b hb j hj hlast
      refine (congrArg (Mem.get · (b + j)) hts).trans (Mem.get_putData_last _ hwf (State.places_tileAddrs_pairwise ..) (hplace.mpr ⟨o, hmem, hb⟩) hj ?_)
      intro x hx hl
      obtain ⟨o', ho', hb'⟩ := hplace.mp hx
      have := hlast x.1 o' ho' hl
      exact Classical.byContradiction fun hin => this ⟨x.2, hb', by omega, by omega⟩
    case others =>
      intro a hout
      refine (congrArg (Mem.get · a) hts).trans (Mem.get_putData_out _ fun x hx => ?_)
      obtain ⟨o, ho, hb⟩ := hplace.mp hx
      have := hout x.1 o x.2 ho hb
      omega

end

section
/-! Locks (08 R212 to R215; 09 R254, R261): where LKWAIT and UNLK find their lock words, and what LKWAIT makes of one lane. -/

namespace Sys2Proof.Machine

section
variable {s u : State} {p : Pod} {op : Nat} {i : Ins} {ev : String} {as : List (Nat × Nat)} {pre : Pod → Pod} {active : Pod → Nat → Nat}
  {step : State → Pod → Nat → Nat → Nat → (State → Nat → State) → State} {cleared : State → State}

/-- The lanes of a lock instruction and the addresses of their lock words. -/
def State.lockAddrs (u : State) (r : PodRef) (p : Pod) (i : Ins) (mask : Nat) : List (Nat × Nat) :=
  (lanesOf mask).map (fun l => (l, if i.m.testBit 0 then u.vget r p i.a l else u.vget64 r p i.a l))

/-- A lock instruction on the guard core takes its lanes through guard SRAM. -/
theorem lockOp_guard (h : IssuesAt s .guard p op i u) (hop : op < 256) (h6 : op ≠ 6) (hclear : ∀ s, s.modPod .guard pre = cleared s)
    (has : as = u.lockAddrs .guard p i (active p p.m0))
    (hm : misaligned p as 4 = none) (hr : u.gRange false 4 as = none) :
    lockOp ev op .guard i s pre active step =
      (let v := u.moved .guard p op i
       let w := (cleared v).lockLanes .guard 32 p (fun s l va w put => step s p l va w put) (as.map (fun a => (a.1, a.2, LockAt.sram a.2)))
       let fin := p.issueAt op i + 6 + (lanesOf (active p p.m0)).length
       let x := if w.gd.sram = v.gd.sram then w else w.modPod .guard (fun q => { q with tm := { q.tm with busy := max q.tm.busy fin } })
       .next ((x.orphan .guard).ended .guard p op i (6 + (lanesOf (active p p.m0)).length))) := by
  obtain ⟨-, hvrf, -⟩ := u.moved_frame op i h.pod
  rw [State.lockAddrs] at has
  exact issue_done h hop h6 ev (by simp only [State.vget_congr hvrf, State.vget64_congr hvrf, ← has, hm, State.gRange_moved, hr, hclear])

section
variable {c k : Nat}

/-- One on a shader core whose locks are in tile store takes its lanes through it. -/
theorem lockOp_tile (h : IssuesAt s (.slot c k) p op i u) (hop : op < 256) (h6 : op ≠ 6) (hclear : ∀ s, s.modPod (.slot c k) pre = cleared s)
    (has : as = u.lockAddrs (.slot c k) p i (active p p.m0))
    (hm : misaligned p as 4 = none) (htile : i.m.testBit 0 = true) (hmap : ∀ a ∈ as, ∃ o, p.tsMap a.2 4 = .ok o) :
    lockOp ev op (.slot c k) i s pre active step =
      .next ((((cleared ((u.moved (.slot c k) p op i).tsReplay (.slot c k) p.ctx as 4)).lockLanes (.slot c k) c p
        (fun s l va w put => step s p l va w put) (as.map (fun a => (a.1, a.2, LockAt.tile ((p.tsMap a.2 4).toOption.getD 0))))).orphan
          (.slot c k)).ended (.slot c k) p op i 0) := by
  obtain ⟨-, hvrf, -⟩ := u.moved_frame op i h.pod
  rw [State.lockAddrs] at has
  refine issue_done h hop h6 ev ?_
  simp only [State.vget_congr hvrf, State.vget64_congr hvrf, ← has]
  simp only [hm, htile, if_true, hclear]
  rw [List.findSome?_eq_none_iff.mpr ?mapped]
  case mapped =>
    intro a ha
    obtain ⟨o, ho⟩ := hmap a ha
    simp only [ho]

/-- One whose locks are in memory, with room for their lines and no line request before it, takes its lanes through the places that they translate to. -/
theorem lockOp_memory {v : State} {places : List (Nat × Nat × LockAt)} (h : IssuesAt s (.slot c k) p op i u) (hop : op < 256) (h6 : op ≠ 6)
    (hclear : ∀ s, s.modPod (.slot c k) pre = cleared s) (has : as = u.lockAddrs (.slot c k) p i (active p p.m0)) (hm : misaligned p as 4 = none) (htile : i.m.testBit 0 = false)
    (hbehind : (u.core c).lockBehind p as = false) (hroom : (u.core c).lines.length + (groupLines as).length ≤ 256)
    (hxlate : ((u.moved (.slot c k) p op i).bump (rk R.CORE_LINE_REQ_COUNT c) (groupLines as).length).lockXlate c (podWho c p) as [] [] =
      (.ok (places, []), v)) :
    lockOp ev op (.slot c k) i s pre active step =
      .next ((((cleared v).lockLanes (.slot c k) c p (fun s l va w put => step s p l va w put) places).orphan (.slot c k)).ended
        (.slot c k) p op i 0) := by
  obtain ⟨honly, hvrf, -⟩ := u.moved_frame op i h.pod
  rw [State.lockAddrs] at has
  have hlines : ((u.moved (.slot c k) p op i).core c).lines = (u.core c).lines := by
    have := congrArg Core.lines (honly.cores c)
    exact this
  have hb : ((u.moved (.slot c k) p op i).core c).lockBehind p as = false := by rwa [Core.lockBehind, hlines, ← Core.lockBehind]
  refine issue_done h hop h6 ev ?_
  simp only [State.vget_congr hvrf, State.vget64_congr hvrf, ← has]
  simp only [hm, htile, Bool.false_eq_true, if_false, hb, hlines, if_neg (Nat.not_lt.mpr hroom), hxlate,
    List.isEmpty_nil, if_true, hclear]

end
end

/-! ### What LKWAIT makes of one lane -/

/-- The bit of a lane in a mask register set or cleared. -/
def Pod.mark (q : Pod) (k l : Nat) (b : Bool) : Pod := { q with m := q.m.modify k (fun v => setBit v l b) }

theorem testBit_modify_setBit {m : List Nat} {k : Nat} (h : k < m.length) (l : Nat) (b : Bool) :
    ((m.modify k (fun v => setBit v l b)).getD k 0).testBit l = b := by
  rw [List.getD_eq_getElem?_getD, List.getElem?_modify, List.getElem?_eq_getElem h]
  simp only [Option.map_eq_map, Option.map_some, Option.getD_some, testBit_setBit, if_true]

/-- A pea that waits for a lock which another pea of its pod holds. -/
def Pod.parked (q : Pod) (tile : Bool) (l va : Nat) : Pod :=
  { q with
    m := q.m.modify 0 (fun v => setBit v l false), park := q.park ||| 1 <<< l
    parkAddr := (l, tile, va) :: q.parkAddr.filter (·.1 ≠ l) }

section
variable (s : State) (r : PodRef) (p : Pod) (tile : Bool) (k l va : Nat) {w : Nat} (put : State → Nat → State)

theorem State.lkLane_of_free (h : w = 0) : s.lkLane r p tile k l va w put = (put s (lockTag r p l)).modPod r (fun q => q.mark k l true) := if_pos h

theorem State.lkLane_of_mine (h0 : w ≠ 0) (h : w = lockTag r p l) : s.lkLane r p tile k l va w put = s.modPod r (fun q => q.mark k l true) :=
  (if_neg h0).trans (if_pos h)

theorem State.lkLane_of_pod (h0 : w ≠ 0) (h1 : w ≠ lockTag r p l) (h : samePod w (lockTag r p l) = true) :
    s.lkLane r p tile k l va w put = (s.modPod r (fun q => q.parked tile l va)).incCore r R.CORE_PARK_COUNT 1 :=
  (if_neg h0).trans ((if_neg h1).trans (if_pos h))

theorem State.lkLane_of_other (h0 : w ≠ 0) (h1 : w ≠ lockTag r p l) (h : samePod w (lockTag r p l) = false) :
    s.lkLane r p tile k l va w put = s.modPod r (fun q => q.mark k l false) :=
  (if_neg h0).trans ((if_neg h1).trans (if_neg (by simp [h])))

end

theorem State.pod_incCore (s : State) (r r' : PodRef) (off n : Nat) : (s.incCore r off n).pod? r' = s.pod? r' := by
  cases r <;> cases r' <;> rfl

theorem testBit_or_shift (n l : Nat) : (n ||| 1 <<< l).testBit l = true := by
  rw [Nat.testBit_or, Nat.one_shiftLeft, Nat.testBit_two_pow_self, Bool.or_true]

end Sys2Proof.Machine

open Sys2Proof Sys2Proof.Machine

/-- Settles O44: the lanes go through the places of their locks; each of the four outcomes of LKWAIT updates the pod alone. That locks in memory count as line requests, wait for
earlier ones and take effect at once is the model's choice (log entry 21). -/
theorem locks : Obligations.Locks := by
  refine ⟨?places, ?lane⟩
  case places =>
    intro s u r p i wait op c k md as tile lane cleared h halign
    have hm : misaligned p as 4 = none := misaligned_eq_none halign
    cases wait with
    | true =>
      refine ⟨?_, ?_, ?_⟩
      · rintro rfl hr
        exact lockOp_guard (op := 0x82) (active := fun _ e => e) h (by decide) (by decide) (fun _ => rfl) rfl hm hr
      · rintro n j rfl htile hmap
        exact lockOp_tile (op := 0x82) (active := fun _ e => e) h (by decide) (by decide) (fun _ => rfl) rfl hm htile hmap
      · rintro n j v places rfl htile hbehind hroom hxlate
        exact lockOp_memory (op := 0x82) (active := fun _ e => e) h (by decide) (by decide) (fun _ => rfl) rfl hm htile hbehind hroom hxlate
    | false =>
      refine ⟨?_, ?_, ?_⟩
      · rintro rfl hr
        exact lockOp_guard (op := 0x83) (active := fun p e => e &&& p.sget i.d) h (by decide) (by decide) (fun s => s.modPod_id .guard) rfl hm hr
      · rintro n j rfl htile hmap
        exact lockOp_tile (op := 0x83) (active := fun p e => e &&& p.sget i.d) h (by decide) (by decide) (fun s => s.modPod_id (.slot n j)) rfl hm htile hmap
      · rintro n j v places rfl htile hbehind hroom hxlate
        exact lockOp_memory (op := 0x83) (active := fun p e => e &&& p.sget i.d) h (by decide) (by decide) (fun s => s.modPod_id (.slot n j)) rfl hm htile
          hbehind hroom hxlate
  case lane =>
    intro s r p q tile k l va w put hpod hk hk4 hlen hl hput t mine
    have hmark : ∀ b, ((q.mark k l b).m.getD k 0).testBit l = b := fun b => testBit_modify_setBit (by omega) l b
    by_cases h0 : w = 0
    · have ht := State.pod_modPod (fun q => q.mark k l true) (fun _ => rfl) ((hput s (lockTag r p l)).trans hpod)
      rw [← s.lkLane_of_free r p tile k l va put h0] at ht
      exact ⟨_, ht, fun _ => ⟨hmark true, rfl⟩, fun _ hn => absurd h0 hn, fun hn => absurd h0 hn, fun hn => absurd h0 hn⟩
    by_cases h1 : w = mine
    · have ht := State.pod_modPod (fun q => q.mark k l true) (fun _ => rfl) hpod
      rw [← s.lkLane_of_mine r p tile k l va put h0 h1] at ht
      exact ⟨_, ht, fun h => absurd h h0, fun _ _ => ⟨hmark true, rfl⟩, fun _ hn => absurd h1 hn, fun _ hn => absurd h1 hn⟩
    cases hsame : samePod w mine with
    | true =>
      have ht := (State.pod_incCore _ r r R.CORE_PARK_COUNT 1).trans (State.pod_modPod (fun q => q.parked tile l va) (fun _ => rfl) hpod)
      rw [← s.lkLane_of_pod r p tile k l va put h0 h1 hsame] at ht
      have hm0 : (q.parked tile l va).m0.testBit l = false := testBit_modify_setBit (by omega) l false
      exact ⟨_, ht, fun h => absurd h h0, fun h => absurd h h1, fun _ _ _ => ⟨testBit_or_shift .., hm0, List.mem_cons_self ..⟩,
        fun _ _ h => absurd h (by simp)⟩
    | false =>
      have ht := State.pod_modPod (fun q => q.mark k l false) (fun _ => rfl) hpod
      rw [← s.lkLane_of_other r p tile k l va put h0 h1 hsame] at ht
      exact ⟨_, ht, fun h => absurd h h0, fun h => absurd h h1, fun _ _ h => absurd h (by simp), fun _ _ _ => ⟨hmark false, rfl⟩⟩

end

section
/-! TENSOR_COMPLETE where the operation of the instruction belongs to another pod than the one that the queue entry names: that pod's fence completes with it, and
its context's dirty lines of L1 are written back (08 R229; 11 R288 to R291). -/

namespace Sys2Proof.Machine

/-- A started TMMA of pod 5 in slot 0, operation 0. -/
def strayEntry : TensorOp :=
  { op := 0, uid := 5, slot := 0, ctx := 0, pc := 0, lanes := 1, cvt := false, d := 0, a := 0, b := 0, c := 0, ext := 0, ftz := false, rmode := 0
    started := true }

/-- A core whose tensor queue holds that instruction, while operation 0 is of pod 7 in slot 1, which waits on a fence of device scope; L1 holds a dirty
line of host memory. -/
def strayState : State :=
  { regs := [(R.CLK_PP_STATUS, 2 ^ 17)]
    cores := [{
      pods := [{ uid := 7, slot := 1, ctx := 0, pc := 0, fences := [(3, 0)] }], ops := [⟨0, 7, 1, none, .tensor, [], 1⟩], tq := [strayEntry]
      l1 := [⟨0, ⟨.host, 0, 0, 0, 0⟩, [1], [true], true⟩] }] }

/-- Does an outcome go on with so many writes to host memory? -/
def goesOnWaiting (n : Nat) : Out → Bool
  | .next t => t.hs.waiting.length == n
  | _ => false

theorem goesOnWaiting_iff {n : Nat} {o : Out} : goesOnWaiting n o = true ↔ ∃ t, o = .next t ∧ t.hs.waiting.length = n := by
  cases o with
  | next t => simp only [goesOnWaiting, beq_iff_eq, Host.Outcome.next.injEq, exists_eq_left']
  | fault f => simp only [goesOnWaiting, Bool.false_eq_true, reduceCtorEq, false_and, exists_false]
  | refused f => simp only [goesOnWaiting, Bool.false_eq_true, reduceCtorEq, false_and, exists_false]

/-- The instruction completes, and a write to host memory waits then. -/
theorem strayState_completes : ∃ t, exec (.tensorComplete 0) strayState = .next t ∧ t.hs.waiting.length = 1 :=
  goesOnWaiting_iff.mp (by decide +kernel)

end Sys2Proof.Machine

open Sys2Proof Sys2Proof.Machine

/-- Refutes O45: the statement asks of the pod that the queue entry names that it waits on no fence, but the operation that completes may be of another pod, whose
fence then writes dirty lines of L1 to the host. In such a state, which the machine does not reach, TENSOR_COMPLETE changes the host side. -/
theorem not_tensorInstructions : ¬ Obligations.TensorInstructions := by
  unfold Obligations.TensorInstructions
  rintro ⟨-, hcomplete, -⟩
  have hfree : ∀ q, strayState.opPod 0 strayEntry.slot strayEntry.uid = some q → q.fences = [] := fun q hq => by cases hq
  obtain ⟨t, hexec, -, -, -, hhs⟩ := hcomplete strayState 0 strayEntry [] rfl rfl rfl rfl (by decide) hfree
  obtain ⟨t', hexec', hlen⟩ := strayState_completes
  rw [hexec] at hexec'
  cases hexec'
  rw [hhs] at hlen
  exact absurd hlen (by decide)

end

section
/-! Performance points (16 R394 to R398; 21 R492, R493): the target, the voltage change that is due, and the moves of the regulator. -/

namespace Sys2Proof.Machine

theorem State.field_one_zero_lt (s : State) (k : Nat) : s.field k 1 0 < 4 := by
  rw [State.field, fld_eq]
  exact Nat.mod_lt _ (by decide)

/-- The ceilings of the four tiers (16 Table PWR-4). -/
theorem tierCeil_eq {t : Nat} (h : t < 4) : tierCeil t = if t = 0 then 0 else if t = 1 then 2 else if t = 2 then 4 else 5 := by
  have hcases : t = 0 ∨ t = 1 ∨ t = 2 ∨ t = 3 := by omega
  rcases hcases with rfl | rfl | rfl | rfl <;> rfl

theorem State.thmAny_iff (s : State) (k : Nat) : s.thmAny k = true ↔ ∃ n ∈ List.range 24, s.bit (R.THM_STAT + 4 * n) k = true := by
  simp only [State.thmAny, List.any_eq_true, State.thmLevel]

/-! ### The voltage change that is due -/

section
variable {s : State} (hpp : s.ao.pwr.pp = none) (hbus : s.ao.pwr.pmbus ≠ 0) (hlp : s.modeLp = false) (hsw : s.aoSwitching = false)

theorem State.ppRaise_iff (s : State) : s.ppRaise = true ↔ s.ppTarget < s.ppCur ∧ s.ao.pwr.failed ≠ some s.ppTarget := by
  simp only [State.ppRaise, Bool.and_eq_true, decide_eq_true_eq]

theorem State.ppNeed_iff (s : State) : s.ppNeed = true ↔ s.ppRaise = true ∨
    (s.ao.pwr.pmbus = 1 ∧ s.ao.pwr.volt ≠ s.ppCur ∧ s.ao.pwr.failed ≠ some s.ppCur) := by
  simp only [State.ppNeed, Bool.or_eq_true, Bool.and_eq_true, decide_eq_true_eq, and_assoc]

include hpp hbus hlp hsw

/-- No voltage change runs and PMBus is in use. -/
theorem State.ppKick_of_idle : s.ppKick =
    if s.ppNeed = false then s.ppBusy
    else if s.ppRaise then
      if s.ao.pwr.pmbus = 2 then ((s.modPwr (fun p => { p with failed := some s.ppTarget })).pwrEvt 9).ppEnd.ppBusy
      else (s.modPwr (fun p => { p with pp := some { kind := .raise, pp := s.ppTarget } })).ppBusy
    else (s.modPwr (fun p => { p with pp := some { kind := .lower, pp := s.ppCur } })).ppBusy := by
  simp only [State.ppKick, State.inLp, hpp, hbus, hlp, hsw, Option.isSome_none, decide_false, Bool.or_false, Bool.false_or, Bool.not_eq_true']

end

end Sys2Proof.Machine

open Sys2Proof Sys2Proof.Machine

/-- Settles O49: the target of an evaluation, the moves of the regulator case by case, the change that is due once none runs, and the clock and the tier. That a move whose
write failed twice counts, and is not tried again until the target changes, is the model's reading (log entry 41). -/
theorem performancePoints : Obligations.PerformancePoints := by
  refine ⟨?request, ?eval, ?moves, ?kick, ?clock⟩
  case request =>
    intro req val
    exact writesTo_putReg rfl rfl (fun _ => rfl) fun u n _ _ => rfl
  case eval =>
    intro s cap tc th t w v x
    have htc : tierCeil (s.field R.PWR_TIER 1 0) = tc := tierCeil_eq (s.field_one_zero_lt _)
    have hth : (if s.thmAny 1 = true then s.field R.CLK_THROTTLE_PP 2 0 else 0) = th := ite_of_iff (s.thmAny_iff 1) rfl rfl
    have heval : s.ppEval cap = if x.ppCur < t then
        if x.ao.pwr.pmbus = 2 && x.ao.pwr.pp.isNone then (x.setField R.CLK_PP_STATUS 2 0 t).ppEnd.ppKick
        else (x.setField R.CLK_PP_STATUS 2 0 t).ppKick
      else x.ppKick := by
      simp only [State.ppEval, htc, hth]
      rfl
    rw [heval]
    refine ⟨fun h => if_neg (Nat.not_lt.mpr h), fun h => ⟨fun hbus hpp => ?_, fun hno => ?_⟩⟩
    · rw [if_pos h, if_pos (by simp [hbus, hpp])]
    · rw [if_pos h, if_neg]
      simp only [Bool.and_eq_true, decide_eq_true_eq, Option.isNone_iff_eq_none, Classical.not_and_iff_not_or_not]
      exact hno
  case moves =>
    intro s m hpp v
    refine ⟨fun hset => ⟨?boot, ?lower, ?settle, ?raised, ?again, ?failed, ?mode⟩, fun hset => ?settled⟩
    case boot => exact fun hk => by simp only [exec, execPmbusWriteComplete, hpp, hset, hk, Bool.false_eq_true, if_false, v]
    case lower => exact fun hk => by simp only [exec, execPmbusWriteComplete, hpp, hset, hk, Bool.false_eq_true, if_false, v]
    case settle =>
      intro hk hlt
      have hlt' : (s.modPwr (fun p => { p with volt := m.pp })).ppTarget < (s.modPwr (fun p => { p with volt := m.pp })).ppCur := hlt
      simp only [exec, execPmbusWriteComplete, hpp, hset, hk, Bool.false_eq_true, if_false, if_pos hlt', v]
    case raised =>
      intro hk hle
      have hle' : ¬(s.modPwr (fun p => { p with volt := m.pp })).ppTarget < (s.modPwr (fun p => { p with volt := m.pp })).ppCur := Nat.not_lt.mpr hle
      simp only [exec, execPmbusWriteComplete, hpp, hset, hk, Bool.false_eq_true, if_false, if_neg hle', v]
    case again => exact fun ha => by simp [exec, execPmbusFail, hpp, hset, ha]
    case failed =>
      intro ha f
      exact ⟨fun hk => by simp [exec, execPmbusFail, hpp, hset, ha, hk, f], fun hk => by simp [exec, execPmbusFail, hpp, hset, ha, hk, f]⟩
    case mode => exact fun hk => by simp [exec, execPmbusFail, hpp, hset, hk]
    case settled =>
      intro n
      constructor
      · intro hlt
        simp only [exec, execVsettleExpiry, hpp, hset, Bool.not_true, Bool.false_eq_true, if_false, if_pos hlt, n]
      · intro hle
        have hle' : ¬max m.pp s.ppTarget < s.ppCur := Nat.not_lt.mpr hle
        simp only [exec, execVsettleExpiry, hpp, hset, Bool.not_true, Bool.false_eq_true, if_false, if_neg hle']
  case kick =>
    intro s due low hpp hbus hlp hsw
    have hraise : s.ppRaise = true ↔ due := s.ppRaise_iff
    have hneed : s.ppNeed = true ↔ due ∨ low := by rw [s.ppNeed_iff, hraise]
    rw [State.ppKick_of_idle hpp hbus hlp hsw]
    refine ⟨fun hd h1 => ?_, fun hd h2 => ?_, fun hd hl => ?_, fun hd hl => ?_⟩
    · rw [if_neg (by simp [hneed.mpr (.inl hd)]), if_pos (hraise.mpr hd), if_neg (by omega)]
    · rw [if_neg (by simp [hneed.mpr (.inl hd)]), if_pos (hraise.mpr hd), if_pos h2]
    · rw [if_neg (by simp [hneed.mpr (.inr hl)]), if_neg (mt hraise.mp hd)]
    · rw [if_pos (Bool.eq_false_iff.mpr (mt hneed.mp (not_or.mpr ⟨hd, hl⟩)))]
  case clock =>
    intro s lost gone
    refine ⟨fun h => when'_of h, fun h hheld href => when'_of (by simp [h, hheld, href]), ?_, ?_, fun h => when'_of h, fun ha hn => when'_of (by simp [ha, hn]), ?_⟩
    · intro href hroot
      have hroot' : (s.modPwr (fun p => { p with refLost := true })).rootLock = false := hroot
      simp only [exec, execRefclkLoss, href, hroot', Bool.false_eq_true, if_false, gone]
    · intro href hroot
      have hroot' : (s.modPwr (fun p => { p with refLost := true })).rootLock = true := hroot
      simp only [exec, execRefclkLoss, href, hroot', Bool.false_eq_true, if_false, if_true, gone]
    · intro t lost w
      constructor
      · intro h
        simp only [State.setTier, if_pos h, w]
      · intro h
        simp only [State.setTier, if_neg h, w]

end

section
/-! Temperatures (16 R412 to R418): what a sample leaves of the counts toward a level, and what a change of a level brings. -/

namespace Sys2Proof.Machine

/-! ### Counts by key -/

theorem storeGet_eq_find {α : Type} (d : Nat → α) (l : List (Nat × α)) (i : Nat) : storeGet d l i = ((l.find? (·.1 == i)).map (·.2)).getD (d i) := by
  induction l with
  | nil => rfl
  | cons e t ih =>
    rw [storeGet, ih, List.find?_cons]
    by_cases h : i = e.1
    · rw [if_pos h, show (e.1 == i) = true from beq_iff_eq.mpr h.symm]; rfl
    · rw [if_neg h, show (e.1 == i) = false from beq_eq_false_iff_ne.mpr (Ne.symm h)]

theorem State.dwell_eq (s : State) (n k : Nat) : s.dwell n k = storeGet (fun _ => 0) s.ao.pwr.dwell (4 * n + k) :=
  (storeGet_eq_find (fun _ => 0) s.ao.pwr.dwell (4 * n + k)).symm

/-- Counts written at several keys. -/
def putCounts (key val : Nat → Nat) (ks : List Nat) (l : List (Nat × Nat)) : List (Nat × Nat) :=
  ks.foldl (fun l k => storePut (fun _ v => v == 0) (key k) (val k) l) l

theorem storeGet_putCounts_ne {key val : Nat → Nat} {ks : List Nat} {i : Nat} (l : List (Nat × Nat)) (h : ∀ k ∈ ks, i ≠ key k) :
    storeGet (fun _ => 0) (putCounts key val ks l) i = storeGet (fun _ => 0) l i := by
  induction ks generalizing l with
  | nil => rfl
  | cons k ks ih =>
    exact (ih _ fun x hx => h x (List.mem_cons_of_mem k hx)).trans (storeGet_storePut_ne _ _ _ _ (h k (List.mem_cons_self ..)))

/-- Of keys that differ each holds its own count. -/
theorem storeGet_putCounts {key val : Nat → Nat} {ks : List Nat} {k : Nat} (l : List (Nat × Nat)) (hwf : storeWf (fun _ v => v == 0) l = true)
    (hnodup : ks.Nodup) (hkey : ∀ x ∈ ks, ∀ y ∈ ks, key x = key y → x = y) (hk : k ∈ ks) :
    storeGet (fun _ => 0) (putCounts key val ks l) (key k) = val k := by
  induction ks generalizing l with
  | nil => exact absurd hk List.not_mem_nil
  | cons x ks ih =>
    obtain ⟨hx, hnd⟩ := List.nodup_cons.mp hnodup
    have hput := storeGet_storePut (fun _ => 0) (fun _ v => v == 0) (key x) (val x) (fun e => (beq_iff_eq.mp e).symm) l hwf
    have hwf' := storeWf_storePut (fun _ v => v == 0) (key x) (val x) l hwf
    by_cases hin : k ∈ ks
    · exact ih _ hwf' hnd (fun a ha b hb => hkey a (List.mem_cons_of_mem x ha) b (List.mem_cons_of_mem x hb)) hin
    · have hkx : k = x := (List.mem_cons.mp hk).resolve_right hin
      subst hkx
      have hne : ∀ y ∈ ks, key k ≠ key y := fun y hy heq => hin (hkey k hk y (List.mem_cons_of_mem k hy) heq ▸ hy)
      exact (storeGet_putCounts_ne (storePut (fun _ v => v == 0) (key k) (val k) l) hne).trans hput

/-! ### A sample -/

/-- The next filtered value of a sensor (16 R413). -/
def State.filtered (s : State) (n : Nat) (raw : BitVec 16) : Int :=
  if s.ao.pwr.seen.contains n then asInt 16 (s.field (R.THM_TEMP + 4 * n) 15 0) + (raw.toInt - asInt 16 (s.field (R.THM_TEMP + 4 * n) 15 0)) / 4
  else raw.toInt

/-- The next count toward a change of a level (16 R414). -/
def State.nextDwell (s : State) (n : Nat) (f : Int) (k : Nat) : Nat :=
  if (if s.thmLevel n k then f ≤ thmThr k - 24 else thmThr k ≤ f) then s.dwell n k + 1 else 0

theorem thmKinds_nodup (n : Nat) : (thmKinds n).Nodup := by
  unfold thmKinds
  split <;> decide

/-- Counting level by level is writing all the counts. -/
theorem foldl_dwell (key val : Nat → Nat) (ks : List Nat) (p : Pwr) :
    ks.foldl (fun (p : Pwr) k => { p with dwell := storePut (fun _ v => v == 0) (key k) (val k) p.dwell }) p = { p with dwell := putCounts key val ks p.dwell } := by
  induction ks generalizing p with
  | nil => rfl
  | cons k ks ih => exact ih _

/-- A level is not touched by a write of the temperature. -/
theorem State.thmLevel_setRegN (s : State) (n v k : Nat) : (s.setRegN (R.THM_TEMP + 4 * n) v).thmLevel n k = s.thmLevel n k := by
  have hne : R.THM_STAT + 4 * n ≠ R.THM_TEMP + 4 * n := fun h => absurd (Nat.add_right_cancel h) (by decide)
  rw [State.thmLevel, State.bit, State.setRegN, State.reg_setReg_ne _ _ hne]
  rfl

/-- A sample writes its sensor's register and its counts. -/
theorem State.sample_eq (s : State) (n : Nat) (raw : BitVec 16) :
    s.sample n raw = (s.setRegN (R.THM_TEMP + 4 * n) (raw.toNat * 2 ^ 16 + ofInt 16 (s.filtered n raw))).modPwr (fun p =>
      { p with seen := (n :: p.seen).eraseDups, dwell := putCounts (4 * n + ·) (s.nextDwell n (s.filtered n raw)) (thmKinds n) p.dwell }) := by
  simp only [State.sample, State.thmLevel_setRegN]
  refine congrArg (State.modPwr _) (funext fun p => ?_)
  exact foldl_dwell (4 * n + ·) (s.nextDwell n (s.filtered n raw)) (thmKinds n) { p with seen := (n :: p.seen).eraseDups }

/-! ### A change of a level -/

section
variable {s : State} {n k : Nat} (hn : n < 24) (hk : k ∈ thmKinds n) (hdue : 32 ≤ s.dwell n k)
include hn hk hdue

theorem thermalLevelUp_exec (hlev : s.thmLevel n k = false) : exec (.thermalLevelUp n k) s = .next (s.levelTo n k true) :=
  when'_of (by simp [hn, hk, hlev, State.levelDue, hdue])

theorem thermalLevelDown_exec (hlev : s.thmLevel n k = true) : exec (.thermalLevelDown n k) s = .next (s.levelTo n k false) :=
  when'_of (by simp [hn, hk, hlev, State.levelDue, hdue])

end

/-- A level that rises, before what it brings about. -/
def State.levelUp (s : State) (n k : Nat) : State :=
  ((((((s.setField (R.THM_STAT + 4 * n) k k 1).setBits (R.THM_STAT + 4 * n) (2 ^ (8 + k))).setBits R.THM_SUMMARY (2 ^ (8 + k))).inc
    (R.THM_XCOUNT_WARN + 4 * k))).modPwr (fun p => { p with dwell := p.dwell.filter (·.1 ≠ 4 * n + k) })).pwrEvt 3

/-- A level that falls, before what it brings about. -/
def State.levelDown (s : State) (n k : Nat) : State :=
  ((((s.setField (R.THM_STAT + 4 * n) k k 0).setBits (R.THM_STAT + 4 * n) (2 ^ (16 + k))).setBits R.THM_SUMMARY (2 ^ (16 + k))).inc
    (R.THM_XCOUNT_WARN + 4 * k)).modPwr (fun p => { p with dwell := p.dwell.filter (·.1 ≠ 4 * n + k) })

section
variable (s : State) (n : Nat)

theorem State.levelTo_up_alert : s.levelTo n 0 true = s.levelUp n 0 := rfl
theorem State.levelTo_up_warn : s.levelTo n 1 true = (s.levelUp n 1).ppEval (some R.CLK_THERM_CAP_COUNT) := rfl
theorem State.levelTo_up_crit : s.levelTo n 2 true =
    if (s.levelUp n 2).ao.pwr.crit ≠ .none then s.levelUp n 2
    else if (s.levelUp n 2).ao.pwr.move.isSome then (s.levelUp n 2).modPwr (fun p => { p with crit := .due }) else (s.levelUp n 2).critBegin := rfl
theorem State.levelTo_up_gdlim : s.levelTo n 3 true = (s.levelUp n 3).gdLimit.pwrEvt 5 := rfl
theorem State.levelTo_down_alert : s.levelTo n 0 false = s.levelDown n 0 := rfl
theorem State.levelTo_down_warn : s.levelTo n 1 false = (s.levelDown n 1).ppEval (some R.CLK_THERM_CAP_COUNT) := rfl
theorem State.levelTo_down_crit : s.levelTo n 2 false = (s.levelDown n 2).critRecover := rfl
theorem State.levelTo_down_gdlim : s.levelTo n 3 false = s.levelDown n 3 := rfl

end

end Sys2Proof.Machine

open Sys2Proof Sys2Proof.Machine

/-- Settles O50: a sample writes its register and its counts; a change of a level and the end of a critical shutdown are taken case by case. That CRIT waits for a transition,
and that GDLIM turns GD off in one step, is the model's choice (log entry 41). -/
theorem temperatures : Obligations.Temperatures := by
  refine ⟨?sample, ?values, ?levels, ?done⟩
  case sample =>
    intro s raws hlen hdue
    have hnone : (List.range 24).any (fun n => (thmKinds n).any (s.levelDue n)) = false := by
      rw [List.any_eq_false]
      intro n hn
      rw [Bool.not_eq_true, List.any_eq_false]
      exact fun k hk => by rw [hdue n (List.mem_range.mp hn) k hk]; decide
    exact if_neg (by simp only [hnone, hlen, Bool.false_or, ne_eq, not_true, decide_false, Bool.false_eq_true, not_false_eq_true])
  case values =>
    intro s n raw hwf f0 f
    rw [State.sample_eq]
    refine ⟨State.reg_setReg s _ _ hwf, fun j hj => State.reg_setReg_ne s _ (by simpa using hj), fun k hk hdwell => ?_⟩
    intro far
    rw [State.dwell_eq]
    exact storeGet_putCounts (key := (4 * n + ·)) s.ao.pwr.dwell hdwell (thmKinds_nodup n) (fun x _ y _ h => Nat.add_left_cancel h) hk
  case levels =>
    intro s n k hn hk hdue drop stat up down
    refine ⟨fun hlev => ?_, fun hlev => ?_⟩
    · rw [thermalLevelUp_exec hn hk hdue hlev]
      refine ⟨?_, ?_, ?_, ?_, ?_, ?_⟩
      · rintro rfl
        exact congrArg Host.Outcome.next (s.levelTo_up_alert n)
      · rintro rfl
        exact congrArg Host.Outcome.next (s.levelTo_up_warn n)
      · rintro rfl hc
        exact congrArg Host.Outcome.next ((s.levelTo_up_crit n).trans (if_pos hc))
      · rintro rfl hc hm
        refine congrArg Host.Outcome.next ((s.levelTo_up_crit n).trans ((if_neg (not_not_intro hc)).trans (if_neg ?_)))
        have hm' : (s.levelUp n 2).ao.pwr.move = none := hm
        simp [hm']
      · rintro rfl hc hm
        refine congrArg Host.Outcome.next ((s.levelTo_up_crit n).trans ((if_neg (not_not_intro hc)).trans (if_pos ?_)))
        exact Option.isSome_iff_ne_none.mpr hm
      · rintro rfl
        exact congrArg Host.Outcome.next (s.levelTo_up_gdlim n)
    · rw [thermalLevelDown_exec hn hk hdue hlev]
      refine ⟨?_, ?_, ?_⟩
      · rintro (rfl | rfl)
        · exact congrArg Host.Outcome.next (s.levelTo_down_alert n)
        · exact congrArg Host.Outcome.next (s.levelTo_down_gdlim n)
      · rintro rfl
        exact congrArg Host.Outcome.next (s.levelTo_down_warn n)
      · rintro rfl
        exact congrArg Host.Outcome.next (s.levelTo_down_crit n)
  case done =>
    intro s hcrit hover late a b c e f
    simp only [exec, execCritShutdownDone, hcrit, hover, ne_eq, not_true, decide_false, Bool.not_true, Bool.or_false, Bool.false_eq_true, if_false]
    rfl

end

section
/-! O51: power domains and the AO regulator (16 R400 to R411). -/

namespace Sys2Proof.Machine

/-! ### What sending to the host can change -/

/-- Nothing but registers, the host's side and what is left over of the performance counters is different. -/
def HostOnly (s t : State) : Prop := ∃ g h a, t = { s with regs := g, hs := h, ao := { s.ao with perfRem := a } }

theorem HostOnly.refl (s : State) : HostOnly s s := ⟨s.regs, s.hs, s.ao.perfRem, rfl⟩

theorem HostOnly.trans {s t u : State} : HostOnly s t → HostOnly t u → HostOnly s u := by
  rintro ⟨g, h, a, rfl⟩ ⟨g', h', a', rfl⟩
  exact ⟨g', h', a', rfl⟩

theorem HostOnly.setReg (s : State) (k : Nat) (v : BitVec 32) : HostOnly s (s.setReg k v) := ⟨_, s.hs, s.ao.perfRem, rfl⟩

theorem HostOnly.perf (s : State) (code part n : Nat) : HostOnly s (s.perf code part n) := by
  obtain ⟨⟨g, a, h⟩, -⟩ := s.perf_frame code part n
  exact ⟨g, s.hs, a, h⟩

theorem HostOnly.hs (s : State) (h : HostSide) : HostOnly s { s with hs := h } := ⟨s.regs, h, s.ao.perfRem, rfl⟩

theorem HostOnly.pump (n : Nat) (s : State) : HostOnly s (s.pump n) := by
  induction n generalizing s with
  | zero => exact .refl s
  | succ n ih =>
    rw [State.pump]
    split
    · exact .trans (.hs s _) (ih _)
    · exact .refl s

theorem HostOnly.ctlWait (s : State) (p : Nat) : HostOnly s (s.ctlWait p) := by
  unfold State.ctlWait
  split
  · exact .refl s
  · split
    · exact .setReg s _ _
    · exact .refl s

theorem HostOnly.issueWrite (s : State) (w : HostWrite) : HostOnly s (s.issueWrite w) := by
  have hwait : HostOnly s (if w.marker then s.ctlWait w.prod else s) := by
    split
    · exact .ctlWait s _
    · exact .refl s
  exact hwait.trans (.trans (.perf _ _ _ _) (.trans (.hs _ _) (.pump _ _)))

theorem HostOnly.msix (s : State) (v : Nat) (tags : List Nat) : HostOnly s (s.msix v tags) := by
  unfold State.msix
  split
  · exact .trans (.setReg s _ _) (.hs _ _)
  · exact .issueWrite s _

theorem HostOnly.event (s : State) (v : Nat) (tags : List Nat) : HostOnly s (s.event v tags) := by
  simp only [State.event]
  split
  · split
    · exact .hs s _
    · exact .refl s
  · split
    · exact .refl s
    · exact .trans (.setReg s _ _) (.msix _ _ _)

theorem HostOnly.pwr {s t : State} : HostOnly s t → t.ao.pwr = s.ao.pwr := by
  rintro ⟨g, h, a, rfl⟩
  rfl

/-! ### A transition begins -/

theorem State.settleOnly_pwr (s : State) : s.settleOnly.ao.pwr = s.ao.pwr := by
  simp only [State.settleOnly]
  split
  · rfl
  · unfold State.setLink
    split <;> rfl

theorem State.settlePin_pwr (s : State) : s.settlePin.ao.pwr = s.ao.pwr := by
  simp only [State.settlePin]
  split
  · rfl
  · rw [(HostOnly.event _ _ _).pwr]
    split <;> rfl

theorem State.setDom_ao (s : State) (d c : Nat) : (s.setDom d c).ao = s.ao := by
  unfold State.setDom
  split
  · rfl
  · split <;> rfl

/-- 16 R400: the transition that begins is the one in progress. -/
theorem State.startMove_move (s : State) (d target : Nat) (req : Option Nat) :
    (s.startMove d target req).ao.pwr.move = some ⟨d, s.dom d, target, req⟩ := by
  rw [State.startMove, State.settlePin_pwr, State.settleOnly_pwr, State.setDom_ao]
  rfl

/-! ### The result of a command -/

theorem State.childOn_iff (s : State) (d : Nat) :
    s.domains.any (fun c => parent c = d && s.dom c = 2) = true ↔
      ∃ e ∈ List.range 21, e ≠ 0 ∧ s.present e = true ∧ parent e = d ∧ s.dom e = 2 := by
  simp only [State.domains, List.any_eq_true, List.mem_filter, Bool.and_eq_true, decide_eq_true_eq, and_assoc]

/-- Table PWR-7, for the three targets that there are. -/
theorem State.dcmdResult_eq (s : State) (d : Nat) {t : Nat} (ht : t < 3) :
    s.dcmdResult d t =
      if s.ao.pwr.move ≠ none ∨ s.ao.pwr.crit ≠ .none then 1
      else if d = 0 then 2
      else if d ≤ 20 ∧ s.present d = false then 3
      else if d ≤ 20 ∧ t = 2 ∧ s.dom (parent d) ≠ 2 then 4
      else if d ≤ 20 ∧ t < 2 ∧ ∃ e ∈ List.range 21, e ≠ 0 ∧ s.present e = true ∧ parent e = d ∧ s.dom e = 2 then 5
      else if t = 2 ∧ (s.modeLp = true ∨ s.aoSwitching = true) then 6
      else if t = 2 ∧ (s.thmAny 2 = true ∨ (d = D.GD ∧ s.thmLevel 15 3 = true)) then 7
      else if 20 < d ∨ (s.dom d = 0 ∧ t = 1) then 8
      else 0 := by
  have ht3 : t ≠ 3 := by omega
  refine ite_of_iff ?busy rfl (ite_of_iff Iff.rfl rfl (ite_of_iff ?absent rfl (ite_of_iff ?parent rfl (ite_of_iff ?child rfl
    (ite_of_iff ?lp rfl (ite_of_iff ?hot rfl (ite_of_iff ?none rfl rfl)))))))
  case busy => simp only [Bool.or_eq_true, Option.isSome_iff_ne_none, decide_eq_true_eq]
  case child => simp only [Bool.and_eq_true, decide_eq_true_eq, State.childOn_iff, and_assoc]
  case lp => simp only [State.inLp, Bool.and_eq_true, Bool.or_eq_true, decide_eq_true_eq]
  all_goals simp only [Bool.and_eq_true, Bool.or_eq_true, Bool.not_eq_true', decide_eq_true_eq, ht3, and_assoc, or_false]

/-- A transition in progress is the first condition, so the result of a command that is refused last of all names no own transition. -/
theorem State.move_none_of_dcmdResult {s : State} {d t : Nat} (h : s.dcmdResult d t ≠ 1) : s.ao.pwr.move = none := by
  refine Classical.byContradiction fun hne => h (if_pos ?_)
  rw [Option.isSome_iff_ne_none.mpr hne, Bool.true_or]

theorem domainCommand_exec {s : State} {req : Req} {domain : BitVec 5} {t : Nat} {c : Instr}
    (hc : (t = 0 ∧ c = .domainToOff req domain) ∨ (t = 1 ∧ c = .domainToRet req domain) ∨ (t = 2 ∧ c = .domainToOn req domain))
    (h : s.reaches req R.PWR_DCMD 0 (BitVec.ofNat 32 (t * 2 ^ 8 + domain.toNat)) = true) :
    exec c s = .next ((s.arriving req).wrDcmd req (BitVec.ofNat 32 (t * 2 ^ 8 + domain.toNat))) := by
  have hexec : exec c s = .next (s.cmdWrite req R.PWR_DCMD (BitVec.ofNat 32 (t * 2 ^ 8 + domain.toNat)) true) := by
    rcases hc with ⟨rfl, rfl⟩ | ⟨rfl, rfl⟩ | ⟨rfl, rfl⟩
    · rw [Nat.zero_mul, Nat.zero_add]
      rfl
    · rw [Nat.one_mul]
      rfl
    · rfl
  exact exec_putReg h rfl rfl hexec

/-- Is the transition in progress one that this requester commanded? -/
def State.ownMove (s : State) (q : Nat) : Nat := match s.ao.pwr.move with | some m => b2n (m.req == some q) | none => 0

theorem State.ownMove_of_none {s : State} (h : s.ao.pwr.move = none) (q : Nat) : s.ownMove q = 0 := by
  rw [State.ownMove, h]

/-- 16 R400: a write of PWR_DCMD, its result named once. -/
theorem State.wrDcmd_eq (s : State) (req : Req) {val : BitVec 32} {d t : Nat} (hd : fld val 4 0 = d) (ht : fld val 9 8 = t) :
    s.wrDcmd req val =
      if s.dcmdResult d t ≠ 0 then
        if s.dcmdResult d t = 8 then
          ((s.setRegN (rk R.PWR_DCMD_RESULT req.num) (d + s.dcmdResult d t * 2 ^ 8 + s.ownMove req.num * 2 ^ 16)).inc R.PWR_REFUSE_COUNT).viol
        else (s.setRegN (rk R.PWR_DCMD_RESULT req.num) (d + s.dcmdResult d t * 2 ^ 8 + s.ownMove req.num * 2 ^ 16)).inc R.PWR_REFUSE_COUNT
      else if s.dom d = t then s.setRegN (rk R.PWR_DCMD_RESULT req.num) (d + s.dcmdResult d t * 2 ^ 8 + b2n false * 2 ^ 16)
      else (s.setRegN (rk R.PWR_DCMD_RESULT req.num) (d + s.dcmdResult d t * 2 ^ 8 + b2n true * 2 ^ 16)).startMove d t (some req.num) := by
  subst hd ht
  have hown : s.ownMove req.num = b2n (match s.ao.pwr.move with | some m => m.req = some req.num | none => false) := by
    unfold State.ownMove
    cases s.ao.pwr.move with
    | none => rfl
    | some m => exact congrArg b2n (Bool.eq_iff_iff.mpr (by rw [beq_iff_eq, decide_eq_true_eq]))
  rw [hown]
  rfl

theorem domainCommand_eq {s : State} {req : Req} {domain : BitVec 5} {t : Nat} (ht : t < 3) :
    let d := domain.toNat
    let k := rk R.PWR_DCMD_RESULT req.num
    let r := s.dcmdResult d t
    let w := s.wrDcmd req (BitVec.ofNat 32 (t * 2 ^ 8 + domain.toNat))
    (r ≠ 0 → r ≠ 8 → w = (s.setRegN k (d + r * 2 ^ 8 + s.ownMove req.num * 2 ^ 16)).inc R.PWR_REFUSE_COUNT) ∧
    (r = 8 → w = ((s.setRegN k (d + 8 * 2 ^ 8)).inc R.PWR_REFUSE_COUNT).viol) ∧
    (r = 0 → s.dom d = t → w = s.setRegN k d) ∧
    (r = 0 → s.dom d ≠ t → w = (s.setRegN k (d + 2 ^ 16)).startMove d t (some req.num)) := by
  intro d k r w
  have hv := ofNat_add_toNat (t * 2 ^ 8) domain
  have hw : w = _ := s.wrDcmd_eq req (fld_index hv rfl rfl (by decide) (by omega)) (fld_op hv rfl (by decide) (by omega))
  rw [hw]
  refine ⟨fun h0 h8 => ?_, fun h8 => ?_, fun h0 hdom => ?_, fun h0 hdom => ?_⟩
  · exact (if_pos h0).trans (if_neg h8)
  · have hmove : s.ao.pwr.move = none := State.move_none_of_dcmdResult (show r ≠ 1 from h8 ▸ by decide)
    have h0 : r ≠ 0 := h8 ▸ by decide
    rw [if_pos h0, if_pos h8, show s.dcmdResult domain.toNat t = 8 from h8, s.ownMove_of_none hmove, Nat.zero_mul, Nat.add_zero]
  · rw [if_neg (not_not_intro h0), if_pos hdom, show s.dcmdResult domain.toNat t = 0 from h0]
    rfl
  · rw [if_neg (not_not_intro h0), if_neg hdom, show s.dcmdResult domain.toNat t = 0 from h0]
    rfl

/-! ### The AO regulator -/

theorem State.wrAoreg_eq (s : State) {val : BitVec 32} {lp arm : Bool} (hlp : bitOf val 0 = lp) (harm : fld val 1 1 = b2n arm) :
    s.wrAoreg val =
      let u := s.setField R.PWR_AOREG 1 1 (b2n arm)
      if lp = false then (if u.bit R.PWR_AOREG 0 = true then u.aoSwitch false else u)
      else if u.bit R.PWR_AOREG 0 = true then u
      else if u.allLow = true then u.aoSwitch true
      else u.inc R.PWR_REFUSE_COUNT := by
  simp only [State.wrAoreg, hlp, harm, Bool.not_eq_true']

theorem aoregValue_lp : ∀ lp arm : Bool, bitOf (BitVec.ofNat 32 (b2n lp + 2 * b2n arm)) 0 = lp := by decide

theorem aoregValue_arm : ∀ lp arm : Bool, fld (BitVec.ofNat 32 (b2n lp + 2 * b2n arm)) 1 1 = b2n arm := by decide

theorem aoregCommand_exec {s : State} {req : Req} {lp arm : Bool} {c : Instr}
    (hc : (lp = true ∧ c = .aoregLp req arm) ∨ (lp = false ∧ c = .aoregNormal req arm) ∨ c = .aoregLpArm req lp arm)
    (h : s.reaches req R.PWR_AOREG 0 (BitVec.ofNat 32 (b2n lp + 2 * b2n arm)) = true) :
    exec c s = .next ((s.arriving req).wrAoreg (BitVec.ofNat 32 (b2n lp + 2 * b2n arm))) := by
  have hexec : exec c s = .next (s.cmdWrite req R.PWR_AOREG (BitVec.ofNat 32 (b2n lp + 2 * b2n arm)) true) := by
    rcases hc with ⟨rfl, rfl⟩ | ⟨rfl, rfl⟩ | rfl
    · rfl
    · simp only [b2n, Bool.false_eq_true, if_false, Nat.zero_add]
      rfl
    · rfl
  exact exec_putReg h rfl rfl hexec

end Sys2Proof.Machine

open Sys2Proof Sys2Proof.Machine

/-- Settles O51: the result of a command is named by its first condition; the transition that begins is in progress at once, and its end and the switches of the AO regulator
are taken case by case. Ruwen's own transitions without result or count, and switches and wakes, are the model's choice (log entries 41 and 42). -/
theorem powerDomains : Obligations.PowerDomains := by
  refine ⟨⟨?command, ?ends⟩, ?aoreg, ?switched, ?timer, ?brownout⟩
  case command =>
    intro s req domain t c hc h u d k r own
    have ht : t < 3 := by omega
    have hr : u.dcmdResult d t = r := u.dcmdResult_eq d ht
    obtain ⟨hrefused, hundefined, hsame, hmove⟩ := domainCommand_eq (s := u) (req := req) (domain := domain) ht
    rw [domainCommand_exec hc h, ← hr]
    exact ⟨fun h0 h8 => congrArg _ (hrefused h0 h8), fun h8 => congrArg _ (hundefined h8), fun h0 hdom => congrArg _ (hsame h0 hdom),
      fun h0 hdom => ⟨congrArg _ (hmove h0 hdom), State.startMove_move _ _ _ _⟩⟩
  case ends =>
    intro s linkUp m hm hover a b c e
    have hguard : (!s.ao.pwr.linger.isEmpty && !s.abortsOver) = false := by
      rcases hover with h | h <;> simp [h]
    refine ⟨fun hreq => ?_, fun q hreq => ?_⟩
    · simp only [exec, execDomainTransitionDone, hm, hguard, hreq, Bool.false_eq_true, if_false, e, c, b, a, Bool.and_eq_true, decide_eq_true_eq]
    · simp only [exec, execDomainTransitionDone, hm, hguard, hreq, Bool.false_eq_true, if_false, e, c, b, a, Bool.and_eq_true, decide_eq_true_eq]
  case aoreg =>
    intro s req lp arm c hc h u turn
    have heq := (s.arriving req).wrAoreg_eq (val := BitVec.ofNat 32 (b2n lp + 2 * b2n arm)) (lp := lp) (arm := arm)
      (aoregValue_lp lp arm) (aoregValue_arm lp arm)
    have hexec := (aoregCommand_exec hc h).trans (congrArg Host.Outcome.next heq)
    refine ⟨fun hsame => ?_, fun hlp hbit => ?_, fun hlp hbit hlow => ?_, fun hlp hbit hlow => ?_⟩
    · cases lp with
      | false => exact hexec.trans (congrArg _ ((if_pos rfl).trans (if_neg (ne_true_of_eq_false hsame))))
      | true => exact hexec.trans (congrArg _ ((if_neg nofun).trans (if_pos hsame)))
    · exact hexec.trans (congrArg _ ((if_pos hlp).trans (if_pos hbit)))
    · subst hlp
      exact hexec.trans (congrArg _ ((if_neg nofun).trans ((if_neg (ne_true_of_eq_false hbit)).trans (if_pos hlow))))
    · subst hlp
      exact hexec.trans (congrArg _ ((if_neg nofun).trans ((if_neg (ne_true_of_eq_false hbit)).trans (if_neg (ne_true_of_eq_false hlow)))))
  case switched =>
    intro s hsw t
    have hexec : exec .aoregSwitchDone s = if s.bit R.PWR_AOREG 0 = true then
        .next (if (t (b2n (s.bit R.PWR_AOREG 0))).ao.mon.busy = true then (t (b2n (s.bit R.PWR_AOREG 0))).brownOut else t (b2n (s.bit R.PWR_AOREG 0)))
        else .next (if (t (b2n (s.bit R.PWR_AOREG 0))).ao.pwr.wakeHm = true then (t (b2n (s.bit R.PWR_AOREG 0))).hmReturn
          else t (b2n (s.bit R.PWR_AOREG 0))).ppKick :=
      if_neg (by rw [hsw]; decide)
    refine ⟨fun hlp => ?_, fun hlp hwake => ?_, fun hlp hwake => ?_⟩
    · exact (hexec.trans (if_pos hlp)).trans (by rw [hlp]; rfl)
    · exact (hexec.trans (if_neg (ne_true_of_eq_false hlp))).trans (by rw [hlp]; exact congrArg (fun x => Host.Outcome.next (State.ppKick x)) (if_pos hwake))
    · exact (hexec.trans (if_neg (ne_true_of_eq_false hlp))).trans (by
        rw [hlp]
        exact congrArg (fun x => Host.Outcome.next (State.ppKick x)) (if_neg (ne_true_of_eq_false hwake)))
  case timer =>
    intro s hlp hsw hen ht
    have hcond : (s.modeLp && !s.aoSwitching && s.bit R.PWR_WAKE_EN 2) = true := by rw [hlp, hsw, hen]; rfl
    refine (when'_of ?_).trans (congrArg _ (if_pos hcond))
    rw [hcond, Bool.true_and]
    exact decide_eq_true ht
  case brownout =>
    intro s hruns hlp
    exact when'_of (by rw [hruns, hlp]; rfl)
end

section
/-! O52: reset sources (17 R419 to R423). A link that goes down shows so where the register file is in its canonical form, which O3 keeps; the statement asks it of every state. -/

namespace Sys2Proof.Machine

/-- 17 R423: a link that is gone shows so, in every state whose register file is canonical. -/
theorem State.linkGone_dlUp (s : State) (hwf : storeWf regPlain s.regs = true) : s.linkGone.dlUp = false := by
  have hreg : s.linkGone.reg R.HIF_LINK_STATUS = BitVec.ofNat 32 0 := State.reg_setReg _ _ _ hwf
  rw [State.dlUp, State.bit, hreg]
  rfl

/-- A state that no run reaches: its register file lists HIF_LINK_STATUS twice, so that a write of its reset value takes away the first entry alone. -/
def twiceListed : State := { State.reset with regs := [(R.HIF_LINK_STATUS, 0x400), (R.HIF_LINK_STATUS, 0x400)] }

theorem twiceListed_dlUp : twiceListed.dlUp = true := by decide +kernel

theorem twiceListed_linkGone : twiceListed.linkGone.dlUp = true := by decide +kernel

end Sys2Proof.Machine

open Sys2Proof Sys2Proof.Machine

/-- Refutes O52: its last clause says of every state that a link which is gone shows DL_UP 0, with no hypothesis that the register file is canonical; in a file that lists
HIF_LINK_STATUS twice the second entry shows DL_UP 1 still. (`State.linkGone_dlUp` is the clause with that hypothesis.) -/
theorem not_resetSources : ¬ Obligations.ResetSources := by
  rintro ⟨-, -, -, -, -, -, -, hlink⟩
  obtain ⟨-, -, -, hdown, -⟩ := hlink twiceListed twiceListed_dlUp
  exact absurd (twiceListed_linkGone.symm.trans hdown) (by decide)

end

section
/-! O53: resets of a part and the control cores (17 R425, R426, R430 to R440). -/

namespace Sys2Proof.Machine

/-! ### The value of a write of RST_ERESET -/

theorem ereset_target (load : Bool) (target : BitVec 8) : fld (BitVec.ofNat 32 (b2n load * 2 ^ 8 + target.toNat)) 7 0 = target.toNat :=
  fld_index (op := b2n load) (ofNat_add_toNat (b2n load * 2 ^ 8) target) rfl rfl (by decide) (by cases load <;> decide)

theorem ereset_load (load : Bool) (target : BitVec 8) : bitOf (BitVec.ofNat 32 (b2n load * 2 ^ 8 + target.toNat)) 8 = load := by
  rw [bitOf_eq_getLsbD, BitVec.getLsbD_ofNat, Nat.mul_comm, Nat.testBit_two_pow_mul_add _ target.isLt]
  cases load <;> rfl

/-- 17 R426: a write of RST_ERESET, its condition on a ray unit apart from the others'. -/
theorem State.wrEreset_eq (u : State) (req : Req) (e : Nat) (load : Bool) :
    u.wrEreset req e load =
      if e = 75 ∨ e = 76 then u.wrFecReset req (e - 75) load
      else if e < 33 ∨ 53 < e then (u.rstResult req e 5).viol
      else if u.engineIdle e = false then u.rstResult req e 1
      else if e < 38 then ((u.emptyTlb e).rstResult req e 0).rstLog 5 0 e
      else (({ u.emptyTlb e with rtus := (u.emptyTlb e).rtus.modify (e - 38) (fun t => { t with cache := [] }) }).rstResult req e 0).rstLog 5 0 e := by
  have hray : (if 38 ≤ e then { u.emptyTlb e with rtus := (u.emptyTlb e).rtus.modify (e - 38) (fun t => { t with cache := [] }) } else u.emptyTlb e) =
      if e < 38 then u.emptyTlb e else { u.emptyTlb e with rtus := (u.emptyTlb e).rtus.modify (e - 38) (fun t => { t with cache := [] }) } := by
    by_cases h : e < 38
    · rw [if_pos h, if_neg (by omega)]
    · rw [if_neg h, if_pos (by omega)]
  simp only [State.wrEreset, hray, Bool.or_eq_true, decide_eq_true_eq, Bool.not_eq_true']
  by_cases h : e < 38 <;> simp only [h, if_true, if_false]

theorem writesTo_ereset {req : Req} {target : BitVec 8} {load : Bool} {c : Instr}
    (hc : (load = false ∧ c = .engineReset req target) ∨ (load = true ∧ c = .fecLoad req target)) :
    WritesTo c req R.RST_ERESET (BitVec.ofNat 32 (b2n load * 2 ^ 8 + target.toNat)) (fun u _ => u.wrEreset req target.toNat load) := by
  have hexec : ∀ s, exec c s = .next (s.cmdWrite req R.RST_ERESET (BitVec.ofNat 32 (b2n load * 2 ^ 8 + target.toNat)) true) := by
    intro s
    rcases hc with ⟨rfl, rfl⟩ | ⟨rfl, rfl⟩
    · simp only [b2n, Bool.false_eq_true, if_false, Nat.zero_mul, Nat.zero_add]
      rfl
    · simp only [b2n, if_true, Nat.one_mul]
      rfl
  refine writesTo_putReg rfl rfl hexec (fun u n _ _ => ?_)
  change u.wrEreset req (fld _ 7 0) (bitOf _ 8) = _
  rw [ereset_target, ereset_load]

/-! ### A control core that a write names -/

/-- 17 Table BOT-10: the address of an image, from its two registers. -/
theorem State.fecLoadAddr_eq (s : State) : fld (s.reg R.RST_FEC_LOAD_ADDR_LO) 31 12 = (s.reg R.RST_FEC_LOAD_ADDR_LO).toNat / 4096 := by
  rw [fld_eq]
  have := (s.reg R.RST_FEC_LOAD_ADDR_LO).isLt
  simp only [Nat.reduceAdd, Nat.reduceSub, Nat.reducePow] at this ⊢
  omega

/-- 17 R437: the restart of a core, on the state with its reason recorded. -/
theorem State.fecRestart_eq (s : State) (n why : Nat) :
    ((s.fecWhy n why).on D.FEC = true → s.fecRestart n why = (s.fecWhy n why).fecReload n why) ∧
    ((s.fecWhy n why).on D.FEC = false → s.fecRestart n why = (s.fecWhy n why).modFec n (fun f => { f with why := why })) :=
  ⟨fun h => if_pos h, fun h => if_neg (ne_true_of_eq_false h)⟩

section
variable (u : State) (req : Req) (n : Nat)

/-- 17 R436: what a load asks of the image that the load registers name. -/
def State.imageRight : Prop :=
  u.field R.RST_FEC_LOAD_ADDR_LO 11 0 = 0 ∧ u.field R.RST_FEC_LOAD_LEN 18 0 % 8 = 0 ∧ 8 ≤ u.field R.RST_FEC_LOAD_LEN 18 0 ∧
    u.field R.RST_FEC_LOAD_LEN 18 0 ≤ 262144 ∧ u.field R.RST_FEC_LOAD_ENTRY 17 0 % 8 = 0 ∧ u.field R.RST_FEC_LOAD_ENTRY 17 0 < u.field R.RST_FEC_LOAD_LEN 18 0

theorem State.imageWrong_iff :
    (true && (u.field R.RST_FEC_LOAD_ADDR_LO 11 0 ≠ 0 || u.field R.RST_FEC_LOAD_LEN 18 0 % 8 ≠ 0 || u.field R.RST_FEC_LOAD_LEN 18 0 < 8 ||
      262144 < u.field R.RST_FEC_LOAD_LEN 18 0 || u.field R.RST_FEC_LOAD_ENTRY 17 0 % 8 ≠ 0 ||
      u.field R.RST_FEC_LOAD_LEN 18 0 ≤ u.field R.RST_FEC_LOAD_ENTRY 17 0)) = true ↔ ¬u.imageRight := by
  simp only [State.imageRight, Bool.true_and, Bool.or_eq_true, decide_eq_true_eq]
  omega

/-- 17 R436: a load of a control core, condition by condition. -/
theorem State.wrFecReset_load :
    let a := (u.reg R.RST_FEC_LOAD_ADDR_LO).toNat / 4096 * 4096 + u.field R.RST_FEC_LOAD_ADDR_HI 15 0 * 2 ^ 32
    let len := u.field R.RST_FEC_LOAD_LEN 18 0
    (¬u.imageRight → u.wrFecReset req n true = u.rstResult req (75 + n) 3) ∧
    (u.imageRight → u.fecInUse n = true → u.wrFecReset req n true = u.rstResult req (75 + n) 2) ∧
    (u.imageRight → u.fecInUse n = false → u.rangeErr a len ≠ none → u.wrFecReset req n true = u.rstResult req (75 + n) 4) ∧
    (u.imageRight → u.fecInUse n = false → u.rangeErr a len = none →
      u.wrFecReset req n true =
        ((u.rstResult req (75 + n) 0).modFec n (fun f => { f with dev := some (a, len, u.field R.RST_FEC_LOAD_ENTRY 17 0) })).fecRestart n 5) := by
  intro a len
  have haddr := u.fecLoadAddr_eq
  simp only [State.wrFecReset, haddr]
  refine ⟨fun h => if_pos (u.imageWrong_iff.mpr h), fun h huse => ?_, fun h huse herr => ?_, fun h huse herr => ?_⟩
  · exact (if_neg fun hw => u.imageWrong_iff.mp hw h).trans (if_pos huse)
  · exact (if_neg fun hw => u.imageWrong_iff.mp hw h).trans ((if_neg (ne_true_of_eq_false huse)).trans
      (if_pos (by rw [Bool.true_and]; exact Option.isSome_iff_ne_none.mpr herr)))
  · refine (if_neg fun hw => u.imageWrong_iff.mp hw h).trans ((if_neg (ne_true_of_eq_false huse)).trans (if_neg ?_))
    rw [Bool.true_and, Option.isSome_iff_ne_none]
    exact not_not_intro herr

/-- 17 R437: a restart of a control core that a write commands. -/
theorem State.wrFecReset_restart :
    (u.fecInUse n = true → u.wrFecReset req n false = u.rstResult req (75 + n) 2) ∧
    (u.fecInUse n = false → u.wrFecReset req n false = (u.rstResult req (75 + n) 0).fecRestart n 4) := by
  simp only [State.wrFecReset, Bool.false_and, Bool.false_eq_true, if_false, Bool.not_false, if_true]
  exact ⟨fun h => if_pos h, fun h => if_neg (ne_true_of_eq_false h)⟩

end

theorem State.wrEreset_fec (u : State) (req : Req) {n : Nat} (hn : n ≤ 1) (load : Bool) : u.wrEreset req (75 + n) load = u.wrFecReset req n load := by
  rw [u.wrEreset_eq, if_pos (by omega), Nat.add_sub_cancel_left]

theorem fecLoad_exec {s : State} {req : Req} {n : Nat} (hn : n ≤ 1) (h : s.reaches req R.RST_ERESET 0 (BitVec.ofNat 32 (0x100 + 75 + n)) = true) :
    exec (.fecLoad req (BitVec.ofNat 8 (75 + n))) s = .next ((s.arriving req).wrFecReset req n true) := by
  have ht : (BitVec.ofNat 8 (75 + n)).toNat = 75 + n := by
    rw [BitVec.toNat_ofNat]
    omega
  have hval : b2n true * 2 ^ 8 + (BitVec.ofNat 8 (75 + n)).toNat = 0x100 + 75 + n := by
    rw [ht]
    simp only [b2n, if_true]
    omega
  rw [writesTo_ereset (load := true) (.inr ⟨rfl, rfl⟩) s 0 (by rw [hval]; exact h), ht]
  exact congrArg _ (State.wrEreset_fec _ req hn true)

theorem fecRestart_exec {s : State} {req : Req} {n : Nat} (hn : n ≤ 1) (h : s.reaches req R.RST_ERESET 0 (BitVec.ofNat 32 (75 + n)) = true) :
    exec (.fecRestart n (some req)) s = .next ((s.arriving req).wrFecReset req n false) := by
  have hexec : exec (.fecRestart n (some req)) s = .next (s.cmdWrite req R.RST_ERESET (BitVec.ofNat 32 (75 + n)) true) :=
    when'_of (decide_eq_true hn)
  rw [exec_putReg h rfl rfl hexec]
  change Host.Outcome.next ((s.arriving req).wrEreset req (fld (BitVec.ofNat 32 (75 + n)) 7 0) (bitOf (BitVec.ofNat 32 (75 + n)) 8)) = _
  have ht : fld (BitVec.ofNat 32 (75 + n)) 7 0 = 75 + n ∧ bitOf (BitVec.ofNat 32 (75 + n)) 8 = false := by
    have h01 : n = 0 ∨ n = 1 := by omega
    rcases h01 with rfl | rfl <;> decide
  rw [ht.1, ht.2, State.wrEreset_fec _ req hn]

/-! ### Boots, exceptions and the flash -/

/-- 17 R432: a core that waited for the pins of the flash goes on. -/
theorem State.flashResume_eq (s : State) (n why : Nat) :
    (let (ok, t) := s.flashBegin n why
     if ok || why = 0 then t else (t.modFec n (fun f => { f with why := 0 })).restartDone n) =
      if (s.flashBegin n why).1 = true ∨ why = 0 then (s.flashBegin n why).2
      else (((s.flashBegin n why).2.modFec n (fun f => { f with why := 0 })).inc (R.RST_FEC_RESTART_COUNT + 4 * n)).event 4 [] := by
  generalize s.flashBegin n why = r
  obtain ⟨ok, t⟩ := r
  exact ite_of_iff (by simp only [Bool.or_eq_true, decide_eq_true_eq]) rfl rfl

/-- 17 R430: a boot goes on. -/
theorem State.bootNext_eq (s : State) :
    let t := if s.fecStage 1 = 1 ∧ (s.fecStage 0 ≠ 2 ∨ (s.fec 0).imaged = true) then (s.flashBegin 1 0).2 else s
    s.bootNext = if (t.fec 0).imaged = true ∧ t.fecStage 1 ≠ 1 ∧ t.fecStage 1 ≠ 2 then (t.fecStart 0 (t.fec 0).entry).inc R.RST_BOOT_DONE_COUNT else t := by
  simp only [State.bootNext, Bool.and_eq_true, Bool.or_eq_true, decide_eq_true_eq, and_assoc]

end Sys2Proof.Machine

open Sys2Proof Sys2Proof.Machine

/-- Settles O53: the writes of the reset registers are read off their operations, and boots, exceptions and watchdogs go case by case. The reason that is recorded is the
model's choice (log entry 45), and so are loads with the domain off, FEC0 starting last (47) and the late boot (46). -/
theorem partResetsAndControlCores : Obligations.PartResetsAndControlCores := by
  refine ⟨?partition, ?engine, ?fecs, ?loaded, ?next, ?exception, ?watchdog, ?kick, ?flash⟩
  case partition =>
    intro req val
    refine writesTo_putReg rfl rfl (fun _ => rfl) fun u n _ _ => ?_
    change u.wrPreset req (fld val 2 0) = _
    have hp : fld val 2 0 = val.toNat % 8 := by rw [fld_eq, Nat.pow_zero, Nat.div_one] <;> rfl
    rw [hp]
    exact ite_of_iff (by simp only [Bool.or_eq_true, decide_eq_true_eq]) rfl rfl
  case engine =>
    intro req target load c hc s n h
    rw [writesTo_ereset hc s n h]
    exact congrArg _ ((s.arriving req).wrEreset_eq req target.toNat load)
  case fecs =>
    intro s req n hn u k a len entry right v
    refine ⟨fun h => ?_, fun h => ?_, fun hstage hon => ?_⟩
    · obtain ⟨hbad, hused, herr, hgood⟩ := u.wrFecReset_load req n
      obtain ⟨hpow, hdark⟩ := v.fecRestart_eq n 5
      have hexec := fecLoad_exec hn h
      exact ⟨fun hr => hexec.trans (congrArg _ (hbad hr)), fun hr huse => hexec.trans (congrArg _ (hused hr huse)),
        fun hr huse he => hexec.trans (congrArg _ (herr hr huse he)),
        fun hr huse he => ⟨fun hon => hexec.trans (congrArg _ ((hgood hr huse he).trans (hpow hon))),
          fun hon => hexec.trans (congrArg _ ((hgood hr huse he).trans (hdark hon)))⟩⟩
    · obtain ⟨hused, hgood⟩ := u.wrFecReset_restart req n
      obtain ⟨hpow, hdark⟩ := (k 0).fecRestart_eq n 4
      rw [fecRestart_exec hn h]
      exact ⟨fun huse => congrArg _ (hused huse), fun huse hon => congrArg _ ((hgood huse).trans (hpow hon)),
        fun huse hon => congrArg _ ((hgood huse).trans (hdark hon))⟩
    · intro why hwhy
      have hhalt : s.haltRestart n = some (s.fecRestart n why) := if_pos (by simp only [hn, hstage, hon, decide_true, Bool.and_self])
      exact (congrArg (orNever "FEC_RESTART") hhalt).trans (congrArg _ ((s.fecRestart_eq n why).1 hwhy))
  case loaded =>
    intro s n o len entry crc hroot hn hentry hstage himg hon hheld img f t u v
    have hguard : (1 < n || s.fecStage n ≠ 2 || (s.fec n).imaged || !s.on D.FEC || s.ao.rst.held ≠ 0) = false := by
      simp only [hstage, himg, hon, hheld, decide_eq_false (show ¬1 < n by omega), ne_eq, not_true, decide_false, Bool.not_true, Bool.or_self]
    refine (State.rooted_of "BOOT_IMAGE_LOADED" _ hroot).trans ?_
    simp only [hentry, hguard, Bool.false_eq_true, if_false, Bool.and_eq_true, decide_eq_true_eq, v, u, t, f, img, State.restartDone, ite_not]
  case next =>
    intro s t imaged
    exact ⟨fun h => (s.bootNext_eq).trans (if_pos h), fun h => (s.bootNext_eq).trans (if_neg h)⟩
  case exception =>
    intro s n pc status sp h hroot hn hstage t u
    have hguard : (1 < n || s.fecStage n ≠ 3) = false := by
      simp only [hstage, decide_eq_false (show ¬1 < n by omega), ne_eq, not_true, decide_false, Bool.or_self]
    have hexec : exec (.fecException n pc status sp h) s =
        if ((t.fec n).exc && !h.back) = true then .next (t.fecHalt n 2)
        else match h.push with
          | none => .next u
          | some k => if (sp < 0x100000 + k || 0x110000 ≤ sp - k || (sp - k) % 8 ≠ 0) = true then .next (u.fecHalt n 1) else .next u :=
      (State.rooted_of "FEC_EXCEPTION" _ hroot).trans (if_neg (ne_true_of_eq_false hguard))
    rw [hexec]
    have hnot : (t.fec n).exc = false ∨ h.back = true → ¬((t.fec n).exc && !h.back) = true := by
      rintro (hx | hx) <;> simp [hx]
    refine ⟨fun hexc hback => if_pos (by rw [hexc, hback]; rfl), fun hfree hpush => ?_, fun hfree k hpush => ⟨fun h1 h2 h3 => ?_, fun hbad => ?_⟩⟩
    · rw [if_neg (hnot hfree), hpush]
    · rw [if_neg (hnot hfree), hpush]
      refine if_neg ?_
      simp only [Bool.or_eq_true, decide_eq_true_eq]
      omega
    · rw [if_neg (hnot hfree), hpush]
      refine if_pos ?_
      simp only [Bool.or_eq_true, decide_eq_true_eq, or_assoc]
      exact hbad
  case watchdog =>
    intro s n hroot hn hstage hper hheld hon
    refine (State.rooted_of "FEC_WATCHDOG_EXPIRY" _ hroot).trans ((when'_of ?_).trans (congrArg _ ((s.fecRestart_eq n 3).1 hon)))
    simp only [hn, hstage, hheld, hper, decide_true, ne_eq, not_false_eq_true, BEq.rfl, Bool.and_self]
  case kick =>
    intro req
    refine writesTo_putReg rfl rfl (fun _ => rfl) fun u n _ _ => ?_
    change u.wrKick req 1 = _
    exact ite_of_iff (by simp only [Bool.and_eq_true, Bool.or_eq_true, decide_eq_true_eq]; exact and_iff_right rfl) rfl rfl
  case flash =>
    intro s req val h u clear
    have hexec : exec (.flashRelease req val) s = .next (u.wrFlash val) := exec_putReg h rfl rfl rfl
    refine ⟨fun hbit hload => ?_, fun hbit h0 h1 => ?_, fun hbit => ?_⟩
    · have hload' : (decide (u.fecStage 0 = 2) || decide (u.fecStage 1 = 2)) = true := by simpa using hload
      exact hexec.trans (congrArg _ ((if_pos hbit).trans (if_pos hload')))
    · have hload' : (decide (u.fecStage 0 = 2) || decide (u.fecStage 1 = 2)) = false := by simp [h0, h1]
      exact hexec.trans (congrArg _ ((if_pos hbit).trans (if_neg (ne_true_of_eq_false hload'))))
    · refine hexec.trans (congrArg _ ((if_neg (ne_true_of_eq_false hbit)).trans ?_))
      refine congrArg (fun f => (List.range 2).foldl f clear) (funext fun t => funext fun n => ?_)
      exact ite_of_iff (by simp only [Bool.and_eq_true, decide_eq_true_eq]) (t.flashResume_eq n _) rfl

end

section
/-! O54: the requests of the DOE mailbox and their answers (17 R434, R435; 02 R29). -/

namespace Sys2Proof.Machine

/-! ### The mailbox -/

/-- A data object of the answer joins what the host will read. -/
def State.doeSay (s : State) (typ : Nat) (r : List Byte) : State := s.modDoe (fun d => { d with out := d.out ++ [doeObject typ r] })

/-- The mailbox with a request held, or with none. -/
def State.doeHold (s : State) (h : Option (Nat × List Byte)) : State := s.modDoe (fun d => { d with held := h })

theorem State.doeServe_early (s : State) (h3 : s.fecStage 0 ≠ 3) (h5 : s.fecStage 0 ≠ 5) : s.doeServe = s :=
  if_neg (by simp only [Bool.or_eq_true, decide_eq_true_eq, h3, h5, or_self, not_false_eq_true])

/-- 02 R29: DOE Discovery is answered at once. -/
theorem State.doeServe_discovery (s : State) (m : List Byte) (hst : s.fecStage 0 = 3 ∨ s.fecStage 0 = 5) :
    (s.doeHold (some (0, m))).doeServe = (s.doeHold none).doeSay 0 (doeTypes (fieldAt m 0 1)) :=
  if_pos (by simp only [Bool.or_eq_true, decide_eq_true_eq]; exact hst)

/-- 17 R435: an SPDM request is answered at once. -/
theorem State.doeServe_spdm (s : State) (m : List Byte) (hst : s.fecStage 0 = 3 ∨ s.fecStage 0 = 5) {r : List Byte} {t : State}
    (h : (s.doeHold none).spdmAnswer m = (r, t)) : (s.doeHold (some (1, m))).doeServe = t.doeSay 1 r := by
  have hserve : (s.doeHold (some (1, m))).doeServe = ((s.doeHold none).spdmAnswer m).2.doeSay 1 ((s.doeHold none).spdmAnswer m).1 :=
    if_pos (by simp only [Bool.or_eq_true, decide_eq_true_eq]; exact hst)
  rw [hserve, h]

section
variable {s : State} (hlink : s.dlUp = true) (hfree : s.ao.rst.doe.held = none)
include hlink hfree

theorem State.doeRequest_eq (typ : Nat) (m : List Byte) : s.doeRequest typ m = some (s.doeHold (some (typ, m))).doeServe :=
  if_neg (by rw [hlink, hfree]; decide)

theorem State.spdmRequest_eq {code : Nat} {m : List Byte} (hcode : fieldAt m 1 1 = code) (hlen : 4 ≤ m.length) :
    s.spdmRequest code m = some (s.doeHold (some (1, m))).doeServe :=
  (if_pos (by rw [hcode, decide_eq_true rfl, decide_eq_true hlen]; rfl)).trans (State.doeRequest_eq hlink hfree 1 m)

variable (hroot : s.rootLock = true)
include hroot

theorem doeDiscovery_exec (ix : Nat) : exec (.doeDiscovery ix) s = .next (s.doeHold (some (0, leBytes 4 ix))).doeServe :=
  (State.rooted_of "DOE_DISCOVERY" _ hroot).trans (congrArg (orNever "DOE_DISCOVERY") (State.doeRequest_eq hlink hfree 0 _))

/-- 17 R434: each of the requests goes to the mailbox with its code. -/
theorem spdm_exec {m : List Byte} (hlen : 4 ≤ m.length) {c : Instr}
    (hc : (c = .getVersion m ∧ fieldAt m 1 1 = 0x84) ∨ (c = .getCapabilities m ∧ fieldAt m 1 1 = 0xE1) ∨ (c = .negotiateAlgorithms m ∧ fieldAt m 1 1 = 0xE3) ∨
      (c = .getDigests m ∧ fieldAt m 1 1 = 0x81) ∨ (c = .getCertificate m ∧ fieldAt m 1 1 = 0x82) ∨ (c = .challenge m ∧ fieldAt m 1 1 = 0x83) ∨
      (c = .getMeasurements m ∧ fieldAt m 1 1 = 0xE0)) :
    exec c s = .next (s.doeHold (some (1, m))).doeServe := by
  have hask : ∀ (ev : String) (code : Nat), fieldAt m 1 1 = code →
      s.rooted ev (orNever ev (s.spdmRequest code m)) = .next (s.doeHold (some (1, m))).doeServe := fun ev code hcode =>
    (State.rooted_of ev _ hroot).trans (congrArg (orNever ev) (State.spdmRequest_eq hlink hfree hcode hlen))
  rcases hc with ⟨rfl, h⟩ | ⟨rfl, h⟩ | ⟨rfl, h⟩ | ⟨rfl, h⟩ | ⟨rfl, h⟩ | ⟨rfl, h⟩ | ⟨rfl, h⟩
  · exact hask "GET_VERSION" _ h
  · exact hask "GET_CAPABILITIES" _ h
  · exact hask "NEGOTIATE_ALGORITHMS" _ h
  · exact hask "GET_DIGESTS" _ h
  · exact hask "GET_CERTIFICATE" _ h
  · exact hask "CHALLENGE" _ h
  · exact hask "GET_MEASUREMENTS" _ h

end

/-! ### The answers -/

section
variable (s : State) {m : List Byte}

theorem State.spdmAnswer_version (hcode : fieldAt m 1 1 = 0x84) :
    s.spdmAnswer m = ([0x10, 0x04, 0, 0, 0, 1, 0x00, 0x12],
      s.modDoe (fun d => { d with vca := m ++ [0x10, 0x04, 0, 0, 0, 1, 0x00, 0x12], certs := [], meas := [] })) := by
  simp only [State.spdmAnswer, hcode, if_true]

theorem State.spdmAnswer_mismatch (hcode : fieldAt m 1 1 ≠ 0x84) (hver : fieldAt m 0 1 ≠ 0x12) : s.spdmAnswer m = (spdmError 0x41, s) := by
  simp only [State.spdmAnswer, hcode, hver, if_false, ne_eq, not_false_eq_true, if_true]

variable (hver : fieldAt m 0 1 = 0x12)
include hver

theorem State.spdmAnswer_capabilities (hcode : fieldAt m 1 1 = 0xE1) {x : List Byte} {t : State} (hx : s.drawBytes 9 = (x, t)) :
    let r : List Byte := [0x12, 0x61, 0, 0, 0] ++ x.take 1 ++ [0, 0] ++ leBytes 4 0x16 ++ x.drop 1
    s.spdmAnswer m = (r, t.modDoe (fun d => { d with vca := d.vca ++ m ++ r })) := by
  simp only [State.spdmAnswer, hcode, hver, hx, Nat.reduceEqDiff, if_false, ne_eq, not_true]

theorem State.spdmAnswer_algorithms (hcode : fieldAt m 1 1 = 0xE3) :
    let r : List Byte := [0x12, 0x63, 0, 0] ++ leBytes 2 36 ++ [1, 0] ++ leBytes 4 4 ++ leBytes 4 0x80 ++ leBytes 4 2 ++ List.replicate 16 0
    s.spdmAnswer m = (r, s.modDoe (fun d => { d with vca := d.vca ++ m ++ r })) := by
  simp only [State.spdmAnswer, hcode, hver, Nat.reduceEqDiff, if_false, ne_eq, not_true]

theorem State.spdmAnswer_digests (hcode : fieldAt m 1 1 = 0x81) :
    let r : List Byte := [0x12, 0x01, 0, 1] ++ sha384 Config.certChain
    s.spdmAnswer m = (r, s.modDoe (fun d => { d with certs := d.certs ++ m ++ r })) := by
  simp only [State.spdmAnswer, hcode, hver, Nat.reduceEqDiff, if_false, ne_eq, not_true]

theorem State.spdmAnswer_certificate (hcode : fieldAt m 1 1 = 0x82) :
    let o := fieldAt m 4 2
    let part := (Config.certChain.drop o).take (fieldAt m 6 2)
    let r : List Byte := [0x12, 0x02, 0, 0] ++ leBytes 2 part.length ++ leBytes 2 (Config.certChain.length - o - part.length) ++ part
    s.spdmAnswer m = if fieldAt m 2 1 ≠ 0 ∨ Config.certChain.length ≤ o then (spdmError 1, s)
      else (r, s.modDoe (fun d => { d with certs := d.certs ++ m ++ r })) := by
  simp only [State.spdmAnswer, hcode, hver, Nat.reduceEqDiff, if_false, ne_eq, not_true, Bool.or_eq_true, decide_eq_true_eq]

theorem State.spdmAnswer_challenge (hcode : fieldAt m 1 1 = 0x83) {x : List Byte} {t : State} (hx : s.drawBytes 32 = (x, t)) :
    let d := s.ao.rst.doe
    let r : List Byte := [0x12, 0x03, 0, 1] ++ sha384 Config.certChain ++ x ++ (if fieldAt m 3 1 = 0 then [] else sha384 t.measAll) ++ [0, 0]
    s.spdmAnswer m = if fieldAt m 2 1 ≠ 0 ∨ m.length < 36 then (spdmError 1, s)
      else (r ++ signed (d.vca ++ d.certs ++ m ++ r), t.modDoe (fun d => { d with certs := [] })) := by
  simp only [State.spdmAnswer, hcode, hver, hx, Nat.reduceEqDiff, if_false, ne_eq, not_true, Bool.or_eq_true, decide_eq_true_eq]

theorem State.spdmAnswer_measurements (hcode : fieldAt m 1 1 = 0xE0) {x : List Byte} {t : State} (hx : s.drawBytes 32 = (x, t)) :
    let d := s.ao.rst.doe
    let p := fieldAt m 3 1
    let sig := fieldAt m 2 1 % 2 = 1
    let rec' := if p = 0 then [] else if p = 0xFF then t.measAll else t.measBlock (p - 1)
    let r : List Byte := [0x12, 0x60] ++ leBytes 1 (if p = 0 then 7 else 0) ++ [0] ++ leBytes 1 (if p = 0 then 0 else if p = 0xFF then 7 else 1) ++
      leBytes 3 rec'.length ++ rec' ++ x ++ [0, 0]
    s.spdmAnswer m = if (7 < p ∧ p ≠ 0xFF) ∨ (sig ∧ (m.length < 37 ∨ fieldAt m 36 1 ≠ 0)) then (spdmError 1, s)
      else if sig then (r ++ signed (d.vca ++ d.meas ++ m ++ r), t.modDoe (fun d => { d with meas := [] }))
      else (r, t.modDoe (fun d => { d with meas := d.meas ++ m ++ r })) := by
  simp only [State.spdmAnswer, hcode, hver, hx, Nat.reduceEqDiff, if_false, ne_eq, not_true, Bool.or_eq_true, Bool.and_eq_true, decide_eq_true_eq]

end

end Sys2Proof.Machine

open Sys2Proof Sys2Proof.Machine

/-- Settles O54: the mailbox takes a request and serves it, and each request has its answer. Every layout of bytes is the model's choice (log entry 50), and so are SHA-384 and
signatures (24) and the list of what the mailbox has said (26). -/
theorem spdmRequests : Obligations.SpdmRequests := by
  intro s m ix hroot hlink hfree code held v say d chain asks
  have hdisc := doeDiscovery_exec hlink hfree hroot ix
  have hspdm : ∀ c, 4 ≤ m.length → asks c → exec c s = .next (s.doeHold (some (1, m))).doeServe := fun c hlen hc => spdm_exec hlink hfree hroot hlen hc
  refine ⟨fun h3 h5 => ?_, fun hst => ⟨?_, fun hlen c hc => ?_⟩⟩
  · exact ⟨hdisc.trans (congrArg _ (State.doeServe_early _ h3 h5)), fun hlen c hc => (hspdm c hlen hc).trans (congrArg _ (State.doeServe_early _ h3 h5))⟩
  · exact hdisc.trans (congrArg _ (s.doeServe_discovery _ hst))
  · have hexec : ∀ {r : List Byte} {t : State}, v.spdmAnswer m = (r, t) → exec c s = .next (say t 1 r) := fun h =>
      (hspdm c hlen hc).trans (congrArg _ (s.doeServe_spdm m hst h))
    intro r
    refine ⟨fun h => hexec (v.spdmAnswer_version h), fun h hver => hexec (v.spdmAnswer_mismatch h hver), fun hver => ⟨?_, ?_, ?_, ?_, ?_, ?_, ?_⟩⟩
    · exact fun h x t hx => hexec (v.spdmAnswer_capabilities hver h hx)
    · exact fun h => hexec (v.spdmAnswer_algorithms hver h)
    · exact fun h => hexec (v.spdmAnswer_digests hver h)
    · exact fun h => ⟨fun hp ho => hexec ((v.spdmAnswer_certificate hver h).trans (if_neg (not_or.mpr ⟨not_not_intro hp, Nat.not_le_of_gt ho⟩))),
        fun hbad => hexec ((v.spdmAnswer_certificate hver h).trans (if_pos hbad))⟩
    · exact fun h hp hl x t hx => hexec ((v.spdmAnswer_challenge hver h hx).trans (if_neg (by omega)))
    · exact fun h hbad => hexec ((v.spdmAnswer_challenge hver h rfl).trans (if_pos hbad))
    · exact fun h => ⟨fun hbad => hexec ((v.spdmAnswer_measurements hver h rfl).trans (if_pos hbad)), fun hgood x t hx =>
        ⟨fun hsig => hexec ((v.spdmAnswer_measurements hver h hx).trans ((if_neg hgood).trans (if_pos hsig))),
         fun hsig => hexec ((v.spdmAnswer_measurements hver h hx).trans ((if_neg hgood).trans (if_neg hsig)))⟩⟩

end

section
/-! O55: the protection of the pack (18 R441 to R454). -/

namespace Sys2Proof.Machine

/-! ### The fault pin -/

/-- The entries of the log that new conditions make. -/
def PsdDie.noteAll (d : PsdDie) (is : List Nat) : PsdDie := is.foldl (fun d i => if d.conds.testBit i then d else d.note 4 i) d

theorem PsdDie.noteAll_frame (is : List Nat) (d : PsdDie) : (d.noteAll is).pin = d.pin ∧ (d.noteAll is).cfg = d.cfg := by
  induction is generalizing d with
  | nil => exact ⟨rfl, rfl⟩
  | cons i is ih =>
    obtain ⟨hpin, hcfg⟩ := ih (if d.conds.testBit i then d else d.note 4 i)
    refine ⟨hpin.trans ?_, hcfg.trans ?_⟩ <;> split <;> rfl

theorem PsdDie.settle_eq (d : PsdDie) :
    d.settle = if d.holds ≠ 0 then { d.noteAll (Machine.setBits 5 d.holds) with conds := d.holds, pin := true }
      else if ((d.noteAll (Machine.setBits 5 d.holds)).ix 4).testBit 8 = true then { d.noteAll (Machine.setBits 5 d.holds) with conds := d.holds }
      else { d.noteAll (Machine.setBits 5 d.holds) with conds := d.holds }.release := rfl

/-- 18 R447: the fault pin follows the conditions that hold. -/
theorem PsdDie.settle_pin (d : PsdDie) :
    (d.holds ≠ 0 → d.settle.pin = true) ∧ (d.holds = 0 → (d.ix 4).testBit 8 = true → d.settle.pin = d.pin) ∧
      (d.holds = 0 → (d.ix 4).testBit 8 = false → d.settle.pin = false) := by
  obtain ⟨hpin, hcfg⟩ := PsdDie.noteAll_frame (Machine.setBits 5 d.holds) d
  have hix : (d.noteAll (Machine.setBits 5 d.holds)).ix 4 = d.ix 4 := congrArg (fun c => List.getD c 4 0) hcfg
  rw [d.settle_eq, hix]
  refine ⟨fun h => by rw [if_pos h], fun h hlatch => ?_, fun h hlatch => ?_⟩
  · rw [if_neg (not_not_intro h), if_pos hlatch]
    exact hpin
  · rw [if_neg (not_not_intro h), if_neg (ne_true_of_eq_false hlatch), PsdDie.release]
    split
    · rfl
    · next hlow => exact eq_false_of_ne_true hlow

/-! ### The tier -/

/-- 18 R452: the tier of a voltage, from the thresholds in rising order of the tier. -/
theorem PsdDie.tierOf_eq (d : PsdDie) (v : Nat) :
    ([1, 2, 3].find? (fun t => d.tierCode t ≤ v)).elim 3 (· - 1) =
      if v < d.tierCode 1 then (if v < d.tierCode 2 then (if v < d.tierCode 3 then 3 else 2) else 1) else 0 := by
  simp only [List.find?_cons, List.find?_nil]
  by_cases h1 : v < d.tierCode 1
  · by_cases h2 : v < d.tierCode 2
    · by_cases h3 : v < d.tierCode 3
      · simp [h1, h2, h3, Nat.not_le_of_gt h1, Nat.not_le_of_gt h2, Nat.not_le_of_gt h3]
      · simp [h1, h2, h3, Nat.not_le_of_gt h1, Nat.not_le_of_gt h2, Nat.le_of_not_gt h3]
    · simp [h1, h2, Nat.not_le_of_gt h1, Nat.le_of_not_gt h2]
  · simp [h1, Nat.le_of_not_gt h1]

section
variable {d : PsdDie} (hset : d.settling = false) (href : d.refFail = false)
include hset href

theorem PsdDie.tierDue_eq :
    d.tierDue = match [3, 2, 1].find? (fun t => d.tier < t && 25 ≤ d.worse.getD (t - 1) 0) with
      | some t => some t
      | none => if (0 < d.tier && 2500 ≤ d.better) = true then some (d.tier - 1) else none :=
  if_neg (by rw [hset, href]; decide)

/-- 18 R452: the worst tier whose count has come to 25 is due. -/
theorem PsdDie.tierDue_worse {t : Nat} (ht : t ≤ 3) (hworse : d.tier < t) (hcount : 25 ≤ d.worse.getD (t - 1) 0)
    (hmax : ∀ u, t < u → u ≤ 3 → d.worse.getD (u - 1) 0 < 25) : d.tierDue = some t := by
  have hpass : (d.tier < t && 25 ≤ d.worse.getD (t - 1) 0) = true := by rw [decide_eq_true hworse, decide_eq_true hcount]; rfl
  have hstop : ∀ u, t < u → u ≤ 3 → (d.tier < u && 25 ≤ d.worse.getD (u - 1) 0) = false := fun u hu hu3 => by
    rw [decide_eq_false (Nat.not_le_of_gt (hmax u hu hu3)), Bool.and_false]
  have hfind : [3, 2, 1].find? (fun t => d.tier < t && 25 ≤ d.worse.getD (t - 1) 0) = some t := by
    have hcases : t = 1 ∨ t = 2 ∨ t = 3 := by omega
    rcases hcases with rfl | rfl | rfl
    · simp only [List.find?_cons, hstop 3 (by decide) (Nat.le_refl _), hstop 2 (by decide) (by decide), hpass]
    · simp only [List.find?_cons, hstop 3 (by decide) (Nat.le_refl _), hpass]
    · simp only [List.find?_cons, hpass]
  rw [PsdDie.tierDue_eq hset href, hfind]

/-- 18 R452: else the next better one, when its count has come to 2,500. -/
theorem PsdDie.tierDue_better (hpos : 0 < d.tier) (hnone : ∀ u, d.tier < u → u ≤ 3 → d.worse.getD (u - 1) 0 < 25) (hbetter : 2500 ≤ d.better) :
    d.tierDue = some (d.tier - 1) := by
  have hfind : [3, 2, 1].find? (fun t => d.tier < t && 25 ≤ d.worse.getD (t - 1) 0) = none := by
    rw [List.find?_eq_none]
    intro u hu
    have hu3 : u ≤ 3 := by
      simp only [List.mem_cons, List.not_mem_nil, or_false] at hu
      omega
    rw [Bool.and_eq_true, decide_eq_true_eq, decide_eq_true_eq]
    exact fun h => absurd h.2 (Nat.not_le_of_gt (hnone u h.1 hu3))
  rw [PsdDie.tierDue_eq hset href, hfind]
  exact if_pos (by rw [decide_eq_true hpos, decide_eq_true hbetter]; rfl)

end

/-! ### The reference -/

/-- 18 R453: the first reading that is off by more than 3 mV. -/
theorem firstOff_eq_some {errs : List Int} {k : Nat} (hk : k < 16) (hoff : 3000 < (errs.getD k 0).natAbs) (hmin : ∀ j, j < k → (errs.getD j 0).natAbs ≤ 3000) :
    (List.range 16).find? (fun n => 3000 < (errs.getD n 0).natAbs) = some k := by
  rw [List.find?_range_eq_some]
  refine ⟨decide_eq_true hoff, List.mem_range.mpr hk, fun j hj => ?_⟩
  rw [decide_eq_false (Nat.not_lt_of_ge (hmin j hj))]
  rfl

theorem firstOff_eq_none {errs : List Int} (h : ∀ j, j < 16 → (errs.getD j 0).natAbs ≤ 3000) :
    (List.range 16).find? (fun n => 3000 < (errs.getD n 0).natAbs) = none := by
  rw [List.find?_eq_none]
  exact fun j hj => by rw [decide_eq_true_eq]; exact Nat.not_lt_of_ge (h j (List.mem_range.mp hj))

/-- The die at the end of a check whose readings are in: the pin, the commands that were held, and the frame. -/
def PsdDie.checked (d : PsdDie) : PsdDie := (d.settle.held.foldl (fun (y : PsdDie) f => y.command f true) { d.settle with held := [] }).compose

theorem refchkEnd_exec {s : State} {errs : List Int} (hpow : s.ao.die.powered = true) (hrun : s.ao.die.refRun = true) (hlen : errs.length = 16) :
    exec (.refchkEnd errs) s = .next (s.modDie (fun _ => PsdDie.checked (
      match (List.range 16).find? (fun n => 3000 < (errs.getD n 0).natAbs) with
      | some n => ({ { ({ s.ao.die with refRun := false }.tick true) with refFail := true }.note 6 n with worse := [0, 0, 0], better := 0 }).toTier 3
      | none => if s.ao.die.refFail = true then { ({ s.ao.die with refRun := false }.tick true) with refFail := false, worse := [0, 0, 0], better := 0 }
          else ({ s.ao.die with refRun := false }.tick true)))) :=
  if_neg (by rw [hpow, hrun, hlen]; decide)

/-- 18 R449: the timers that have run a minute are those named whose switch is enabled. -/
theorem setBits_and (cells : BitVec 16) (m : Nat) : Machine.setBits 16 (cells.toNat &&& m) = (List.range 16).filter (fun k => cells.getLsbD k && m.testBit k) :=
  List.filter_congr fun k _ => Nat.testBit_and cells.toNat m k

end Sys2Proof.Machine

open Sys2Proof Sys2Proof.Machine

/-- Settles O55: the commands of the die are taken one by one; the tier's counts and the readings of the reference are searches with a named first hit, and the pin follows its
conditions. Tier 3 where the reference fails during settling, and the cycle of a check that counts for settling, are the model's choice (log entry 49). -/
theorem packProtection : Obligations.PackProtection := by
  refine ⟨?por, ?cycle, ?cell, ?die, ?write⟩
  case por =>
    intro s straps hoff n
    exact when'_of (by rw [hoff]; rfl)
  case cycle =>
    intro s cells ntc hcells hntc d code temp e hpow hdue hrun hcheck
    exact if_neg (by
      have h1 : s.ao.die.powered = true := hpow
      have h2 : s.ao.die.due = false := hdue
      have h3 : s.ao.die.refRun = false := hrun
      have h4 : s.ao.die.checkDue = false := hcheck
      rw [h1, h2, h3, h4, hcells, hntc]
      decide)
  case cell =>
    intro d l c ov uv
    exact ⟨rfl, rfl, ite_of_iff (by split <;> exact decide_eq_true_iff) rfl rfl, fun h => by simp only [PsdDie.seeCell, h, if_true],
      fun h => by
        simp only [PsdDie.seeCell, h, Bool.false_eq_true, if_false]
        exact ite_of_iff (by split <;> exact decide_eq_true_iff) rfl rfl⟩
  case write =>
    intro d v hpow
    obtain ⟨hfault, hlatch, hfree⟩ := d.settle_pin
    refine ⟨hfault, hlatch, hfree, fun hv => ?_⟩
    have hallowed : d.allowed 1 v = true := decide_eq_true hv
    simp only [PsdDie.write, hallowed, settleCycles]
    rfl
  case die =>
    intro s n hpow d l t cell
    refine ⟨fun h => ?_, fun h => ?_, fun h => ?_, fun h => ?_, fun hset hleft => ?_, fun tier hset href => ⟨fun ht hworse hcount hmax => ?_, fun hpos hnone hbetter => ?_⟩,
      fun hdue hrun hcheck => ?_, fun errs hrun hlen => ?_, fun cells => ?_, ?_⟩
    · exact when'_of (by rw [hpow]; exact decide_eq_true h)
    · exact when'_of (by rw [hpow]; exact decide_eq_true h)
    · exact when'_of (by rw [hpow]; exact decide_eq_true h)
    · exact when'_of (by rw [hpow]; exact decide_eq_true h)
    · intro v tier
      have htier : (if d.refFail = true then 3 else ([1, 2, 3].find? (fun t => d.tierCode t ≤ v)).elim 3 (· - 1)) = tier := by
        rw [d.tierOf_eq v]
      rw [← htier]
      refine when'_of ?_
      have h1 : s.ao.die.settling = true := hset
      have h2 : s.ao.die.left = 0 := hleft
      rw [hpow, h1, h2]
      rfl
    · have hdue : s.ao.die.tierDue = some tier := PsdDie.tierDue_worse hset href ht hworse hcount hmax
      simp only [exec, execTierDecision, hdue]
      exact when'_of hpow
    · have hdue : s.ao.die.tierDue = some (d.tier - 1) := PsdDie.tierDue_better hset href hpos hnone hbetter
      simp only [exec, execTierDecision, hdue]
      exact when'_of hpow
    · have h1 : s.ao.die.due = false := hdue
      have h2 : s.ao.die.refRun = false := hrun
      have h3 : s.ao.die.checkDue = true := hcheck
      exact when'_of (by rw [hpow, h1, h2, h3]; rfl)
    · intro e after
      have hexec := refchkEnd_exec hpow hrun hlen
      refine ⟨fun k hk hoff hmin => ?_, fun hall => ⟨fun hfail => ?_, fun hfail => ?_⟩⟩
      · rw [hexec, firstOff_eq_some hk hoff hmin]
        rfl
      · rw [hexec, firstOff_eq_none hall]
        exact congrArg (fun x => Host.Outcome.next (s.modDie (fun _ => PsdDie.checked x))) (if_pos hfail)
      · rw [hexec, firstOff_eq_none hall]
        exact congrArg (fun x => Host.Outcome.next (s.modDie (fun _ => PsdDie.checked x))) (if_neg (ne_true_of_eq_false hfail))
    · refine (when'_of hpow).trans ?_
      simp only [setBits_and]
    · exact when'_of hpow

end

section
/-! O56: what the die of the pack makes of a frame (18 R454 to R458). -/

namespace Sys2Proof.Machine

theorem psdHear_eq (f err : List Byte) : psdHear f err = if err = [] then f else List.zipWith (· ^^^ ·) f err :=
  ite_of_iff List.isEmpty_iff rfl rfl

/-- 18 R455: a frame is whole when its length, its first byte and its CRC are right. -/
theorem psdWhole_iff (f : List Byte) (n : Nat) (sync : Byte) :
    psdWhole f n sync = true ↔ f.length = n ∧ f.getD 0 0 = sync ∧ f.getD (n - 1) 0 = psdCrc (f.take (n - 1)) := by
  simp only [psdWhole, Bool.and_eq_true, beq_iff_eq, and_assoc]

/-! ### The down lane -/

/-- The oldest frame on the down lane reaches the die, when the command that is given is of its kind. -/
theorem State.downFrame_eq {s : State} {f : List Byte} {rest : List (List Byte)} (hdown : s.ao.psd.down = f :: rest) (hpow : s.ao.die.powered = true)
    (ev : String) (kind : Nat → Nat → Bool) (err : List Byte) (hkind : kind (f.getD 1 0).toNat (f.getD 3 0).toNat = true) :
    s.downFrame ev kind err =
      .next ((s.modPsd (fun p => { p with down := rest })).modDie (fun d => d.receive (if err = [] then f else List.zipWith (· ^^^ ·) f err))) := by
  simp only [State.downFrame, hdown, hpow, hkind, psdHear_eq, Bool.not_true, Bool.or_self, Bool.false_eq_true, if_false]

/-- 18 R454 to R457: a frame that is cut or whose CRC or type is wrong is counted; any other is taken by its type. -/
theorem PsdDie.receive_eq (d : PsdDie) (f : List Byte) :
    d.receive f =
      if (¬(f.length = 8 ∧ f.getD 0 0 = 0x5A ∧ f.getD 7 0 = psdCrc (f.take 7))) ∨ (f.getD 1 0).toNat < 0x10 ∨ 0x13 < (f.getD 1 0).toNat then
        { d with rxerr := (d.rxerr + 1) % 256 }
      else if (f.getD 1 0).toNat = 0x12 then { d with quiet := false }
      else if (f.getD 1 0).toNat = 0x13 then { d with quiet := false }.note 2 0
      else if d.refRun = true then { d with quiet := false, held := d.held ++ [f] }
      else { d with quiet := false }.command f false := by
  have hbad : (!psdWhole f 8 0x5A || (f.getD 1 0).toNat < 0x10 || 0x13 < (f.getD 1 0).toNat) = true ↔
      (¬(f.length = 8 ∧ f.getD 0 0 = 0x5A ∧ f.getD 7 0 = psdCrc (f.take 7))) ∨ (f.getD 1 0).toNat < 0x10 ∨ 0x13 < (f.getD 1 0).toNat := by
    rw [Bool.or_eq_true, Bool.or_eq_true, Bool.not_eq_true', Bool.eq_false_iff, ne_eq, psdWhole_iff, decide_eq_true_eq, decide_eq_true_eq, or_assoc]
  exact ite_of_iff hbad rfl rfl

/-! ### Commands -/

/-- The acknowledgement of a command (18 Table PCK-5). -/
def PsdDie.ackOf (d : PsdDie) (f : List Byte) (delayed : Bool) (r : Nat) : PsdDie :=
  { d with acks := d.acks ++ [psdSeal ([0xA5, 2, BitVec.ofNat 8 (f.getD 2 0).toNat, BitVec.ofNat 8 (r + b2n delayed * 128), BitVec.ofNat 8 (f.getD 3 0).toNat] ++
      leBytes 2 (if (f.getD 1 0 == 0x10 && decide ((f.getD 3 0).toNat < 32)) = true then d.ix (f.getD 3 0).toNat else 0))] }

/-- 18 R456: a command is applied when it carries the next counter value, answered without effect when it repeats the last, and refused otherwise. -/
theorem PsdDie.command_eq (d : PsdDie) (f : List Byte) (delayed : Bool) {x : Nat × PsdDie}
    (hx : (if (f.getD 1 0 == 0x10) = true then d.write (f.getD 3 0).toNat (fieldAt f 4 2) else d.act (f.getD 3 0).toNat delayed) = x) :
    d.command f delayed =
      if (f.getD 2 0).toNat = d.next then { x.2 with next := (x.2.next + 1) % 256 }.ackOf f delayed x.1
      else if ((f.getD 2 0).toNat + 1) % 256 = d.next then d.ackOf f delayed 1
      else d.ackOf f delayed 2 := by
  subst hx
  simp only [PsdDie.command]
  by_cases h : (f.getD 2 0).toNat = d.next
  · rw [if_pos h, if_pos h]
    rfl
  · rw [if_neg h, if_neg h]
    by_cases h1 : ((f.getD 2 0).toNat + 1) % 256 = d.next
    · rw [if_pos h1, if_pos h1]
      rfl
    · rw [if_neg h1, if_neg h1]
      rfl

section
variable {d : PsdDie} {i v : Nat}

theorem PsdDie.write_outside (h : i = 0 ∨ 32 ≤ i) : d.write i v = (3, d) := if_pos (by simpa only [Bool.or_eq_true, decide_eq_true_eq] using h)

variable (h0 : i ≠ 0) (h32 : i < 32)
include h0 h32

theorem PsdDie.write_forbidden (hv : d.allowed i v = false) : d.write i v = (4, d) := by
  have hin : ¬((decide (i = 0) || decide (32 ≤ i)) = true) := by simp [h0, h32]
  exact (if_neg hin).trans (if_pos (by rw [hv]; rfl))

/-- 18 R456: a write of an index without an effect of its own. -/
theorem PsdDie.write_plain (hv : d.allowed i v = true) (h1 : i ≠ 1) (h4 : i ≠ 4) (h15 : i ≠ 15) : d.write i v = (0, d.setIx i v) := by
  have hin : ¬((decide (i = 0) || decide (32 ≤ i)) = true) := by simp [h0, h32]
  exact (if_neg hin).trans ((if_neg (by rw [hv]; decide)).trans ((if_neg h1).trans ((if_neg h4).trans (if_neg h15))))

end

end Sys2Proof.Machine

open Sys2Proof Sys2Proof.Machine

/-- Settles O56: a frame is taken by its kind, and a command by its counter. -/
theorem linkFramesAtTheDie : Obligations.LinkFramesAtTheDie := by
  refine ⟨?frame, ?receive, ?command, ?write, ?silent, ?idle⟩
  case frame =>
    intro s c f err rest hdown hpow k i hc heard
    have hgo : ∀ (ev : String) (kind : Nat → Nat → Bool), kind k i = true →
        s.downFrame ev kind err = .next ((s.modPsd (fun p => { p with down := rest })).modDie (fun d => d.receive heard)) := fun ev kind hkind =>
      State.downFrame_eq hdown hpow ev kind err hkind
    rcases hc with ⟨rfl, h⟩ | ⟨rfl, hk, hi⟩ | ⟨rfl, hk, hi⟩ | ⟨rfl, hk, hi⟩ | ⟨rfl, hk⟩ | ⟨rfl, hk⟩
    · refine hgo "PSD_WRITE" (fun k i => k == 0x10 || (k == 0x11 && (i < 0x40 || 0x42 < i))) ?_
      simpa only [Bool.or_eq_true, Bool.and_eq_true, beq_iff_eq, decide_eq_true_eq] using h
    · exact hgo "CLEAR_FAULT" (fun k i => k == 0x11 && i == 0x40) (by rw [hk, hi]; rfl)
    · exact hgo "REFCHK_NOW" (fun k i => k == 0x11 && i == 0x41) (by rw [hk, hi]; rfl)
    · exact hgo "CLEAR_POR" (fun k i => k == 0x11 && i == 0x42) (by rw [hk, hi]; rfl)
    · exact hgo "KEEPALIVE" (fun k _ => k == 0x12) (by rw [hk]; rfl)
    · exact hgo "BROWNOUT" (fun k _ => k == 0x13) (by rw [hk]; rfl)
  case receive =>
    intro d f k whole e
    have hgood : whole → k ≠ 0x12 ∨ k = 0x12 → 0x10 ≤ k → k ≤ 0x13 → ¬(¬whole ∨ k < 0x10 ∨ 0x13 < k) := fun hw _ hlo hhi => by
      rintro (h | h | h)
      · exact h hw
      · omega
      · omega
    rw [d.receive_eq f]
    refine ⟨fun h => if_pos h, fun hw hk => ?_, fun hw hk => ?_, fun hw hk hrun => ?_, fun hw hk hrun => ?_⟩
    · exact (if_neg (hgood hw (by omega) (by omega) (by omega))).trans (if_pos hk)
    · have hne : k ≠ 0x12 := by omega
      exact (if_neg (hgood hw (by omega) (by omega) (by omega))).trans ((if_neg hne).trans (if_pos hk))
    · have hne : k ≠ 0x12 := by omega
      have hne' : k ≠ 0x13 := by omega
      exact (if_neg (hgood hw (by omega) (by omega) (by omega))).trans ((if_neg hne).trans ((if_neg hne').trans (if_pos hrun)))
    · have hne : k ≠ 0x12 := by omega
      have hne' : k ≠ 0x13 := by omega
      exact (if_neg (hgood hw (by omega) (by omega) (by omega))).trans ((if_neg hne).trans ((if_neg hne').trans (if_neg (ne_true_of_eq_false hrun))))
  case command =>
    intro d f delayed wr cnt i ack
    refine ⟨fun h => (d.command_eq f delayed rfl).trans (if_pos h), fun h h1 => (d.command_eq f delayed rfl).trans ((if_neg h).trans (if_pos h1)),
      fun h h1 => (d.command_eq f delayed rfl).trans ((if_neg h).trans (if_neg h1))⟩
  case write =>
    intro d i v delayed
    refine ⟨fun h => PsdDie.write_outside h, fun h0 h32 hv => PsdDie.write_forbidden h0 h32 hv,
      fun hi hv => PsdDie.write_plain (by omega) (by omega) hv (by omega) (by omega) (by omega), fun hv => ?_, fun h => if_neg (not_not_intro h), fun h => if_pos h, rfl, rfl⟩
    simp only [PsdDie.write, hv]
    rfl
  case silent =>
    intro s hpow hquiet
    exact when'_of (by rw [hpow, hquiet]; rfl)
  case idle =>
    intro s hruns hlp hdown
    have hexec : exec .downLaneIdle s = .next (s.sendDown 0x12 0 0 0) := when'_of (by rw [hruns, hlp, hdown]; rfl)
    refine ⟨fun hpow => hexec.trans (congrArg _ ((if_pos hpow).trans ?_)), fun hpow => hexec.trans (congrArg _ (if_neg (ne_true_of_eq_false hpow)))⟩
    rw [State.modPsd, State.modPsd, hdown]
    rfl

end

section
/-! O57: the AO side of the pack link (18 R455, R458 to R461; 16 R398). -/

namespace Sys2Proof.Machine

theorem fld_low_byte (v : W32) : fld v 7 0 = v.toNat % 2 ^ 8 := by rw [fld_eq, Nat.pow_zero, Nat.div_one]

theorem fld_high_half (v : W32) : fld v 31 16 = v.toNat / 2 ^ 16 := by
  have := v.isLt
  rw [fld_eq]
  simp only [Nat.reduceAdd, Nat.reduceSub, Nat.reducePow] at this ⊢
  omega

/-! ### Registers that an event leaves alone -/

section
variable {k : Nat} (hpc : ¬(R.DBG_PC_LO ≤ k ∧ k < R.DBG_PC_LO + 64)) (hwait : k ≠ R.GLB_NOC_CTL_WAIT_COUNT)

theorem State.pump_regs (n : Nat) (s : State) : (s.pump n).regs = s.regs := by
  induction n generalizing s with
  | zero => rfl
  | succ n ih =>
    rw [State.pump]
    split
    · rw [ih, State.transmit]
    · rfl

include hwait in
theorem State.ctlWait_reg (s : State) (p : Nat) : (s.ctlWait p).reg k = s.reg k := by
  unfold State.ctlWait
  split
  · rfl
  · split
    · exact State.reg_setReg_ne s _ hwait
    · rfl

include hpc hwait

theorem State.issueWrite_reg (s : State) (w : HostWrite) : (s.issueWrite w).reg k = s.reg k := by
  have hdrain : (s.issueWrite w).reg k = ((if w.marker then s.ctlWait w.prod else s).perf 0xF 0 w.data.length).reg k :=
    congrArg (fun g => storeGet regReset g k) (State.pump_regs _ _)
  rw [hdrain, (State.perf_frame _ _ _ _).2 k hpc]
  split
  · exact State.ctlWait_reg hwait s _
  · rfl

/-- 02 R42: an event changes its pending bit, the bits of the messages that are held back, and counters. -/
theorem State.event_reg (s : State) (v : Nat) (tags : List Nat) (hpend : k ≠ R.HIF_EVT_PEND0 + 4 * (v / 32)) (hpba : k ≠ R.HIF_MSIX_PBA + 4 * (v / 32)) :
    (s.event v tags).reg k = s.reg k := by
  have hset : ∀ m, (s.setBits (R.HIF_EVT_PEND0 + 4 * (v / 32)) m).reg k = s.reg k := fun m => State.reg_setReg_ne s _ hpend
  simp only [State.event, State.msix]
  split
  · split <;> rfl
  · split
    · rfl
    · split
      · exact (State.reg_setReg_ne _ _ hpba).trans (hset _)
      · exact (State.issueWrite_reg hpc hwait _ _).trans (hset _)

end

/-- 18 R460: an event of the link leaves the mask of wakes alone. -/
theorem State.psdEvt_wakeMask (s : State) (m : Nat) : ((s.setBits R.PSD_EVT m).event 3 []).reg R.PSD_WAKE_MASK = s.reg R.PSD_WAKE_MASK := by
  rw [State.event_reg (by decide) (by decide) _ _ _ (by decide) (by decide)]
  exact State.reg_setReg_ne s _ (by decide)

/-! ### Acknowledgements -/

/-- The index of an acknowledgement is mirrored and the result shows (18 R458, Table PCK-5). -/
def State.ackSeen (u : State) (i : Nat) : State :=
  if 128 ≤ i then ((u.setField R.PSD_CMD_STATUS 23 16 i).setBits R.PSD_CMD_STATUS 0x200).inc R.PSD_REFCHK_DELAY_COUNT else u.setField R.PSD_CMD_STATUS 23 16 i

/-- 18 R458: the acknowledgement of the command that waits for it ends the command, or holds it for the next STATUS frame. -/
def State.ackTake (u : State) (x : PsdSent) (f : List Byte) : Out :=
  let w := u.ackSeen (f.getD 3 0).toNat
  let done := w.psdDrop.modPsd (fun p => { p with cnt := (p.cnt + 1) % 256 })
  if (f.getD 3 0).toNat % 128 ≤ 1 then
    .next (if (f.getD 4 0).toNat < 32 then done.setRegN (R.PSD_CFG + 4 * (f.getD 4 0).toNat) (fieldAt f 5 2) else done)
  else if (f.getD 3 0).toNat % 128 = 2 then
    .next (if x.again = true then w.psdFail else w.modPsd (fun p => { p with resync := true, sent := some { x with wait := true } }))
  else if (f.getD 3 0).toNat % 128 ≤ 5 then .next ((done.setBits R.PSD_CMD_STATUS 0x400).psdEvt 0x400)
  else .next w

/-- 18 R455, R458: what an acknowledgement that arrives does. -/
theorem psdAck_exec {s : State} {a : List Byte} {rest : List (List Byte)} (hacks : s.ao.die.acks = a :: rest) (err : List Byte)
    {f : List Byte} (hf : psdHear a err = f) {u : State} (hu : s.modDie (fun d => { d with acks := rest }) = u) :
    exec (.psdAck err) s =
      if s.aoRuns = false then .next u
      else if ¬(f.length = 8 ∧ f.getD 0 0 = 0xA5 ∧ f.getD 7 0 = psdCrc (f.take 7) ∧ f.getD 1 0 = 2) then .next (u.inc R.PSD_RX_CRC_COUNT)
      else s.ao.psd.sent.elim (.next u) (fun x => if x.wait = true ∨ x.cnt ≠ (f.getD 2 0).toNat then .next u else u.ackTake x f) := by
  subst hf hu
  have hbad : (!psdWhole (psdHear a err) 8 0xA5 || decide ((psdHear a err).getD 1 0 ≠ 2)) = true ↔
      ¬((psdHear a err).length = 8 ∧ (psdHear a err).getD 0 0 = 0xA5 ∧ (psdHear a err).getD 7 0 = psdCrc ((psdHear a err).take 7) ∧ (psdHear a err).getD 1 0 = 2) := by
    rw [Bool.or_eq_true, Bool.not_eq_true', Bool.eq_false_iff, ne_eq, psdWhole_iff, decide_eq_true_eq]
    grind
  have hsent : (s.modDie (fun d => { d with acks := rest })).ao.psd.sent = s.ao.psd.sent := rfl
  simp only [exec, execPsdAck, hacks, hbad, Bool.not_eq_true', hsent]
  cases s.ao.psd.sent with
  | none => rfl
  | some x =>
    simp only [Bool.or_eq_true, decide_eq_true_eq, Option.elim_some]
    rfl

end Sys2Proof.Machine

open Sys2Proof Sys2Proof.Machine

/-- Settles O57: commands, their frames and their acknowledgements, condition by condition. That results above 5 are ignored, and acknowledgements of another counter value too,
is the model's choice (log entry 49). -/
theorem linkCommands : Obligations.LinkCommands := by
  refine ⟨?queue, ?send, ?ack, ?timeout, ?status, ?event⟩
  case queue =>
    intro req val
    refine writesTo_putReg rfl rfl (fun _ => rfl) fun u n _ _ => ?_
    change u.wrPsdCmd val = _
    rw [State.wrPsdCmd, fld_low_byte, fld_high_half]
  case send =>
    intro s i v rest hruns hlp hsync hqueue hsent hresync f
    have hexec : exec .commandSend s = .next (s.psdSend.modPsd (fun p => { p with sent := some { cnt := p.cnt } })) :=
      if_neg (by simp [hruns, hlp, hsync, hqueue, hsent, hresync])
    have hsend : s.psdSend = s.sendDown (if i < 32 then 0x10 else 0x11) s.ao.psd.cnt i v := by simp only [State.psdSend, hqueue]
    rw [hexec, hsend]
    refine ⟨fun hpow => ?_, fun hpow => ?_⟩
    · have hkind : BitVec.ofNat 8 (if i < 32 then 0x10 else 0x11) = if i < 32 then 0x10 else 0x11 := by split <;> rfl
      simp only [State.sendDown, hpow, if_true, hkind]
      rfl
    · simp only [State.sendDown, hpow, Bool.false_eq_true, if_false]
  case ack =>
    intro s err a rest hacks u f whole i
    have hexec := psdAck_exec hacks err (psdHear_eq a err) (rfl : _ = u)
    refine ⟨fun hoff => hexec.trans (if_pos hoff), fun hruns hbad => ?_, fun hruns hw hnone => ?_, fun x hruns hw hsent => ⟨fun hother => ?_, fun hwait hcnt => ?_⟩⟩
    · exact hexec.trans ((if_neg (ne_false_of_eq_true hruns)).trans (if_pos hbad))
    · exact hexec.trans ((if_neg (ne_false_of_eq_true hruns)).trans ((if_neg (not_not_intro hw)).trans (congrArg (Option.elim · _ _) hnone)))
    · exact hexec.trans ((if_neg (ne_false_of_eq_true hruns)).trans ((if_neg (not_not_intro hw)).trans ((congrArg (Option.elim · _ _) hsent).trans (if_pos hother))))
    · intro v w done k
      have hmine : ¬(x.wait = true ∨ x.cnt ≠ (f.getD 2 0).toNat) := by simp [hwait, hcnt]
      have hexec' : exec (.psdAck err) s = u.ackTake x f := hexec.trans ((if_neg (ne_false_of_eq_true hruns)).trans ((if_neg (not_not_intro hw)).trans
        ((congrArg (Option.elim · _ _) hsent).trans (if_neg hmine))))
      refine ⟨fun hr => hexec'.trans (if_pos hr), fun hr hagain => ?_, fun hr hagain => ?_, fun hr => ?_, fun h3 h5 => ?_⟩
      · have h1 : ¬i % 128 ≤ 1 := by omega
        exact hexec'.trans ((if_neg h1).trans ((if_pos hr).trans (congrArg _ (if_neg (ne_true_of_eq_false hagain)))))
      · have h1 : ¬i % 128 ≤ 1 := by omega
        exact hexec'.trans ((if_neg h1).trans ((if_pos hr).trans (congrArg _ (if_pos hagain))))
      · have h1 : ¬i % 128 ≤ 1 := by omega
        have h2 : ¬i % 128 = 2 := by omega
        exact hexec'.trans ((if_neg h1).trans ((if_neg h2).trans (if_neg (Nat.not_le_of_gt hr))))
      · have h1 : ¬i % 128 ≤ 1 := by omega
        have h2 : ¬i % 128 = 2 := by omega
        exact hexec'.trans ((if_neg h1).trans ((if_neg h2).trans (if_pos h5)))
  case timeout =>
    intro s x hsent hwait hruns
    simp only [exec, execPsdAckTimeout, hsent, hwait, hruns, Bool.not_true, Bool.or_self, Bool.false_eq_true, if_false]
    exact ⟨fun h => if_pos h, fun h => if_neg (Nat.not_lt_of_ge h)⟩
  case status =>
    intro s err f hframe hdue hruns u g whole
    have hbad : (!psdWhole g 64 0xA5 || decide (g.getD 1 0 ≠ 1)) = true ↔ ¬whole := by
      rw [Bool.or_eq_true, Bool.not_eq_true', Bool.eq_false_iff, ne_eq, psdWhole_iff, decide_eq_true_eq]
      grind
    have hexec : exec (.statusFrame err) s = if ¬whole then .next (u.inc R.PSD_RX_CRC_COUNT) else .next (u.psdMirror g) := by
      simp only [exec, execStatusFrame, hframe, hdue, hruns, Bool.not_true, Bool.or_self, Bool.false_eq_true, if_false]
      rw [psdHear_eq]
      exact ite_of_iff hbad rfl rfl
    exact ⟨fun h => hexec.trans (if_neg (not_not_intro h)), fun h => hexec.trans (if_pos h)⟩
  case event =>
    intro s m hm t fresh
    have hexec : s.psdEvt m = if fresh &&& (s.reg R.PSD_WAKE_MASK).toNat ≠ 0 then t.lpWake 1 else t := by
      simp only [State.psdEvt, hm, if_false, s.psdEvt_wakeMask m]
      rfl
    exact ⟨rfl, fun h => hexec.trans (if_neg (not_not_intro h)), fun h => hexec.trans (if_pos h)⟩

end

section
/-! O58: characters, lines and BREAK of the monitor (20 R475 to R480, R485; 16 R410). -/

namespace Sys2Proof.Machine

/-- 20 R479, R480: a character that arrives, condition by condition. -/
theorem uartChar_exec (s : State) (ch : Byte) (fr : Bool) :
    exec (.uartChar ch fr) s =
      if s.aoRuns = false then .next s
      else if s.modeLp = true then .next s.brownOut
      else if s.monBusy = true then .next (s.inc R.DBG_MON_RX_ERR_COUNT)
      else if fr = true then .next ((s.inc R.DBG_MON_RX_ERR_COUNT).modMon (fun m => { m with bad := true }))
      else if ch = 10 then .next s
      else if ch = 13 then .next ((if s.monEcho = true then s.monSay CRLF else s).monLine)
      else .next ((if s.monEcho = true then s.monSay [ch] else s).modMon (fun m => { m with line := if m.line.length ≤ 255 then m.line ++ [ch] else m.line })) :=
  ite_of_iff (by rw [Bool.not_eq_true']) rfl rfl

/-- 20 R478, R485: a BREAK, condition by condition. -/
theorem uartBreak_exec (s : State) :
    exec .uartBreak s =
      if s.aoRuns = false then .next s
      else if s.modeLp = true then .next s.brownOut
      else
        let t := ((s.inc R.DBG_MON_RX_ERR_COUNT).chalEnd).modMon (fun m => { m with line := [], bad := false, newBaud := none, revert := false })
        let u := (t.setField R.DBG_MON_STATUS 6 4 0).setBits R.DBG_MON_STATUS 0x100
        .next (if s.monBusy = false ∧ (s.ao.mon.bad = true ∨ s.ao.mon.line ≠ []) then (u.inc R.DBG_MON_CMD_COUNT).monErr E.FRAMING else u) := by
  refine ite_of_iff (by rw [Bool.not_eq_true']) rfl (ite_of_iff Iff.rfl rfl (congrArg Host.Outcome.next (ite_of_iff ?_ rfl rfl)))
  rw [Bool.and_eq_true, Bool.or_eq_true, Bool.not_eq_true', Bool.not_eq_true', List.isEmpty_eq_false_iff]

/-- The count of lines does not touch the monitor's status. -/
theorem State.monStatus_inc (s : State) : (s.inc R.DBG_MON_CMD_COUNT).bit R.DBG_MON_STATUS 0 = s.bit R.DBG_MON_STATUS 0 :=
  congrArg (bitOf · 0) (State.reg_setReg_ne s _ (by decide))

end Sys2Proof.Machine

open Sys2Proof Sys2Proof.Machine

/-- Settles O58: characters and BREAK go by their first condition, and a line by its parse. That LF is dropped without an echo, a character with a framing error is not kept and a
BREAK answers only a line that has characters is the model's choice (log entry 27). -/
theorem monitorLines : Obligations.MonitorLines := by
  refine ⟨?off, ?on, ?line, ?reply⟩
  case off => exact fun s ch fr h => ⟨(uartChar_exec s ch fr).trans (if_pos h), (uartBreak_exec s).trans (if_pos h)⟩
  case on =>
    intro s ch hruns
    have hchar := fun fr => (uartChar_exec s ch fr).trans (if_neg (ne_false_of_eq_true hruns))
    have hbreak := (uartBreak_exec s).trans (if_neg (ne_false_of_eq_true hruns))
    refine ⟨fun hlp fr => ⟨(hchar fr).trans (if_pos hlp), hbreak.trans (if_pos hlp)⟩,
      fun hlp hbusy fr => (hchar fr).trans ((if_neg (ne_true_of_eq_false hlp)).trans (if_pos hbusy)), fun hlp hbusy => ?heard, fun hlp => ?cut, fun h => ?_, fun h => ?_, fun hb hn => ?_, fun ix hb hn => ?_⟩
    case heard =>
      have hheard := fun fr => (hchar fr).trans ((if_neg (ne_true_of_eq_false hlp)).trans (if_neg (ne_true_of_eq_false hbusy)))
      have hkept := (hheard false).trans (if_neg nofun)
      refine ⟨(hheard true).trans (if_pos rfl), fun h => hkept.trans (if_pos h), fun h hecho => ?_, fun h hecho => ?_, fun h10 h13 => ⟨fun hlen => ?_, fun hlen => ?_⟩⟩
      · exact hkept.trans ((if_neg (by rw [h]; decide)).trans ((if_pos h).trans (congrArg (fun t => Host.Outcome.next (State.monLine t)) (if_neg (ne_true_of_eq_false hecho)))))
      · exact hkept.trans ((if_neg (by rw [h]; decide)).trans ((if_pos h).trans (congrArg (fun t => Host.Outcome.next (State.monLine t)) (if_pos hecho))))
      · refine hkept.trans ((if_neg h10).trans ((if_neg h13).trans ?_))
        by_cases hecho : s.monEcho = true
        · simp only [hecho, if_true, State.monSay, State.modMon, hlen]
        · simp only [hecho, Bool.false_eq_true, if_false, State.modMon, hlen, if_true]
      · refine hkept.trans ((if_neg h10).trans ((if_neg h13).trans ?_))
        by_cases hecho : s.monEcho = true
        · simp only [hecho, if_true, State.monSay, State.modMon, Nat.not_le_of_gt hlen, if_false]
        · simp only [hecho, Bool.false_eq_true, State.modMon, Nat.not_le_of_gt hlen, if_false]
    case cut =>
      intro t u
      have hcut := hbreak.trans (if_neg (ne_true_of_eq_false hlp))
      refine ⟨fun hb hl => hcut.trans (congrArg _ (if_pos ⟨hb, hl⟩)), fun h => hcut.trans (congrArg _ (if_neg ?_))⟩
      rintro ⟨hb, hl⟩
      rcases h with h | ⟨hbad, hline⟩
      · exact absurd (hb.symm.trans h) (by decide)
      · rcases hl with hl | hl
        · exact absurd (hbad.symm.trans hl) (by decide)
        · exact hl hline
    · exact when'_of (by rw [hruns, h]; rfl)
    · exact when'_of (by rw [hruns, h]; rfl)
    · simp only [exec, execPromptEnd, hruns, hb, hn, Bool.not_true, Bool.or_self, Bool.false_eq_true, if_false]
    · simp only [exec, execPromptEnd, hruns, hb, hn, Bool.not_true, Bool.or_self, Bool.false_eq_true, if_false]
  case line =>
    intro s t l
    refine ⟨fun hbad => if_pos hbad, fun hbad hlong => (if_neg (ne_true_of_eq_false hbad)).trans (if_pos hlong), fun hbad hlen => ?_⟩
    have hline : s.monLine = _ := (if_neg (ne_true_of_eq_false hbad)).trans (if_neg (Nat.not_lt_of_ge hlen))
    refine ⟨fun e he => hline.trans (by rw [he]), fun c hc => hline.trans ?_⟩
    have hlock : t.bit R.DBG_MON_STATUS 0 = s.bit R.DBG_MON_STATUS 0 := State.monStatus_inc _
    rw [hc, ← hlock]
  case reply => exact fun s lines e => ⟨rfl, rfl⟩

end

section
/-! O59: each command of the monitor and its reply (20 R481 to R487). -/

namespace Sys2Proof.Machine

/-- The command that waits is served: by the first of the monitor's instructions that is for it. -/
theorem monServe_next {s : State} {i : Instr} {ev : String} {f : MonCmd → Option State} {c : MonCmd} {t : State} (hruns : s.aoRuns = true)
    (hlp : s.modeLp = false) (hfree : s.holds Req.monitor.num = false) (hcmd : s.ao.mon.cmd = some c) (hi : exec i s = s.monServe ev f) (hf : f c = some t) :
    exec i s = .next t := by
  rw [hi, State.monServe, hruns, hfree, hcmd]
  simp only [Bool.not_true, Bool.or_self, Bool.false_eq_true, if_false, hlp, hf]
  rfl

theorem monRange_iff (off n : Nat) : monRange off n = true ↔ off % 4 ≠ 0 ∨ 0x4000000 < off + 4 * n := by
  simp only [monRange, Bool.or_eq_true, decide_eq_true_eq]

/-- The copy of a register that the monitor's access reaches; 0 where there is no register. -/
def State.monCopy (s : State) (off : Nat) : Nat := match s.rowAt off with | some r => (s.copyOf .monitor r).getD 0 | none => 0

/-- 20 R482: why the monitor cannot reach a register now. -/
theorem State.monBlocked_cases (s : State) (off : Nat) :
    let d := regDom off (s.monCopy off)
    (d = D.AO → s.monBlocked off = none) ∧ (d ≠ D.AO → s.ao.rst.held ≠ 0 → s.monBlocked off = some E.RESET) ∧
      (d ≠ D.AO → s.ao.rst.held = 0 → s.on d = false → s.monBlocked off = some E.OFF) ∧
      (d ≠ D.AO → s.ao.rst.held = 0 → s.on d = true → s.monBlocked off = none) :=
  ⟨fun h => if_pos h, fun h hr => (if_neg h).trans (if_pos hr),
    fun h hr hon => (if_neg h).trans ((if_neg (not_not_intro hr)).trans (if_pos ((Bool.not_eq_true' _).mpr hon))),
    fun h hr hon => (if_neg h).trans ((if_neg (not_not_intro hr)).trans (if_neg (ne_true_of_eq_false ((Bool.not_eq_false' _).mpr hon))))⟩

/-- 20 R483, Table MON-3: why MRD and MWR do not reach an address. -/
theorem State.monMemErr_cases (s : State) (a n : Nat) :
    let out := a % 4 ≠ 0 ∨ s.fuses.memSize < a + 4 * n
    (s.ao.mon.locked = true → s.monMemErr a n = some E.LOCKED) ∧ (s.ao.mon.locked = false → out → s.monMemErr a n = some E.RANGE) ∧
      (s.ao.mon.locked = false → ¬out → s.rangeErr a (4 * n) ≠ none → s.monMemErr a n = some E.OFF) ∧
      (s.ao.mon.locked = false → ¬out → s.rangeErr a (4 * n) = none → s.ao.rst.held ≠ 0 → s.monMemErr a n = some E.RESET) ∧
      (s.ao.mon.locked = false → ¬out → s.rangeErr a (4 * n) = none → s.ao.rst.held = 0 → s.monMemErr a n = none) := by
  have hmem : s.monMemErr a n =
      if s.ao.mon.locked = true then some E.LOCKED
      else if a % 4 ≠ 0 ∨ s.fuses.memSize < a + 4 * n then some E.RANGE
      else if s.rangeErr a (4 * n) ≠ none then some E.OFF
      else if s.ao.rst.held ≠ 0 then some E.RESET
      else none := by
    refine ite_of_iff Iff.rfl rfl (ite_of_iff ?_ rfl (ite_of_iff Option.isSome_iff_ne_none rfl rfl))
    rw [Bool.or_eq_true, decide_eq_true_eq, decide_eq_true_eq]
  intro out
  rw [hmem]
  exact ⟨fun h => if_pos h, fun h ho => (if_neg (ne_true_of_eq_false h)).trans (if_pos ho),
    fun h ho he => (if_neg (ne_true_of_eq_false h)).trans ((if_neg ho).trans (if_pos he)),
    fun h ho he hr => (if_neg (ne_true_of_eq_false h)).trans ((if_neg ho).trans ((if_neg (not_not_intro he)).trans (if_pos hr))),
    fun h ho he hr => (if_neg (ne_true_of_eq_false h)).trans ((if_neg ho).trans ((if_neg (not_not_intro he)).trans (if_neg (not_not_intro hr))))⟩

theorem State.monWrote_eq (s : State) : s.monWrote = if s.ao.mon.cmd = none then s else s.monReply [] none := by
  unfold State.monWrote
  cases s.ao.mon.cmd <;> rfl

end Sys2Proof.Machine

open Sys2Proof Sys2Proof.Machine

/-- Settles O59: the command that waits is served, and its conditions are taken in their order. The order of LOCKED, RANGE, RESET and OFF is the model's choice (log entry 27), and
so are waiting behind a held write and words that cannot be read (36). -/
theorem monitorCommands : Obligations.MonitorCommands := by
  intro s hruns hlp hfree asked
  have hserve : ∀ {i : Instr} {ev : String} {f : MonCmd → Option State} {c : MonCmd} {t : State}, asked c → exec i s = s.monServe ev f → f c = some t →
      exec i s = .next t := fun hcmd hi hf => monServe_next hruns hlp hfree hcmd hi hf
  refine ⟨fun h => ?_, fun h => ?_, fun off n h => ?_, fun off val h => ?_, fun off => s.monBlocked_cases off, fun a n h => ?_, fun a v h => ?_,
    fun a n => s.monMemErr_cases a n, fun k h => ?_, fun h => ?_, fun n h => ?_, fun h => ?_, fun h => ?_, fun k h => ?_, fun sig h => ?_, fun h => ?_, fun ix h => ?_, fun on h => ?_⟩
  · exact hserve h rfl rfl
  · exact hserve h rfl rfl
  · intro offs
    refine ⟨fun hout => hserve h rfl (congrArg some (if_pos ((monRange_iff off n).mpr hout))), fun hal hin => ?_⟩
    have hin' : ¬monRange off n = true := fun hr => by
      rw [monRange_iff] at hr
      omega
    refine ⟨fun e he => hserve h rfl (congrArg some ((if_neg hin').trans ?_)), fun hnone => hserve h rfl (congrArg some ((if_neg hin').trans ?_))⟩
    · rw [he]
    · rw [hnone]
  · refine ⟨fun hl => hserve h rfl (congrArg some (if_pos hl)),
      fun hl hout => hserve h rfl (congrArg some ((if_neg (ne_true_of_eq_false hl)).trans (if_pos ((monRange_iff off 1).mpr hout)))), fun hl hal hin => ?_⟩
    have hin' : ¬monRange off 1 = true := fun hr => by
      rw [monRange_iff] at hr
      omega
    refine ⟨fun e he => hserve h rfl (congrArg some ((if_neg (ne_true_of_eq_false hl)).trans ((if_neg hin').trans ?_))), fun hnone => ?_⟩
    · rw [he]
    · intro t
      refine hserve h rfl (congrArg some ((if_neg (ne_true_of_eq_false hl)).trans ((if_neg hin').trans ?_)))
      rw [hnone]
      exact t.monWrote_eq
  · refine ⟨fun e he => hserve h rfl (congrArg some ?_), fun hnone => hserve h rfl (congrArg some ?_)⟩
    · rw [he]
    · rw [hnone]
  · refine ⟨fun e he => hserve h rfl (congrArg some ?_), fun hnone => hserve h rfl (congrArg some ?_)⟩
    · rw [he]
    · rw [hnone]
  · exact hserve h rfl rfl
  · exact hserve h rfl rfl
  · exact hserve h rfl rfl
  · exact hserve h rfl rfl
  · exact hserve h rfl rfl
  · refine ⟨fun hr => hserve h rfl (congrArg some (if_pos hr)),
      fun hr hk => hserve h rfl (congrArg some ((if_neg (not_not_intro hr)).trans (if_pos (by rw [hk]; rfl)))),
      fun hr hk n t ht => hserve h rfl (congrArg some ((if_neg (not_not_intro hr)).trans ((if_neg (by rw [hk]; decide)).trans ?_)))⟩
    rw [ht]
  · refine ⟨fun hr => hserve h rfl (congrArg some (if_pos hr)),
      fun hr hnone => hserve h rfl (congrArg some ((if_neg (not_not_intro hr)).trans ?_)), fun nonce k hr hchal => ?_⟩
    · rw [hnone]
    · intro t msg
      refine ⟨fun hsig => hserve h rfl (congrArg some ((if_neg (not_not_intro hr)).trans ?_)), fun hsig => hserve h rfl (congrArg some ((if_neg (not_not_intro hr)).trans ?_))⟩
      · rw [hchal]
        exact if_pos hsig
      · rw [hchal]
        exact if_neg (ne_true_of_eq_false hsig)
  · exact hserve h rfl rfl
  · exact hserve h rfl rfl
  · exact hserve h rfl rfl

end

section
/-! O60: the performance counters and their filters (20 R487 to R489). -/

namespace Sys2Proof.Machine

/-! ### One counter's step -/

/-- One counter hears an event or not. -/
def State.perfStep (s : State) (code part n k : Nat) : State :=
  if s.perfHears k code part then
    { s.bumpPair (R.DBG_PC_LO + 8 * k) ((s.ao.perfRem.getD k 0 + n) / perfUnit code) with
      ao := { s.ao with perfRem := s.ao.perfRem.set k ((s.ao.perfRem.getD k 0 + n) % perfUnit code) } }
  else s

theorem State.perf_eq (s : State) (code part n : Nat) (hrun : s.bit R.DBG_PCTRL 0 = true) (hon : s.on D.HM = true) :
    s.perf code part n = (List.range 8).foldl (fun s k => s.perfStep code part n k) s :=
  if_neg (by rw [hrun, hon]; decide)

/-- A counter: what it shows, and what is left over of its unit. -/
def State.counter (s : State) (k : Nat) : Nat × Nat := (s.pair (R.DBG_PC_LO + 8 * k), s.ao.perfRem.getD k 0)

/-- 20 R489: what a counter comes to. -/
def State.counted (s : State) (code part n k : Nat) : Nat × Nat :=
  if s.perfHears k code part then
    ((s.pair (R.DBG_PC_LO + 8 * k) + (s.ao.perfRem.getD k 0 + n) / perfUnit code) % 2 ^ 64, (s.ao.perfRem.getD k 0 + n) % perfUnit code)
  else s.counter k

theorem State.pair_congr {s t : State} {k : Nat} (hlo : t.reg k = s.reg k) (hhi : t.reg (k + 4) = s.reg (k + 4)) : t.pair k = s.pair k := by
  rw [State.pair, State.pair, hlo, hhi]

theorem State.counted_congr {s t : State} {k : Nat} (code part n : Nat) (hsel : t.reg (R.DBG_PSEL + 4 * k) = s.reg (R.DBG_PSEL + 4 * k))
    (hcount : t.counter k = s.counter k) : t.counted code part n k = s.counted code part n k := by
  obtain ⟨hpair, hrem⟩ := Prod.mk.inj hcount
  have hhears : t.perfHears k code part = s.perfHears k code part := by rw [State.perfHears, State.perfHears, hsel]
  rw [State.counted, State.counted, hhears, hpair, hrem, hcount]

/-- What a step of the counters rests on: a register file in its canonical form and a remainder for each counter. -/
def State.counting (s : State) : Prop := storeWf regPlain s.regs = true ∧ s.ao.perfRem.length = 8

theorem State.reg_with_ao (s : State) (a : AoSide) (j : Nat) : { s with ao := a }.reg j = s.reg j := rfl

theorem State.reg_bumpPair_ne (s : State) {j k : Nat} (n : Nat) (hlo : j ≠ k) (hhi : j ≠ k + 4) : (s.bumpPair k n).reg j = s.reg j := by
  rw [State.bumpPair, State.reg_setPair_ne s _ hlo hhi]

theorem State.pair_bumpPair (s : State) (k n : Nat) (a : AoSide) (hwf : storeWf regPlain s.regs = true) :
    { s.bumpPair k n with ao := a }.pair k = (s.pair k + n) % 2 ^ 64 := by
  have hpair : { s.bumpPair k n with ao := a }.pair k = (s.bumpPair k n).pair k :=
    State.pair_congr (State.reg_with_ao _ a k) (State.reg_with_ao _ a (k + 4))
  rw [hpair, State.bumpPair, s.pair_setPair k _ hwf]

section
variable {s : State} (code part n : Nat) {k : Nat}

theorem State.perfStep_reg {j : Nat} (hlo : j ≠ R.DBG_PC_LO + 8 * k) (hhi : j ≠ R.DBG_PC_LO + 8 * k + 4) : (s.perfStep code part n k).reg j = s.reg j := by
  unfold State.perfStep
  split
  · rw [State.reg_with_ao, State.reg_bumpPair_ne s _ hlo hhi]
  · rfl

theorem State.perfStep_counting (h : s.counting) : (s.perfStep code part n k).counting := by
  obtain ⟨hwf, hlen⟩ := h
  unfold State.perfStep
  split
  · exact ⟨State.setReg_wf _ _ _ (s.setReg_wf _ _ hwf), (List.length_set ..).trans hlen⟩
  · exact ⟨hwf, hlen⟩

theorem State.perfStep_counter_ne {j : Nat} (h : j ≠ k) : (s.perfStep code part n k).counter j = s.counter j := by
  have hpair : (s.perfStep code part n k).pair (R.DBG_PC_LO + 8 * j) = s.pair (R.DBG_PC_LO + 8 * j) :=
    State.pair_congr (State.perfStep_reg code part n (by omega) (by omega)) (State.perfStep_reg code part n (by omega) (by omega))
  have hrem : (s.perfStep code part n k).ao.perfRem.getD j 0 = s.ao.perfRem.getD j 0 := by
    unfold State.perfStep
    split
    · rw [List.getD_eq_getElem?_getD, List.getElem?_set_ne h.symm, ← List.getD_eq_getElem?_getD]
    · rfl
  rw [State.counter, State.counter, hpair, hrem]

theorem State.perfStep_counter_same (h : s.counting) (hk : k < 8) : (s.perfStep code part n k).counter k = s.counted code part n k := by
  obtain ⟨hwf, hlen⟩ := h
  unfold State.perfStep State.counted
  split
  · refine Prod.ext (State.pair_bumpPair s _ _ _ hwf) ?_
    change (s.ao.perfRem.set k _).getD k 0 = _
    rw [List.getD_eq_getElem?_getD, List.getElem?_set_self (by rw [hlen]; exact hk), Option.getD_some]
  · rfl

end

/-! ### All of them -/

section
variable (code part n : Nat)

theorem State.perfFold_reg (l : List Nat) {j : Nat} (hj : ∀ k ∈ l, j ≠ R.DBG_PC_LO + 8 * k ∧ j ≠ R.DBG_PC_LO + 8 * k + 4) (s : State) :
    (l.foldl (fun s k => s.perfStep code part n k) s).reg j = s.reg j := by
  induction l generalizing s with
  | nil => rfl
  | cons k l ih =>
    obtain ⟨hlo, hhi⟩ := hj k (List.mem_cons_self ..)
    exact (ih (fun x hx => hj x (List.mem_cons_of_mem _ hx)) _).trans (State.perfStep_reg code part n hlo hhi)

theorem State.perfFold_counter (l : List Nat) (hnd : l.Nodup) (hl : ∀ k ∈ l, k < 8) (s : State) (h : s.counting) (j : Nat) (hj : j < 8) :
    (l.foldl (fun s k => s.perfStep code part n k) s).counter j = if j ∈ l then s.counted code part n j else s.counter j := by
  induction l generalizing s with
  | nil => rfl
  | cons k l ih =>
    obtain ⟨hk, hnd⟩ := List.nodup_cons.mp hnd
    rw [List.foldl_cons, ih hnd (fun x hx => hl x (List.mem_cons_of_mem _ hx)) _ (State.perfStep_counting code part n h)]
    by_cases hjk : j = k
    · subst hjk
      rw [if_neg hk, if_pos (List.mem_cons_self ..), State.perfStep_counter_same code part n h hj]
    · have hkeep := State.perfStep_counter_ne (s := s) code part n hjk
      have hsel : (s.perfStep code part n k).reg (R.DBG_PSEL + 4 * j) = s.reg (R.DBG_PSEL + 4 * j) :=
        have hk8 : k < 8 := hl k (List.mem_cons_self ..)
        State.perfStep_reg code part n (by simp only [R.DBG_PSEL, R.DBG_PC_LO]; omega) (by simp only [R.DBG_PSEL, R.DBG_PC_LO]; omega)
      rw [hkeep, State.counted_congr code part n hsel hkeep]
      exact ite_of_iff (by rw [List.mem_cons, or_iff_right hjk]) rfl rfl

end

/-! ### CLEAR -/

/-- A half of a pair that is zeroed, or that was 0, reads 0. -/
theorem State.zeroPairs_reg (l : List Nat) (j : Nat) (s : State) (hwf : storeWf regPlain s.regs = true)
    (h : s.reg j = 0 ∨ ∃ n ∈ l, j = R.DBG_PC_LO + 8 * n ∨ j = R.DBG_PC_LO + 8 * n + 4) :
    (l.foldl (fun s n => s.setPair (R.DBG_PC_LO + 8 * n) 0) s).reg j = 0 := by
  induction l generalizing s with
  | nil => simpa using h
  | cons x l ih =>
    rw [List.foldl_cons]
    have hwf1 := s.setReg_wf (R.DBG_PC_LO + 8 * x) (BitVec.ofNat 32 0) hwf
    refine ih _ (State.setReg_wf _ _ _ hwf1) ?_
    by_cases hhi : j = R.DBG_PC_LO + 8 * x + 4
    · exact .inl (by rw [hhi]; exact State.reg_setReg _ _ _ hwf1)
    by_cases hlo : j = R.DBG_PC_LO + 8 * x
    · exact .inl ((State.reg_setReg_ne _ _ hhi).trans (by rw [hlo]; exact State.reg_setReg s _ _ hwf))
    rw [State.reg_setPair_ne s _ hlo hhi]
    refine h.imp id ?_
    rintro ⟨n, hn, hj⟩
    refine ⟨n, (List.mem_cons.mp hn).resolve_left ?_, hj⟩
    rintro rfl
    exact hj.elim hlo hhi

theorem State.perfClear_eq (s : State) :
    s.perfClear = { (List.range 8).foldl (fun s n => s.setPair (R.DBG_PC_LO + 8 * n) 0) s with
      ao := { ((List.range 8).foldl (fun s n => s.setPair (R.DBG_PC_LO + 8 * n) 0) s).ao with perfRem := List.replicate 8 0 } } := rfl

theorem perfRun_value : ∀ run : Bool, fld (BitVec.ofNat 32 (b2n run)) 0 0 = b2n run ∧ bitOf (BitVec.ofNat 32 (b2n run)) 1 = false := by decide

theorem perfClear_value : ∀ run : Bool, fld (BitVec.ofNat 32 (2 + b2n run)) 0 0 = b2n run ∧ bitOf (BitVec.ofNat 32 (2 + b2n run)) 1 = true := by decide

theorem State.perfHears_iff (s : State) (k code part : Nat) :
    s.perfHears k code part = true ↔ (s.reg (R.DBG_PSEL + 4 * k)).toNat % 2 ^ 8 = code ∧
      (perfFiltered code = false ∨ 8 ≤ (s.reg (R.DBG_PSEL + 4 * k)).toNat / 2 ^ 8 % 16 ∨ (s.reg (R.DBG_PSEL + 4 * k)).toNat / 2 ^ 8 % 16 = part) := by
  simp only [State.perfHears, fld_eq, Bool.and_eq_true, Bool.or_eq_true, Bool.not_eq_true', beq_iff_eq, decide_eq_true_eq, or_assoc, Nat.pow_zero, Nat.div_one] <;> rfl

end Sys2Proof.Machine

open Sys2Proof Sys2Proof.Machine

/-- Settles O60: each of the eight counters takes its own step, which touches its pair and its remainder alone. That any requester locks through DBG_MON_CTRL, and that counters run
while HM is ON, is the model's choice (log entries 28 and 57). -/
theorem performanceCounters : Obligations.PerformanceCounters := by
  refine ⟨?lock, ?run, ?clear, ?count, ?zero⟩
  case lock => exact fun req => writesTo_putReg rfl rfl (fun _ => rfl) fun u n _ _ => rfl
  case run =>
    intro req run
    refine writesTo_putReg rfl rfl (fun _ => rfl) fun u n _ _ => ?_
    obtain ⟨hrun, hclear⟩ := perfRun_value run
    change (if bitOf _ 1 = true then (u.setField R.DBG_PCTRL 0 0 (fld _ 0 0)).perfClear else u.setField R.DBG_PCTRL 0 0 (fld _ 0 0)) = _
    rw [hrun, if_neg (ne_true_of_eq_false hclear)]
  case clear =>
    intro req run
    refine writesTo_putReg rfl rfl (fun _ => rfl) fun u n _ _ => ?_
    obtain ⟨hrun, hclear⟩ := perfClear_value run
    change (if bitOf _ 1 = true then (u.setField R.DBG_PCTRL 0 0 (fld _ 0 0)).perfClear else u.setField R.DBG_PCTRL 0 0 (fld _ 0 0)) = _
    rw [hrun, if_pos hclear]
    rfl
  case count =>
    intro s ev part n
    refine ⟨fun h => if_pos (by rcases h with h | h <;> simp [h]), fun hwf hlen hrun hon => ?_⟩
    intro u
    have hu : u = (List.range 8).foldl (fun s k => s.perfStep ev part n k) s := s.perf_eq ev part n hrun hon
    rw [hu]
    refine ⟨fun j hj => State.perfFold_reg ev part n _ (fun k hk => ?_) s, fun k hk => ?_⟩
    · have hk8 := List.mem_range.mp hk
      refine ⟨fun h => hj (List.mem_map.mpr ⟨2 * k, List.mem_range.mpr (by omega), by omega⟩), fun h => hj (List.mem_map.mpr ⟨2 * k + 1, List.mem_range.mpr (by omega), by omega⟩)⟩
    · intro w hears t
      have hcount := State.perfFold_counter ev part n (List.range 8) List.nodup_range (fun x hx => List.mem_range.mp hx) s ⟨hwf, hlen⟩ k hk
      rw [if_pos (List.mem_range.mpr hk)] at hcount
      refine ⟨fun h => Prod.mk.inj (hcount.trans (if_pos ((s.perfHears_iff k ev part).mpr h))),
        fun h => Prod.mk.inj (hcount.trans (if_neg (fun hh => h ((s.perfHears_iff k ev part).mp hh))))⟩
  case zero =>
    intro s n hwf hn
    have hreg : ∀ j, s.perfClear.reg j = ((List.range 8).foldl (fun s n => s.setPair (R.DBG_PC_LO + 8 * n) 0) s).reg j := fun j => by
      rw [s.perfClear_eq, State.reg_with_ao]
    rw [hreg, hreg]
    have hlo := State.zeroPairs_reg (List.range 8) (R.DBG_PC_LO + 8 * n) s hwf (.inr ⟨n, List.mem_range.mpr hn, .inl rfl⟩)
    have hhi := State.zeroPairs_reg (List.range 8) (R.DBG_PC_LO + 8 * n + 4) s hwf (.inr ⟨n, List.mem_range.mpr hn, .inr rfl⟩)
    refine ⟨hlo, hhi, ?_⟩
    rw [s.perfClear_eq]

end

section
/-! What every step keeps (O2, O3, O13): the canonical form of the register file and of the staged halves, the fuses, and the commands that wait. -/

namespace Sys2Proof.Machine

/-- A state `s` that work on `o` has come to is as sound as `o`: its registers and staged halves are canonical if `o`'s are, and its fuses and waiting commands
are `o`'s. With `m` the translation unit is `o`'s too. -/
structure Kept (m : Bool) (o s : State) : Prop where
  wf : o.regsWf = true → s.regsWf = true
  fuses : s.fuses = o.fuses
  pending : s.pending = o.pending
  mmu : m = true → s.mmu = o.mmu

/-- Whatever state an outcome goes on with is as sound as `o`. -/
inductive OutKept (o : State) : Out → Prop
  | next {s : State} (h : Kept false o s) : OutKept o (.next s)
  | fault (e : Fault) : OutKept o (.fault e)
  | refused (e : Refusal) : OutKept o (.refused e)

/-- Whatever state the body of an instruction comes to is as sound as `o`. -/
inductive BodyKept (o : State) : Body → Prop
  | done {s : State} (h : Kept false o s) (lat : Nat) : BodyKept o (.done s lat)
  | full : BodyKept o .full
  | slots : BodyKept o .slots
  | held : BodyKept o .held
  | wait : BodyKept o .wait

section
variable {m : Bool} {o s : State}

theorem Kept.refl (s : State) : Kept m s s := ⟨id, rfl, rfl, fun _ => rfl⟩

theorem Kept.weaken (h : Kept m o s) : Kept false o s := ⟨h.wf, h.fuses, h.pending, nofun⟩

/-- The state beside a result. -/
theorem Kept.snd {α : Type} {p : α × State} {a : α} {t : State} (h : Kept m o p.2) (hp : p = (a, t)) : Kept m o t := by
  subst hp
  exact h

theorem Kept.either {t u : State} {p : Prop} [Decidable p] (ht : Kept m o t) (hu : Kept m o u) : Kept m o (if p then t else u) := by
  split
  · exact ht
  · exact hu

/-! ### Registers -/

theorem Kept.setReg (h : Kept m o s) (k : Nat) (v : BitVec 32) : Kept m o (s.setReg k v) := by
  refine ⟨fun ho => ?_, h.fuses, h.pending, h.mmu⟩
  obtain ⟨hregs, hstage⟩ := Bool.and_eq_true_iff.mp (h.wf ho)
  exact Bool.and_eq_true_iff.mpr ⟨s.setReg_wf k v hregs, hstage⟩

theorem Kept.clearRegs (h : Kept m o s) (p : Nat → Nat → Bool) : Kept m o (s.clearRegs p) := by
  refine ⟨fun ho => ?_, h.fuses, h.pending, h.mmu⟩
  obtain ⟨hregs, hstage⟩ := Bool.and_eq_true_iff.mp (h.wf ho)
  exact Bool.and_eq_true_iff.mpr ⟨(storeWf_filter _ _ _ hregs).1, hstage⟩

theorem Kept.stageLo (h : Kept m o s) (req : Req) (key : Nat) (v : BitVec 32) : Kept m o (s.stageLo req key v) := by
  refine ⟨fun ho => ?_, h.fuses, h.pending, h.mmu⟩
  obtain ⟨hregs, hstage⟩ := Bool.and_eq_true_iff.mp (h.wf ho)
  exact Bool.and_eq_true_iff.mpr ⟨hregs, storeWf_storePut _ _ _ _ hstage⟩

theorem Kept.unstage (h : Kept m o s) (req : Req) (key : Nat) : Kept m o (s.unstage req key) := by
  refine ⟨fun ho => ?_, h.fuses, h.pending, h.mmu⟩
  obtain ⟨hregs, hstage⟩ := Bool.and_eq_true_iff.mp (h.wf ho)
  exact Bool.and_eq_true_iff.mpr ⟨hregs, (storeWf_filter _ _ _ hstage).1⟩

theorem Kept.noStage (h : Kept m o s) : Kept m o { s with stage := [] } := by
  refine ⟨fun ho => ?_, h.fuses, h.pending, h.mmu⟩
  obtain ⟨hregs, -⟩ := Bool.and_eq_true_iff.mp (h.wf ho)
  exact Bool.and_eq_true_iff.mpr ⟨hregs, rfl⟩

theorem Kept.noRegs (h : Kept m o s) : Kept m o { s with regs := [] } := by
  refine ⟨fun ho => ?_, h.fuses, h.pending, h.mmu⟩
  obtain ⟨-, hstage⟩ := Bool.and_eq_true_iff.mp (h.wf ho)
  exact Bool.and_eq_true_iff.mpr ⟨rfl, hstage⟩

theorem Kept.setRegN (h : Kept m o s) (k v : Nat) : Kept m o (s.setRegN k v) := h.setReg _ _

theorem Kept.modReg (h : Kept m o s) (k : Nat) (f : BitVec 32 → BitVec 32) : Kept m o (s.modReg k f) := h.setReg _ _

theorem Kept.bump (h : Kept m o s) (k n : Nat) : Kept m o (s.bump k n) := h.setReg _ _

theorem Kept.inc (h : Kept m o s) (k : Nat) : Kept m o (s.inc k) := h.setReg _ _

theorem Kept.setBits (h : Kept m o s) (k n : Nat) : Kept m o (s.setBits k n) := h.setReg _ _

theorem Kept.clrBits (h : Kept m o s) (k n : Nat) : Kept m o (s.clrBits k n) := h.setReg _ _

theorem Kept.setField (h : Kept m o s) (k hi lo v : Nat) : Kept m o (s.setField k hi lo v) := h.setReg _ _

theorem Kept.setPair (h : Kept m o s) (k v : Nat) : Kept m o (s.setPair k v) := (h.setRegN _ _).setRegN _ _

theorem Kept.bumpPair (h : Kept m o s) (k n : Nat) : Kept m o (s.bumpPair k n) := h.setPair _ _

theorem Kept.viol (h : Kept m o s) : Kept m o s.viol := h.inc _

/-! ### The other fields -/

/-- A state that differs from a sound one in other fields alone is as sound. -/
theorem Kept.withRest {t : State} (h : Kept m o s) (hregs : t.regs = s.regs) (hstage : t.stage = s.stage) (hfuses : t.fuses = s.fuses) (hpending : t.pending = s.pending)
    (hmmu : t.mmu = s.mmu) : Kept m o t :=
  ⟨fun ho => by rw [State.regsWf, hregs, hstage]; exact h.wf ho, hfuses.trans h.fuses, hpending.trans h.pending, fun hm => hmmu.trans (h.mmu hm)⟩

/-- The fields that nothing here speaks of may change. -/
theorem Kept.fields (h : Kept m o s) (hs : HostSide) (ms : MemSide) (qm : QmState) (pt : PtState) (fab : FabState) (crc : List CrcUnit) (cores : List Core)
    (disps : List Disp) (rtus : List Rtu) (pass : Option Pass) (copies : List CopyJob) (gd : Guard) (ao : AoSide) (free ticks : Nat) :
    Kept m o { s with hs := hs, ms := ms, qm := qm, pt := pt, fab := fab, crc := crc, cores := cores, disps := disps, rtus := rtus, pass := pass, copies := copies, gd := gd, ao := ao, free := free, ticks := ticks } := ⟨h.wf, h.fuses, h.pending, h.mmu⟩

/-- The translation unit too, where it is not spoken of. -/
theorem Kept.fieldsMmu (h : Kept false o s) (hs : HostSide) (ms : MemSide) (mmu : MmuState) (qm : QmState) (pt : PtState) (fab : FabState) (crc : List CrcUnit)
    (cores : List Core) (disps : List Disp) (rtus : List Rtu) (pass : Option Pass) (copies : List CopyJob) (gd : Guard) (ao : AoSide) (free ticks : Nat) :
    Kept false o { s with hs := hs, ms := ms, mmu := mmu, qm := qm, pt := pt, fab := fab, crc := crc, cores := cores, disps := disps, rtus := rtus, pass := pass, copies := copies, gd := gd, ao := ao, free := free, ticks := ticks } := ⟨h.wf, h.fuses, h.pending, nofun⟩

/-! ### Folds and outcomes -/

theorem Kept.foldl {α : Type} {f : State → α → State} (l : List α) (hf : ∀ s a, Kept m o s → Kept m o (f s a)) (h : Kept m o s) : Kept m o (l.foldl f s) := by
  induction l generalizing s with
  | nil => exact h
  | cons a l ih => exact ih (hf _ _ h)

/-- A fold that carries something beside the state. -/
theorem Kept.foldlSnd {α β : Type} {f : β × State → α → β × State} {p : β × State} (l : List α)
    (hf : ∀ x s a, Kept m o s → Kept m o (f (x, s) a).2) (h : Kept m o p.2) : Kept m o (l.foldl f p).2 := by
  induction l generalizing p with
  | nil => exact h
  | cons a l ih => exact ih (hf p.1 p.2 a h)

/-- A fold that carries the state before something else. -/
theorem Kept.foldlFst {α β : Type} {f : State × β → α → State × β} {p : State × β} (l : List α)
    (hf : ∀ p a, Kept m o p.1 → Kept m o (f p a).1) (h : Kept m o p.1) : Kept m o (l.foldl f p).1 := by
  induction l generalizing p with
  | nil => exact h
  | cons a l ih => exact ih (hf p a h)

theorem OutKept.kept {out : Out} {t : State} (h : OutKept o out) (ht : out = .next t) : Kept false o t := by
  cases h with
  | next hs => exact Host.Outcome.next.inj ht ▸ hs
  | fault e => simp only [reduceCtorEq] at ht
  | refused e => simp only [reduceCtorEq] at ht

theorem OutKept.never (event : String) : OutKept o (Machine.never event) := .fault _

theorem OutKept.when' (h : Kept false o s) (event : String) (c : Bool) : OutKept o (Machine.when' event c s) := by
  unfold Machine.when'
  split
  · exact .next h
  · exact .never event

theorem OutKept.rooted {out : Out} (h : OutKept o out) (s : State) (event : String) : OutKept o (s.rooted event out) := by
  unfold State.rooted
  split
  · exact h
  · exact .never event

theorem OutKept.orNever {r : Option State} (h : ∀ t, r = some t → Kept false o t) (event : String) : OutKept o (Machine.orNever event r) := by
  cases r with
  | none => exact .never event
  | some t => exact .next (h t rfl)

theorem Kept.perf (h : Kept m o s) (code part n : Nat) : Kept m o (s.perf code part n) := by
  unfold State.perf
  split
  · exact h
  · refine Kept.foldl _ (fun s k h => ?_) h
    split
    · exact (h.bumpPair _ _).withRest rfl rfl rfl rfl rfl
    · exact h

theorem Kept.draw (h : Kept m o s) : Kept m o s.draw.2 := h.withRest rfl rfl rfl rfl rfl

end

end Sys2Proof.Machine
end

section
/-! What the step keeps, function by function (1 of 8): the registers, the memory, the mailbox of the host, the translation unit and checksums. -/

namespace Sys2Proof.Machine
section
-- One lemma after another: side by side `grind` would keep a thread waiting for every lemma it names.
set_option Elab.async false

variable {m : Bool} {o s : State}

theorem Kept.setDom (h : Kept m o s) (d : Nat) (c : Nat) : Kept m o (s.setDom d c) := by
  unfold State.setDom
  grind [Kept.setField]

theorem Kept.crcFeed (h : Kept m o s) (attach : Nat) (bs : List Byte) : Kept m o (s.crcFeed attach bs) := h.fields ..

theorem Kept.crcFeedDesc (h : Kept m o s) (attach : Nat) (desc : Nat) (bs : List Byte) : Kept m o (s.crcFeedDesc attach desc bs) := h.fields ..

theorem Kept.crcCompare (h : Kept m o s) (u : Nat) (crc : Nat) (expect : Nat) : Kept m o (s.crcCompare u crc expect) := by
  unfold State.crcCompare
  grind [Kept.setPair, Kept.inc, Kept.setBits]

theorem Kept.incUe (h : Kept m o s) (g : Nat) : Kept m o (s.incUe g) := h.inc ..

theorem Kept.incCe (h : Kept m o s) (g : Nat) : Kept m o (s.incCe g) := h.inc ..

theorem Kept.eccRead (h : Kept m o s) (g : Nat) : Kept m o (s.eccRead g) := by
  unfold State.eccRead
  grind [Kept.incUe, Kept.incCe]

theorem Kept.spoil (h : Kept m o s) (ue : List Nat) (ce : List Nat) : Kept m o (s.spoil ue ce) := h.fields ..

theorem Kept.dramMoved (h : Kept m o s) (rd : Nat) (wr : Nat) : Kept m o (s.dramMoved rd wr) := by
  unfold State.dramMoved
  grind [Kept.perf, Kept.fields]

theorem Kept.l2Count (h : Kept m o s) (hit : Bool) : Kept m o (s.l2Count hit) := h.perf ..

theorem Kept.within {α : Type} {p : Nat} {f : State → α × State} (hf : ∀ t, Kept m o t → Kept m o (f t).2) (h : Kept m o s) :
    Kept m o (s.within p f).2 := by
  have ht := hf _ (h.withRest (t := { s with ms := { s.ms with part := p } }) rfl rfl rfl rfl rfl)
  exact ht.withRest rfl rfl rfl rfl rfl

theorem Kept.putGranule (h : Kept m o s) (cs : List (Nat × Byte)) : Kept m o (s.putGranule cs).2 := by
  cases cs with
  | nil => exact h
  | cons c cs =>
    unfold State.putGranule
    grind [Kept.eccRead, Kept.dramMoved, Kept.fields]

theorem Kept.putDram (h : Kept m o s) (cs : List (Nat × Byte)) (a : Nat) (n : Nat) : Kept m o (s.putDram cs a n).2 := by
  unfold State.putDram
  grind [Kept.putGranule, Kept.foldlSnd]

theorem Kept.countEnc (h : Kept m o s) (ctl : Nat) (E : Nat) : Kept m o (s.countEnc ctl E) := by
  unfold State.countEnc
  grind [Kept.inc, Kept.setRegN]

theorem Kept.writeBack (h : Kept m o s) (a : Nat) : Kept m o (s.writeBack a) := by
  unfold State.writeBack
  grind [Kept.putDram, Kept.fields]

theorem Kept.writeBackC (h : Kept m o s) (blk : Nat) : Kept m o (s.writeBackC blk) := by
  generalize hf : s.writeBackC blk = f
  delta State.writeBackC at hf
  dsimp only at hf
  split at hf
  · exact hf ▸ h
  · next b _ =>
    generalize codecEncode (codedSize b.comp) b.data = r at hf
    obtain ⟨code, ctl, E⟩ := r
    dsimp only at hf
    subst hf
    split
    · exact h.fields ..
    · have h := Kept.countEnc (h.withRest (t := { s with ms := { s.ms with l2c := s.ms.l2c.filter (·.1 ≠ blk) } }) rfl rfl rfl rfl rfl) ctl E
      split
      · exact h
      · exact h.putDram ..

theorem Kept.l2Room (n : Nat) (h : Kept m o s) : Kept m o (State.l2Room n s) := by
  induction n generalizing s with
  | zero => exact h
  | succ n ih =>
    unfold State.l2Room
    grind [Kept.draw, Kept.writeBack, Kept.writeBackC]

theorem Kept.l2Fill (h : Kept m o s) (gs : List Nat) : Kept m o (s.l2Fill gs) := by
  unfold State.l2Fill
  grind [Kept.l2Room, Kept.fields]

theorem Kept.putL2 (h : Kept m o s) (cs : List (Nat × Byte)) : Kept m o (s.putL2 cs) := by
  unfold State.putL2
  grind [Kept.l2Room, Kept.fields]

theorem Kept.readLoc (h : Kept m o s) (a : Nat) (n : Nat) (alloc : Bool) : Kept m o (s.readLoc a n alloc).2 := by
  unfold State.readLoc
  grind [Kept.eccRead, Kept.l2Count, Kept.dramMoved, Kept.l2Fill, Kept.foldl]

theorem Kept.writeCells (h : Kept m o s) (cs : List (Nat × Byte)) (a : Nat) (n : Nat) (alloc : Bool) : Kept m o (s.writeCells cs a n alloc).2 := by
  unfold State.writeCells
  grind [Kept.l2Count, Kept.putDram, Kept.putL2]

theorem Kept.writeLoc (h : Kept m o s) (a : Nat) (bs : List Byte) (alloc : Bool) : Kept m o (s.writeLoc a bs alloc).2 := h.writeCells ..

theorem Kept.writeMasked (h : Kept m o s) (a : Nat) (bs : List (Option Byte)) (alloc : Bool) : Kept m o (s.writeMasked a bs alloc).2 :=
    h.writeCells ..

theorem Kept.putL2c (h : Kept m o s) (blk : Nat) (b : L2Block) : Kept m o (s.putL2c blk b) := by
  unfold State.putL2c
  grind [Kept.l2Room, Kept.fields]

theorem Kept.blockC (h : Kept m o s) (blk : Nat) (comp : Nat) (alloc : Bool) : Kept m o (s.blockC blk comp alloc).2 := by
  unfold State.blockC
  grind [Kept.l2Count, Kept.readLoc, Kept.inc, Kept.putL2c]

theorem Kept.putBlockC (h : Kept m o s) (blk : Nat) (comp : Nat) (op : Nat) (bs : List Byte) (alloc : Bool) :
    Kept m o (s.putBlockC blk comp op bs alloc).2 := by
  unfold State.putBlockC
  grind [Kept.blockC, Kept.putL2c, Kept.writeBackC]

theorem Kept.flushL2 (h : Kept m o s) : Kept m o (s.flushL2) := by
  unfold State.flushL2
  grind [Kept.writeBack, Kept.writeBackC, Kept.foldl]

theorem Kept.flushStack (h : Kept m o s) (k : Nat) : Kept m o (s.flushStack k) := by
  unfold State.flushStack
  grind [Kept.writeBack, Kept.writeBackC, Kept.foldl]

theorem Kept.transmit (h : Kept m o s) (w : HostWrite) : Kept m o (s.transmit w) := h.fields ..

theorem Kept.pump (n : Nat) (h : Kept m o s) : Kept m o (State.pump n s) := by
  induction n generalizing s with
  | zero => exact h
  | succ n ih =>
    unfold State.pump
    grind [Kept.transmit, Kept.fields]

theorem Kept.drain (h : Kept m o s) : Kept m o (s.drain) := by
  unfold State.drain
  grind [Kept.pump]

theorem Kept.ctlWait (h : Kept m o s) (p : Nat) : Kept m o (s.ctlWait p) := by
  unfold State.ctlWait
  grind [Kept.inc]

theorem Kept.issueWrite (h : Kept m o s) (w : HostWrite) : Kept m o (s.issueWrite w) := by
  unfold State.issueWrite
  grind [Kept.ctlWait, Kept.perf, Kept.drain, Kept.fields]

theorem Kept.hostMarker (h : Kept m o s) (prod : Nat) (addr : Nat) (data : List Byte) (tags : List Nat) : Kept m o (s.hostMarker prod addr data tags)
    := h.issueWrite ..

theorem Kept.hostWriteVa (h : Kept m o s) (addr : Nat) (data : List Byte) (marker : Bool) (prod : Nat) (holder : Nat) (ctx : Nat) (va : Nat) (line :
    Option Nat) : Kept m o (s.hostWriteVa addr data marker prod holder ctx va line) :=
  h.issueWrite ..

theorem Kept.msixSend (h : Kept m o s) (v : Nat) (tags : List Nat) : Kept m o (s.msixSend v tags) := h.hostMarker ..

theorem Kept.msix (h : Kept m o s) (v : Nat) (tags : List Nat) : Kept m o (s.msix v tags) := by
  unfold State.msix
  grind [Kept.setBits, Kept.msixSend, Kept.fields]

theorem Kept.event (h : Kept m o s) (v : Nat) (tags : List Nat) : Kept m o (s.event v tags) := by
  unfold State.event
  grind [Kept.setBits, Kept.msix, Kept.fields]

theorem Kept.lateEvents (h : Kept m o s) : Kept m o (s.lateEvents) := by
  unfold State.lateEvents
  grind [Kept.event, Kept.fields, Kept.foldl]

theorem Kept.msixRelease (h : Kept m o s) (v : Nat) : Kept m o (s.msixRelease v) := by
  unfold State.msixRelease
  grind [Kept.clrBits, Kept.msixSend, Kept.fields]

theorem Kept.msixCtrl (h : Kept m o s) (v : Nat) (val : BitVec 32) : Kept m o (s.msixCtrl v val) := (h.setReg ..).msixRelease ..

theorem Kept.msixConfig (h : Kept m o s) (en : Bool) (mask : Bool) : Kept m o (s.msixConfig en mask) := by
  unfold State.msixConfig
  grind [Kept.msixRelease, Kept.fields, Kept.foldl]

theorem Kept.perfCtx (h : Kept m o s) (code : Nat) (c : Nat) (n : Nat) : Kept m o (s.perfCtx code c n) := h.perf ..

theorem Kept.walkRead (h : Kept m o s) (a : Nat) (n : Nat) (lvl : Nat) : Kept m o (s.walkRead a n lvl).2 := by
  unfold State.walkRead
  grind [Kept.readLoc]

theorem Kept.ctxRoot (h : Kept false o s) (c : Nat) : Kept false o (s.ctxRoot c).2 := by
  unfold State.ctxRoot
  grind [Kept.walkRead, Kept.fieldsMmu]

theorem insertFree_kept {α : Type} (h : Kept m o s) (cap : Nat) (l : List α) (e : α) : Kept m o (insertFree s cap l e).2 := by
  unfold insertFree
  grind [Kept.draw]

theorem walkFrom_kept (h : Kept false o s) (k : Nat) (l : Nat) (x : Nat) (y : Nat) : Kept false o (walkFrom k s l x y).2 := by
  induction k generalizing s l x y with
  | zero => exact h
  | succ k ih =>
    unfold walkFrom
    grind [Kept.walkRead, insertFree_kept, Kept.fieldsMmu]

theorem Kept.xltFault (h : Kept m o s) (h1 : Nat) (c : Nat) (va : Nat) (e : MErr) : Kept m o (s.xltFault h1 c va e) :=
    ((h.inc ..).setRegN ..).setPair ..

theorem Kept.walk (h : Kept false o s) (c : Nat) (va : Nat) : Kept false o (s.walk c va).2 := by
  unfold State.walk
  split
  · exact h
  have h := h.ctxRoot c
  split
  · grind
  · grind [walkFrom_kept, Kept.inc]

theorem Kept.cacheTlb (h : Kept false o s) (h1 : Nat) (t : Tlb) : Kept false o (s.cacheTlb h1 t) := by
  unfold State.cacheTlb
  grind [insertFree_kept, Kept.fieldsMmu]

theorem Kept.countWalk (h : Kept m o s) (h1 : Nat) (c : Nat) : Kept m o (s.countWalk h1 c) := by
  unfold State.countWalk
  grind [Kept.inc, Kept.perfCtx]

theorem Kept.walkFor (h : Kept false o s) (h1 : Nat) (c : Nat) (va : Nat) (k : Dest → Acc) : Kept false o (s.walkFor h1 c va k).2 := by
  unfold State.walkFor
  grind [Kept.walk, Kept.xltFault, Kept.cacheTlb]

theorem Kept.xlateBy (h : Kept false o s) (h1 : Nat) (c : Nat) (va : Nat) (k : Dest → Acc) (now : Bool) : Kept false o (s.xlateBy h1 c va k now).2 :=
    by
  unfold State.xlateBy
  grind [Kept.xltFault, Kept.countWalk, Kept.walkFor]

theorem Kept.xlate (h : Kept false o s) (h1 : Nat) (c : Nat) (va : Nat) (k : Acc) (now : Bool) : Kept false o (s.xlate h1 c va k now).2 :=
    h.xlateBy ..

theorem Kept.emptyTlb (h : Kept false o s) (h1 : Nat) : Kept false o (s.emptyTlb h1) := h.fieldsMmu ..

theorem Kept.onion (h : Kept m o s) (op : Onion) : Kept m o (s.onion op).2 := by
  unfold State.onion
  grind [Kept.setPair, Kept.hostMarker, Kept.inc, Kept.event]

theorem State.ctxGen_go_snd {r : Except MErr (List Byte) × State} {c : Nat} (hread : s.readLoc (s.ctxDesc c) 8 = r) : (State.ctxGen.go c s).2 = r.2 :=
    by
  generalize hf : State.ctxGen.go = f
  delta State.ctxGen.go at hf
  have hf := congrFun (congrFun hf c) s
  rw [← hf, hread]
  obtain ⟨_ | _, t⟩ := r <;> rfl

theorem Kept.ctxGen_go (h : Kept m o s) (c : Nat) : Kept m o (State.ctxGen.go c s).2 := by
  rw [State.ctxGen_go_snd rfl]
  exact h.readLoc ..

theorem Kept.ctxGen (h : Kept m o s) (c : Nat) : Kept m o (s.ctxGen c).2 := by
  unfold State.ctxGen
  grind [Kept.ctxGen_go]

end
end Sys2Proof.Machine
end

section
/-! What the step keeps, function by function (2 of 8): operations of blocks, the outgoing side of the fabric, memory accesses, faults, fences, queues and graphs. -/

namespace Sys2Proof.Machine
section
-- One lemma after another: side by side `grind` would keep a thread waiting for every lemma it names.
set_option Elab.async false

variable {m : Bool} {o s : State}

theorem Kept.fabSend (h : Kept m o s) (p : FabPkt) : Kept m o (s.fabSend p) := by
  unfold State.fabSend
  grind [Kept.bump, Kept.crcFeed, Kept.fields]

theorem Kept.fabArrive (h : Kept m o s) (port : Nat) (kind : FabKind) (data : List Byte) : Kept m o (s.fabArrive port kind data) := by
  unfold State.fabArrive
  grind [Kept.bump, Kept.crcFeed, Kept.fields]

theorem Kept.fabRefuse (h : Kept m o s) (addr : Nat) (detail : Nat) : Kept m o (s.fabRefuse addr detail) := (h.inc ..).onion ..

theorem Kept.serveRead (h : Kept m o s) (src : Nat) (addr : Nat) (n : Nat) : Kept m o (s.serveRead src addr n).2 := by
  unfold State.serveRead
  grind [Kept.fabRefuse, Kept.readLoc]

theorem Kept.serveWrite (h : Kept m o s) (src : Nat) (addr : Nat) (bs : List (Option Byte)) : Kept m o (s.serveWrite src addr bs).2 := by
  unfold State.serveWrite
  grind [Kept.fabRefuse, Kept.incUe, Kept.writeMasked, Kept.foldl]

theorem Kept.atomLoc (h : Kept m o s) (addr : Nat) (op : AtomOp) (alloc : Bool) : Kept m o (s.atomLoc addr op alloc).2 := by
  unfold State.atomLoc
  grind [Kept.readLoc, Kept.writeLoc]

theorem Kept.atomsLoc (h : Kept m o s) (addr : Nat) (k : List (Nat × AtomOp)) : Kept m o (s.atomsLoc addr k).2 := by
  induction k generalizing s with
  | nil => exact h
  | cons a t ih =>
    unfold State.atomsLoc
    grind [Kept.atomLoc]

theorem Kept.serveAtom (h : Kept m o s) (src : Nat) (addr : Nat) (ops : List (Nat × AtomOp)) : Kept m o (s.serveAtom src addr ops).2 := by
  unfold State.serveAtom
  grind [Kept.fabRefuse, Kept.atomsLoc, Kept.fields]

theorem Kept.loopback (h : Kept m o s) (addr : Nat) (op : RemOp) : Kept m o (s.loopback addr op).2 := by
  unfold State.loopback
  grind [Kept.inc, Kept.serveRead, Kept.serveWrite, Kept.serveAtom]

theorem Kept.remote (h : Kept m o s) (w : RemWho) (va : Nat) (node : Nat) (addr : Nat) (op : RemOp) : Kept m o (s.remote w va node addr op).2 := by
  unfold State.remote
  grind [Kept.loopback, Kept.xltFault, Kept.fabSend, Kept.fields]

theorem Kept.fabTake (h : Kept m o s) (w : RemWho) (va node addr n : Nat) : ∀ g t, s.fabTake w va node addr n = some (g, t) → Kept m o t := by
  intro g t hr
  obtain ⟨_, -, he⟩ := Option.map_eq_some_iff.mp hr
  obtain ⟨-, rfl⟩ := Prod.mk.inj he
  exact h.fields ..

theorem Kept.remRead (h : Kept m o s) (w : RemWho) (va node addr n : Nat) : Kept m o (s.remRead w va node addr n).2 := by
  unfold State.remRead
  split
  · next g t hg => exact h.fabTake _ _ _ _ _ _ _ hg
  · grind [Kept.remote]

theorem Kept.waits (h : Kept m o s) (t : State) : ∀ u, s.waits t = some u → Kept m o u := by
  unfold State.waits
  grind [Kept.remote]

theorem Kept.waits_getD (h : Kept m o s) (t : State) : Kept m o ((s.waits t).getD s) := by
  cases hu : s.waits t with
  | none => exact h
  | some u => exact h.waits t u hu

theorem Kept.waitOr (h : Kept false o s) (t : State) (ev : String) : OutKept o (s.waitOr t ev) := by
  unfold State.waitOr
  split
  · next u hu => exact .next (h.waits t u hu)
  · exact .never ev

/-- A read or write that fails waits for the host, or ends as its failure does. -/
theorem Kept.waitOr_ite {t u : State} {p : Prop} [Decidable p] (h : Kept false o s) (hu : Kept false o u) (ev : String) :
    OutKept o (if p then s.waitOr t ev else .next u) := by
  split
  · exact h.waitOr ..
  · exact .next hu

theorem Kept.readAt (h : Kept m o s) (w : RemWho) (va : Nat) (n : Nat) (x : XAddr) : Kept m o (s.readAt w va n x).2 := by
  unfold State.readAt
  grind [Kept.within, Kept.readLoc, Kept.blockC, Kept.perf, Kept.remRead]

theorem Kept.vread_go (h : Kept false o s) (w : RemWho) (l : List (Nat × Nat)) (acc : List Byte) : Kept false o (State.vread.go w s l acc).2 := by
  induction l generalizing s acc with
  | nil => exact h
  | cons a t ih =>
    unfold State.vread.go
    grind [Kept.xlate, Kept.readAt]

theorem Kept.vread (h : Kept false o s) (w : RemWho) (va n : Nat) : Kept false o (s.vread w va n).2 := h.vread_go ..

theorem Kept.writeAt_hostRuns (h : Kept m o s) (w : RemWho) (va : Nat) (marker : Bool) (a : Nat) (bs : List (Option Byte)) :
    Kept m o (State.writeAt.hostRuns w va marker s a bs) := Kept.foldl _ (fun _ _ h => h.hostWriteVa ..) h

theorem Kept.writeAt (h : Kept m o s) (w : RemWho) (va : Nat) (bs : List (Option Byte)) (marker : Bool) (x : XAddr) :
    Kept m o (s.writeAt w va bs marker x).2 := by
  unfold State.writeAt
  split
  · refine h.within fun t ht => ?_
    grind [Kept.writeMasked, Kept.putBlockC, Kept.blockC]
  · exact h.writeAt_hostRuns ..
  · grind [Kept.remote]

theorem Kept.writeLines (h : Kept m o s) (w : RemWho) (marker : Bool) (x : XAddr) (a0 : Nat) (k : List (Nat × Nat)) (l : List (Option Byte)) :
    Kept m o (s.writeLines w marker x a0 k l).2 := by
  induction k generalizing s l with
  | nil => exact h
  | cons a t ih =>
    unfold State.writeLines
    grind [Kept.writeAt]

theorem Kept.vwriteM_go (h : Kept false o s) (w : RemWho) (marker now : Bool) (l : List (Nat × Nat)) (bs : List (Option Byte)) :
    Kept false o (State.vwriteM.go w marker now s l bs).2 := by
  induction l generalizing s bs with
  | nil => exact h
  | cons a t ih =>
    unfold State.vwriteM.go
    grind [Kept.xlate, Kept.writeLines, Kept.writeAt]

theorem Kept.vwriteM (h : Kept false o s) (w : RemWho) (va : Nat) (bs : List (Option Byte)) (marker now : Bool) :
    Kept false o (s.vwriteM w va bs marker now).2 := h.vwriteM_go ..

theorem Kept.vwrite (h : Kept false o s) (w : RemWho) (va : Nat) (bs : List Byte) (marker : Bool) (now : Bool) :
    Kept false o (s.vwrite w va bs marker now).2 :=
  h.vwriteM ..

theorem Kept.atomAt (h : Kept m o s) (w : RemWho) (va : Nat) (op : AtomOp) (x : XAddr) : Kept m o (s.atomAt w va op x).2 := by
  unfold State.atomAt
  grind [Kept.within, Kept.atomLoc, Kept.remote, Kept.draw]

theorem Kept.vatomic (h : Kept false o s) (w : RemWho) (va : Nat) (op : AtomOp) : Kept false o (s.vatomic w va op).2 := by
  unfold State.vatomic
  grind [Kept.xlate, Kept.atomAt]

theorem Kept.modQueue (h : Kept m o s) (q : Nat) (f : Queue → Queue) : Kept m o (s.modQueue q f) := h.fields ..

theorem Kept.mapPkts (h : Kept m o s) (f : Nat → QPkt → QPkt) : Kept m o (s.mapPkts f) := h.fields ..

theorem Kept.modPkt (h : Kept m o s) (id : Nat) (f : QPkt → QPkt) : Kept m o (s.modPkt id f) := h.mapPkts ..

theorem Kept.modSlot (h : Kept m o s) (id : Nat) (f : Slot → Slot) : Kept m o (s.modSlot id f) := h.fields ..

theorem Kept.cutStrands (h : Kept m o s) (l : Nat) : Kept m o (s.cutStrands l) := (h.modSlot ..).fields ..

theorem Kept.abortJob (h : Kept m o s) (j : Job) (a : Abort) (statusOf : QPkt → Nat) : Kept m o (s.abortJob j a statusOf) := by
  unfold State.abortJob
  grind [Kept.mapPkts, Kept.modSlot, Kept.cutStrands, Kept.inc]

theorem Kept.abortOthers (h : Kept m o s) (c : Nat) (seq : Nat) (eng : Nat) : Kept m o (s.abortOthers c seq eng) := by
  unfold State.abortOthers
  grind [Kept.abortJob, Kept.foldl]

theorem Kept.setLost (h : Kept m o s) (c : Nat) : Kept m o (s.setLost c) := h.setBits ..

theorem Kept.noteLoss (h : Kept m o s) (c : Nat) (seq : Nat) (eng : Nat) : Kept m o (s.noteLoss c seq eng) := h.fields ..

theorem Kept.abortTo (h : Kept m o s) (g : Quad) (n : Nat) (cause : Nat) (seq : Nat) : Kept m o (s.abortTo g n cause seq) := by
  unfold State.abortTo
  grind [Kept.fabSend, Kept.inc]

theorem State.memberRead_snd {c : Nat} {g : Quad} {i : Nat} {r : Except VErr (List Byte) × State} (hread : s.vread ⟨55, 55, c, none,
    none⟩ (g.members + 2 * i) 2 = r) :
    (s.memberRead c g i).2 = r.2 := by
  generalize hf : State.memberRead = f
  delta State.memberRead at hf
  have hf := congrFun (congrFun (congrFun (congrFun hf s) c) g) i
  rw [← hf, hread]
  obtain ⟨_ | _, t⟩ := r <;> rfl

theorem Kept.memberRead (h : Kept false o s) (c : Nat) (g : Quad) (i : Nat) : Kept false o (s.memberRead c g i).2 := by
  rw [State.memberRead_snd rfl]
  exact h.vread ..

theorem Kept.abortRun_of {f} (hf : State.memberRead = f) (hk : ∀ {s} c g i, Kept false o s → Kept false o (f s c g i).2) (h : Kept false o s)
    (c cause seq n k : Nat) :
    Kept false o (s.abortRun c cause seq n k) := by
  generalize hg : State.abortRun = g
  delta State.abortRun State.abortRun._f at hg
  rw [hf] at hg
  subst hg
  induction k generalizing s with
  | zero => exact h
  | succ k ih =>
    unfold Nat.brecOn Nat.brecOn.go
    dsimp only
    split
    · exact h
    · next g _ =>
      have ht := hk c g (n - (k + 1)) h
      split
      · next v t hv =>
        rw [hv] at ht
        split
        · exact (h.waits_getD t).fieldsMmu ..
        · exact (Kept.ctxGen ht c).onion _
      · next i t hv =>
        rw [hv] at ht
        exact ih (Kept.abortTo ht g i cause seq)

theorem Kept.abortRun (h : Kept false o s) (c cause seq n k : Nat) : Kept false o (s.abortRun c cause seq n k) :=
    Kept.abortRun_of rfl (fun _ _ _ h => h.memberRead ..) h ..

theorem Kept.abortSend (h : Kept false o s) (c : Nat) (cause : Nat) (seq : Nat) : Kept false o (s.abortSend c cause seq) := by
  unfold State.abortSend
  grind [Kept.abortRun]

theorem Kept.abortFrom (h : Kept false o s) (c : Nat) (op : Onion) (own : Option (Job × Nat × (QPkt → Nat))) : Kept false o (s.abortFrom c op own) :=
    by
  unfold State.abortFrom
  grind [Kept.setLost, Kept.onion, Kept.noteLoss, Kept.abortJob, Kept.abortOthers, Kept.abortSend]

theorem Kept.launchFault (h : Kept false o s) (id : Nat) (f : JobFault) (st : Nat) : Kept false o (s.launchFault id f st) := by
  unfold State.launchFault
  grind [Kept.ctxGen, Kept.abortFrom]

theorem Kept.fenceAddr (h : Kept false o s) (w : RemWho) (va : Nat) : Kept false o (s.fenceAddr w va).2 := by
  unfold State.fenceAddr
  grind [Kept.xlateBy]

theorem Kept.fenceAtoms (h : Kept m o s) (w : RemWho) (va : Nat) (x : XAddr) (k : List (Nat × Nat × Nat)) : Kept m o (s.fenceAtoms w va x k).2 := by
  induction k generalizing s with
  | nil => exact h
  | cons a t ih =>
    unfold State.fenceAtoms
    grind [Kept.atomAt]

theorem Kept.fenceSignal (h : Kept false o s) (w : RemWho) (va : Nat) (val : Nat) : Kept false o (s.fenceSignal w va val).2 := by
  unfold State.fenceSignal
  grind [Kept.fenceAddr, Kept.hostWriteVa, Kept.fenceAtoms]

theorem Kept.fenceError (h : Kept false o s) (w : RemWho) (va : Nat) (t : Nat) (status : Nat) (seq : Nat) :
    Kept false o (s.fenceError w va t status seq).2 := by
  unfold State.fenceError
  grind [Kept.fenceAddr, Kept.hostWriteVa, Kept.fenceAtoms, Kept.inc]

theorem Kept.fenceRead (h : Kept false o s) (w : RemWho) (va : Nat) : Kept false o (s.fenceRead w va).2 := by
  unfold State.fenceRead
  grind [Kept.vread]

theorem Kept.errPktFence (h : Kept false o s) (q : Nat) (p : QPkt) (cause : Nat) (eng : Nat) (ctx : Nat) (seq : Nat) :
    Kept false o (s.errPktFence q p cause eng ctx seq) := by
  unfold State.errPktFence
  grind [Kept.fenceError, Kept.ctxGen, Kept.abortFrom]

theorem Kept.pktFault (h : Kept false o s) (id : Nat) (f : JobFault) (st : Nat) : Kept false o (s.pktFault id f st) := by
  unfold State.pktFault
  grind [Kept.ctxGen, Kept.abortFrom, Kept.modPkt, Kept.errPktFence]

theorem Kept.countForeign (h : Kept m o s) (id : Nat) : Kept m o (s.countForeign id) := by
  unfold State.countForeign
  grind [Kept.modPkt, Kept.inc]

theorem Kept.enter (h : Kept false o s) (q : Nat) (src : PktSrc) (c : Nat) (p : Packet) (sems : Option Nat) : Kept false o (s.enter q src c p sems) :=
    by
  unfold State.enter
  grind [Kept.modQueue, Kept.modPkt, Kept.errPktFence, Kept.pktFault, Kept.countForeign, Kept.fieldsMmu]

theorem Kept.ringRead (h : Kept m o s) (u : Queue) (k : Nat) : Kept m o (s.ringRead u k).2 := by
  unfold State.ringRead
  grind [Kept.readLoc]

theorem Kept.strandRead (h : Kept false o s) (sl : Slot) (strand : Nat) (idx : Nat) : Kept false o (s.strandRead sl strand idx).2 := by
  unfold State.strandRead
  grind [Kept.vread]

theorem Kept.enterBad (h : Kept false o s) (q : Nat) (src : PktSrc) (c : Nat) (v : VErr) : Kept false o (s.enterBad q src c v) :=
  ((h.fieldsMmu ..).modQueue ..).pktFault ..

theorem Kept.trimFeed (h : Kept m o s) (q : Nat) : Kept m o (s.trimFeed q) := h.modQueue ..

theorem Kept.fetchRing (h : Kept false o s) (q : Nat) : ∀ t, s.fetchRing q = some t → Kept false o t := by
  unfold State.fetchRing
  grind [Kept.ringRead, Kept.modQueue, Kept.onion, Kept.enter, Kept.fieldsMmu]

theorem Kept.fetchStrand (h : Kept false o s) (q : Nat) (l : Nat) (st : Nat) (i : Nat) : ∀ t, s.fetchStrand q l st i = some t → Kept false o t := by
  unfold State.fetchStrand
  grind [Kept.strandRead, Kept.waits, Kept.modQueue, Kept.trimFeed, Kept.enterBad, Kept.enter]

theorem Kept.fetchNext (h : Kept false o s) (q : Nat) : ∀ t, s.fetchNext q = some t → Kept false o t := by
  unfold State.fetchNext
  grind [Kept.fetchRing, Kept.fetchStrand]

theorem Kept.start (h : Kept m o s) (q : Nat) (op : Nat) : ∀ a0 t, s.start q op = some (a0, t) → Kept m o t := by
  unfold State.start
  grind [Kept.inc, Kept.modPkt, Kept.foldl]

theorem Kept.finish (h : Kept m o s) (id : Nat) : Kept m o (s.finish id) := h.modPkt ..

theorem Kept.completionArea (h : Kept m o s) (q : Nat) (tags : List Nat) : Kept m o (s.completionArea q tags) := by
  unfold State.completionArea
  grind [Kept.hostMarker, Kept.ctlWait, Kept.drain, Kept.fields]

theorem Kept.quiesceSettle (h : Kept m o s) : Kept m o (s.quiesceSettle) := h.fields ..

theorem Kept.launchDone (h : Kept false o s) (id : Nat) : Kept false o (s.launchDone id) := by
  unfold State.launchDone
  split
  · exact h
  next sl _ =>
  dsimp only
  refine Kept.quiesceSettle (Kept.fieldsMmu (Kept.inc (Kept.inc ?_ _) _) ..)
  split
  · refine Kept.event ?_ ..
    grind [Kept.vwrite, Kept.ctxGen, Kept.abortFrom]
  · grind [Kept.vwrite, Kept.ctxGen, Kept.abortFrom]

theorem Kept.leaveLaunch (h : Kept false o s) (l : Nat) (st : Nat) : Kept false o (s.leaveLaunch l st) := by
  unfold State.leaveLaunch
  grind [Kept.modSlot, Kept.launchDone]

theorem Kept.closeQueue (h : Kept m o s) (q : Nat) : Kept m o (s.closeQueue q) := h.modQueue ..

theorem Kept.dropGot (h : Kept m o s) (id : Nat) : Kept m o (s.dropGot id) := h.fields ..

theorem Kept.retire (h : Kept false o s) (q : Nat) (p : QPkt) (st : Nat) : Kept false o (s.retire q p st) := by
  unfold State.retire
  grind [Kept.modQueue, Kept.dropGot, Kept.inc, Kept.completionArea, Kept.event, Kept.leaveLaunch, Kept.closeQueue, Kept.quiesceSettle]

theorem Kept.completeHead (h : Kept false o s) (q : Nat) : ∀ t, s.completeHead q = some t → Kept false o t := by
  unfold State.completeHead
  grind [Kept.fenceSignal, Kept.modPkt, Kept.retire, Kept.pktFault]

theorem Kept.settleQueue (h : Kept false o s) (q : Nat) (k : Nat) : Kept false o (State.settleQueue q k s) := by
  induction k generalizing s with
  | zero => exact h
  | succ k ih =>
    unfold State.settleQueue
    grind [Kept.retire]

theorem Kept.settleQueues (h : Kept false o s) : Kept false o (s.settleQueues) := by
  unfold State.settleQueues
  grind [Kept.settleQueue, Kept.foldl]

theorem Kept.launchRefuse (h : Kept m o s) (c handle reason : Nat) : Kept m o (s.launchRefuse c handle reason) :=
  (((((h.setBits ..).setRegN ..).setRegN ..).inc _).inc _).event ..

theorem Kept.launchReq_of {f} (hf : @State.readLoc = f) (hk : ∀ {s} a n w, Kept m o s → Kept m o (f s a n w).2) (h : Kept m o s) (c handle param :
    Nat) :
    Kept m o (s.launchReq c handle param) := by
  generalize hg : State.launchReq = g
  delta State.launchReq at hg
  rw [hf] at hg
  subst hg
  dsimp -zeta -iota -proj only
  grind [Kept.launchRefuse, Kept.writeLoc, Kept.inc, Kept.fields]

theorem Kept.launchReq (h : Kept m o s) (c handle param : Nat) : Kept m o (s.launchReq c handle param) :=
    Kept.launchReq_of rfl (fun _ _ _ h => h.readLoc ..) h ..

theorem Kept.readStrands (h : Kept false o s) (w : RemWho) (hdr : Nat) (prio : Nat) (k : Nat) (l : List Strand) :
    Kept false o (s.readStrands w hdr prio k l).2 := by
  induction k generalizing s l with
  | zero => exact h
  | succ k ih =>
    unfold State.readStrands
    grind [Kept.vread]

theorem Kept.readPatches (h : Kept false o s) (w : RemWho) (base : Nat) (strands : List Strand) (psize : Nat) (k : Nat) (l : List (Patch × Nat)) :
    Kept false o (s.readPatches w base strands psize k l).2 := by
  induction k generalizing s l with
  | zero => exact h
  | succ k ih =>
    unfold State.readPatches
    grind [Kept.vread]

theorem Kept.readValues (h : Kept false o s) (w : RemWho) (param : Nat) (k : List (Patch × Nat)) (l : List Patch) :
    Kept false o (s.readValues w param k l).2 := by
  induction k generalizing s l with
  | nil => exact h
  | cons a t ih =>
    unfold State.readValues
    grind [Kept.vread]

theorem Kept.readGraph (h : Kept false o s) (w : RemWho) (l : Launch) : Kept false o (s.readGraph w l).2 := by
  unfold State.readGraph
  have h := h.vread w l.header 64
  generalize s.vread w l.header 64 = r at h ⊢
  obtain ⟨_ | b, t⟩ := r
  · exact h
  grind [Kept.readStrands, Kept.readPatches]

theorem Kept.launchFail (h : Kept false o s) (id : Nat) (f : JobFault) (st : Nat) : Kept false o (s.launchFail id f st) :=
    (h.launchFault ..).launchDone ..

theorem Kept.launchSlot (h : Kept false o s) : ∀ t, s.launchSlot = some t → Kept false o t := by
  have hfault (t : State) (v : VErr) (st : Nat) (ht : Kept false o t) :
      ∀ u, (if v.e.cause = C.HOST_WAIT then s.waits t else some (t.launchFail s.qm.nextId (v.at 72) st)) = some u → Kept false o u := by
    intro u hu
    split at hu
    · exact h.waits t u hu
    · obtain rfl := Option.some.inj hu
      exact ht.launchFail _ _ _
  unfold State.launchSlot
  split
  · simp only [reduceCtorEq, false_implies, implies_true]
  next l rest _ =>
  have hput (t : State) (ht : Kept false o t) (sl : Slot) :
      Kept false o { t with qm := { t.qm with fifo := rest, nextId := s.qm.nextId + 1, slots := t.qm.slots ++ [sl] } } := ht.fieldsMmu ..
  have hread := h.vread ⟨57, 72, l.ctx, none, none⟩ l.param 16
  split
  · simp only [reduceCtorEq, false_implies, implies_true]
  dsimp only
  split
  · next v t hv => rw [hv] at hread; exact hfault _ _ _ (hput _ hread _)
  next b t hv =>
  rw [hv] at hread
  intro u
  generalize fieldAt b 0 8 = done
  generalize fieldAt b 8 4 = irq
  split
  · intro hu
    obtain rfl := Option.some.inj hu
    exact (hput _ hread _).launchFail _ _ _
  have hgraph := (hput _ hread { id := s.qm.nextId, l := l, doneVA := done, irq := irq % 2 == 1, record := done % 16 == 0 }).readGraph ⟨57, 72, l.ctx,
    none, none⟩ l
  split
  · next v t hv => rw [hv] at hgraph; exact hfault _ _ _ hgraph _
  · next d a t hv =>
    rw [hv] at hgraph
    intro hu
    obtain rfl := Option.some.inj hu
    exact Kept.launchFail hgraph _ _ _
  next st ps sems t hv =>
  rw [hv] at hgraph
  have hvals := Kept.readValues hgraph ⟨57, 72, l.ctx, none, none⟩ l.param ps []
  split
  · next v t hv => rw [hv] at hvals; exact hfault _ _ _ hvals _
  · next d a t hv => rw [hv] at hvals; exact hfault t ⟨⟨C.GRAPH_INVALID, d, 0⟩, a⟩ _ hvals _
  · next vs t hv =>
    rw [hv] at hvals
    intro hu
    obtain rfl := Option.some.inj hu
    exact Kept.modSlot hvals _ _

theorem Kept.strandPost (h : Kept m o s) : ∀ t, s.strandPost = some t → Kept m o t := by
  unfold State.strandPost
  grind [Kept.modQueue, Kept.modSlot, Kept.inc, Kept.foldl]

end
end Sys2Proof.Machine
end

section
/-! What the step keeps, function by function (3 of 8): operands, the guard core, the memory operations and flags of cores, control instructions and the raster unit. -/

namespace Sys2Proof.Machine
section
-- One lemma after another: side by side `grind` would keep a thread waiting for every lemma it names.
set_option Elab.async false

variable {m : Bool} {o s : State}

theorem Kept.modCore (h : Kept m o s) (c : Nat) (f : Core → Core) : Kept m o (s.modCore c f) := h.fields ..

theorem Kept.modPod (h : Kept m o s) (r : PodRef) (f : Pod → Pod) : Kept m o (s.modPod r f) := by
  unfold State.modPod
  grind [Kept.modCore, Kept.fields]

theorem Kept.vput (h : Kept m o s) (r : PodRef) (p : Pod) (n : Nat) (lane : Nat) (v : Nat) : Kept m o (s.vput r p n lane v) := by
  unfold State.vput
  grind [Kept.modCore, Kept.fields]

theorem Kept.vputs (h : Kept m o s) (r : PodRef) (p : Pod) (n : Nat) (mask : Nat) (f : Nat → Nat) : Kept m o (s.vputs r p n mask f) := by
  unfold State.vputs
  grind [Kept.vput, Kept.foldl]

theorem Kept.setG (h : Kept m o s) (st : Nat) : Kept m o (s.setG st) := h.setField ..

theorem Kept.setWarm (h : Kept m o s) (n : Nat) : Kept m o (s.setWarm n) := h.setField ..

theorem Kept.setPendingWake (h : Kept m o s) (b : Bool) : Kept m o (s.setPendingWake b) := h.setField ..

theorem Kept.settlePin (h : Kept m o s) : Kept m o (s.settlePin) := by
  unfold State.settlePin
  grind [Kept.setField, Kept.event, Kept.fields]

theorem Kept.guardOnion (h : Kept m o s) (detail : Nat) (eng : Nat) (va : Option Nat) : Kept m o (s.guardOnion detail eng va).2 := h.onion ..

theorem Kept.sramZero (h : Kept m o s) (lo : Nat) (n : Nat) : Kept m o (s.sramZero lo n) := h.fields ..

theorem Kept.finish52 (h : Kept m o s) (id : Nat) (st : Nat) : Kept m o (s.finish52 id st) := h.modPkt ..

theorem Kept.disarm (h : Kept m o s) : Kept m o (s.disarm) := by
  unfold State.disarm
  grind [Kept.setG, Kept.setPendingWake, Kept.settlePin, Kept.fields]

theorem Kept.sramSee (h : Kept m o s) (ws : List Nat) : Kept m o (s.sramSee ws) := by
  unfold State.sramSee
  grind [Kept.inc, Kept.foldl]

theorem Kept.gRead (h : Kept m o s) (a : Nat) (n : Nat) : Kept m o (s.gRead a n).2 := by
  unfold State.gRead
  grind [Kept.sramSee]

theorem Kept.sramPut (h : Kept m o s) (a : Nat) (bs : List Byte) : Kept m o (s.sramPut a bs) := h.fields ..

theorem Kept.gWrite (h : Kept m o s) (a : Nat) (bs : List Byte) : Kept m o (s.gWrite a bs).2 := by
  unfold State.gWrite
  grind [Kept.sramSee, Kept.sramPut]

theorem Kept.sramWrite2 (h : Kept m o s) (a : Nat) (bs : List (Option Byte)) : Kept m o (s.sramWrite2 a bs) := by
  refine Kept.foldl _ (fun s w h => ?_) h
  dsimp only
  split
  · exact h
  split
  · exact h.sramSee _
  refine (Kept.foldl _ (fun s b h => ?_) ?_).fields ..
  · split
    · exact h.fields ..
    · exact h
  · split
    · exact h
    · exact h.sramSee _

theorem Kept.sramRead2 (h : Kept m o s) (a : Nat) (n : Nat) : Kept m o (s.sramRead2 a n).2 := by
  unfold State.sramRead2
  grind [Kept.draw, Kept.sramSee, Kept.foldlSnd]

theorem Kept.codeCrc (h : Kept m o s) (h1 : GHdr) : Kept m o (s.codeCrc h1).2 := h.sramRead2 ..

theorem Kept.publish (h : Kept m o s) (status : Nat) (payload : Nat) (cycles : Nat) (arrived : Nat) :
    Kept m o (s.publish status payload cycles arrived) := by
  unfold State.publish
  grind [Kept.setPair, Kept.setRegN, Kept.crcFeed, Kept.inc, Kept.hostMarker]

theorem Kept.runStart (h : Kept m o s) (delayed : Bool) : Kept m o (s.runStart delayed) := by
  unfold State.runStart
  grind [Kept.setG, Kept.perf, Kept.fields]

theorem Kept.enterIdle (h : Kept m o s) : Kept m o (s.enterIdle) := by
  unfold State.enterIdle
  grind [Kept.setG, Kept.setPendingWake, Kept.runStart]

theorem Kept.wake (h : Kept m o s) : Kept m o (s.wake) := by
  unfold State.wake
  grind [Kept.inc, Kept.setPendingWake, Kept.enterIdle]

theorem Kept.beginArm (h : Kept m o s) (h1 : GHdr) (pkt : Nat) : Kept m o (s.beginArm h1 pkt) := by
  unfold State.beginArm
  grind [Kept.sramZero, Kept.setG, Kept.setRegN, Kept.settlePin, Kept.fields]

theorem Kept.beginTest (h : Kept m o s) (pkt : Nat) : Kept m o (s.beginTest pkt) := (h.setBits ..).fields ..

theorem Kept.skipTest (h : Kept m o s) (pkt : Nat) : Kept m o (s.skipTest pkt) := by
  unfold State.skipTest
  grind [Kept.setBits, Kept.inc, Kept.finish52, Kept.fields]

theorem Kept.armRefusal_of {f} (hf : State.codeCrc = f) (hk : ∀ h1, Kept m o (f s h1).2) (h : Kept m o s) (b : List Byte) (h1 : GHdr) :
    Kept m o (s.armRefusal b h1).2 := by
  generalize hg : State.armRefusal = g
  delta State.armRefusal at hg
  rw [hf] at hg
  subst hg
  dsimp -zeta -iota -proj only
  grind

theorem Kept.armRefusal (h : Kept m o s) (b : List Byte) (h1 : GHdr) : Kept m o (s.armRefusal b h1).2 := Kept.armRefusal_of rfl h.codeCrc h b h1

theorem Kept.refuseArm (h : Kept m o s) (r : Nat) (pkt : Nat) : Kept m o (s.refuseArm r pkt) := by
  unfold State.refuseArm
  grind [Kept.setRegN, Kept.inc, Kept.event, Kept.finish52]

theorem Kept.tryArm {held : State → State} (hh : ∀ t, Kept m o t → Kept m o (held t)) (h : Kept m o s) (off pkt : Nat) :
    Kept m o (s.tryArm off pkt held) := by
  unfold State.tryArm
  grind [Kept.sramRead2, Kept.armRefusal, Kept.refuseArm, Kept.beginArm]

theorem Kept.afterPublish (h : Kept m o s) : Kept m o s.afterPublish := by
  have hheld (t : State) (ht : Kept m o t) : Kept m o t.enterIdle.settlePin := ht.enterIdle.settlePin
  unfold State.afterPublish
  grind [Kept.setG, Kept.beginTest, Kept.disarm, Kept.finish52, Kept.fields, Kept.tryArm]

theorem Kept.guardFault (h : Kept m o s) (detail : Nat) (va : Option Nat) : Kept m o (s.guardFault detail va) := by
  unfold State.guardFault
  have h := (((h.withRest (t := { s with gd := { s.gd with pod := none, watchdog := false } }) rfl rfl rfl rfl rfl).setG G.RESTARTING).settlePin).guardOnion detail 32 va
  dsimp only
  split
  · exact ((h.fields ..).disarm).finish52 ..
  · split
    · exact Kept.tryArm (fun _ => id) (h.fields ..) ..
    · exact h

theorem Kept.podFault (h : Kept false o s) (c : Nat) (p : Pod) (cause : Nat) (detail : Nat) (va : Option Nat) :
    Kept false o (s.podFault c p cause detail va) := by
  unfold State.podFault
  grind [Kept.pktFault]

theorem Kept.guardTrap (h : Kept m o s) : Kept m o (s.guardTrap) := by
  unfold State.guardTrap
  grind [Kept.guardFault]

theorem Kept.trap (h : Kept m o s) (r : PodRef) (t : Trap) : Kept m o (s.trap r t) := by
  unfold State.trap
  grind [Kept.guardTrap, Kept.modPod]

theorem Kept.icFill (h : Kept m o s) (c : Nat) (ctx : Nat) (a : Nat) (d : List Byte) : Kept m o (s.icFill c ctx a d) := by
  unfold State.icFill
  grind [insertFree_kept, Kept.modCore]

theorem Kept.fetch (h : Kept false o s) (r : PodRef) (p : Pod) (a : Nat) : Kept false o (s.fetch r p a).2 := by
  unfold State.fetch
  grind [Kept.guardFault, Kept.gRead, Kept.vread, Kept.icFill, Kept.modPod, Kept.podFault]

theorem Kept.cycles (h : Kept m o s) (r : PodRef) (p : Pod) (op : Nat) (i : Ins) : Kept m o (s.cycles r p op i).2 := by
  unfold State.cycles
  grind

theorem Kept.incCore (h : Kept m o s) (r : PodRef) (off : Nat) (n : Nat) : Kept m o (s.incCore r off n) := by
  unfold State.incCore
  grind [Kept.bump]

theorem Kept.holdOnce (h : Kept m o s) (r : PodRef) (p : Pod) (off : Nat) : Kept m o (s.holdOnce r p off) := by
  unfold State.holdOnce
  grind [Kept.modPod, Kept.incCore]

theorem Kept.holdSlots (h : Kept m o s) (r : PodRef) (p : Pod) : Kept m o (s.holdSlots r p) := by
  unfold State.holdSlots
  grind [Kept.modPod, Kept.inc]

theorem Kept.holdLines (h : Kept m o s) (r : PodRef) (p : Pod) (op : Nat) (i : Ins) : Kept m o (s.holdLines r p op i) := by
  unfold State.holdLines
  grind [Kept.holdOnce]

theorem Kept.podStop (h : Kept false o s) (r : PodRef) (c : Nat) (p : Pod) (cause : Nat) (detail : Nat) (va : Option Nat) :
    Kept false o (s.podStop r c p cause detail va) :=
  (h.modPod ..).podFault ..

theorem Kept.illegalFault (h : Kept false o s) (r : PodRef) (p : Pod) (detail : Nat) : Kept false o (s.illegalFault r p detail) := by
  unfold State.illegalFault
  grind [Kept.guardFault, Kept.podStop]

theorem Kept.issueCount (h : Kept m o s) (r : PodRef) (ctx : Nat) : Kept m o (s.issueCount r ctx) := by
  unfold State.issueCount
  grind [Kept.bumpPair, Kept.perfCtx]

theorem issueGo_kept {body : State → Pod → Nat → Body} (hb : ∀ t p e, Kept false o t → BodyKept o (body t p e)) (h : Kept false o s) (ev : String)
    (op : Nat) (r : PodRef)
    (i : Ins) (p : Pod) (t : Nat) : OutKept o (issueGo ev op r i s p t body) := by
  have hmove : Kept false o ((s.modPod r (fun q => { q with pc := p.pc + insLen op i, stalled := [] })).issueCount r p.ctx) :=
    (h.modPod ..).issueCount ..
  unfold issueGo
  dsimp only
  split
  · exact .next ((h.holdOnce ..).modPod ..)
  split
  · exact .next ((h.holdOnce ..).modPod ..)
  split
  · exact .next (hmove.modPod ..)
  split
  · exact .next (h.holdLines ..)
  split
  · exact .next ((hmove.modPod ..).modPod ..)
  split
  · exact .next (hmove.trap ..)
  have hbody := hb _ p p.m0 hmove
  split
  · next u lat hu =>
    rw [hu] at hbody
    cases hbody with | done hu _ =>
    split
    · exact .next hu
    · exact .next (hu.modPod ..)
  · exact .next (h.holdOnce ..)
  · exact .next (h.holdSlots ..)
  · exact .next h
  · exact .never ev

theorem issue_kept {body : State → Pod → Nat → Body} (hb : ∀ t p e, Kept false o t → BodyKept o (body t p e)) (h : Kept false o s) (ev : String) (op :
    Nat) (r : PodRef)
    (i : Ins) : OutKept o (issue ev op r i s body) := by
  unfold issue
  split
  · exact .never ev
  next p _ =>
  split
  · exact .never ev
  have h1 := h.fetch r p p.pc
  dsimp only
  split
  · exact h.waitOr ..
  · next hf => exact .next (by rw [hf] at h1; exact h1)
  next w t hf =>
  rw [hf] at h1
  change Kept false o t at h1
  have h2 := h1.fetch r p (p.pc + 8)
  split
  · exact .next (h1.illegalFault ..)
  split
  · exact .never ev
  split
  · split
    · exact .next (h1.illegalFault ..)
    · exact issueGo_kept hb h1 ..
  split
  · exact h1.waitOr ..
  · next hf => exact .next (by rw [hf] at h2; exact h2)
  next x u hf =>
  rw [hf] at h2
  change Kept false o u at h2
  split
  · exact .never ev
  split
  · exact .next (h2.illegalFault ..)
  · exact issueGo_kept hb h2 ..

theorem Kept.lineFault (h : Kept false o s) (c : Nat) (l : LineReq) (e : MErr) : Kept false o (s.lineFault c l e) := by
  unfold State.lineFault
  grind [Kept.pktFault]

theorem Kept.l1Write (h : Kept m o s) (c : Nat) (l : L1Line) : Kept m o (s.l1Write c l) := by
  unfold State.l1Write
  grind [Kept.writeAt, Kept.bump]

theorem Kept.l1Evict (h : Kept m o s) (c : Nat) (l : L1Line) : Kept m o (s.l1Evict c l) := (h.modCore ..).l1Write ..

theorem Kept.l1Put (h : Kept m o s) (c : Nat) (l : L1Line) : Kept m o (s.l1Put c l) := by
  unfold State.l1Put
  grind [Kept.modCore, Kept.draw, Kept.l1Evict]

theorem Kept.l1Load (h : Kept m o s) (c : Nat) (w : RemWho) (va : Nat) (x : XAddr) (lo : Nat) (hi : Nat) : Kept m o (s.l1Load c w va x lo hi).2 := by
  unfold State.l1Load
  grind [Kept.readAt, Kept.l1Put]

theorem Kept.l1Store (h : Kept m o s) (c : Nat) (ctx : Nat) (x : XAddr) (bs : List (Option Byte)) : Kept m o (s.l1Store c ctx x bs) := h.l1Put ..

theorem Kept.l1CleanBy (h : Kept m o s) (c : Nat) (sel : L1Line → Bool) : Kept m o (s.l1CleanBy c sel) := by
  unfold State.l1CleanBy
  grind [Kept.l1Write, Kept.modCore, Kept.foldl]

theorem Kept.l1Clean (h : Kept m o s) (c : Nat) (ctx : Nat) : Kept m o (s.l1Clean c ctx) := h.l1CleanBy ..

theorem Kept.l1Drop (h : Kept m o s) (c : Nat) (ctx : Nat) : Kept m o (s.l1Drop c ctx) := h.modCore ..

theorem Kept.coreXlate (h : Kept false o s) (c : Nat) (ctx : Nat) (va : Nat) (k : Acc) : Kept false o (s.coreXlate c ctx va k).2 := by
  unfold State.coreXlate
  grind [Kept.xltFault, Kept.countWalk, Kept.fieldsMmu]

theorem Kept.putLine (h : Kept m o s) (c : Nat) (l : LineReq) : Kept m o (s.putLine c l) := h.modCore ..

theorem Kept.dropLine (h : Kept m o s) (c : Nat) (id : Nat) : Kept m o (s.dropLine c id) := h.modCore ..

theorem Kept.askRemote (h : Kept false o s) (c : Nat) (l : LineReq) : Kept false o (s.askRemote c l) := by
  unfold State.askRemote
  generalize l.va + l.lo = va
  split
  · next x _ =>
    generalize x.addr + l.lo = a
    grind [Kept.remote, Kept.dropLine, Kept.lineFault, Kept.putLine, Kept.fieldsMmu]
  · exact h

theorem Kept.askRemotes (h : Kept false o s) (c : Nat) : Kept false o (s.askRemotes c) := by
  unfold State.askRemotes
  grind [Kept.askRemote, Kept.foldl]

theorem Kept.lineGo (h : Kept false o s) (c : Nat) (l : LineReq) (x : XAddr) : Kept false o (s.lineGo c l x) := by
  unfold State.lineGo
  grind [Kept.putLine, Kept.askRemote, Kept.bump, Kept.perfCtx]

theorem Kept.lineStart (h : Kept false o s) (c : Nat) (l : LineReq) : Kept false o (s.lineStart c l) := by
  have h := ((h.bump (rk R.CORE_LINE_REQ_COUNT c) 1).modCore c (fun co => { co with lines := co.lines ++ [l] })).coreXlate c l.ctx (l.va + l.lo) l.kind.acc
  unfold State.lineStart
  dsimp only
  split
  · next t ht => rw [ht] at h; exact h
  · next x t ht => rw [ht] at h; exact Kept.lineGo h ..
  · next e t ht => rw [ht] at h; exact Kept.lineFault (Kept.dropLine h ..) ..

theorem Kept.lineAtoms (h : Kept m o s) (w : RemWho) (va : Nat) (x : XAddr) (k : List (Nat × AtomOp)) : Kept m o (s.lineAtoms w va x k).2 := by
  induction k generalizing s with
  | nil => exact h
  | cons a t ih =>
    unfold State.lineAtoms
    grind [Kept.atomAt]

theorem Kept.l1Purge (h : Kept m o s) (c : Nat) (x : XAddr) : Kept m o (s.l1Purge c x) := by
  unfold State.l1Purge
  grind [Kept.l1Evict, Kept.foldl]

theorem Kept.linePerform (h : Kept m o s) (c : Nat) (l : LineReq) (x : XAddr) : Kept m o (s.linePerform c l x).2 := by
  unfold State.linePerform
  grind [Kept.l1Load, Kept.readAt, Kept.l1Store, Kept.l1CleanBy, Kept.writeAt, Kept.l1Purge, Kept.lineAtoms]

theorem Kept.fencesDone (h : Kept m o s) (c : Nat) (p : Pod) : Kept m o (s.fencesDone c p) := by
  unfold State.fencesDone
  grind [Kept.l1Clean, Kept.l1Drop, Kept.modPod]

theorem Kept.opDone (h : Kept m o s) (c : Nat) (op : PodOp) : Kept m o (s.opDone c op) := by
  unfold State.opDone
  grind [Kept.modCore, Kept.modPod, Kept.fencesDone]

theorem Kept.fencesSettle (h : Kept m o s) : Kept m o (s.fencesSettle) := by
  unfold State.fencesSettle
  grind [Kept.fencesDone, Kept.foldl]

theorem Kept.putLane (h : Kept m o s) (r : PodRef) (p : Pod) (d : Nat) (lane : Nat) (size : Nat) (v : Nat) : Kept m o (s.putLane r p d lane size v) :=
    by
  unfold State.putLane
  grind [Kept.vput, Kept.foldl]

theorem Kept.deliver (h : Kept m o s) (c : Nat) (op : PodOp) (vs : List (Nat × Nat)) : Kept m o (s.deliver c op vs) := by
  unfold State.deliver
  grind [Kept.modPod, Kept.putLane, Kept.foldl]

theorem Kept.opStep (h : Kept m o s) (c : Nat) (op : Nat) : Kept m o (s.opStep c op) := by
  unfold State.opStep
  grind [Kept.opDone, Kept.modCore]

theorem Kept.evictLines (h : Kept m o s) (c : Nat) (l1 : List Nat) (l2 : List Nat) : Kept m o (s.evictLines c l1 l2) := by
  unfold State.evictLines
  grind [Kept.l1Evict, Kept.writeBack, Kept.writeBackC, Kept.foldl]

theorem Kept.opStart (h : Kept m o s) (r : PodRef) (c : Nat) (p : Pod) (op : Nat) (i : Ins) (k : OpKind) (left : Nat) :
    Kept m o (s.opStart r c p op i k left).2 :=
  ((h.fields ..).modCore ..).modPod ..

theorem Kept.memIssue (h : Kept false o s) (r : PodRef) (c : Nat) (p : Pod) (op : Nat) (i : Ins) (size : Nat) (k : OpKind) (as : List (Nat × Nat))
    (kind : List (Nat × Nat) → LineKind) : ∀ t, s.memIssue r c p op i size k as kind = some t → Kept false o t := by
  unfold State.memIssue
  grind [Kept.opStart, Kept.lineStart, Kept.fieldsMmu, Kept.foldl]

theorem Kept.raise (h : Kept m o s) (r : PodRef) (p : Pod) (next : Nat) (fl : List (Nat × Nat)) : Kept m o (s.raise r p next fl) := by
  unfold State.raise
  grind [Kept.modPod, Kept.trap]

theorem Kept.orphan (h : Kept m o s) (r : PodRef) : Kept m o (s.orphan r) := by
  unfold State.orphan
  grind [Kept.trap]

theorem Kept.pixSettle (h : Kept m o s) (c : Nat) (tile : Nat) : Kept m o (s.pixSettle c tile) := h.modCore ..

theorem Kept.pixRelease (h : Kept m o s) (r : PodRef) (p : Pod) (lanes : Nat) : Kept m o (s.pixRelease r p lanes) := by
  unfold State.pixRelease
  grind [Kept.modPod, Kept.pixSettle]

theorem execNop_kept (h : Kept false o s) (r : PodRef) (i : Ins) : OutKept o (execNop r i s) := by
  unfold execNop
  refine issue_kept (fun t p e ht => ?_) h ..
  grind [BodyKept]

theorem execExit_kept (h : Kept false o s) (r : PodRef) (i : Ins) : OutKept o (execExit r i s) := by
  unfold execExit
  refine issue_kept (fun t p e ht => ?_) h ..
  grind [BodyKept, Kept.modPod, Kept.pixRelease, Kept.orphan]

theorem execTrap_kept (h : Kept false o s) (r : PodRef) (i : Ins) : OutKept o (execTrap r i s) := by
  unfold execTrap
  refine issue_kept (fun t p e ht => ?_) h ..
  grind [BodyKept, Kept.trap]

theorem execTret_kept (h : Kept false o s) (r : PodRef) (i : Ins) : OutKept o (execTret r i s) := by
  unfold execTret
  refine issue_kept (fun t p e ht => ?_) h ..
  grind [BodyKept, Kept.modPod, Kept.orphan, Kept.illegalFault]

theorem Kept.barSettle (h : Kept m o s) (c : Nat) (wg : Nat) : Kept m o (s.barSettle c wg) := by
  unfold State.barSettle
  grind [Kept.modCore]

theorem execBar_kept (h : Kept false o s) (r : PodRef) (i : Ins) : OutKept o (execBar r i s) := by
  unfold execBar
  refine issue_kept (fun t p e ht => ?_) h ..
  grind [BodyKept, Kept.modPod, Kept.barSettle]

theorem execFence_kept (h : Kept false o s) (r : PodRef) (i : Ins) : OutKept o (execFence r i s) := by
  unfold execFence
  refine issue_kept (fun t p e ht => ?_) h ..
  grind [BodyKept, Kept.incCore, Kept.modPod, Kept.fencesDone]

theorem Kept.jump (h : Kept m o s) (r : PodRef) (a : Nat) : Kept m o (s.jump r a) := h.modPod ..

theorem execJmp_kept (h : Kept false o s) (r : PodRef) (i : Ins) : OutKept o (execJmp r i s) := by
  unfold execJmp
  refine issue_kept (fun t p e ht => ?_) h ..
  grind [BodyKept, Kept.jump]

theorem execJz_kept (h : Kept false o s) (r : PodRef) (i : Ins) : OutKept o (execJz r i s) := by
  unfold execJz
  refine issue_kept (fun t p e ht => ?_) h ..
  grind [BodyKept, Kept.cycles, Kept.jump]

theorem execJnz_kept (h : Kept false o s) (r : PodRef) (i : Ins) : OutKept o (execJnz r i s) := by
  unfold execJnz
  refine issue_kept (fun t p e ht => ?_) h ..
  grind [BodyKept, Kept.cycles, Kept.jump]

theorem execCall_kept (h : Kept false o s) (r : PodRef) (i : Ins) : OutKept o (execCall r i s) := by
  unfold execCall
  refine issue_kept (fun t p e ht => ?_) h ..
  grind [BodyKept, Kept.modPod, Kept.jump]

theorem execJmpr_kept (h : Kept false o s) (r : PodRef) (i : Ins) : OutKept o (execJmpr r i s) := by
  unfold execJmpr
  refine issue_kept (fun t p e ht => ?_) h ..
  grind [BodyKept, Kept.trap, Kept.jump]

theorem execPixlock_kept (h : Kept false o s) (r : PodRef) (i : Ins) : OutKept o (execPixlock r i s) := by
  unfold execPixlock
  refine issue_kept (fun t p e ht => ?_) h ..
  grind [BodyKept, Kept.modPod, Kept.incCore, Kept.orphan]

theorem execPixunlk_kept (h : Kept false o s) (r : PodRef) (i : Ins) : OutKept o (execPixunlk r i s) := by
  unfold execPixunlk
  refine issue_kept (fun t p e ht => ?_) h ..
  grind [BodyKept, Kept.pixRelease, Kept.incCore]

theorem Kept.tsSet (h : Kept m o s) (c : Nat) (a : Nat) (n : Nat) (v : Nat) : Kept m o (s.tsSet c a n v) := h.modCore ..

theorem Kept.zSamples (h : Kept m o s) (a : Pass) (t : TileJob) (sh : Shader) (p : Prim) (px : Nat) (vis : Bool) (k : List (Nat × (Int × Int))) :
    Kept m o (s.zSamples a t sh p px vis k).2 := by
  induction k generalizing s with
  | nil => exact h
  | cons a t ih =>
    unfold State.zSamples
    grind [Kept.tsSet]

theorem Kept.fragsOf (h : Kept m o s) (a : Pass) (t : TileJob) (phase : Nat) (p : Prim) (k : List Nat) : Kept m o (s.fragsOf a t phase p k).2 := by
  induction k generalizing s with
  | nil => exact h
  | cons a t ih =>
    unfold State.fragsOf
    grind [Kept.zSamples, Kept.inc]

theorem Kept.formFrags (h : Kept m o s) (a : Pass) (k : Nat) (l : TileJob) : Kept m o (s.formFrags a k l).2 := by
  induction k generalizing s l with
  | zero => exact h
  | succ k ih =>
    unfold State.formFrags
    grind [Kept.inc, Kept.fragsOf]

theorem Kept.modPass (h : Kept m o s) (f : Pass → Pass) : Kept m o (s.modPass f) := h.fields ..

theorem Kept.tileAdvance (h : Kept m o s) (core : Nat) (set : Nat) : Kept m o (s.tileAdvance core set) := by
  unfold State.tileAdvance
  grind [Kept.formFrags, Kept.modPass]

theorem Kept.pixRetire (h : Kept m o s) (core : Nat) (lin : Nat) (uid : Nat) : Kept m o (s.pixRetire core lin uid) := by
  unfold State.pixRetire
  grind [Kept.modPass, Kept.tileAdvance]

end
end Sys2Proof.Machine
end

section
/-! What the step keeps, function by function (4 of 8): scalar and vector instructions, the tile store, tensor instructions and the cores. -/

namespace Sys2Proof.Machine
section
-- One lemma after another: side by side `grind` would keep a thread waiting for every lemma it names.
set_option Elab.async false

variable {m : Bool} {o s : State}

theorem scalarOp_kept (h : Kept false o s) (ev : String) (op : Nat) (r : PodRef) (i : Ins) (f : Nat → Nat → Nat) : OutKept o (scalarOp ev op r i s f)
    := by
  unfold scalarOp
  refine issue_kept (fun t p e ht => ?_) h ..
  grind [BodyKept, Kept.cycles, Kept.modPod]

theorem execSadd_kept (h : Kept false o s) (r : PodRef) (i : Ins) : OutKept o (execSadd r i s) := by
  unfold execSadd
  grind [scalarOp_kept]

theorem execSsub_kept (h : Kept false o s) (r : PodRef) (i : Ins) : OutKept o (execSsub r i s) := by
  unfold execSsub
  grind [scalarOp_kept]

theorem execSmul_kept (h : Kept false o s) (r : PodRef) (i : Ins) : OutKept o (execSmul r i s) := by
  unfold execSmul
  grind [scalarOp_kept]

theorem execSand_kept (h : Kept false o s) (r : PodRef) (i : Ins) : OutKept o (execSand r i s) := by
  unfold execSand
  grind [scalarOp_kept]

theorem execSor_kept (h : Kept false o s) (r : PodRef) (i : Ins) : OutKept o (execSor r i s) := by
  unfold execSor
  grind [scalarOp_kept]

theorem execSxor_kept (h : Kept false o s) (r : PodRef) (i : Ins) : OutKept o (execSxor r i s) := by
  unfold execSxor
  grind [scalarOp_kept]

theorem execSandn_kept (h : Kept false o s) (r : PodRef) (i : Ins) : OutKept o (execSandn r i s) := by
  unfold execSandn
  grind [scalarOp_kept]

theorem execSshl_kept (h : Kept false o s) (r : PodRef) (i : Ins) : OutKept o (execSshl r i s) := by
  unfold execSshl
  grind [scalarOp_kept]

theorem execSshr_kept (h : Kept false o s) (r : PodRef) (i : Ins) : OutKept o (execSshr r i s) := by
  unfold execSshr
  grind [scalarOp_kept]

theorem execSmin_kept (h : Kept false o s) (r : PodRef) (i : Ins) : OutKept o (execSmin r i s) := by
  unfold execSmin
  grind [scalarOp_kept]

theorem execSmax_kept (h : Kept false o s) (r : PodRef) (i : Ins) : OutKept o (execSmax r i s) := by
  unfold execSmax
  grind [scalarOp_kept]

theorem execSmov_kept (h : Kept false o s) (r : PodRef) (i : Ins) : OutKept o (execSmov r i s) := by
  unfold execSmov
  grind [scalarOp_kept]

theorem execSpopc_kept (h : Kept false o s) (r : PodRef) (i : Ins) : OutKept o (execSpopc r i s) := by
  unfold execSpopc
  grind [scalarOp_kept]

theorem execSffs_kept (h : Kept false o s) (r : PodRef) (i : Ins) : OutKept o (execSffs r i s) := by
  unfold execSffs
  grind [scalarOp_kept]

theorem execScmp_kept (h : Kept false o s) (r : PodRef) (i : Ins) : OutKept o (execScmp r i s) := by
  unfold execScmp
  refine issue_kept (fun t p e ht => ?_) h ..
  grind [BodyKept, Kept.cycles, Kept.modPod]

theorem execSadd64_kept (h : Kept false o s) (r : PodRef) (i : Ins) : OutKept o (execSadd64 r i s) := by
  unfold execSadd64
  refine issue_kept (fun t p e ht => ?_) h ..
  grind [BodyKept, Kept.modPod]

theorem vectorOp_kept (h : Kept false o s) (ev : String) (op : Nat) (r : PodRef) (i : Ins) (f : Nat → Nat → Nat) : OutKept o (vectorOp ev op r i s f)
    := by
  unfold vectorOp
  refine issue_kept (fun t p e ht => ?_) h ..
  grind [BodyKept, Kept.cycles, Kept.vputs]

theorem execViadd_kept (h : Kept false o s) (r : PodRef) (i : Ins) : OutKept o (execViadd r i s) := by
  unfold execViadd
  grind [vectorOp_kept]

theorem execVisub_kept (h : Kept false o s) (r : PodRef) (i : Ins) : OutKept o (execVisub r i s) := by
  unfold execVisub
  grind [vectorOp_kept]

theorem execVimul_kept (h : Kept false o s) (r : PodRef) (i : Ins) : OutKept o (execVimul r i s) := by
  unfold execVimul
  grind [vectorOp_kept]

theorem execVimulhi_kept (h : Kept false o s) (r : PodRef) (i : Ins) : OutKept o (execVimulhi r i s) := by
  unfold execVimulhi
  grind [vectorOp_kept]

theorem execVimad_kept (h : Kept false o s) (r : PodRef) (i : Ins) : OutKept o (execVimad r i s) := by
  unfold execVimad
  refine issue_kept (fun t p e ht => ?_) h ..
  grind [BodyKept, Kept.cycles, Kept.vputs]

theorem execVand_kept (h : Kept false o s) (r : PodRef) (i : Ins) : OutKept o (execVand r i s) := by
  unfold execVand
  grind [vectorOp_kept]

theorem execVor_kept (h : Kept false o s) (r : PodRef) (i : Ins) : OutKept o (execVor r i s) := by
  unfold execVor
  grind [vectorOp_kept]

theorem execVxor_kept (h : Kept false o s) (r : PodRef) (i : Ins) : OutKept o (execVxor r i s) := by
  unfold execVxor
  grind [vectorOp_kept]

theorem execVshl_kept (h : Kept false o s) (r : PodRef) (i : Ins) : OutKept o (execVshl r i s) := by
  unfold execVshl
  grind [vectorOp_kept]

theorem execVshr_kept (h : Kept false o s) (r : PodRef) (i : Ins) : OutKept o (execVshr r i s) := by
  unfold execVshr
  grind [vectorOp_kept]

theorem execVimin_kept (h : Kept false o s) (r : PodRef) (i : Ins) : OutKept o (execVimin r i s) := by
  unfold execVimin
  grind [vectorOp_kept]

theorem execVimax_kept (h : Kept false o s) (r : PodRef) (i : Ins) : OutKept o (execVimax r i s) := by
  unfold execVimax
  grind [vectorOp_kept]

theorem execVmov_kept (h : Kept false o s) (r : PodRef) (i : Ins) : OutKept o (execVmov r i s) := by
  unfold execVmov
  grind [vectorOp_kept]

theorem execVsel_kept (h : Kept false o s) (r : PodRef) (i : Ins) : OutKept o (execVsel r i s) := by
  unfold execVsel
  refine issue_kept (fun t p e ht => ?_) h ..
  grind [BodyKept, Kept.cycles, Kept.vputs]

theorem execVicmp_kept (h : Kept false o s) (r : PodRef) (i : Ins) : OutKept o (execVicmp r i s) := by
  unfold execVicmp
  refine issue_kept (fun t p e ht => ?_) h ..
  grind [BodyKept, Kept.cycles, Kept.modPod]

theorem execVshfl_kept (h : Kept false o s) (r : PodRef) (i : Ins) : OutKept o (execVshfl r i s) := by
  unfold execVshfl
  refine issue_kept (fun t p e ht => ?_) h ..
  grind [BodyKept, Kept.cycles, Kept.vputs]

theorem execVcvt_kept (h : Kept false o s) (r : PodRef) (i : Ins) : OutKept o (execVcvt r i s) := by
  unfold execVcvt
  refine issue_kept (fun t p e ht => ?_) h ..
  grind [BodyKept, Kept.vput, Kept.modPod, Kept.raise, Kept.foldl]

theorem execVbfe_kept (h : Kept false o s) (r : PodRef) (i : Ins) : OutKept o (execVbfe r i s) := by
  unfold execVbfe
  refine issue_kept (fun t p e ht => ?_) h ..
  grind [BodyKept, Kept.cycles, Kept.vputs]

theorem execVbfi_kept (h : Kept false o s) (r : PodRef) (i : Ins) : OutKept o (execVbfi r i s) := by
  unfold execVbfi
  refine issue_kept (fun t p e ht => ?_) h ..
  grind [BodyKept, Kept.cycles, Kept.vputs]

theorem execVpopc_kept (h : Kept false o s) (r : PodRef) (i : Ins) : OutKept o (execVpopc r i s) := by
  unfold execVpopc
  grind [vectorOp_kept]

theorem Kept.tsWrite (h : Kept m o s) (c : Nat) (a : Nat) (bs : List Byte) : Kept m o (s.tsWrite c a bs) := h.modCore ..

theorem Kept.raceView (h : Kept m o s) (ts : Mem) (raced : List (Nat × Nat)) : Kept m o (s.raceView ts raced).2 := by
  unfold State.raceView
  grind [Kept.draw, Kept.foldlSnd]

theorem Kept.oldOrNew (h : Kept m o s) (c : Nat) (a : Nat) (n : Nat) (m1 : Mem) (t : TensorOp) : Kept m o (s.oldOrNew c a n m1 t).2 := by
  unfold State.oldOrNew
  grind [Kept.raceView, Kept.draw, Kept.foldlSnd]

theorem Kept.tsRead (h : Kept m o s) (c : Nat) (a : Nat) (n : Nat) : Kept m o (s.tsRead c a n).2 := by
  unfold State.tsRead
  grind [Kept.oldOrNew, Kept.foldlSnd]

theorem Kept.tsReplay (h : Kept m o s) (r : PodRef) (ctx : Nat) (as : List (Nat × Nat)) (size : Nat) : Kept m o (s.tsReplay r ctx as size) := by
  unfold State.tsReplay
  grind [Kept.bump, Kept.perfCtx]

theorem Kept.gLoads {put : State → Nat → Nat → State} (hp : ∀ t l v, Kept m o t → Kept m o (put t l v)) (h : Kept m o s) (size : Nat) (as :
    List (Nat × Nat)) :
    Kept m o (s.gLoads size put as) := by
  induction as generalizing s with
  | nil => exact h
  | cons a t ih =>
    have hr := h.gRead a.2 size
    unfold State.gLoads
    split
    · next d t hd => rw [hd] at hr; exact Kept.guardFault hr ..
    · next b t hd => rw [hd] at hr; exact ih (hp _ _ _ hr)

theorem Kept.gStores (h : Kept m o s) (size : Nat) (val : Nat → Nat) (k : List (Nat × Nat)) : Kept m o (s.gStores size val k) := by
  induction k generalizing s with
  | nil => exact h
  | cons a t ih =>
    unfold State.gStores
    grind [Kept.gWrite, Kept.guardFault]

theorem execLd_kept (h : Kept false o s) (r : PodRef) (i : Ins) : OutKept o (execLd r i s) := by
  unfold execLd
  refine issue_kept (fun t p e ht => ?_) h ..
  grind [BodyKept, Kept.trap, Kept.guardFault, Kept.gLoads, Kept.putLane, Kept.memIssue]

theorem execSt_kept (h : Kept false o s) (r : PodRef) (i : Ins) : OutKept o (execSt r i s) := by
  unfold execSt
  refine issue_kept (fun t p e ht => ?_) h ..
  grind [BodyKept, Kept.trap, Kept.guardFault, Kept.gStores, Kept.memIssue]

theorem execSld_kept (h : Kept false o s) (r : PodRef) (i : Ins) : OutKept o (execSld r i s) := by
  unfold execSld
  refine issue_kept (fun t p e ht => ?_) h ..
  grind [BodyKept, Kept.trap, Kept.guardFault, Kept.gLoads, Kept.modPod, Kept.memIssue]

theorem execSst_kept (h : Kept false o s) (r : PodRef) (i : Ins) : OutKept o (execSst r i s) := by
  unfold execSst
  refine issue_kept (fun t p e ht => ?_) h ..
  grind [BodyKept, Kept.trap, Kept.guardFault, Kept.gStores, Kept.memIssue]

theorem Kept.tileGo {go : State → Nat → List (Nat × Nat) → State} (hg : ∀ t c as, Kept false o t → Kept false o (go t c as)) (h : Kept false o s) (r :
    PodRef) (p : Pod)
    (as : List (Nat × Nat)) (size : Nat) : Kept false o (s.tileGo r p as size go) := by
  unfold State.tileGo
  grind [Kept.trap, Kept.podStop, Kept.tsReplay]

theorem execLdt_kept (h : Kept false o s) (r : PodRef) (i : Ins) : OutKept o (execLdt r i s) := by
  unfold execLdt
  refine issue_kept (fun t p e ht => ?_) h ..
  grind [BodyKept, Kept.cycles, Kept.tileGo, Kept.tsRead, Kept.putLane, Kept.foldl]

theorem execStt_kept (h : Kept false o s) (r : PodRef) (i : Ins) : OutKept o (execStt r i s) := by
  unfold execStt
  refine issue_kept (fun t p e ht => ?_) h ..
  grind [BodyKept, Kept.cycles, Kept.tileGo, Kept.tsWrite, Kept.foldl]

theorem execAtomt_kept (h : Kept false o s) (r : PodRef) (i : Ins) : OutKept o (execAtomt r i s) := by
  unfold execAtomt
  refine issue_kept (fun t p e ht => ?_) h ..
  grind [BodyKept, Kept.tileGo, Kept.tsRead, Kept.tsWrite, Kept.putLane, Kept.foldl]

theorem Kept.gAtoms (h : Kept m o s) (r : PodRef) (p : Pod) (d : Nat) (size : Nat) (ops : Nat → AtomOp) (k : List (Nat × Nat)) :
    Kept m o (s.gAtoms r p d size ops k) := by
  induction k generalizing s with
  | nil => exact h
  | cons a t ih =>
    unfold State.gAtoms
    grind [Kept.gRead, Kept.guardFault, Kept.gWrite, Kept.putLane]

theorem execAtom_kept (h : Kept false o s) (r : PodRef) (i : Ins) : OutKept o (execAtom r i s) := by
  unfold execAtom
  refine issue_kept (fun t p e ht => ?_) h ..
  grind [BodyKept, Kept.trap, Kept.guardFault, Kept.gAtoms, Kept.memIssue]

theorem Kept.lockGet (h : Kept m o s) (c : Nat) (w : RemWho) (va : Nat) (l : LockAt) : Kept m o (s.lockGet c w va l).2 := by
  unfold State.lockGet
  grind [Kept.gRead, Kept.l1Purge, Kept.readAt]

theorem Kept.lockPut (h : Kept m o s) (c : Nat) (w : RemWho) (va v : Nat) (l : LockAt) : Kept m o (s.lockPut c w va v l) := by
  unfold State.lockPut
  grind [Kept.tsWrite, Kept.gWrite, Kept.guardFault, Kept.writeAt]

theorem Kept.lkLane {put : State → Nat → State} (hp : ∀ t v, Kept m o t → Kept m o (put t v)) (h : Kept m o s) (r : PodRef) (p : Pod) (tile : Bool)
    (k l va w : Nat) :
    Kept m o (s.lkLane r p tile k l va w put) := by
  unfold State.lkLane
  grind [Kept.modPod, Kept.incCore]

theorem Kept.ukLane {put : State → Nat → State} (hp : ∀ t v, Kept m o t → Kept m o (put t v)) (h : Kept m o s) (r : PodRef) (p : Pod) (tile : Bool)
    (k l va w : Nat) :
    Kept m o (s.ukLane r p tile k l va w put) := by
  unfold State.ukLane
  grind [Kept.modPod, Kept.incCore]

/-- A step of a lock instruction keeps what a write of its lock word keeps. -/
def LockStepKept (o : State) (step : State → Nat → Nat → Nat → (State → Nat → State) → State) : Prop :=
  ∀ t l va v put, (∀ u w, Kept false o u → Kept false o (put u w)) → Kept false o t → Kept false o (step t l va v put)

theorem Kept.lockLanes {step : State → Nat → Nat → Nat → (State → Nat → State) → State} (hs : LockStepKept o step) (h : Kept false o s) (r : PodRef)
    (c : Nat) (p : Pod)
    (as : List (Nat × Nat × LockAt)) : Kept false o (s.lockLanes r c p step as) := by
  induction as generalizing s with
  | nil => exact h
  | cons a t ih =>
    obtain ⟨l, va, at'⟩ := a
    have hr := h.lockGet c (podWho c p) va at'
    unfold State.lockLanes
    dsimp only
    split
    · next d t hd =>
      rw [hd] at hr
      split
      · exact Kept.guardFault hr ..
      · exact Kept.podStop hr ..
    · next v t hd =>
      rw [hd] at hr
      have ht := hs _ l va v (fun s v => s.lockPut c (podWho c p) va v at') (fun _ _ hu => hu.lockPut ..) hr
      split
      · exact ht
      · exact ih ht

theorem Kept.lockPage (h : Kept false o s) (h1 c va : Nat) : Kept false o (s.lockPage h1 c va).2 := by
  have huse (t : State) (ht : Kept false o t) (b : Tlb) (fresh : Bool) : Kept false o (match b.dest with
      | .remote _ => ((.ok none : Except MErr (Option XAddr)), t)
      | _ =>
        match t.useErr b .atm with
        | some e => (.error e, t.xltFault h1 c va e)
        | none => (.ok (some (b.apply va)), if fresh then t.cacheTlb h1 b else t)).2 := by
    grind [Kept.xltFault, Kept.cacheTlb]
  unfold State.lockPage
  split
  · exact h.xltFault ..
  dsimp only
  split
  · exact huse _ h _ _
  split
  · exact h
  have h := (h.countWalk h1 c).walk c va
  split
  · next e t ht => rw [ht] at h; exact Kept.xltFault h ..
  · next b t ht => rw [ht] at h; exact huse _ h _ true

theorem Kept.lockXlate (h : Kept false o s) (c : Nat) (w : RemWho) (k : List (Nat × Nat)) (l : List (Nat × Nat × LockAt)) (x : List Nat) :
    Kept false o (s.lockXlate c w k l x).2 := by
  induction k generalizing s l x with
  | nil => exact h
  | cons a t ih =>
    unfold State.lockXlate
    grind [Kept.lockPage]

theorem lockOp_kept {step : State → Pod → Nat → Nat → Nat → (State → Nat → State) → State} (hs : ∀ p, LockStepKept o (fun t => step t p)) (h :
    Kept false o s) (ev : String)
    (op : Nat) (r : PodRef) (i : Ins) (pre : Pod → Pod) (active : Pod → Nat → Nat) : OutKept o (lockOp ev op r i s pre active step) := by
  unfold lockOp
  refine issue_kept (fun t p e ht => ?_) h ..
  have hl (u : State) (hu : Kept false o u) (c : Nat) (as : List (Nat × Nat × LockAt)) :
    Kept false o (u.lockLanes r c p (fun s l va w put => step s p l va w put) as) := hu.lockLanes (hs p) ..
  dsimp only
  split
  · exact .done (ht.trap ..) _
  split
  · split
    · exact .done (ht.guardFault ..) _
    · refine .done (Kept.orphan ?_ _) _
      have hu := hl _ (ht.modPod .guard pre) 32
      split
      all_goals
        split
        · exact hu _
        · exact (hu _).modPod ..
  next _ c slot _ =>
  split
  · split
    · exact .done (ht.podStop ..) _
    · exact .done ((hl _ ((ht.tsReplay ..).modPod ..) ..).orphan _) _
  split
  · exact .wait
  split
  · exact .full
  generalize (lanesOf (active p e)).map _ = as
  have hx := (ht.bump (rk R.CORE_LINE_REQ_COUNT c) (groupLines as).length).lockXlate c (podWho c p) as [] []
  split
  · next v u hu =>
    rw [hu] at hx
    split
    · exact .wait
    · exact .done (Kept.podStop hx ..) _
  · next pl rem u hu =>
    rw [hu] at hx
    split
    · exact .done ((hl _ (Kept.modPod hx ..) ..).orphan _) _
    · exact .done (Kept.trap hx ..) _

theorem execLkwait_kept (h : Kept false o s) (r : PodRef) (i : Ins) : OutKept o (execLkwait r i s) :=
  lockOp_kept (fun _ _ _ _ _ _ hp ht => ht.lkLane hp ..) h ..

theorem execUnlk_kept (h : Kept false o s) (r : PodRef) (i : Ins) : OutKept o (execUnlk r i s) :=
  lockOp_kept (fun _ _ _ _ _ _ hp ht => ht.ukLane hp ..) h ..

theorem Kept.tensorIssue (h : Kept false o s) (r : PodRef) (c : Nat) (p : Pod) (op : Nat) (i : Ins) (cyc : Nat) (e : Nat) :
    BodyKept o (s.tensorIssue r c p op i cyc e) := by
  unfold State.tensorIssue
  grind [BodyKept, Kept.trap, Kept.podStop, Kept.opStart, Kept.modCore]

theorem execTmma_kept (h : Kept false o s) (r : PodRef) (i : Ins) : OutKept o (execTmma r i s) := by
  unfold execTmma
  refine issue_kept (fun t p e ht => ?_) h ..
  grind [BodyKept, Kept.cycles, Kept.tensorIssue, Kept.guardTrap, Kept.guardFault, Kept.inc, Kept.sramPut, Kept.raise]

theorem execTcvt_kept (h : Kept false o s) (r : PodRef) (i : Ins) : OutKept o (execTcvt r i s) := by
  unfold execTcvt
  refine issue_kept (fun t p e ht => ?_) h ..
  grind [BodyKept, Kept.cycles, Kept.tensorIssue]

theorem execTensorStart_kept (h : Kept false o s) (core : Nat) : OutKept o (execTensorStart core s) := by
  unfold execTensorStart
  grind [OutKept.rooted, Kept.modCore, OutKept.never, OutKept.next]

theorem Kept.writeD (h : Kept m o s) (c : Nat) (d : Nat) (raced : List (Nat × Nat)) (bs : List Byte) : Kept m o (s.writeD c d raced bs) := by
  unfold State.writeD
  grind [Kept.draw, Kept.modCore, Kept.foldlSnd]

theorem execTensorComplete_kept (h : Kept false o s) (core : Nat) : OutKept o (execTensorComplete core s) := by
  have hdone (u : State) (hu : Kept false o u) (t : TensorOp) : Kept false o (match (u.core core).ops.find? (·.id == t.op) with
      | some p => u.opDone core p
      | none => u) := by
    split
    · exact hu.opDone ..
    · exact hu
  unfold execTensorComplete
  refine .rooted ?_ ..
  split
  · exact .never _
  next t rest _ =>
  split
  · exact .never _
  have hview := h.raceView (s.core core).ts t.raced
  generalize s.raceView (s.core core).ts t.raced = rv at hview ⊢
  obtain ⟨view, u⟩ := rv
  dsimp only at hview ⊢
  generalize t.result view (u.gensOf core t) = res
  obtain ⟨bs, fl, gens⟩ := res
  have hw := (Kept.modCore hview core (fun co => { co with tq := rest.map (fun u => if u.uid = t.uid then { u with gens := gens } else u) })).writeD core t.d t.raced bs
  dsimp only
  refine .next (hdone _ ?_ t)
  split
  · split
    · exact (hw.modPod ..).raise ..
    · exact hw
  · refine Kept.perfCtx ?_ ..
    split
    · exact (hw.modPod ..).raise ..
    · exact hw

theorem Kept.pktVErr (h : Kept false o s) (id : Nat) (q : Nat) (v : VErr) : Kept false o (s.pktVErr id q v) := h.pktFault ..

theorem Kept.pktBad (h : Kept false o s) (id : Nat) (q : Nat) (detail : Nat) : Kept false o (s.pktBad id q detail) := h.pktFault ..

theorem execDispatch_kept (h : Kept false o s) (q : Nat) : OutKept o (execDispatch q s) := by
  unfold execDispatch
  refine .rooted ?_ ..
  split
  · exact .never _
  next p t ht =>
  have ht := h.start _ _ _ _ ht
  dsimp only
  split
  · exact .next (ht.pktBad ..)
  split
  · next v u hv => exact h.waitOr_ite (((ht.vread ..).snd hv).pktVErr ..) _
  next k u hk =>
  have hu := (ht.vread ..).snd hk
  split
  · exact .next (hu.pktBad ..)
  have hargs : Kept false o (if fieldAt k 7 1 = 0 then (.ok [], u) else u.vread (fenceWho q p) p.pkt.a2 (4 * fieldAt k 7 1) :
    Except VErr (List Byte) × State).2 := by
    split
    · exact hu
    · exact hu.vread ..
  split
  · next v w hv => exact h.waitOr_ite ((hargs.snd hv).pktVErr ..) _
  next args w hv =>
  split
  · exact .next ((hargs.snd hv).finish _)
  · exact .next ((hargs.snd hv).fieldsMmu ..)

theorem Kept.kernelBegin (h : Kept m o s) (c : Nat) (ctx : Nat) : Kept m o (s.kernelBegin c ctx) := ((h.l1Drop ..).fields ..).modCore ..

theorem execWorkgroupLaunch_kept (h : Kept false o s) (pkt core : Nat) (slots : List Nat) : OutKept o (execWorkgroupLaunch pkt core slots s) := by
  unfold execWorkgroupLaunch
  refine .rooted ?_ ..
  split
  · next d _ =>
    dsimp only
    split
    · split
      · exact .never _
      · refine .next (Kept.foldl _ (fun s x h => Kept.foldl _ (fun s l h => h.vput ..) h) (((Kept.fieldsMmu ?_ ..).modCore ..).bump ..))
        split
        · exact h
        · exact h.kernelBegin ..
    · exact .never _
  · exact .never _

theorem Kept.dispSettle (h : Kept m o s) (pkt : Nat) : Kept m o (s.dispSettle pkt) := by
  unfold State.dispSettle
  grind [Kept.l1Clean, Kept.finish, Kept.fields, Kept.foldl]

theorem Kept.removePod (h : Kept m o s) (c : Nat) (p : Pod) : Kept m o (s.removePod c p) := by
  unfold State.removePod
  grind [Kept.modCore, Kept.barSettle, Kept.pixSettle]

theorem execPodRetire_kept (h : Kept false o s) (core : Nat) (slot : Nat) : OutKept o (execPodRetire core slot s) := by
  unfold execPodRetire
  grind [OutKept.rooted, Kept.removePod, Kept.pixRetire, Kept.dispSettle, OutKept.never, OutKept.next]

theorem execTrapEntry_kept (h : Kept false o s) (core slot : Nat) : OutKept o (execTrapEntry core slot s) := by
  unfold execTrapEntry
  refine .rooted ?_ ..
  split
  · next p _ =>
    split
    · next t _ =>
      split
      · exact .never _
      dsimp only
      split
      · exact .next (h.podStop ..)
      · exact .next ((((h.modCore ..).modPod ..).bump ..).setRegN ..)
    · exact .never _
  · exact .never _

end
end Sys2Proof.Machine
end

section
/-! What the step keeps, function by function (5 of 8): rings, render passes, copies and batch descriptors. -/

namespace Sys2Proof.Machine
section
-- One lemma after another: side by side `grind` would keep a thread waiting for every lemma it names.
set_option Elab.async false

variable {m : Bool} {o s : State}

theorem Kept.ringEntries (h : Kept m o s) (base : Nat) (size : Nat) (k : Nat) (l : Nat) : Kept m o (s.ringEntries base size k l).2 := by
  induction k generalizing s l with
  | zero => exact h
  | succ k ih =>
    unfold State.ringEntries
    grind [Kept.readLoc]

theorem Kept.ringTake (h : Kept m o s) (p : Nat) (n : Nat) : Kept m o (s.ringTake p n).2 := by
  unfold State.ringTake
  grind [Kept.inc, Kept.ringEntries, Kept.setField, Kept.setRegN]

theorem Kept.ringPut (h : Kept m o s) (p : Nat) (va : Nat) : Kept m o (s.ringPut p va) := ((h.writeLoc ..).setField ..).setRegN ..

theorem Kept.ringReturn (h : Kept m o s) (p : Nat) (pages : List Nat) : Kept m o (s.ringReturn p pages) := by
  unfold State.ringReturn
  grind [Kept.ringPut, Kept.setRegN, Kept.foldl]

theorem Kept.ringPush (h : Kept m o s) (p : Nat) (va : Nat) : Kept m o (s.ringPush p va) := by
  unfold State.ringPush
  grind [Kept.viol, Kept.inc, Kept.ringPut]

theorem Kept.rasStatus (h : Kept m o s) (seg : Nat) (ctx : Nat) (st : Nat) : Kept m o (s.rasStatus seg ctx st) := h.setRegN ..

theorem Kept.readEach (h : Kept false o s) (w : RemWho) (size : Nat) (k : List Nat) : Kept false o (s.readEach w size k).2 := by
  induction k generalizing s with
  | nil => exact h
  | cons a t ih =>
    unfold State.readEach
    grind [Kept.vread]

theorem Kept.readArgs (h : Kept false o s) (w : RemWho) (k : List (Nat × Nat)) : Kept false o (s.readArgs w k).2 := by
  induction k generalizing s with
  | nil => exact h
  | cons a t ih =>
    unfold State.readArgs
    grind [Kept.vread]

theorem Kept.passRead (h : Kept false o s) (w : RemWho) (d : List Byte) (a : Adm) : Kept false o (s.passRead w d a).2 := by
  unfold State.passRead
  split
  · exact h
  split
  · next hv => exact (h.readEach ..).snd hv
  next es u hu =>
  have hu := (h.readEach ..).snd hu
  split
  · exact hu
  split
  · exact hu
  split
  · next hv => exact (hu.readEach ..).snd hv
  next ks v hv =>
  have hv := (hu.readEach ..).snd hv
  split
  · exact hv
  split
  · exact hv
  split
  · next hw => exact (hv.readArgs ..).snd hw
  · next hw => exact (hv.readArgs ..).snd hw

theorem execRenderPass_kept (h : Kept false o s) (q : Nat) : OutKept o (execRenderPass q s) := by
  unfold execRenderPass
  refine .rooted ?_ ..
  split
  · exact .never _
  next p t ht =>
  have ht : Kept false o t := by
    split at ht
    · exact h.start _ _ _ _ ht
    · simp only [reduceCtorEq] at ht
  dsimp only
  split
  · exact .next (ht.pktBad ..)
  split
  · next hv => exact h.waitOr_ite (((ht.vread ..).snd hv).pktVErr ..) _
  next d u hu =>
  have hu := (ht.vread ..).snd hu
  split
  · next hv => exact .next (((hu.passRead ..).snd hv).pktBad ..)
  · next hv => exact h.waitOr_ite (((hu.passRead ..).snd hv).pktFault ..) _
  next sh v hv =>
  have hv := (hu.passRead ..).snd hv
  split
  · next hw => exact h.waitOr_ite (((hv.vwrite ..).snd hw).pktVErr ..) _
  · next hw => exact .next ((((hv.vwrite ..).snd hw).fieldsMmu ..).rasStatus ..)

theorem Kept.carve (h : Kept false o s) (a : Pass) : Kept false o (s.carve a).2 := by
  unfold State.carve
  grind [Kept.inc, Kept.ringTake, Kept.vwrite]

theorem Kept.vwrites (h : Kept false o s) (w : RemWho) (k : List (Nat × List Byte)) : Kept false o (s.vwrites w k).2 := by
  induction k generalizing s with
  | nil => exact h
  | cons a t ih =>
    unfold State.vwrites
    grind [Kept.vwrite]

theorem Kept.binAppend (h : Kept false o s) (a : Pass) (tile : Nat) (ix : Nat) : Kept false o (s.binAppend a tile ix).2 := by
  unfold State.binAppend
  grind [Kept.vwrites, Kept.carve]

theorem Kept.binAll (h : Kept false o s) (a : Pass) (ix : Nat) (ts : List Nat) : Kept false o (s.binAll a ix ts).2 := by
  induction ts generalizing s a with
  | nil => exact h
  | cons t ts ih =>
    have ht := h.binAppend a t ix
    unfold State.binAll
    split
    · next hv => exact ih (ht.snd hv) _
    · exact ht

theorem Kept.primNext (h : Kept m o s) (a : Pass) : Kept m o (s.primNext a) := by
  unfold State.primNext
  grind [Kept.rasStatus, Kept.fields]

theorem execPrimitiveBin_kept (h : Kept false o s) : OutKept o (execPrimitiveBin s) := by
  unfold execPrimitiveBin
  refine .rooted ?_ ..
  split
  · exact .never _
  next a _ =>
  split
  · exact .never _
  split
  · next hv => exact h.waitOr_ite (((h.vread ..).snd hv).pktFault ..) _
  next b t ht =>
  have ht := (h.vread ..).snd ht
  dsimp only
  split
  · exact .next ((ht.inc _).primNext _)
  split
  · exact .next ((ht.inc _).primNext _)
  split
  · next hv => exact .next ((((ht.binAll ..).snd hv).inc _).primNext _)
  · next hv => exact .next ((((ht.binAll ..).snd hv).fieldsMmu ..).rasStatus ..)
  · next hv => exact h.waitOr_ite ((((ht.binAll ..).snd hv).fieldsMmu ..).pktFault ..) _

theorem execFlushResume_kept (h : Kept false o s) : OutKept o (execFlushResume s) := by
  unfold execFlushResume
  refine .rooted ?_ ..
  split
  · exact .never _
  next a _ =>
  split
  · exact .never _
  dsimp only
  split
  · next hv => exact h.waitOr_ite (((h.vwrite ..).snd hv).pktFault ..) _
  · next hv => exact .next (((((h.vwrite ..).snd hv).fieldsMmu ..).inc _).rasStatus ..)

theorem Kept.vreads (h : Kept false o s) (w : RemWho) (k : List (Nat × Nat)) : Kept false o (s.vreads w k).2 := by
  induction k generalizing s with
  | nil => exact h
  | cons a t ih =>
    unfold State.vreads
    grind [Kept.vread]

theorem Kept.tsPut (h : Kept m o s) (c : Nat) (a : Nat) (bs : List Byte) : Kept m o (s.tsPut c a bs) := h.modCore ..

theorem Kept.loadPlanes (h : Kept false o s) (a : Pass) (core : Nat) (set : Nat) (lin : Nat) (k : List Plane) :
    Kept false o (s.loadPlanes a core set lin k).2 := by
  induction k generalizing s with
  | nil => exact h
  | cons a t ih =>
    unfold State.loadPlanes
    grind [Kept.vreads, Kept.tsPut, Kept.bump]

theorem Kept.readBin (h : Kept false o s) (w : RemWho) (k : Nat) (l : Nat) (x : Nat) : Kept false o (s.readBin w k l x).2 := by
  induction k generalizing s l x with
  | zero => exact h
  | succ k ih =>
    unfold State.readBin
    grind [Kept.vread]

theorem Kept.readPrims (h : Kept false o s) (a : Pass) (k : List Nat) : Kept false o (s.readPrims a k).2 := by
  induction k generalizing s with
  | nil => exact h
  | cons a t ih =>
    unfold State.readPrims
    grind [Kept.vread]

theorem Kept.visibility (h : Kept m o s) (a : Pass) (t : TileJob) (opq : List Prim) : Kept m o (s.visibility a t opq) := by
  unfold State.visibility
  grind [Kept.zSamples, Kept.bump, Kept.foldl]

theorem Kept.tileStart (h : Kept false o s) (a : Pass) (core set lin : Nat) : Kept false o (s.tileStart a core set lin).2 := by
  unfold State.tileStart
  split
  · next hv => exact (h.loadPlanes ..).snd hv
  next u hu =>
  have hu := (h.loadPlanes ..).snd hu
  split
  · next hv => exact (hu.vread ..).snd hv
  next b v hv =>
  have hv := (hu.vread ..).snd hv
  dsimp only
  split
  · next hw => exact (hv.readBin ..).snd hw
  next ix w hw =>
  have hw := (hv.readBin ..).snd hw
  split
  · next hx => exact (hw.readPrims ..).snd hx
  next ps x hx =>
  have hx := (hw.readPrims ..).snd hx
  refine Kept.tileAdvance (Kept.modPass ?_ _) ..
  split
  · exact hx.visibility ..
  · exact hx

theorem execTileDispatch_kept (h : Kept false o s) (cluster : Nat) : OutKept o (execTileDispatch cluster s) := by
  unfold execTileDispatch
  refine .rooted ?_ ..
  split
  · exact .never _
  dsimp only
  split
  · split
    · exact .never _
    · split
      · next hv => exact .next ((((h.modPass ..).inc _).tileStart ..).snd hv)
      · next hv => exact h.waitOr_ite (((((h.modPass ..).inc _).tileStart ..).snd hv).pktFault ..) _
  · exact .never _

theorem execPixelPodLaunch_kept (h : Kept false o s) (core set slot : Nat) : OutKept o (execPixelPodLaunch core set slot s) := by
  unfold execPixelPodLaunch
  refine .rooted ?_ ..
  split
  · exact .never _
  split
  · exact .never _
  dsimp only
  split
  · exact .never _
  split
  · exact .never _
  · exact .next (((Kept.foldl _ (fun s x h => Kept.foldl _ (fun s y h => h.vput ..) h)
      ((((((h.fieldsMmu ..).modCore ..).bump ..).inc _).bump ..).perfCtx ..)).modPass _).tileAdvance ..)

theorem Kept.storePlane (h : Kept false o s) (a : Pass) (core : Nat) (set : Nat) (lin : Nat) (p : Plane) :
    Kept false o (s.storePlane a core set lin p).2 := by
  unfold State.storePlane
  grind [Kept.vwrites, Kept.bump]

theorem Kept.storePlanes (h : Kept false o s) (a : Pass) (core : Nat) (set : Nat) (lin : Nat) (k : List Plane) :
    Kept false o (s.storePlanes a core set lin k).2 := by
  induction k generalizing s with
  | nil => exact h
  | cons a t ih =>
    unfold State.storePlanes
    grind [Kept.storePlane]

theorem execTileWriteOut_kept (h : Kept false o s) (core set : Nat) : OutKept o (execTileWriteOut core set s) := by
  unfold execTileWriteOut
  refine .rooted ?_ ..
  split
  · exact .never _
  next a _ =>
  split
  · exact .never _
  split
  · exact .never _
  dsimp only
  split
  · next hv => exact h.waitOr_ite ((((h.modPass _).storePlanes ..).snd hv).pktFault ..) _
  next u hu =>
  have hu := ((h.modPass _).storePlanes ..).snd hu
  split
  · exact .next hu
  split
  · next hv => exact h.waitOr_ite (((hu.vwrite ..).snd hv).pktFault ..) _
  · next hv => exact .next (((hu.vwrite ..).snd hv).modPass _)

theorem Kept.passEnd (h : Kept m o s) (a : Pass) : Kept m o (s.passEnd a) := by
  unfold State.passEnd
  grind [Kept.ringReturn, Kept.rasStatus, Kept.fields]

theorem Kept.l1CleanAll (h : Kept m o s) (ctx : Nat) : Kept m o (s.l1CleanAll ctx) := by
  unfold State.l1CleanAll
  grind [Kept.l1Clean, Kept.foldl]

theorem execPassPageReturn_kept (h : Kept false o s) : OutKept o (execPassPageReturn s) := by
  unfold execPassPageReturn
  grind [OutKept.rooted, OutKept.never, OutKept.when', Kept.l1CleanAll, Kept.passEnd, Kept.finish]

theorem Kept.copyBad (h : Kept false o s) (pkt : Nat) (eng : Nat) (detail : Nat) (va : Nat) : Kept false o (s.copyBad pkt eng detail va) :=
    h.pktFault ..

theorem execCopyPacket_kept (h : Kept false o s) (q : Nat) : OutKept o (execCopyPacket q s) := by
  unfold execCopyPacket
  grind [OutKept.rooted, Kept.start, OutKept.never, Kept.copyBad, Kept.finish, Kept.fieldsMmu, OutKept.next]

theorem Kept.modCopy (h : Kept m o s) (pkt : Nat) (f : CopyJob → CopyJob) : Kept m o (s.modCopy pkt f) := h.fields ..

theorem Kept.copyRead (h : Kept m o s) (j : CopyJob) (c : CopyDesc) (bs : List Byte) : Kept m o (s.copyRead j c bs) := by
  unfold State.copyRead
  grind [Kept.bumpPair, Kept.crcFeedDesc]

theorem Kept.copyWrote (h : Kept m o s) (j : CopyJob) (c : CopyDesc) (bs : List Byte) : Kept m o (s.copyWrote j c bs) := by
  unfold State.copyWrote
  grind [Kept.bumpPair, Kept.perfCtx, Kept.crcFeedDesc]

theorem Kept.encRow (h : Kept m o s) (j : CopyJob) (S : Nat) (k : CopyDesc) (l : List (List Byte)) : Kept m o (s.encRow j S k l).2.2 := by
  induction l generalizing s k with
  | nil => exact h
  | cons a t ih =>
    unfold State.encRow
    grind [Kept.inc]

theorem Kept.xformRow (h : Kept m o s) (j : CopyJob) (d : Desc) (c : CopyDesc) (row : List Byte) : Kept m o (s.xformRow j d c row).2.2 := by
  unfold State.xformRow
  grind [Kept.encRow]

theorem Kept.lineqFull (h : Kept m o s) (j : CopyJob) (c : CopyDesc) : Kept m o (s.lineqFull j c).2 := by
  unfold State.lineqFull
  grind [Kept.inc]

theorem Kept.copyMixed (h : Kept m o s) (c : CopyDesc) (va : Nat) (now : List Byte) : Kept m o (s.copyMixed c va now).2 := by
  unfold State.copyMixed
  grind [Kept.draw]

theorem Kept.copyIn (h : Kept false o s) (j : CopyJob) (c : CopyDesc) (va : Nat) (n : Nat) : Kept false o (s.copyIn j c va n).2 := by
  unfold State.copyIn
  grind [Kept.xlate, Kept.lineqFull, Kept.readAt, Kept.copyMixed]

theorem Kept.copyGuard (h : Kept m o s) (j : CopyJob) (c : CopyDesc) : Kept m o (s.copyGuard j c).2 := by
  unfold State.copyGuard
  grind [Kept.sramWrite2, Kept.copyWrote]

theorem Kept.copyOut (h : Kept false o s) (j : CopyJob) (c : CopyDesc) : Kept false o (s.copyOut j c).2 := by
  unfold State.copyOut
  grind [Kept.xlate, Kept.lineqFull, Kept.writeAt, Kept.copyWrote]

theorem Kept.streamStop (h : Kept m o s) (j : CopyJob) (c : CopyDesc) (result : Nat) : Kept m o (s.streamStop j c result).2 := h.inc ..

theorem Kept.streamOut (h : Kept m o s) (j : CopyJob) (c : CopyDesc) (r : Rec) (h1 : List Byte) (pay : List Byte) :
    Kept m o (s.streamOut j c r h1 pay).2 := by
  unfold State.streamOut
  grind [Kept.copyRead, Kept.streamStop]

theorem Kept.streamUnit (h : Kept m o s) (j : CopyJob) (c : CopyDesc) : Kept m o (s.streamUnit j c).2 := by
  unfold State.streamUnit
  grind [Kept.streamOut, Kept.streamStop, Kept.copyRead]

theorem Kept.rowUnit (h : Kept m o s) (j : CopyJob) (c : CopyDesc) : Kept m o (s.rowUnit j c).2 := by
  unfold State.rowUnit
  grind [Kept.copyRead, Kept.xformRow]

theorem Kept.copyStep (h : Kept false o s) (j : CopyJob) (c : CopyDesc) : Kept false o (s.copyStep j c).2 := by
  unfold State.copyStep
  grind [Kept.copyGuard, Kept.copyOut, Kept.copyIn, Kept.streamUnit, Kept.rowUnit]

theorem Kept.copyPump (h : Kept false o s) (j : CopyJob) (k : Nat) (l : CopyDesc) : Kept false o (s.copyPump j k l).2 := by
  induction k generalizing s l with
  | zero => exact h
  | succ k ih =>
    unfold State.copyPump
    grind [Kept.copyStep]

theorem Kept.descNext (h : Kept false o s) (j : CopyJob) : ∀ a0 t, s.descNext j = some (a0, t) → Kept false o t := by
  unfold State.descNext
  grind [Kept.vread]

theorem Kept.readExpect (h : Kept false o s) (j : CopyJob) (d : Desc) : Kept false o (s.readExpect j d).2 := by
  unfold State.readExpect
  grind [Kept.vread]

theorem Kept.descRun (h : Kept false o s) (j : CopyJob) (d : Desc) : Kept false o (s.descRun j d).2 := by
  unfold State.descRun
  grind [Kept.readExpect, Kept.copyPump, Kept.modCopy, Kept.fieldsMmu]

theorem Kept.descFault (h : Kept false o s) (j : CopyJob) (v : VErr) : Kept false o (s.descFault j v) := h.pktFault ..

theorem Kept.descStart (h : Kept false o s) (ev : String) (pkt : Nat) (takes : Desc → Bool) : OutKept o (s.descStart ev pkt takes) := by
  unfold State.descStart
  split
  · exact .never _
  next j _ =>
  split
  · exact .never _
  · next hv => exact h.waitOr_ite ((h.descNext _ _ _ hv).descFault ..) _
  next b t hv =>
  have ht := h.descNext _ _ _ hv
  dsimp only
  split
  · exact .never _
  split
  · exact .next (ht.copyBad ..)
  split
  · next hw => exact h.waitOr_ite (((ht.descRun ..).snd hw).descFault ..) _
  · next hw => exact .next ((ht.descRun ..).snd hw)

theorem execCopyDescriptor_kept (h : Kept false o s) (pkt : Nat) : OutKept o (execCopyDescriptor pkt s) := by
  unfold execCopyDescriptor
  grind [OutKept.rooted, Kept.descStart]

theorem execFillDescriptor_kept (h : Kept false o s) (pkt : Nat) : OutKept o (execFillDescriptor pkt s) := by
  unfold execFillDescriptor
  grind [OutKept.rooted, Kept.descStart]

theorem Kept.putDesc (h : Kept m o s) (pkt : Nat) (c : CopyDesc) : Kept m o (s.putDesc pkt c) := h.modCopy ..

theorem Kept.copyMore (h : Kept false o s) (pkt : Nat) (id : Nat) (n : Nat) : Kept false o (s.copyMore pkt id n) := by
  unfold State.copyMore
  grind [Kept.copyPump, Kept.descFault, Kept.putDesc]

theorem Kept.copiesRun (h : Kept false o s) : Kept false o (s.copiesRun) := by
  unfold State.copiesRun
  grind [Kept.draw, Kept.copyMore, Kept.foldl]

theorem Kept.descCrc (h : Kept m o s) (attach id : Nat) (expect : Option Nat) : Kept m o (s.descCrc attach id expect).2 := by
  unfold State.descCrc
  split
  · exact h
  next e _ =>
  dsimp only
  induction (List.range 8).filter (fun u => s.crcOn u && s.crcDesc u && s.crcAttach u == attach) with
  | nil => exact h
  | cons u l ih => exact (ih.fields ..).crcCompare ..

theorem Kept.writeReport_go (h : Kept false o s) (j : CopyJob) (c : CopyDesc) (l : List (Nat × List Byte)) :
    Kept false o (State.writeReport.go j c s l).2 := by
  induction l generalizing s with
  | nil => exact h
  | cons a t ih =>
    unfold State.writeReport.go
    split
    · next hv => exact (h.vwrite ..).snd hv
    · next hv => exact ih ((h.vwrite ..).snd hv)

theorem Kept.writeReport (h : Kept false o s) (j : CopyJob) (c : CopyDesc) (va : Nat) (r w : Option (Nat × Bool)) :
    Kept false o (s.writeReport j c va r w).2 := h.writeReport_go ..

theorem Kept.descDone (h : Kept m o s) (j : CopyJob) (id : Nat) : Kept m o (s.descDone j id) := by
  unfold State.descDone
  grind [Kept.inc, Kept.modCopy, Kept.finish, Kept.fields]

theorem Kept.reportDone {s₀ : State} (h₀ : Kept false o s₀) (h : Kept false o s) (j : CopyJob) (c : CopyDesc) (va : Nat) :
    OutKept o (s₀.reportDone s j c va) := by
  unfold State.reportDone
  grind [OutKept.next, Kept.vwrite, Kept.descDone, Kept.waitOr, Kept.descFault]

theorem Kept.descEnd {s₀ : State} (h₀ : Kept false o s₀) (h : Kept false o s) (j : CopyJob) (c : CopyDesc) : OutKept o (s₀.descEnd s j c) := by
  have hcrc := (h.descCrc (0x10 + j.eng) c.id c.crcR).descCrc (0x14 + j.eng) c.id c.crcW
  unfold State.descEnd
  split
  · exact .next (hcrc.descDone ..)
  split
  · exact h₀.reportDone h ..
  dsimp only
  split
  · next hv => exact h₀.waitOr_ite (((hcrc.writeReport ..).snd hv).descFault ..) _
  next hv =>
  have ht := (hcrc.writeReport ..).snd hv
  split
  · exact .next (ht.putDesc ..)
  · exact h₀.reportDone ht ..

theorem execDescriptorComplete_kept (h : Kept false o s) (pkt k : Nat) : OutKept o (execDescriptorComplete pkt k s) := by
  unfold execDescriptorComplete
  refine .rooted ?_ ..
  split
  · exact .never _
  next j _ =>
  split
  · exact .never _
  next c _ =>
  have hgo : Kept false o (if c.isMoved || !s.copyRuns j then (.wait c, s) else s.copyPump j c.d.work c : CopyGo × State).2 := by
    split
    · exact h
    · exact h.copyPump ..
  split
  · next hv => exact .next ((hgo.snd hv).descFault ..)
  · next hv =>
    split
    · exact .never _
    · exact h.descEnd (hgo.snd hv) ..
  · next hv =>
    split
    · exact .never _
    · exact h.descEnd (hgo.snd hv) ..

theorem Kept.batchRange (h : Kept false o s) (w : RemWho) (k : Acc) (l : List (Nat × Nat)) : Kept false o (s.batchRange w k l).2 := by
  induction l generalizing s with
  | nil => exact h
  | cons a t ih =>
    unfold State.batchRange
    grind [Kept.xlate]

theorem Kept.batchBoth (h : Kept false o s) (w : RemWho) (va : Nat) (n : Nat) : Kept false o (s.batchBoth w va n).2 := by
  unfold State.batchBoth
  grind [Kept.batchRange]

theorem andThen_kept {α : Type} {x : Except BatchErr Unit × State} {f : State → Except BatchErr α × State} (hf : ∀ t, Kept m o t → Kept m o (f t).2)
    (h : Kept m o x.2) :
    Kept m o (andThen x f).2 := by
  unfold andThen
  split
  · exact hf _ h
  · exact h

theorem Kept.batchHeader (h : Kept false o s) (w : RemWho) (d : List Byte) : Kept false o (s.batchHeader w d).2 := by
  unfold State.batchHeader
  grind [andThen_kept, Kept.batchBoth, Kept.vread]

theorem Kept.batchLists (h : Kept false o s) (w : RemWho) (b : Batch) (begin : Bool) (k : List SeqEntry) :
    Kept false o (s.batchLists w b begin k).2 := by
  induction k generalizing s with
  | nil => exact h
  | cons a t ih =>
    unfold State.batchLists
    grind [andThen_kept, Kept.batchRange]

theorem Kept.batchCheck (h : Kept false o s) (w : RemWho) (part : Nat) (d : List Byte) (begin : Bool) :
    Kept false o (s.batchCheck w part d begin).2 := by
  unfold State.batchCheck
  grind [Kept.batchHeader, andThen_kept, Kept.batchBoth, Kept.vread, Kept.batchLists]

theorem Kept.batchServe (h : Kept false o s) (w : RemWho) (part : Nat) (b : Batch) (i : Nat) (joining : Bool) (a : BatchAcc) :
    Kept false o (s.batchServe w part b i joining a).2 := by
  unfold State.batchServe
  grind [Kept.ringTake, Kept.vwrite]

theorem Kept.batchEntry (h : Kept false o s) (w : RemWho) (b : Batch) (i : Nat) (e : SeqEntry) : Kept false o (s.batchEntry w b i e).2 := h.vwrite ..

theorem Kept.batchPass (h : Kept false o s) (w : RemWho) (part : Nat) (b : Batch) (joining : Bool) (k : List Nat) (l : BatchAcc) :
    Kept false o (s.batchPass w part b joining k l).2 := by
  induction k generalizing s l with
  | nil => exact h
  | cons a t ih =>
    unfold State.batchPass
    grind [Kept.batchServe, Kept.batchEntry]

theorem Kept.batchWrite (h : Kept false o s) (w : RemWho) (part : Nat) (kind : Nat) (b : Batch) (es : List SeqEntry) (moved : Nat) :
    Kept false o (s.batchWrite w part kind b es moved).2 := by
  unfold State.batchWrite
  grind [Kept.vwrite]

theorem Kept.batchBegin (h : Kept false o s) (w : RemWho) (part : Nat) (b : Batch) (es : List SeqEntry) : Kept false o (s.batchBegin w part b es).2 :=
    by
  unfold State.batchBegin
  grind [Kept.batchPass, Kept.batchWrite]

theorem Kept.batchCommitGo (h : Kept false o s) (w : RemWho) (part : Nat) (b : Batch) (i : Nat) (es : List SeqEntry) :
    Kept false o (s.batchCommitGo w part b i es).2 := by
  induction es generalizing s i with
  | nil => exact h
  | cons e t ih =>
    unfold State.batchCommitGo
    generalize hx : (ite (e.commit = b.step) _ _ : Except VErr (SeqEntry × Nat) × State) = x
    have hone : Kept false o x.2 := by
      subst hx
      grind [Kept.vread, Kept.ringReturn]
    split
    · exact hone
    next e n u =>
    generalize hy : (ite (e.dirty = true) _ _ : Except VErr Unit × State) = y
    have hput : Kept false o y.2 := by
      subst hy
      split
      · exact Kept.batchEntry hone ..
      · exact hone
    split
    · exact hput
    split
    · next hv => exact (ih hput _).snd hv
    · next hv => exact (ih hput _).snd hv

theorem Kept.batchCommit (h : Kept false o s) (w : RemWho) (part : Nat) (b : Batch) (es : List SeqEntry) :
    Kept false o (s.batchCommit w part b es).2 := by
  unfold State.batchCommit
  grind [Kept.batchCommitGo, Kept.batchWrite]

theorem Kept.batchDesc (h : Kept false o s) (ev : String) (pkt kind : Nat) : OutKept o (s.batchDesc ev pkt kind) := by
  unfold State.batchDesc
  split
  · exact .never _
  next j _ =>
  split
  · exact .never _
  · next hv => exact h.waitOr_ite ((h.descNext _ _ _ hv).descFault ..) _
  next d t hv =>
  have ht := h.descNext _ _ _ hv
  dsimp only
  split
  · exact .never _
  split
  · next hw => exact .next (((ht.batchCheck ..).snd hw).copyBad ..)
  · next hw => exact h.waitOr_ite (((ht.batchCheck ..).snd hw).descFault ..) _
  next b es u hu =>
  have hu := (ht.batchCheck ..).snd hu
  have hrun : Kept false o (if kind = 0x20 then u.batchBegin j.who (t.ctxPart j.ctx) b es else u.batchCommit j.who (t.ctxPart j.ctx) b es).2 := by
    split
    · exact hu.batchBegin ..
    · exact hu.batchCommit ..
  split
  · next hw => exact h.waitOr_ite ((hrun.snd hw).descFault ..) _
  · next hw => exact .next (((hrun.snd hw).fieldsMmu ..).modCopy ..)

theorem execBatchBegin_kept (h : Kept false o s) (pkt : Nat) : OutKept o (execBatchBegin pkt s) := by
  unfold execBatchBegin
  grind [OutKept.rooted, Kept.batchDesc]

theorem execBatchCommit_kept (h : Kept false o s) (pkt : Nat) : OutKept o (execBatchCommit pkt s) := by
  unfold execBatchCommit
  grind [OutKept.rooted, Kept.batchDesc]

end
end Sys2Proof.Machine
end

section
/-! What the step keeps, function by function (6 of 8): rays, the work of packets, queue rows, partitions, attestation, the boot, the host interface, invalidation, the fabric and the CRC units. -/

namespace Sys2Proof.Machine
section
-- One lemma after another: side by side `grind` would keep a thread waiting for every lemma it names.
set_option Elab.async false

variable {m : Bool} {o s : State}

theorem Kept.collect (h : Kept m o s) (q : Query) (e : RayRec) (b : List Byte) : Kept m o (s.collect q e b).2 := by
  unfold State.collect
  grind [Kept.draw, Kept.foldlSnd]

theorem Kept.modRtu (h : Kept m o s) (u : Nat) (f : Rtu → Rtu) : Kept m o (s.modRtu u f) := h.fields ..

theorem Kept.putQuery (h : Kept m o s) (u : Nat) (q : Query) : Kept m o (s.putQuery u q) := h.modRtu ..

theorem Kept.dropQuery (h : Kept m o s) (u : Nat) (id : Nat) : Kept m o (s.dropQuery u id) := h.modRtu ..

theorem Kept.rayFinish (h : Kept m o s) (u : Nat) (q : Query) (flags : Nat) : Kept m o (s.rayFinish u q flags) := by
  unfold State.rayFinish
  grind [Kept.inc, Kept.dropQuery, Kept.vput, Kept.opStep, Kept.foldl]

theorem Kept.rayFault (h : Kept false o s) (u : Nat) (q : Query) (cause : Nat) (detail : Nat) (va : Nat) :
    Kept false o (s.rayFault u q cause detail va) := by
  unfold State.rayFault
  grind [Kept.modRtu, Kept.inc, Kept.pktFault]

theorem Kept.rayXlated (h : Kept false o s) (u : Nat) (q : Query) (e : RayRec) (x : Except MErr XAddr) : Kept false o (s.rayXlated u q e x) := by
  unfold State.rayXlated
  grind [Kept.rayFault, Kept.putQuery]

theorem Kept.rayXlate (h : Kept false o s) (u : Nat) (ctx : Nat) (va : Nat) : Kept false o (s.rayXlate u ctx va).2 := by
  unfold State.rayXlate
  grind [Kept.xltFault, Kept.countWalk, Kept.fieldsMmu]

theorem Kept.rayRead (h : Kept false o s) (u : Nat) (q : Query) (e : RayRec) : Kept false o (s.rayRead u q e) := by
  unfold State.rayRead
  dsimp only
  split
  · exact h.rayFault ..
  split
  · exact ((h.inc _).inc _).putQuery ..
  have hx := (((h.inc (rk R.RTU_NODE_READ_COUNT u)).inc (rk R.RTU_NODE_MISS_COUNT u)).putQuery u { q with cur := some e, x := none, bytes := none, reads := q.reads + 1 }).rayXlate u q.ctx e.va
  split
  · next hv => exact hx.snd hv
  · next hv => exact Kept.rayXlated (hx.snd hv) ..

theorem Kept.rayNext (h : Kept false o s) (u : Nat) (q : Query) : Kept false o (s.rayNext u q) := by
  unfold State.rayNext
  grind [Kept.rayFinish, Kept.rayRead]

theorem Kept.rayTest (h : Kept false o s) (u : Nat) (q : Query) (e : RayRec) (b : List Byte) : Kept false o (s.rayTest u q e b) := by
  unfold State.rayTest
  grind [Kept.collect, Kept.rayNext, Kept.rayFinish, Kept.bump]

theorem Kept.rayTake (h : Kept m o s) (u : Nat) (q : Query) : Kept m o (s.rayTake u q) := ((h.inc ..).perfCtx ..).modRtu ..

theorem Kept.rayStart (h : Kept false o s) (u : Nat) (q : Query) (f : List Nat) (root : Nat) : Kept false o (s.rayStart u q f root) := by
  unfold State.rayStart
  grind [Kept.inc, Kept.rayFinish, Kept.rayNext]

theorem execRayq_kept (h : Kept false o s) (r : PodRef) (i : Ins) : OutKept o (execRayq r i s) := by
  unfold execRayq
  refine issue_kept (fun t p e ht => ?_) h ..
  grind [BodyKept, Kept.podStop, Kept.modRtu, Kept.opStart, Kept.rayTake, Kept.rayStart, Kept.fieldsMmu, Kept.foldl]

theorem Kept.nodeFill (h : Kept m o s) (u : Nat) (ctx : Nat) (va : Nat) (d : List Byte) : Kept m o (s.nodeFill u ctx va d) := by
  unfold State.nodeFill
  grind [insertFree_kept, Kept.modRtu]

theorem Kept.nodeFlush (h : Kept m o s) (u : Nat) (ctx : Nat) : Kept m o (s.nodeFlush u ctx) := h.modRtu ..

theorem Kept.nodeRead (h : Kept m o s) (u : Nat) (q : Query) (e : RayRec) : ∀ a0 t, s.nodeRead u q e = some (a0, t) → Kept m o t := by
  unfold State.nodeRead
  grind [Kept.readAt, Kept.nodeFill]

theorem Kept.nodeDone {go : State → Query → RayRec → List Byte → State} (hg : ∀ t q e b, Kept false o t → Kept false o (go t q e b)) (h :
    Kept false o s) (ev : String)
    (u query : Nat) (limited : Bool) : OutKept o (s.nodeDone ev u query limited go) := by
  unfold State.nodeDone
  split
  · exact .never _
  split
  · exact .never _
  split
  · exact .never _
  split
  · exact .never _
  · next hv => exact .next ((h.nodeRead _ _ _ _ _ hv).rayFault ..)
  · next hv => exact .next (hg _ _ _ _ (h.nodeRead _ _ _ _ _ hv))

theorem execNodeReadComplete_kept (h : Kept false o s) (unit : Nat) (query : Nat) : OutKept o (execNodeReadComplete unit query s) := by
  unfold execNodeReadComplete
  grind [OutKept.rooted, Kept.nodeDone, Kept.rayTest]

theorem execNodeLimit_kept (h : Kept false o s) (unit : Nat) (query : Nat) : OutKept o (execNodeLimit unit query s) := by
  unfold execNodeLimit
  grind [OutKept.rooted, Kept.nodeDone, Kept.inc, Kept.rayFinish]

theorem Kept.kill (h : Kept m o s) (id : Nat) : Kept m o (s.kill id) := h.fields ..

theorem Kept.cleanUp (h : Kept m o s) (id : Nat) (ctx : Nat) : Kept m o (s.cleanUp id ctx) := by
  unfold State.cleanUp
  grind [Kept.l1Clean, Kept.modCore, Kept.passEnd, Kept.foldl]

theorem Kept.skipOnion (h : Kept false o s) (sl : Slot) (v : VErr) : Kept false o (s.skipOnion sl v) := by
  unfold State.skipOnion
  grind [Kept.ctxGen, Kept.abortFrom]

theorem Kept.strandFences (h : Kept false o s) (q : Nat) (sl : Slot) (st : Nat) (a : Abort) (k : Nat) (l : Nat) :
    Kept false o (s.strandFences q sl st a k l).2 := by
  induction k generalizing s l with
  | zero => exact h
  | succ k ih =>
    unfold State.strandFences
    grind [Kept.strandRead, Kept.skipOnion, Kept.errPktFence]

theorem Kept.dropStrands (h : Kept false o s) (sl : Slot) (a : Abort) (l : List (Nat × Nat × Nat)) : Kept false o (State.dropStrands sl a l s).2 := by
  induction l generalizing s with
  | nil => exact h.modSlot ..
  | cons x t ih =>
    unfold State.dropStrands
    dsimp only
    split
    · next hv => exact (h.strandFences ..).snd hv
    · next hv => exact ih (((h.strandFences ..).snd hv).modSlot ..)

theorem Kept.endSlots (h : Kept false o s) (k : List (Slot × Abort)) : Kept false o (State.endSlots k s).2 := by
  induction k generalizing s with
  | nil => exact h
  | cons a t ih =>
    unfold State.endSlots
    grind [Kept.dropStrands, Kept.launchDone]

theorem Kept.abortFinish (h : Kept false o s) (seq : Nat) : Kept false o (s.abortFinish seq).2 := by
  have hend (l : List (Slot × Abort)) := (Kept.foldl (s.aborted seq) (f := fun s x => match x.2.abort with
      | some a => s.errPktFence x.1 x.2 a.cause a.eng a.ctx a.seq
      | none => s) (fun s x h => by
        split
        · exact h.errPktFence ..
        · exact h) (Kept.foldl (s.aborted seq) (f := fun s x => s.cleanUp x.2.id x.2.ctx) (fun s x h => h.cleanUp ..) h)).endSlots l
  unfold State.abortFinish
  dsimp only
  split
  · next hv => exact (hend _).snd hv
  · next hv =>
    dsimp only
    exact Kept.settleQueues (Kept.mapPkts ((hend _).snd hv) _)

theorem execAbortStopped_kept (h : Kept false o s) (seq : Nat) : OutKept o (execAbortStopped seq s) := by
  unfold execAbortStopped
  grind [OutKept.rooted, Kept.abortFinish, Kept.waitOr, OutKept.never, OutKept.next]

theorem execPacketTimeout_kept (h : Kept false o s) (id : Nat) : OutKept o (execPacketTimeout id s) := by
  unfold execPacketTimeout
  grind [OutKept.rooted, OutKept.when', Kept.modPkt, OutKept.never]

theorem Kept.timeoutKill (h : Kept false o s) (q : Nat) (p : QPkt) : Kept false o (s.timeoutKill q p) := by
  unfold State.timeoutKill
  grind [Kept.kill, Kept.modQueue, Kept.inc, Kept.modPkt, Kept.ctxGen, Kept.abortFrom]

theorem execDrainWindowEnd_kept (h : Kept false o s) (timeout : Bool) (n : Nat) : OutKept o (execDrainWindowEnd timeout n s) := by
  unfold execDrainWindowEnd
  grind [OutKept.rooted, OutKept.when', Kept.timeoutKill, OutKept.never, Kept.kill, Kept.foldl]

theorem execPacketFetch_kept (h : Kept false o s) (q : Nat) : OutKept o (execPacketFetch q s) := by
  unfold execPacketFetch
  grind [OutKept.rooted, OutKept.orNever, Kept.fetchNext]

theorem Kept.startNow {f : State → QPkt → State} (hf : ∀ t p, Kept false o t → Kept false o (f t p)) (h : Kept false o s) (q op : Nat) :
    ∀ t, s.startNow q op f = some t → Kept false o t := by
  intro t ht
  unfold State.startNow at ht
  split at ht
  · simp only [reduceCtorEq] at ht
  split at ht
  · simp only [reduceCtorEq] at ht
  next p u hu =>
  obtain rfl := Option.some.inj ht
  exact (hf _ _ (h.start _ _ _ _ hu)).finish _

theorem execNopPacket_kept (h : Kept false o s) (q : Nat) : OutKept o (execNopPacket q s) := by
  unfold execNopPacket
  grind [OutKept.rooted, OutKept.orNever, Kept.startNow]

theorem execSemSignal_kept (h : Kept false o s) (q : Nat) : OutKept o (execSemSignal q s) := by
  unfold execSemSignal
  grind [OutKept.rooted, OutKept.orNever, Kept.startNow, Kept.modSlot]

theorem execSemWait_kept (h : Kept false o s) (q : Nat) : OutKept o (execSemWait q s) := by
  unfold execSemWait
  grind [OutKept.rooted, OutKept.orNever, Kept.startNow]

theorem execFencePoll_kept (h : Kept false o s) (q : Nat) : OutKept o (execFencePoll q s) := by
  unfold execFencePoll
  refine .rooted ?_ ..
  split
  · exact .never _
  split
  · exact .never _
  split
  · next hv =>
    split
    · exact .next ((h.waits_getD _).modPkt ..)
    · exact .next (((h.fenceRead ..).snd hv).pktFault ..)
  · next hv =>
    split
    · exact .next (((h.fenceRead ..).snd hv).pktFault ..)
    · exact .next (((h.fenceRead ..).snd hv).modPkt ..)

theorem execPacketComplete_kept (h : Kept false o s) (q : Nat) : OutKept o (execPacketComplete q s) := by
  unfold execPacketComplete
  grind [OutKept.rooted, OutKept.orNever, Kept.completeHead]

theorem execLaunchSlot_kept (h : Kept false o s) : OutKept o (execLaunchSlot s) := .rooted (.orNever h.launchSlot _) _ _

theorem execStrandPost_kept (h : Kept false o s) : OutKept o (execStrandPost s) := .rooted (.orNever h.strandPost _) _ _

theorem Kept.queueEnable_of {f} (hf : @State.readLoc = f) (hk : ∀ {s} a n w, Kept m o s → Kept m o (f s a n w).2) (h : Kept m o s) (q : Nat) :
    Kept m o (s.queueEnable q) := by
  generalize hg : State.queueEnable = g
  delta State.queueEnable at hg
  rw [hf] at hg
  subst hg
  dsimp -zeta -iota -proj only
  grind [Kept.modQueue, Kept.setBits, Kept.completionArea]

theorem Kept.queueEnable (h : Kept m o s) (q : Nat) : Kept m o (s.queueEnable q) := Kept.queueEnable_of rfl (fun _ _ _ h => h.readLoc ..) h q

theorem Kept.queueDisable (h : Kept m o s) (q : Nat) : Kept m o (s.queueDisable q) := by
  unfold State.queueDisable
  grind [Kept.modQueue, Kept.closeQueue]

theorem Kept.queueReset (h : Kept m o s) (q : Nat) : Kept m o (s.queueReset q) := by
  unfold State.queueReset
  grind [Kept.modQueue, Kept.closeQueue, Kept.inc]

theorem Kept.wrQCtrl (h : Kept false o s) (q : Nat) (val : BitVec 32) : Kept false o (s.wrQCtrl q val) := by
  unfold State.wrQCtrl
  grind [Kept.queueReset, Kept.queueEnable, Kept.queueDisable]

theorem Kept.queueDoorbell (h : Kept m o s) (q tail : Nat) : Kept m o (s.queueDoorbell q tail) := by
  unfold State.queueDoorbell
  dsimp only
  split
  · exact (h.setBits ..).inc _
  split
  · exact h
  split
  · exact ((h.setBits ..).setBits ..).inc _
  · exact h.modQueue ..

theorem Kept.wrQBase (h : Kept m o s) (q : Nat) (v : Nat) : Kept m o (s.wrQBase q v) := by
  unfold State.wrQBase
  grind [Kept.setPair, Kept.viol]

theorem Kept.clearLost (h : Kept m o s) (i : Nat) (val : BitVec 32) : Kept m o (s.clearLost i val) := by
  unfold State.clearLost
  grind [Kept.inc, Kept.clrBits, Kept.foldl]

theorem Kept.setPState (h : Kept m o s) (p : Nat) (st : PState) : Kept m o (s.setPState p st) := h.fields ..

theorem Kept.cfgErr (h : Kept m o s) (p : Nat) : Kept m o (s.cfgErr p) := h.setBits ..

theorem Kept.recountForeign (h : Kept m o s) : Kept m o (s.recountForeign) := by
  unfold State.recountForeign
  grind [Kept.countForeign, Kept.foldl]

theorem Kept.wrQuiesce (h : Kept m o s) (p : Nat) (val : BitVec 32) : Kept m o (s.wrQuiesce p val) := by
  unfold State.wrQuiesce
  grind [Kept.viol, Kept.setField, Kept.setPState, Kept.quiesceSettle]

theorem Kept.wrPtCtrl (h : Kept m o s) (p : Nat) (val : BitVec 32) : Kept m o (s.wrPtCtrl p val) := by
  unfold State.wrPtCtrl
  grind [Kept.wrQuiesce, Kept.cfgErr, Kept.setPState, Kept.setField, Kept.recountForeign, Kept.quiesceSettle, Kept.viol]

theorem Kept.coreLose (h : Kept m o s) (c : Nat) : Kept m o (s.coreLose c) := (h.fields ..).modCore ..

theorem Kept.wrPtResize (h : Kept m o s) (p : Nat) (ce : Bool) (val : Nat) : Kept m o (s.wrPtResize p ce val) := by
  unfold State.wrPtResize
  grind [Kept.setRegN, Kept.viol, Kept.coreLose, Kept.recountForeign, Kept.cfgErr, Kept.foldl]

theorem Kept.wrPtBw (h : Kept m o s) (p : Nat) (v : Nat) : Kept m o (s.wrPtBw p v) := by
  unfold State.wrPtBw
  grind [Kept.cfgErr, Kept.setRegN]

theorem Kept.wrPtFav (h : Kept m o s) (p : Nat) (v : Nat) : Kept m o (s.wrPtFav p v) := by
  unfold State.wrPtFav
  grind [Kept.viol, Kept.setRegN]

theorem Kept.wrRingBase (h : Kept m o s) (p : Nat) (v : Nat) : Kept m o (s.wrRingBase p v) := by
  unfold State.wrRingBase
  grind [Kept.viol, Kept.setPair]

theorem Kept.wrRingCtrl (h : Kept m o s) (p : Nat) (val : BitVec 32) : Kept m o (s.wrRingCtrl p val) := by
  unfold State.wrRingCtrl
  grind [Kept.viol, Kept.setRegN, Kept.fields]

theorem Kept.admitCtx_of {f} (hf : @State.readLoc = f) (hk : ∀ {s} a n w, Kept m o s → Kept m o (f s a n w).2) (h : Kept m o s) (req : Req) (c : Nat)
    :
    Kept m o (s.admitCtx req c) := by
  generalize hg : State.admitCtx = g
  delta State.admitCtx at hg
  rw [hf] at hg
  subst hg
  dsimp -zeta -iota -proj only
  grind [Kept.setRegN, Kept.inc, Kept.fields, Kept.recountForeign]

theorem Kept.admitCtx (h : Kept m o s) (req : Req) (c : Nat) : Kept m o (s.admitCtx req c) :=
    Kept.admitCtx_of rfl (fun _ _ _ h => h.readLoc ..) h req c

theorem Kept.evict (h : Kept m o s) (req : Req) (c : Nat) : Kept m o (s.evict req c) := by
  unfold State.evict
  grind [Kept.setRegN, Kept.fields]

theorem Kept.wrAdmit (h : Kept m o s) (req : Req) (val : BitVec 32) : Kept m o (s.wrAdmit req val) := by
  unfold State.wrAdmit
  grind [Kept.admitCtx, Kept.evict, Kept.viol]

theorem Kept.schedCommit (h : Kept m o s) (val : BitVec 32) : Kept m o (s.schedCommit val) := by
  unfold State.schedCommit
  grind [Kept.viol, Kept.setReg, Kept.fields]

theorem Kept.wrSchedLen (h : Kept m o s) (val : BitVec 32) : Kept m o (s.wrSchedLen val) := by
  unfold State.wrSchedLen
  grind [Kept.viol, Kept.setField]

theorem Kept.setBank (h : Kept m o s) (b : Nat) : Kept m o (s.setBank b) := (h.setField ..).setField ..

theorem Kept.ceTest (h : Kept m o s) (n : Nat) : Kept m o (s.ceTest n) := by
  unfold State.ceTest
  grind [Kept.inc, Kept.setBits]

theorem Kept.entryBegin (h : Kept m o s) (i : Nat) : Kept m o (s.entryBegin i) := by
  unfold State.entryBegin
  grind [Kept.setField, Kept.setRegN, Kept.ceTest, Kept.foldl]

theorem Kept.schedSwitch (h : Kept m o s) : Kept m o (s.schedSwitch) := by
  unfold State.schedSwitch
  grind [Kept.setBits, Kept.setBank]

theorem Kept.schedRun (h : Kept m o s) (run : Bool) : Kept m o (s.schedRun run) := by
  unfold State.schedRun
  grind [Kept.clrBits, Kept.viol, Kept.setBits, Kept.entryBegin]

theorem Kept.wrSchedCtrl (h : Kept m o s) (val : BitVec 32) : Kept m o (s.wrSchedCtrl val) := by
  unfold State.wrSchedCtrl
  grind [Kept.viol, Kept.schedSwitch, Kept.schedRun]

theorem Kept.entryNext (h : Kept m o s) : Kept m o (s.entryNext) := by
  unfold State.entryNext
  grind [Kept.inc, Kept.entryBegin, Kept.clrBits, Kept.setBank, Kept.foldl]

theorem execSchedEntryStart_kept (h : Kept false o s) : OutKept o (execSchedEntryStart s) := .rooted (.when' h.entryNext _ _) _ _

theorem Kept.wrSelftestReq (h : Kept m o s) (m1 : Nat) : Kept m o (s.wrSelftestReq m1) := by
  unfold State.wrSelftestReq
  grind [Kept.ceTest, Kept.foldl]


theorem execCeSelftestEnd_kept (h : Kept false o s) (n : Nat) (pass : Bool) : OutKept o (execCeSelftestEnd n pass s) := by
  unfold execCeSelftestEnd
  grind [OutKept.rooted, OutKept.never, OutKept.next, Kept.clrBits, Kept.setBits, Kept.bump]

theorem Kept.workEnds (h : Kept false o s) (hit : List (Nat × QPkt)) (cs : List Nat) (eng : Nat) (detail : Nat) :
    Kept false o (s.workEnds hit cs eng detail) := by
  unfold State.workEnds
  grind [Kept.modCore, Kept.pktFault, Kept.fieldsMmu, Kept.foldl]

theorem Kept.coresDie (h : Kept false o s) (cs : List Nat) (eng : Nat) (detail : Nat) : Kept false o (s.coresDie cs eng detail) := h.workEnds ..

theorem Kept.fenceCore (h : Kept false o s) (c : Nat) : Kept false o (s.fenceCore c) := by
  unfold State.fenceCore
  grind [Kept.setBits, Kept.coresDie]

theorem Kept.wrRepair (h : Kept false o s) (val : BitVec 32) : Kept false o (s.wrRepair val) := by
  unfold State.wrRepair
  grind [Kept.viol, Kept.setRegN, Kept.fenceCore, Kept.clrBits, Kept.coreLose]

theorem execCoreSelftestEnd_kept (h : Kept false o s) (pass : Bool) : OutKept o (execCoreSelftestEnd pass s) := by
  unfold execCoreSelftestEnd
  grind [OutKept.rooted, Kept.setRegN, Kept.fenceCore, OutKept.never, OutKept.next]

theorem execBwWindowEnd_kept (h : Kept false o s) (mask : BitVec 8) : OutKept o (execBwWindowEnd mask s) := by
  unfold execBwWindowEnd
  grind [OutKept.rooted, Kept.inc, Kept.fields, Kept.foldl, OutKept.next]

theorem Kept.modPwr (h : Kept m o s) (f : Pwr → Pwr) : Kept m o (s.modPwr f) := h.fields ..

theorem Kept.modRst (h : Kept m o s) (f : Rst → Rst) : Kept m o (s.modRst f) := h.fields ..

theorem Kept.modDie (h : Kept m o s) (f : PsdDie → PsdDie) : Kept m o (s.modDie f) := h.fields ..

theorem Kept.modPsd (h : Kept m o s) (f : PsdHio → PsdHio) : Kept m o (s.modPsd f) := h.fields ..

theorem Kept.modMon (h : Kept m o s) (f : Mon → Mon) : Kept m o (s.modMon f) := h.fields ..

theorem Kept.modDoe (h : Kept m o s) (f : Doe → Doe) : Kept m o (s.modDoe f) := h.modRst ..

theorem Kept.drawBytes (h : Kept m o s) (n : Nat) : Kept m o (s.drawBytes n).2 := h.draw

theorem Kept.spdmAnswer (h : Kept m o s) (m1 : List Byte) : Kept m o (s.spdmAnswer m1).2 := by
  unfold State.spdmAnswer
  grind [Kept.modDoe, Kept.drawBytes]

theorem Kept.doeServe (h : Kept m o s) : Kept m o (s.doeServe) := by
  unfold State.doeServe
  grind [Kept.modDoe, Kept.spdmAnswer]

theorem Kept.doeRequest (h : Kept m o s) (typ : Nat) (m1 : List Byte) : ∀ t, s.doeRequest typ m1 = some t → Kept m o t := by
  unfold State.doeRequest
  grind [Kept.modDoe, Kept.doeServe]

theorem Kept.spdmRequest (h : Kept m o s) (code : Nat) (m1 : List Byte) : ∀ t, s.spdmRequest code m1 = some t → Kept m o t := by
  unfold State.spdmRequest
  grind [Kept.doeRequest]

theorem execGetVersion_kept (h : Kept false o s) (msg : List Byte) : OutKept o (execGetVersion msg s) := by
  unfold execGetVersion
  grind [OutKept.rooted, OutKept.orNever, Kept.spdmRequest]

theorem execGetCapabilities_kept (h : Kept false o s) (msg : List Byte) : OutKept o (execGetCapabilities msg s) := by
  unfold execGetCapabilities
  grind [OutKept.rooted, OutKept.orNever, Kept.spdmRequest]

theorem execNegotiateAlgorithms_kept (h : Kept false o s) (msg : List Byte) : OutKept o (execNegotiateAlgorithms msg s) := by
  unfold execNegotiateAlgorithms
  grind [OutKept.rooted, OutKept.orNever, Kept.spdmRequest]

theorem execGetDigests_kept (h : Kept false o s) (msg : List Byte) : OutKept o (execGetDigests msg s) := by
  unfold execGetDigests
  grind [OutKept.rooted, OutKept.orNever, Kept.spdmRequest]

theorem execGetCertificate_kept (h : Kept false o s) (msg : List Byte) : OutKept o (execGetCertificate msg s) := by
  unfold execGetCertificate
  grind [OutKept.rooted, OutKept.orNever, Kept.spdmRequest]

theorem execChallenge_kept (h : Kept false o s) (msg : List Byte) : OutKept o (execChallenge msg s) := by
  unfold execChallenge
  grind [OutKept.rooted, OutKept.orNever, Kept.spdmRequest]

theorem execGetMeasurements_kept (h : Kept false o s) (msg : List Byte) : OutKept o (execGetMeasurements msg s) := by
  unfold execGetMeasurements
  grind [OutKept.rooted, OutKept.orNever, Kept.spdmRequest]

theorem execDoeDiscovery_kept (h : Kept false o s) (index : Nat) : OutKept o (execDoeDiscovery index s) := by
  unfold execDoeDiscovery
  grind [OutKept.rooted, OutKept.orNever, Kept.doeRequest]

theorem Kept.rstLog (h : Kept m o s) (kind : Nat) (detail : Nat) (info : Nat) : Kept m o (s.rstLog kind detail info) := (h.modRst ..).inc ..

theorem Kept.slotInit (h : Kept m o s) (k : Nat) (valid : Bool) (digest : List Byte) : Kept m o (s.slotInit k valid digest) := h.modRst ..

theorem Kept.slotSet (h : Kept m o s) (k : Nat) (digest : List Byte) : Kept m o (s.slotSet k digest) := by
  unfold State.slotSet
  grind [Kept.modRst]

theorem Kept.slotExtend (h : Kept m o s) (k : Nat) (x : List Byte) : Kept m o (s.slotExtend k x) := h.slotSet ..

theorem Kept.modFec (h : Kept m o s) (n : Nat) (f : Fec → Fec) : Kept m o (s.modFec n f) := h.modRst ..

theorem Kept.setStage (h : Kept m o s) (n : Nat) (st : Nat) : Kept m o (s.setStage n st) := (h.setField ..).doeServe

theorem Kept.restartDone (h : Kept m o s) (n : Nat) : Kept m o (s.restartDone n) := (h.inc ..).event ..

theorem Kept.fecStart (h : Kept m o s) (n : Nat) (entry : Nat) : Kept m o (s.fecStart n entry) := ((h.modFec ..).setRegN ..).setStage ..

theorem Kept.fecImage (h : Kept m o s) (n : Nat) (img : List Byte) (boot : Bool) : Kept m o (s.fecImage n img boot) := by
  unfold State.fecImage
  grind [Kept.modFec, Kept.slotInit, Kept.slotExtend, Kept.slotSet]

theorem Kept.waitImage (h : Kept m o s) (n : Nat) : Kept m o (s.waitImage n) := by
  unfold State.waitImage
  grind [Kept.modRst, Kept.setStage]

theorem Kept.flashBegin (h : Kept m o s) (n : Nat) (why : Nat) : Kept m o (s.flashBegin n why).2 := by
  unfold State.flashBegin
  grind [Kept.modFec, Kept.setField, Kept.setStage, Kept.waitImage]

theorem Kept.devImage (h : Kept m o s) (a : Nat) (len : Nat) : Kept m o (s.devImage a len).2 := by
  unfold State.devImage
  grind [Kept.readLoc]

theorem Kept.devLoad (h : Kept m o s) (n : Nat) (a : Nat) (len : Nat) (entry : Nat) : Kept m o (s.devLoad n a len entry) := by
  unfold State.devLoad
  grind [Kept.devImage, Kept.setBits, Kept.fecImage, Kept.fecStart, Kept.waitImage]

theorem Kept.bootNext (h : Kept m o s) : Kept m o (s.bootNext) := by
  unfold State.bootNext
  grind [Kept.flashBegin, Kept.fecStart, Kept.inc]

theorem Kept.fecReload (h : Kept m o s) (n : Nat) (why : Nat) : Kept m o (s.fecReload n why) := by
  unfold State.fecReload
  grind [Kept.modFec, Kept.restartDone, Kept.devLoad, Kept.flashBegin, Kept.bootNext]

theorem Kept.fecWhy (h : Kept m o s) (n : Nat) (why : Nat) : Kept m o (s.fecWhy n why) := (h.setField ..).rstLog ..

theorem Kept.fecRestart (h : Kept m o s) (n : Nat) (why : Nat) : Kept m o (s.fecRestart n why) := by
  unfold State.fecRestart
  grind [Kept.fecWhy, Kept.fecReload, Kept.modFec]

theorem Kept.fecHalt (h : Kept m o s) (n : Nat) (why : Nat) : Kept m o (s.fecHalt n why) := (h.setField ..).setStage ..

theorem Kept.romBegin (h : Kept m o s) : Kept m o s.romBegin := by
  refine Kept.setStage (Kept.setStage ?_ ..) ..
  split
  · exact ((((((((h.slotInit ..).slotInit ..).slotInit ..).slotInit ..).slotInit ..).slotInit ..).slotInit ..).slotInit ..).slotExtend ..
  · exact (((((((h.slotInit ..).slotInit ..).slotInit ..).slotInit ..).slotInit ..).slotInit ..).slotInit ..).slotInit ..

theorem Kept.romFlash (h : Kept m o s) : Kept m o (s.romFlash) := by
  unfold State.romFlash
  grind [Kept.slotInit, Kept.modRst, Kept.flashBegin, Kept.waitImage, Kept.bootNext]

theorem execBootImageLoaded_kept (h : Kept false o s) (n : Nat) : OutKept o (execBootImageLoaded n s) := by
  unfold execBootImageLoaded
  refine .rooted ?_ ..
  split
  · exact .never _
  dsimp only
  split
  · exact .never _
  generalize hx : State.fecImage _ n _ _ = x
  have himg : Kept false o x := by
    rw [← hx]
    refine Kept.fecImage ?_ ..
    split
    · exact (h.setBits ..).rstLog ..
    · exact h
  have hgo (b : Prop) [Decidable b] (e : Nat) : Kept false o (if b then x.modFec 0 (fun f => { f with entry := e, imaged := true }) else x.fecStart n e)
    := by
    split
    · exact himg.modFec ..
    · exact himg.fecStart ..
  exact .next (Kept.bootNext (.either (hgo ..) ((hgo ..).restartDone _)))

theorem Kept.rstResult (h : Kept m o s) (req : Req) (target : Nat) (r : Nat) : Kept m o (s.rstResult req target r) := h.setRegN ..

theorem Kept.wrFecReset (h : Kept m o s) (req : Req) (n : Nat) (load : Bool) : Kept m o (s.wrFecReset req n load) := by
  unfold State.wrFecReset
  grind [Kept.rstResult, Kept.fecRestart, Kept.modFec]

theorem execFecException_kept (h : Kept false o s) (n : Nat) (pc : Nat) (status : Nat) (sp : Nat) (handler : FecHandler) :
    OutKept o (execFecException n pc status sp handler s) := by
  unfold execFecException
  grind [OutKept.rooted, OutKept.never, Kept.modFec, Kept.fecHalt, OutKept.next]

theorem execFecWatchdogExpiry_kept (h : Kept false o s) (n : Nat) : OutKept o (execFecWatchdogExpiry n s) :=
    .rooted (.when' (h.fecRestart ..) _ _) _ _

theorem Kept.wrKick (h : Kept m o s) (req : Req) (val : BitVec 32) : Kept m o (s.wrKick req val) := by
  unfold State.wrKick
  grind [Kept.modFec]

theorem Kept.wrWdt (h : Kept m o s) (n : Nat) (v : Nat) : Kept m o (s.wrWdt n v) := by
  unfold State.wrWdt
  grind [Kept.viol, Kept.setRegN]

theorem Kept.wrFlash (h : Kept m o s) (val : BitVec 32) : Kept m o (s.wrFlash val) := by
  unfold State.wrFlash
  grind [Kept.viol, Kept.setRegN, Kept.flashBegin, Kept.modFec, Kept.restartDone, Kept.foldl]

theorem Kept.apAct (h : Kept m o s) (ap : Nat) : Kept m o (s.apAct ap) := by
  unfold State.apAct
  grind [Kept.launchReq, Kept.wake, Kept.event]

theorem Kept.apEval (h : Kept m o s) (ap : Nat) : Kept m o (s.apEval ap) := by
  unfold State.apEval
  dsimp only
  split
  · exact h
  split
  · exact h
  split
  · exact (((h.setBits ..).inc _).setBits ..).apAct _
  · exact ((h.setBits ..).inc _).clrBits ..

theorem Kept.apConsume (h : Kept m o s) (ap n : Nat) : Kept m o (s.apConsume ap n) := (h.setPair ..).apEval _

theorem Kept.apRefuse (h : Kept m o s) (ap : Nat) : Kept m o (s.apRefuse ap) := (h.setBits ..).viol

theorem Kept.wrApCtrl (h : Kept m o s) (ap : Nat) (val : BitVec 32) : Kept m o (s.wrApCtrl ap val) := by
  unfold State.wrApCtrl
  grind [Kept.setReg, Kept.clrBits, Kept.apEval, Kept.apRefuse, Kept.viol]

theorem Kept.markInv (h : Kept m o s) (b : Nat) (hit : Nat → Nat → Nat → Bool) : Kept m o (s.markInv b hit) := h.fields ..

theorem Kept.unmark (h : Kept m o s) (b : Nat) (hs : Nat → Bool) : Kept m o (s.unmark b hs) := h.fields ..

theorem Kept.cleanRemoved (h : Kept m o s) (gone : Nat → List Tlb) : Kept m o (s.cleanRemoved gone) := by
  unfold State.cleanRemoved
  grind [Kept.l1CleanBy, Kept.foldl]

theorem Kept.invalidate (h : Kept false o s) (b : Nat) (meet : Tlb → Bool) (pmeet : Pwc → Bool) (hit : Nat → Nat → Bool) (cs : Nat → Bool) :
    Kept false o (s.invalidate b meet pmeet hit cs) := by
  unfold State.invalidate
  grind [Kept.cleanRemoved, Kept.markInv, Kept.fieldsMmu]

theorem Kept.setAck (h : Kept m o s) (h1 : Nat) : Kept m o (s.setAck h1) := by
  unfold State.setAck
  grind [Kept.setBits]

theorem Kept.rewalk (h : Kept false o s) (b : Nat) (hs : Nat → Bool) : Kept false o (s.rewalk b hs) := by
  unfold State.rewalk
  grind [Kept.inc, Kept.fieldsMmu, Kept.foldl]

theorem Kept.invSettle (h : Kept false o s) : Kept false o (s.invSettle) := by
  unfold State.invSettle
  grind [Kept.clrBits, Kept.setBits, Kept.inc, Kept.event, Kept.fieldsMmu]

theorem Kept.invGo (h : Kept false o s) (req : Req) : Kept false o (s.invGo req) := by
  unfold State.invGo
  dsimp only
  split
  · exact (h.setBits ..).inc _
  split
  · exact (h.setBits ..).viol
  · exact ((((((((h.fieldsMmu ..).setBits ..).clrBits ..).setField ..).invalidate ..).setRegN ..).setRegN ..)).invSettle

theorem Kept.holderAck (h : Kept false o s) (h1 : Nat) : Kept false o (s.holderAck h1) := ((h.setAck ..).rewalk ..).invSettle

theorem execHolderInvAck_kept (h : Kept false o s) (h1 : Nat) : OutKept o (execHolderInvAck h1 s) := .rooted (.when' (h.holderAck ..) _ _) _ _

theorem Kept.bcast (h : Kept false o s) (req : Req) (val : BitVec 32) : Kept false o (s.bcast req val) := by
  unfold State.bcast
  grind [Kept.inc, Kept.fieldsMmu]

theorem Kept.bcastServe (h : Kept false o s) (b : Nat) : Kept false o (s.bcastServe b) := by
  unfold State.bcastServe
  grind [Kept.invalidate, Kept.fieldsMmu]

theorem execBcastDone_kept (h : Kept false o s) : OutKept o (execBcastDone s) := by
  unfold execBcastDone
  grind [OutKept.rooted, OutKept.when', Kept.rewalk, Kept.inc, Kept.event, Kept.fieldsMmu]

theorem Kept.holderOff (h : Kept false o s) (h1 : Nat) : Kept false o (s.holderOff h1) := by
  have hs := ((h.emptyTlb h1).unmark 0 (· == h1)).unmark 1 (· == h1)
  unfold State.holderOff
  dsimp only
  split
  · exact ((hs.fieldsMmu ..).setAck _).invSettle
  · exact hs.fieldsMmu ..

theorem Kept.wrInvStatus (h : Kept m o s) (req : Req) (val : BitVec 32) : Kept m o (s.wrInvStatus req val) := (h.clrBits ..).clrBits ..

theorem Kept.apFault (h : Kept false o s) (ap : Nat) (c : Nat) (va : Nat) (e : MErr) : Kept false o (s.apFault ap c va e) := by
  unfold State.apFault
  grind [Kept.setBits, Kept.inc, Kept.ctxGen, Kept.abortFrom, Kept.fieldsMmu]

theorem Kept.dropReq (h : Kept m o s) (id : Nat) : Kept m o (s.dropReq id) := h.fields ..

theorem Kept.fabFault (h : Kept false o s) (r : FabReq) (e : MErr) : Kept false o (s.fabFault r e) := by
  have hs (b : Prop) [Decidable b] : Kept false o (if b then (s.dropReq r.id).xltFault r.holder r.ctx r.va e else s.dropReq r.id) := by
    split
    · exact (h.dropReq _).xltFault ..
    · exact h.dropReq _
  unfold State.fabFault
  dsimp only
  split
  · exact (hs _).apFault ..
  · exact (((hs _).fieldsMmu ..).dropLine ..).lineFault ..
  split
  · exact (hs _).pktFault ..
  split
  · exact (hs _).fieldsMmu ..
  · refine Kept.abortFrom (Kept.ctxGen ?_ _) ..
    split
    · exact (hs _).fieldsMmu ..
    · exact hs _

theorem Kept.fabFaultAll (h : Kept false o s) (sel : FabReq → Bool) (e : MErr) : Kept false o (s.fabFaultAll sel e) := by
  unfold State.fabFaultAll
  grind [Kept.fabFault, Kept.foldl]

theorem Kept.groupAbort (h : Kept false o s) (c : Nat) (cause : Nat) (detail : Nat) (va : Nat) (first : Bool) (send : Bool) :
    Kept false o (s.groupAbort c cause detail va first send) := by
  unfold State.groupAbort
  grind [Kept.ctxGen, Kept.setLost, Kept.onion, Kept.noteLoss, Kept.abortJob, Kept.abortSend, Kept.foldl]

theorem Kept.leaveRun_of {f} (hf : State.memberRead = f) (hk : ∀ {s} c g i, Kept false o s → Kept false o (f s c g i).2) (h : Kept false o s)
    (c node n k : Nat) :
    Kept false o (s.leaveRun c node n k) := by
  generalize hg : State.leaveRun = g
  delta State.leaveRun State.leaveRun._f at hg
  rw [hf] at hg
  subst hg
  induction k generalizing s with
  | zero => exact h
  | succ k ih =>
    unfold Nat.brecOn Nat.brecOn.go
    dsimp only
    split
    · exact h
    · next g _ =>
      have ht := hk c g (n - (k + 1)) h
      split
      · next hv =>
        split
        · exact (h.waits_getD _).fieldsMmu ..
        · exact ((ht.snd hv).ctxGen c).abortFrom ..
      · next hv =>
        split
        · exact (ht.snd hv).groupAbort ..
        · exact ih (ht.snd hv)

theorem Kept.leaveRun (h : Kept false o s) (c node n k : Nat) : Kept false o (s.leaveRun c node n k) :=
    Kept.leaveRun_of rfl (fun _ _ _ h => h.memberRead ..) h ..

theorem Kept.fabJobsRun (h : Kept false o s) : Kept false o (s.fabJobsRun) := by
  unfold State.fabJobsRun
  grind [Kept.abortRun, Kept.leaveRun, Kept.fieldsMmu, Kept.foldl]

theorem Kept.setRoute (h : Kept m o s) (n : Nat) (v : BitVec 32) : Kept m o (s.setRoute n v) := h.fields ..

theorem Kept.fabLeave (h : Kept false o s) (node : Nat) : Kept false o (s.fabLeave node) := by
  unfold State.fabLeave
  grind [Kept.setRoute, Kept.leaveRun, Kept.fabFaultAll, Kept.foldl]

theorem Kept.fabLost (h : Kept false o s) : Kept false o (s.fabLost) := by
  unfold State.fabLost
  grind [Kept.fabFaultAll, Kept.groupAbort, Kept.foldl]

theorem Kept.wrNodeId (h : Kept m o s) (val : BitVec 32) : Kept m o (s.wrNodeId val) := by
  unfold State.wrNodeId
  grind [Kept.viol, Kept.setReg]

theorem Kept.wrRespTimeout (h : Kept m o s) (v : Nat) : Kept m o (s.wrRespTimeout v) := by
  unfold State.wrRespTimeout
  grind [Kept.viol, Kept.setRegN]

theorem Kept.wrRoute (h : Kept m o s) (val : BitVec 32) : Kept m o (s.wrRoute val) := h.setRoute ..

theorem Kept.wrWin (h : Kept m o s) (val : BitVec 32) : Kept m o (s.wrWin val) := by
  unfold State.wrWin
  grind [Kept.setBits, Kept.viol, Kept.setReg, Kept.fields]

theorem Kept.wrGrpData (h : Kept m o s) (i : Nat) (val : BitVec 32) : Kept m o (s.wrGrpData i val) := by
  unfold State.wrGrpData
  grind [Kept.viol, Kept.setReg]

theorem Kept.wrGrp (h : Kept m o s) (val : BitVec 32) : Kept m o (s.wrGrp val) := by
  unfold State.wrGrp
  grind [Kept.viol, Kept.setBits, Kept.setReg, Kept.fields]

theorem Kept.portLost (h : Kept false o s) (p : Nat) : Kept false o (s.portLost p) := by
  unfold State.portLost
  grind [Kept.setRegN, Kept.inc, Kept.fabFaultAll]

theorem Kept.wrPortCtrl (h : Kept false o s) (p : Nat) (val : BitVec 32) : Kept false o (s.wrPortCtrl p val) := by
  unfold State.wrPortCtrl
  grind [Kept.setReg, Kept.setRegN, Kept.portLost]

theorem Kept.wrCrcCtrl (h : Kept m o s) (u : Nat) (val : BitVec 32) : Kept m o (s.wrCrcCtrl u val) := by
  unfold State.wrCrcCtrl
  grind [Kept.viol, Kept.setReg, Kept.setBits, Kept.fields]

theorem Kept.wrFrameBytes (h : Kept m o s) (u : Nat) (val : BitVec 32) : Kept m o (s.wrFrameBytes u val) := by
  unfold State.wrFrameBytes
  grind [Kept.viol, Kept.setReg]

theorem execCrcFrameCompare_kept (h : Kept false o s) (unit : Nat) : OutKept o (execCrcFrameCompare unit s) := by
  unfold execCrcFrameCompare
  grind [OutKept.rooted, Kept.crcCompare, OutKept.never, Kept.fields, OutKept.next]

theorem Kept.crcOff (h : Kept m o s) : Kept m o (s.crcOff) := by
  unfold State.crcOff
  grind [Kept.clrBits, Kept.fields, Kept.foldl]

end
end Sys2Proof.Machine
end

section
/-! What the step keeps, function by function (7 of 8): the guard, power, resets and the pack. -/

namespace Sys2Proof.Machine
section
-- One lemma after another: side by side `grind` would keep a thread waiting for every lemma it names.
set_option Elab.async false

variable {m : Bool} {o s : State}

theorem Kept.setStale (h : Kept m o s) (b : Bool) : Kept m o (s.setStale b) := h.setField ..

theorem Kept.gloadGo (h : Kept false o s) (w : RemWho) (off : Nat) (l : List (Nat × Nat)) : Kept false o (s.gloadGo w off l).2 := by
  induction l generalizing s off with
  | nil => exact h
  | cons a t ih =>
    unfold State.gloadGo
    split
    · next hv => exact (h.vread ..).snd hv
    · next hv => exact ih (((h.vread ..).snd hv).sramWrite2 ..) _

theorem execGload_kept (h : Kept false o s) : OutKept o (execGload s) := by
  unfold execGload
  refine .rooted ?_ ..
  split
  · exact .never _
  next p t ht =>
  have ht := h.start _ _ _ _ ht
  dsimp only
  split
  · exact .next (ht.pktBad ..)
  split
  · next hv => exact .next (((ht.gloadGo ..).snd hv).finish52 ..)
  · next hv => exact h.waitOr_ite (((ht.gloadGo ..).snd hv).pktVErr ..) _

theorem execGstore_kept (h : Kept false o s) : OutKept o (execGstore s) := by
  unfold execGstore
  refine .rooted ?_ ..
  split
  · exact .never _
  next p t ht =>
  have ht := h.start _ _ _ _ ht
  dsimp only
  split
  · exact .next (ht.pktBad ..)
  split
  · next hv => exact .next ((((ht.sramRead2 ..).vwrite ..).snd hv).finish52 ..)
  · next hv => exact h.waitOr_ite ((((ht.sramRead2 ..).vwrite ..).snd hv).pktVErr ..) _

theorem execArmPacket_kept (h : Kept false o s) : OutKept o (execArmPacket s) := by
  unfold execArmPacket
  refine .rooted ?_ ..
  split
  · exact .never _
  next p t ht =>
  have ht := h.start _ _ _ _ ht
  dsimp only
  split
  · exact .next (ht.pktBad ..)
  split
  · exact .next (ht.fieldsMmu ..)
  · exact .next (Kept.tryArm (fun _ => id) ht ..)

theorem execDisarmPacket_kept (h : Kept false o s) : OutKept o (execDisarmPacket s) := by
  unfold execDisarmPacket
  refine .rooted ?_ ..
  split
  · exact .never _
  next p t ht =>
  have ht := h.start _ _ _ _ ht
  split
  · exact .next (ht.fieldsMmu ..)
  · exact .next (ht.disarm.finish52 ..)

theorem execGuardSelftest_kept (h : Kept false o s) : OutKept o (execGuardSelftest s) := by
  unfold execGuardSelftest
  refine .rooted ?_ ..
  split
  · exact .never _
  next p t ht =>
  have ht := h.start _ _ _ _ ht
  split
  · exact .next (ht.beginTest _)
  split
  · exact .next (ht.fieldsMmu ..)
  · exact .next (ht.skipTest _)

theorem execArmComplete_kept (h : Kept false o s) : OutKept o (execArmComplete s) := by
  unfold execArmComplete
  refine .rooted ?_ ..
  split
  · split
    · exact .next (((((h.fieldsMmu ..).setWarm _).finish52 ..).enterIdle).settlePin)
    · exact .never _
  · exact .never _

theorem Kept.wrGdWake (h : Kept m o s) (val : BitVec 32) : Kept m o (s.wrGdWake val) := by
  unfold State.wrGdWake
  grind [Kept.wake]

theorem Kept.runVerdict (h : Kept m o s) (raw conf payload cycles : Nat) : Kept m o (s.runVerdict raw conf payload cycles) := by
  have hs (w : Nat) : Kept m o (((s.setWarm w).setStale false).inc R.GD_VERDICT_COUNT) := ((h.setWarm _).setStale _).inc _
  unfold State.runVerdict
  dsimp only
  refine Kept.afterPublish (Kept.settlePin ?_)
  have hp (b : Prop) [Decidable b] (t : State) (ht : Kept m o t) (st a : Nat) :
    Kept m o ((if b then t.setRegN R.GD_MAX_RUN_CYCLES cycles else t).publish st payload cycles a) := by
    refine Kept.publish ?_ ..
    split
    · exact ht.setRegN ..
    · exact ht
  split
  · split
    · exact hp _ _ ((hs _).fields ..) ..
    · exact (hp _ _ ((hs _).fields ..) ..).apConsume ..
  · exact hp _ _ ((hs _).fields ..) ..

theorem execVerdict_kept (h : Kept false o s) (r : PodRef) (i : Ins) : OutKept o (execVerdict r i s) := by
  unfold execVerdict
  refine issue_kept (fun t p e ht => ?_) h ..
  grind [BodyKept, Kept.cycles, Kept.guardFault, Kept.runVerdict]

theorem execBoundExceeded_kept (h : Kept false o s) : OutKept o (execBoundExceeded s) := .rooted (.when' (h.guardFault ..) _ _) _ _

theorem Kept.testAtPublication (h : Kept m o s) : Kept m o (s.testAtPublication) := by
  unfold State.testAtPublication
  grind [Kept.beginTest]

theorem execStaleExpiry_kept (h : Kept false o s) : OutKept o (execStaleExpiry s) := by
  unfold execStaleExpiry
  refine .rooted (.when' ?_ ..) ..
  exact (((((((h.fieldsMmu ..).setStale _).setWarm _).draw).publish ..).inc _).event ..).settlePin.testAtPublication

theorem Kept.enterFailed (h : Kept m o s) : Kept m o (s.enterFailed) := by
  unfold State.enterFailed
  grind [Kept.setG, Kept.settlePin, Kept.beginTest, Kept.fields]

theorem Kept.restartIdle (h : Kept m o s) : Kept m o (s.restartIdle) := by
  unfold State.restartIdle
  grind [Kept.skipTest, Kept.enterIdle, Kept.settlePin, Kept.fields]

theorem execRestartEnd_kept (h : Kept false o s) : OutKept o (execRestartEnd s) := by
  unfold execRestartEnd
  refine .rooted ?_ ..
  split
  · exact .never _
  next hdr _ =>
  have hs := ((((h.codeCrc hdr).sramZero hdr.stateOff hdr.stateSize).inc R.GD_RESTART_COUNT).event 1 [tagGF]).setWarm 0
  refine .when' ?_ ..
  dsimp only
  split
  · exact hs.restartIdle
  · exact ((hs.guardOnion ..).fieldsMmu ..).enterFailed

theorem execGuardSelftestEnd_kept (h : Kept false o s) (pass : Bool) : OutKept o (execGuardSelftestEnd pass s) := by
  unfold execGuardSelftestEnd
  refine .rooted ?_ ..
  split
  · exact .never _
  dsimp only
  split
  · exact .next ((((((h.fieldsMmu ..).clrBits ..).finish52 ..).setBits ..).guardOnion ..).enterFailed)
  split
  · exact .next ((((((((h.fieldsMmu ..).clrBits ..).finish52 ..).setBits ..).setPendingWake _).setBits ..).inc _).runStart _)
  · exact .next ((((h.fieldsMmu ..).clrBits ..).finish52 ..).setBits ..)

theorem execGuardClkLoss_kept (h : Kept false o s) : OutKept o (execGuardClkLoss s) := .next (h.fields ..).settlePin

theorem Kept.wrGdConfig (h : Kept m o s) (off : Nat) (val : Nat) (low : Nat) : Kept m o (s.wrGdConfig off val low) := by
  unfold State.wrGdConfig
  grind [Kept.setRegN, Kept.viol]

theorem Kept.wrGdRing (h : Kept m o s) (val : BitVec 32) : Kept m o (s.wrGdRing val) := by
  unfold State.wrGdRing
  grind [Kept.viol, Kept.setReg]

theorem Kept.pwrEvt (h : Kept m o s) (i : Nat) : Kept m o (s.pwrEvt i) := (h.setBits ..).event ..

theorem Kept.ppEnd (h : Kept m o s) : Kept m o (s.ppEnd) := ((h.modPwr ..).inc ..).pwrEvt ..

theorem Kept.ppBusy (h : Kept m o s) : Kept m o (s.ppBusy) := h.setField ..

theorem Kept.ppKick (h : Kept m o s) : Kept m o (s.ppKick) := by
  unfold State.ppKick
  grind [Kept.ppBusy, Kept.modPwr, Kept.pwrEvt, Kept.ppEnd]

theorem Kept.ppEval (h : Kept m o s) (cap : Option Nat) : Kept m o (s.ppEval cap) := by
  unfold State.ppEval
  grind [Kept.setField, Kept.inc, Kept.modPwr, Kept.ppEnd, Kept.ppKick]

theorem Kept.wrPpReq (h : Kept m o s) (v : Nat) : Kept m o (s.wrPpReq v) := by
  unfold State.wrPpReq
  grind [Kept.viol, Kept.setRegN, Kept.ppEval]

theorem Kept.wrThrottle (h : Kept m o s) (v : Nat) : Kept m o (s.wrThrottle v) := by
  unfold State.wrThrottle
  grind [Kept.viol, Kept.setRegN, Kept.ppEval]

theorem Kept.wrVsettle (h : Kept m o s) (v : Nat) : Kept m o (s.wrVsettle v) := by
  unfold State.wrVsettle
  grind [Kept.viol, Kept.setRegN]

theorem execPmbusWriteComplete_kept (h : Kept false o s) : OutKept o (execPmbusWriteComplete s) := by
  unfold execPmbusWriteComplete
  grind [OutKept.never, Kept.modPwr, Kept.ppKick, Kept.ppEnd, Kept.ppBusy, OutKept.next]

theorem execPmbusFail_kept (h : Kept false o s) (mode : Bool) : OutKept o (execPmbusFail mode s) := by
  unfold execPmbusFail
  grind [OutKept.never, Kept.modPwr, Kept.pwrEvt, Kept.ppKick, Kept.ppEnd, OutKept.next]

theorem execVsettleExpiry_kept (h : Kept false o s) : OutKept o (execVsettleExpiry s) := by
  unfold execVsettleExpiry
  grind [OutKept.never, Kept.setField, Kept.ppEnd, Kept.ppKick, OutKept.next]

theorem Kept.rootUnlock (h : Kept m o s) : Kept m o (s.rootUnlock) := ((h.clrBits ..).inc ..).pwrEvt ..

theorem execRootUnlock_kept (h : Kept false o s) : OutKept o (execRootUnlock s) := .when' h.rootUnlock _ _

theorem execRootRelock_kept (h : Kept false o s) : OutKept o (execRootRelock s) := .when' (h.setBits ..) _ _

theorem Kept.setTier (h : Kept m o s) (t : Nat) (lost : Bool) : Kept m o (s.setTier t lost) := by
  unfold State.setTier
  grind [Kept.setRegN, Kept.inc, Kept.pwrEvt, Kept.ppEval]

theorem Kept.domRegs (h : Kept m o s) (d : Nat) (save : Bool) : Kept m o (s.domRegs d save) := h.clearRegs ..

theorem Kept.setLink (h : Kept m o s) (l : Nat × Nat) : Kept m o (s.setLink l) := by
  unfold State.setLink
  grind [Kept.setField]

theorem Kept.settleOnly (h : Kept m o s) : Kept m o (s.settleOnly) := by
  unfold State.settleOnly
  grind [Kept.setField, Kept.setLink]

theorem Kept.newLoss (h : Kept m o s) : Kept m o (s.newLoss).2 := h.fields ..

theorem Kept.holdersOff (h : Kept false o s) (d : Nat) : Kept false o (s.holdersOff d) := by
  unfold State.holdersOff
  grind [Kept.holderOff, Kept.foldl]

theorem Kept.coreOff (h : Kept m o s) (c : Nat) (keep : Nat) : Kept m o (s.coreOff c keep) := (h.l1CleanBy ..).newLoss.modCore ..

theorem Kept.leaveCl (h : Kept false o s) (n : Nat) (keep : Nat) : Kept false o (s.leaveCl n keep) := by
  unfold State.leaveCl
  grind [Kept.workEnds, Kept.coreOff, Kept.fieldsMmu, Kept.foldl]

theorem Kept.leaveGd (h : Kept false o s) (keep : Nat) : Kept false o (s.leaveGd keep) := by
  unfold State.leaveGd
  grind [Kept.pktFault, Kept.disarm, Kept.newLoss, Kept.fieldsMmu, Kept.foldl]

theorem Kept.leaveRt (h : Kept false o s) : Kept false o (s.leaveRt) := by
  unfold State.leaveRt
  grind [Kept.pktFault, Kept.fieldsMmu, Kept.foldl]

theorem Kept.leaveCe (h : Kept false o s) : Kept false o (s.leaveCe) := by
  unfold State.leaveCe
  grind [Kept.pktFault, Kept.crcOff, Kept.clrBits, Kept.fieldsMmu, Kept.foldl]

theorem Kept.leaveBn (h : Kept false o s) : Kept false o (s.leaveBn) := by
  unfold State.leaveBn
  grind [Kept.pktFault, Kept.fieldsMmu]

theorem Kept.leaveMem (h : Kept m o s) (k : Nat) : Kept m o (s.leaveMem k) := (h.flushStack ..).newLoss.fields ..

theorem Kept.leaveFec (h : Kept m o s) : Kept m o (s.leaveFec) := by
  unfold State.leaveFec
  grind [Kept.newLoss, Kept.modRst, Kept.setStage]

theorem Kept.leaveHm (h : Kept false o s) : Kept false o (s.leaveHm) := by
  unfold State.leaveHm
  grind [Kept.workEnds, Kept.launchFault, Kept.foldl]

theorem Kept.leaveFab (h : Kept false o s) : Kept false o (s.leaveFab) := (h.setDom ..).fabLost.fieldsMmu ..

theorem Kept.leave (h : Kept false o s) (d : Nat) (target : Nat) : Kept false o (s.leave d target) := by
  unfold State.leave
  grind [Kept.leaveGd, Kept.leaveCl, Kept.leaveBn, Kept.leaveRt, Kept.leaveCe, Kept.leaveFec, Kept.leaveHm, Kept.leaveFab, Kept.leaveMem,
    Kept.holdersOff, Kept.domRegs]

theorem Kept.goneL2n (h : Kept false o s) : Kept false o (s.goneL2n) := by
  unfold State.goneL2n
  grind [Kept.flushL2, Kept.holdersOff, Kept.domRegs, Kept.fieldsMmu]

theorem Kept.hmReset (h : Kept false o s) : Kept false o s.hmReset := h.noStage.fieldsMmu ..

theorem Kept.goneHm (h : Kept false o s) (target : Nat) : Kept false o (s.goneHm target) := by
  unfold State.goneHm
  grind [Kept.holdersOff, Kept.domRegs, Kept.hmReset, Kept.fieldsMmu]

theorem Kept.setImage (h : Kept m o s) (d : Nat) (v : Bool) : Kept m o (s.setImage d v) := h.setField ..

theorem Kept.enterOff (h : Kept m o s) (d : Nat) : Kept m o (s.enterOff d) := by
  unfold State.enterOff
  grind [Kept.setDom, Kept.setImage, Kept.modPwr, Kept.newLoss, Kept.modCore, Kept.fields, Kept.foldl]

theorem Kept.arrive (h : Kept m o s) (d : Nat) (left : Nat) (linkUp : Bool) : Kept m o (s.arrive d left linkUp) := by
  unfold State.arrive
  grind [Kept.setDom, Kept.domRegs, Kept.setBits, Kept.lateEvents, Kept.fecReload, Kept.romBegin, Kept.romFlash]

theorem Kept.sensorsOff (h : Kept m o s) : Kept m o (s.sensorsOff) := by
  unfold State.sensorsOff
  grind [Kept.clrBits, Kept.modPwr, Kept.ppEval, Kept.foldl]

theorem Kept.startMove (h : Kept false o s) (d : Nat) (target : Nat) (req : Option Nat) : Kept false o (s.startMove d target req) := by
  unfold State.startMove
  grind [Kept.clrBits, Kept.leave, Kept.modPwr, Kept.setDom, Kept.settleOnly, Kept.settlePin]

theorem Kept.aoSwitch (h : Kept m o s) (lp : Bool) : Kept m o (s.aoSwitch lp) := (h.setField ..).setField ..

theorem Kept.hmReturn (h : Kept false o s) : Kept false o (s.hmReturn) := by
  unfold State.hmReturn
  grind [Kept.modPwr, Kept.aoSwitch, Kept.startMove]

theorem Kept.critRecover (h : Kept false o s) : Kept false o (s.critRecover) := by
  unfold State.critRecover
  grind [Kept.modPwr, Kept.hmReturn]

theorem Kept.critBegin (h : Kept false o s) : Kept false o (s.critBegin) := by
  unfold State.critBegin
  grind [Kept.leave, Kept.setDom, Kept.modPwr, Kept.settleOnly, Kept.settlePin, Kept.foldl]

theorem Kept.gdLimit (h : Kept false o s) : Kept false o (s.gdLimit) := by
  unfold State.gdLimit
  grind [Kept.leave, Kept.enterOff, Kept.settlePin]

theorem Kept.wakeShow (h : Kept m o s) : Kept m o (s.wakeShow) := by
  unfold State.wakeShow
  grind [Kept.modPwr, Kept.setRegN, Kept.pwrEvt]

theorem Kept.afterMove (h : Kept false o s) : Kept false o s.afterMove := by
  have hs := (h.settleOnly.sensorsOff.settlePin).gdLimit.wakeShow
  unfold State.afterMove
  dsimp only
  split
  · exact hs.critBegin
  grind [Kept.clrBits, Kept.aoSwitch, Kept.hmReturn, Kept.critRecover]

theorem Kept.wrDcmd (h : Kept false o s) (req : Req) (val : BitVec 32) : Kept false o (s.wrDcmd req val) := by
  unfold State.wrDcmd
  grind [Kept.setRegN, Kept.inc, Kept.viol, Kept.startMove]

theorem execDomainTransitionDone_kept (h : Kept false o s) (linkUp : Bool) : OutKept o (execDomainTransitionDone linkUp s) := by
  unfold execDomainTransitionDone
  split
  · exact .never _
  split
  · exact .never _
  refine .next (Kept.afterMove ?_)
  grind [Kept.goneL2n, Kept.modPwr, Kept.goneHm, Kept.enterOff, Kept.arrive, Kept.setDom, Kept.clrBits, Kept.inc, Kept.pwrEvt]

theorem execCritShutdownDone_kept (h : Kept false o s) : OutKept o (execCritShutdownDone s) := by
  unfold execCritShutdownDone
  split
  · exact .never _
  dsimp only
  have hs (b : Prop) [Decidable b] (l : List Nat) (f : Pwr → Pwr) :
      Kept false o ((l.foldl (fun s k => (s.leaveMem k).holdersOff (D.MEM + k)) (if b then s.goneL2n else s)).modPwr f) :=
    Kept.modPwr (Kept.foldl _ (fun s k h => (h.leaveMem k).holdersOff _) (.either h.goneL2n h)) _
  generalize hx : State.modPwr _ _ = x
  have hx : Kept false o x := hx ▸ hs ..
  refine .next (Kept.afterMove (Kept.pwrEvt (Kept.inc (Kept.foldl _ (fun s d h => ?_) (Kept.either ?_ ?_)) _) _))
  · exact h.enterOff _
  · exact hx.goneHm _
  · exact hx

theorem Kept.wrAoreg (h : Kept m o s) (val : BitVec 32) : Kept m o (s.wrAoreg val) := by
  unfold State.wrAoreg
  grind [Kept.setField, Kept.aoSwitch, Kept.inc]

theorem Kept.lpWake (h : Kept false o s) (i : Nat) : Kept false o (s.lpWake i) := by
  unfold State.lpWake
  grind [Kept.aoSwitch, Kept.modPwr, Kept.hmReturn]

theorem execWakeTimerExpiry_kept (h : Kept false o s) : OutKept o (execWakeTimerExpiry s) := .when' (h.lpWake ..) _ _

theorem Kept.sample (h : Kept m o s) (n : Nat) (raw : BitVec 16) : Kept m o (s.sample n raw) := by
  unfold State.sample
  grind [Kept.setRegN, Kept.modPwr]

theorem execThermalSample_kept (h : Kept false o s) (raws : List (BitVec 16)) : OutKept o (execThermalSample raws s) := by
  unfold execThermalSample
  grind [OutKept.never, Kept.sample, Kept.foldl, OutKept.next]

theorem Kept.levelTo (h : Kept false o s) (n k : Nat) (up : Bool) : Kept false o (s.levelTo n k up) := by
  unfold State.levelTo
  dsimp only
  generalize hu : State.modPwr (State.inc _ _) _ = u
  have hu : Kept false o u := by
    rw [← hu]
    exact ((((h.setField ..).setBits ..).setBits ..).inc _).modPwr _
  have hx : Kept false o (if up = true then u.pwrEvt 3 else u) := .either (hu.pwrEvt _) hu
  split
  · exact hx.ppEval _
  · exact .either hx.critRecover (.either hx (.either (hx.modPwr _) hx.critBegin))
  · exact .either (hx.gdLimit.pwrEvt 5) hx
  · exact hx

theorem execThermalLevelUp_kept (h : Kept false o s) (sensor : Nat) (thr : Nat) : OutKept o (execThermalLevelUp sensor thr s) :=
    .when' (h.levelTo ..) _ _

theorem execThermalLevelDown_kept (h : Kept false o s) (sensor : Nat) (thr : Nat) : OutKept o (execThermalLevelDown sensor thr s) :=
    .when' (h.levelTo ..) _ _

theorem Kept.monReset (h : Kept m o s) : Kept m o (s.monReset) := (h.modMon ..).setRegN ..

theorem Kept.fecsReset (h : Kept m o s) (lose : Bool) : Kept m o (s.fecsReset lose) := by
  unfold State.fecsReset
  grind [Kept.newLoss, Kept.modRst, Kept.setRegN]

theorem Kept.engineReset (h : Kept false o s) (lose : Bool) : Kept false o (s.engineReset lose) := (h.newLoss).noStage.fieldsMmu ..

theorem Kept.coldBegin (h : Kept false o s) : Kept false o s.coldBegin :=
  ((((h.engineReset true).newLoss.fieldsMmu ..).clearRegs _).fecsReset _).monReset

theorem Kept.warmBegin (h : Kept false o s) : Kept false o s.warmBegin :=
  ((((((h.engineReset false).flushL2.fieldsMmu ..).clearRegs _).setRegN ..).fecsReset _).monReset).settleOnly

theorem Kept.coldBoot (h : Kept m o s) : Kept m o s.coldBoot := by
  unfold State.coldBoot
  dsimp only
  refine Kept.ppBusy (Kept.romFlash (Kept.modPwr ?_ _))
  generalize hx : List.foldl _ _ _ = x
  have hx : Kept m o x := by
    rw [← hx]
    refine Kept.foldl _ (fun s k h => .either ((h.setBits ..).setDom ..) (h.setBits ..)) ?_
    exact (((((((h.setBits ..).setBits ..).fields ..).setDom ..).setDom ..).romBegin).setDom ..)
  exact .either ((Kept.either (hx.setBits ..) hx).setDom ..) hx

theorem Kept.warmBoot (h : Kept m o s) : Kept m o (s.warmBoot) := by
  unfold State.warmBoot
  grind [Kept.romBegin, Kept.romFlash]

theorem Kept.resetBegin (h : Kept false o s) (cls : Nat) (src : Nat) : Kept false o (s.resetBegin cls src) := by
  unfold State.resetBegin
  grind [Kept.coldBegin, Kept.warmBegin, Kept.setRegN, Kept.rstLog, Kept.modRst]

theorem Kept.resetMerge (h : Kept m o s) (src : Nat) : Kept m o (s.resetMerge src) := (h.setBits ..).rstLog ..

theorem Kept.resetEnd (h : Kept m o s) : Kept m o (s.resetEnd) := by
  unfold State.resetEnd
  grind [Kept.modRst, Kept.warmBoot, Kept.coldBoot]

theorem Kept.resetReq (h : Kept false o s) (cls : Nat) (src : Nat) : Kept false o (s.resetReq cls src) := by
  unfold State.resetReq
  grind [Kept.resetBegin, Kept.resetMerge]

theorem Kept.wrRstCtrl (h : Kept false o s) (val : BitVec 32) : Kept false o (s.wrRstCtrl val) := by
  unfold State.wrRstCtrl
  grind [Kept.resetReq, Kept.resetEnd]

theorem Kept.aoPor (h : Kept false o s) (perst : Bool) : Kept false o (s.aoPor perst) :=
  (((h.coldBegin).noRegs.fieldsMmu ..).monReset.rstLog ..).resetEnd

theorem execAoPowerOn_kept (h : Kept false o s) (perst : Bool) (bad : List Nat) : OutKept o (execAoPowerOn perst bad s) :=
    .when' ((h.modPwr ..).aoPor ..) _ _

theorem execPerstAssert_kept (h : Kept false o s) : OutKept o (execPerstAssert s) := by
  unfold execPerstAssert
  grind [OutKept.never, Kept.modRst, Kept.resetReq, Kept.modPwr, OutKept.next]

theorem execPerstRelease_kept (h : Kept false o s) (bad : List Nat) : OutKept o (execPerstRelease bad s) := by
  unfold execPerstRelease
  grind [OutKept.never, Kept.modRst, Kept.modPwr, Kept.resetEnd, Kept.setRegN, Kept.pwrEvt, OutKept.next]

theorem execResetNPress_kept (h : Kept false o s) : OutKept o (execResetNPress s) := by
  unfold execResetNPress
  grind [OutKept.never, Kept.modRst, Kept.setRegN, Kept.setBits, Kept.resetReq, OutKept.next]

theorem execResetNGlitch_kept (h : Kept false o s) : OutKept o (execResetNGlitch s) := .when' (h.inc ..) _ _

theorem execResetNRelease_kept (h : Kept false o s) (bad : List Nat) : OutKept o (execResetNRelease bad s) := by
  unfold execResetNRelease
  grind [OutKept.never, Kept.modRst, Kept.modPwr, Kept.clrBits, Kept.resetEnd, OutKept.next]

theorem Kept.holdTo (h : Kept m o s) (ms : Nat) : Kept m o (s.holdTo ms) := (h.modRst ..).setRegN ..

theorem execResetEscalate_kept (h : Kept false o s) : OutKept o (execResetEscalate s) := .when' (((h.holdTo ..).modRst ..).resetReq ..) _ _

theorem execResetStuck_kept (h : Kept false o s) : OutKept o (execResetStuck s) :=
  .when' (((((h.holdTo ..).modRst _).setBits ..).rstLog ..).inc _) ..

theorem Kept.cfgReset (h : Kept m o s) (flr : Bool) : Kept m o (s.cfgReset flr) := h.fields ..

theorem Kept.linkGone (h : Kept m o s) : Kept m o (s.linkGone) := (h.setRegN ..).fields ..

theorem execFunctionLevelReset_kept (h : Kept false o s) : OutKept o (execFunctionLevelReset s) := .when' ((h.resetReq ..).cfgReset ..).resetEnd _ _

theorem execHotReset_kept (h : Kept false o s) : OutKept o (execHotReset s) := by
  unfold execHotReset
  grind [OutKept.when', Kept.resetReq, Kept.cfgReset, Kept.linkGone, Kept.resetEnd]

theorem execLinkDown_kept (h : Kept false o s) : OutKept o (execLinkDown s) := by
  unfold execLinkDown
  grind [OutKept.when', Kept.resetReq, Kept.cfgReset, Kept.linkGone, Kept.resetEnd]

theorem Kept.wrPreset (h : Kept false o s) (req : Req) (p : Nat) : Kept false o (s.wrPreset req p) := by
  unfold State.wrPreset
  grind [Kept.rstResult, Kept.newLoss, Kept.l1CleanBy, Kept.modCore, Kept.emptyTlb, Kept.rstLog, Kept.foldl]

theorem Kept.wrEreset (h : Kept false o s) (req : Req) (e : Nat) (load : Bool) : Kept false o (s.wrEreset req e load) := by
  unfold State.wrEreset
  grind [Kept.wrFecReset, Kept.rstResult, Kept.viol, Kept.emptyTlb, Kept.rstLog, Kept.fieldsMmu]

theorem Kept.haltRestart (h : Kept m o s) (n : Nat) : ∀ t, s.haltRestart n = some t → Kept m o t := by
  unfold State.haltRestart
  grind [Kept.fecRestart]

theorem execRefclkLoss_kept (h : Kept false o s) : OutKept o (execRefclkLoss s) := by
  unfold execRefclkLoss
  grind [OutKept.never, Kept.modPwr, Kept.rootUnlock, Kept.settlePin, OutKept.next]

theorem execRefclkReturn_kept (h : Kept false o s) : OutKept o (execRefclkReturn s) := .when' (h.modPwr ..).settlePin _ _

theorem execAoSupplyLoss_kept (h : Kept false o s) : OutKept o (execAoSupplyLoss s) := .when' ((h.modPwr ..).fields ..) _ _

theorem execConversionCycle_kept (h : Kept false o s) (cells : List Nat) (ntc : List Nat) : OutKept o (execConversionCycle cells ntc s) := by
  unfold execConversionCycle
  grind [OutKept.never, Kept.modDie, OutKept.next]

theorem execOvLevelChange_kept (h : Kept false o s) (cell : Nat) : OutKept o (execOvLevelChange cell s) := .when' (h.modDie ..) _ _

theorem execUvLevelChange_kept (h : Kept false o s) (cell : Nat) : OutKept o (execUvLevelChange cell s) := .when' (h.modDie ..) _ _

theorem execNtcLevelChange_kept (h : Kept false o s) (m1 : Nat) (ut : Bool) : OutKept o (execNtcLevelChange m1 ut s) := .when' (h.modDie ..) _ _

theorem execSettlingEnd_kept (h : Kept false o s) : OutKept o (execSettlingEnd s) := .when' (h.modDie ..) _ _

theorem execTierDecision_kept (h : Kept false o s) : OutKept o (execTierDecision s) := by
  unfold execTierDecision
  grind [OutKept.when', Kept.modDie, OutKept.never]

theorem execPbalMinute_kept (h : Kept false o s) (cells : BitVec 16) : OutKept o (execPbalMinute cells s) := .when' (h.modDie ..) _ _

theorem execRefchkStart_kept (h : Kept false o s) : OutKept o (execRefchkStart s) := .when' (h.modDie ..) _ _

theorem execRefchkEnd_kept (h : Kept false o s) (errs : List Int) : OutKept o (execRefchkEnd errs s) := by
  unfold execRefchkEnd
  grind [OutKept.never, Kept.modDie, OutKept.next]

theorem Kept.downFrame (h : Kept false o s) (event : String) (kind : Nat → Nat → Bool) (err : List Byte) : OutKept o (s.downFrame event kind err) :=
    by
  unfold State.downFrame
  grind [OutKept.never, Kept.modPsd, Kept.modDie, OutKept.next]

theorem execPsdWrite_kept (h : Kept false o s) (err : List Byte) : OutKept o (execPsdWrite err s) := by
  unfold execPsdWrite
  grind [Kept.downFrame]

theorem execClearFault_kept (h : Kept false o s) (err : List Byte) : OutKept o (execClearFault err s) := by
  unfold execClearFault
  grind [Kept.downFrame]

theorem execRefchkNow_kept (h : Kept false o s) (err : List Byte) : OutKept o (execRefchkNow err s) := by
  unfold execRefchkNow
  grind [Kept.downFrame]

theorem execClearPor_kept (h : Kept false o s) (err : List Byte) : OutKept o (execClearPor err s) := by
  unfold execClearPor
  grind [Kept.downFrame]

theorem execKeepalive_kept (h : Kept false o s) (err : List Byte) : OutKept o (execKeepalive err s) := by
  unfold execKeepalive
  grind [Kept.downFrame]

theorem execBrownout_kept (h : Kept false o s) (err : List Byte) : OutKept o (execBrownout err s) := by
  unfold execBrownout
  grind [Kept.downFrame]

theorem execHioSilent_kept (h : Kept false o s) : OutKept o (execHioSilent s) := .when' (h.modDie ..) _ _

theorem execPsdPor_kept (h : Kept false o s) (straps : BitVec 4) : OutKept o (execPsdPor straps s) := .when' (h.modDie ..) _ _

theorem execPsdVpackLoss_kept (h : Kept false o s) : OutKept o (execPsdVpackLoss s) := .when' ((h.modPsd ..).modDie ..) _ _

theorem Kept.sendDown (h : Kept m o s) (kind : Nat) (cnt : Nat) (i : Nat) (v : Nat) : Kept m o (s.sendDown kind cnt i v) := by
  unfold State.sendDown
  grind [Kept.modPsd]

theorem execDownLaneIdle_kept (h : Kept false o s) : OutKept o (execDownLaneIdle s) := .when' (h.sendDown ..) _ _

theorem Kept.psdEvt (h : Kept false o s) (m1 : Nat) : Kept false o (s.psdEvt m1) := by
  unfold State.psdEvt
  grind [Kept.setBits, Kept.event, Kept.lpWake]

theorem Kept.psdSend (h : Kept m o s) : Kept m o (s.psdSend) := by
  unfold State.psdSend
  grind [Kept.sendDown]

theorem execCommandSend_kept (h : Kept false o s) : OutKept o (execCommandSend s) := by
  unfold execCommandSend
  grind [OutKept.never, Kept.psdSend, Kept.modPsd, OutKept.next]

theorem Kept.wrPsdCmd (h : Kept m o s) (val : BitVec 32) : Kept m o (s.wrPsdCmd val) := by
  unfold State.wrPsdCmd
  grind [Kept.setBits, Kept.viol, Kept.modPsd]

theorem Kept.psdDrop (h : Kept m o s) : Kept m o (s.psdDrop) := h.modPsd ..

theorem Kept.psdFail (h : Kept false o s) : Kept false o (s.psdFail) := by
  unfold State.psdFail
  grind [Kept.psdDrop, Kept.modPsd, Kept.setBits, Kept.inc, Kept.psdEvt]

theorem Kept.psdResync (h : Kept m o s) (next : Nat) : Kept m o (s.psdResync next) := by
  unfold State.psdResync
  grind [Kept.modPsd, Kept.psdSend, Kept.inc]

theorem execPsdAck_kept (h : Kept false o s) (err : List Byte) : OutKept o (execPsdAck err s) := by
  unfold execPsdAck
  split
  · exact .never _
  next a rest _ =>
  have hs := h.modDie (fun d => { d with acks := rest })
  generalize s.modDie (fun d => { d with acks := rest }) = t at hs ⊢
  dsimp only
  split
  · exact .next hs
  split
  · exact .next (hs.inc _)
  split
  · exact .next hs
  split
  · exact .next hs
  next x _ _ =>
  generalize hu : ite (128 ≤ _) _ _ = u
  have hu : Kept false o u := by
    rw [← hu]
    exact .either (((hs.setField ..).setBits ..).inc _) (hs.setField ..)
  have hnext := hu.psdDrop.modPsd (fun p => { p with cnt := (p.cnt + 1) % 256 })
  split
  · exact .next (.either (hnext.setRegN ..) hnext)
  split
  · exact .next (.either hu.psdFail (hu.modPsd _))
  split
  · exact .next ((hnext.setBits ..).psdEvt _)
  · exact .next hu

theorem execPsdAckTimeout_kept (h : Kept false o s) : OutKept o (execPsdAckTimeout s) := by
  unfold execPsdAckTimeout
  grind [OutKept.never, Kept.psdSend, Kept.inc, Kept.modPsd, Kept.psdFail, OutKept.next]

theorem Kept.psdCell (h : Kept m o s) (f : List Byte) (n : Nat) : Kept m o (s.psdCell f n) := by
  unfold State.psdCell
  grind [Kept.setBits, Kept.inc, Kept.setField, Kept.setRegN]

theorem Kept.psdNtc (h : Kept m o s) (f : List Byte) (m1 : Nat) : Kept m o (s.psdNtc f m1) := h.setRegN ..

theorem Kept.psdMirror (h : Kept false o s) (f : List Byte) : Kept false o (s.psdMirror f) := by
  unfold State.psdMirror
  dsimp only
  refine Kept.psdResync (Kept.setTier (Kept.psdEvt (Kept.modPwr ?_ _) _) ..) _
  refine Kept.setRegN (Kept.modPsd ?_ _) ..
  generalize hx : State.setRegN _ R.PSD_PEER_RXERR _ = x
  have hx : Kept false o x := by
    rw [← hx]
    exact ((Kept.foldl _ (fun s n h => h.psdNtc ..) (Kept.foldl _ (fun s n h => h.psdCell ..) ((h.setRegN ..).setRegN ..))).setRegN ..).setRegN ..
  exact .either (Kept.inc (.either (hx.inc _) hx) _) (.either (hx.inc _) hx)

theorem execStatusFrame_kept (h : Kept false o s) (err : List Byte) : OutKept o (execStatusFrame err s) := by
  unfold execStatusFrame
  grind [OutKept.never, Kept.modDie, Kept.inc, Kept.psdMirror, OutKept.next]

theorem execTierSourceLost_kept (h : Kept false o s) : OutKept o (execTierSourceLost s) := by
  unfold execTierSourceLost
  grind [OutKept.when', Kept.clrBits, Kept.psdEvt, Kept.modPwr, Kept.setTier, Kept.pwrEvt]

theorem Kept.brownOut (h : Kept false o s) : Kept false o (s.brownOut) := (h.aoPor ..).sendDown ..

theorem execAoregBrownout_kept (h : Kept false o s) : OutKept o (execAoregBrownout s) := .when' h.brownOut _ _

end
end Sys2Proof.Machine
end

section
/-! What the step keeps, function by function (8 of 8): register writes, the lanes of the host, float instructions, the monitor, the commands and a cycle of AO_CLK. -/

namespace Sys2Proof.Machine
section
-- One lemma after another: side by side `grind` would keep a thread waiting for every lemma it names.
set_option Elab.async false

variable {m : Bool} {o s : State}

theorem Kept.readAccess (h : Kept m o s) (req : Req) (off : Nat) : Kept m o (s.readAccess req off).2 := by
  unfold State.readAccess
  grind [Kept.viol]

theorem Kept.putPlain (h : Kept m o s) (r : RegRow) (k : Nat) (val : BitVec 32) : Kept m o (s.putPlain r k val) := by
  unfold State.putPlain
  grind [Kept.modReg]

theorem Kept.putHif (h : Kept m o s) (r : RegRow) (off : Nat) (c : Nat) (val : BitVec 32) : Kept m o (s.putHif r off c val) := by
  unfold State.putHif
  grind [Kept.wrApCtrl, Kept.viol, Kept.putPlain, Kept.msixCtrl]

theorem Kept.putMmu (h : Kept false o s) (req : Req) (r : RegRow) (off : Nat) (c : Nat) (val : BitVec 32) : Kept false o (s.putMmu req r off c val) :=
    by
  unfold State.putMmu
  grind [Kept.invGo, Kept.wrInvStatus, Kept.bcast, Kept.putPlain]

theorem Kept.putQm (h : Kept false o s) (r : RegRow) (off : Nat) (c : Nat) (val : BitVec 32) : Kept false o (s.putQm r off c val) := by
  unfold State.putQm
  grind [Kept.clearLost, Kept.wrQCtrl, Kept.putPlain]

theorem Kept.putPt (h : Kept false o s) (req : Req) (r : RegRow) (off c : Nat) (val : BitVec 32) : Kept false o (s.putPt req r off c val) := by
  unfold State.putPt
  exact .either (h.wrAdmit ..) (.either (h.wrRepair ..) (.either (h.wrSelftestReq ..) (.either (h.wrSchedCtrl ..) (.either (h.wrSchedLen ..)
    (.either (h.schedCommit ..)
    (.either (h.wrPtCtrl ..) (.either (h.wrPtResize ..) (.either (h.wrPtResize ..) (.either (h.wrPtBw ..) (.either (h.wrPtFav ..)
      (.either (h.wrRingCtrl ..) (h.putPlain ..))))))))))))

theorem Kept.putGd (h : Kept m o s) (r : RegRow) (off : Nat) (val : BitVec 32) : Kept m o (s.putGd r off val) := by
  unfold State.putGd
  grind [Kept.putPlain, Kept.settlePin, Kept.wrGdConfig, Kept.wrGdRing, Kept.wrGdWake]

theorem Kept.putUnits (h : Kept m o s) (r : RegRow) (off : Nat) (c : Nat) (val : BitVec 32) : Kept m o (s.putUnits r off c val) := by
  unfold State.putUnits
  grind [Kept.viol, Kept.putPlain, Kept.setRegN, Kept.wrCrcCtrl, Kept.wrFrameBytes]

theorem Kept.putFab (h : Kept false o s) (r : RegRow) (off : Nat) (c : Nat) (val : BitVec 32) : Kept false o (s.putFab r off c val) := by
  unfold State.putFab
  grind [Kept.wrNodeId, Kept.wrRespTimeout, Kept.fabLeave, Kept.wrRoute, Kept.wrWin, Kept.wrGrpData, Kept.wrGrp, Kept.wrPortCtrl, Kept.putPlain]

theorem Kept.putPwr (h : Kept false o s) (req : Req) (r : RegRow) (off : Nat) (val : BitVec 32) : Kept false o (s.putPwr req r off val) := by
  unfold State.putPwr
  grind [Kept.wrDcmd, Kept.wrAoreg, Kept.wrPpReq, Kept.wrThrottle, Kept.wrVsettle, Kept.putPlain]

theorem Kept.putRst (h : Kept false o s) (req : Req) (r : RegRow) (off : Nat) (c : Nat) (val : BitVec 32) : Kept false o (s.putRst req r off c val) :=
    by
  unfold State.putRst
  grind [Kept.wrRstCtrl, Kept.wrPreset, Kept.wrEreset, Kept.wrKick, Kept.wrFlash, Kept.wrWdt, Kept.putPlain]

theorem Kept.monLock (h : Kept m o s) : Kept m o (s.monLock) := h.setBits ..

theorem Kept.perfClear (h : Kept m o s) : Kept m o (s.perfClear) := by
  unfold State.perfClear
  grind [Kept.setPair, Kept.fields, Kept.foldl]

theorem Kept.putDbg (h : Kept m o s) (r : RegRow) (off : Nat) (val : BitVec 32) : Kept m o (s.putDbg r off val) := by
  unfold State.putDbg
  grind [Kept.monLock, Kept.setField, Kept.perfClear, Kept.viol, Kept.putPlain]

theorem Kept.putReg (h : Kept false o s) (req : Req) (r : RegRow) (off : Nat) (c : Nat) (val : BitVec 32) : Kept false o (s.putReg req r off c val) :=
    by
  unfold State.putReg
  grind [Kept.queueDoorbell, Kept.putPlain, Kept.putHif, Kept.putMmu, Kept.putQm, Kept.putPt, Kept.putGd, Kept.putUnits, Kept.putFab, Kept.putPwr,
    Kept.putRst, Kept.wrPsdCmd, Kept.putDbg]

theorem Kept.pairRefused (h : Kept m o s) (lo : Nat) (c : Nat) : ∀ t, s.pairRefused lo c = some t → Kept m o t := by
  unfold State.pairRefused
  grind [Kept.inc, Kept.viol]

theorem Kept.commitPair (h : Kept m o s) (lo : Nat) (c : Nat) (v : Nat) : Kept m o (s.commitPair lo c v) := by
  unfold State.commitPair
  grind [Kept.launchReq, Kept.setPair, Kept.apEval, Kept.ringPush, Kept.wrRingBase, Kept.wrQBase]

theorem Kept.putPair (h : Kept m o s) (req : Req) (r : RegRow) (off : Nat) (c : Nat) (val : BitVec 32) : Kept m o (s.putPair req r off c val) := by
  unfold State.putPair
  grind [Kept.pairRefused, Kept.unstage, Kept.commitPair, Kept.stageLo]

theorem Kept.putAny (h : Kept false o s) (req : Req) (r : RegRow) (off : Nat) (c : Nat) (val : BitVec 32) : Kept false o (s.putAny req r off c val) :=
    by
  unfold State.putAny
  grind [Kept.putReg, Kept.putPair]

theorem Kept.countRsv {t : State} (h : Kept m o t) (r : RegRow) (val : BitVec 32) : Kept m o (s.countRsv t r val) := by
  unfold State.countRsv
  split
  · exact h.viol
  · exact h

theorem Kept.regWrite (h : Kept false o s) (req : Req) (off : Nat) (val : BitVec 32) (full : Bool) : Kept false o (s.regWrite req off val full) := by
  unfold State.regWrite
  grind [Kept.viol, Kept.countRsv, Kept.putAny]

theorem Kept.bar2Viol (h : Kept m o s) : Kept m o (s.bar2Viol) := h.inc ..

theorem Kept.complete (h : Kept m o s) (bs : List Byte) : Kept m o (s.complete bs) := (h.perf ..).fields ..

theorem Kept.mwinRead_of {f} (hf : @State.readLoc = f) (hk : ∀ {s} a n w, Kept m o s → Kept m o (f s a n w).2) (h : Kept m o s) (w n : Nat) :
    Kept m o (s.mwinRead w n) := by
  generalize hg : State.mwinRead = g
  delta State.mwinRead at hg
  rw [hf] at hg
  subst hg
  dsimp -zeta -iota -proj only
  split
  · next hv => exact ((hk _ _ _ h).snd hv).complete _
  · next hv => exact (((hk _ _ _ h).snd hv).bar2Viol).complete _

theorem Kept.mwinRead (h : Kept m o s) (w n : Nat) : Kept m o (s.mwinRead w n) := Kept.mwinRead_of rfl (fun _ _ _ h => h.readLoc ..) h w n

theorem Kept.mwinWrite_of {f} (hf : State.writeMasked = f) (hk : ∀ {s} a n w, Kept m o s → Kept m o (f s a n w).2) (h : Kept m o s) (w : Nat) (data :
    List (Option Byte)) :
    Kept m o (s.mwinWrite w data) := by
  generalize hg : State.mwinWrite = g
  delta State.mwinWrite at hg
  rw [hf] at hg
  subst hg
  dsimp -zeta -iota -proj only
  split
  · next hv => exact (hk _ _ _ h).snd hv
  · next hv => exact ((hk _ _ _ h).snd hv).bar2Viol

theorem Kept.mwinWrite (h : Kept m o s) (w : Nat) (data : List (Option Byte)) : Kept m o (s.mwinWrite w data) :=
    Kept.mwinWrite_of rfl (fun _ _ _ h => h.writeMasked ..) h w data

theorem Kept.apLanded (h : Kept m o s) (ap : Nat) (data : List (Option Byte)) : Kept m o (s.apLanded ap data) :=
    ((h.bumpPair ..).crcFeed ..).apEval ..

theorem Kept.laneDone (h : Kept m o s) (ap : Nat) (data : List (Option Byte)) : Kept m o (s.laneDone ap data) := (h.fields ..).apLanded ..

theorem Kept.apPieces (h : Kept m o s) (c : Nat) (t : Tlb) (k : List (Nat × Nat)) (l : List (Option Byte)) : Kept m o (s.apPieces c t k l).2 := by
  induction k generalizing s l with
  | nil => exact h
  | cons a t ih =>
    unfold State.apPieces
    grind [Kept.writeAt]

theorem Kept.apPerform (h : Kept false o s) (ap : Nat) (c : Nat) (va : Nat) (data : List (Option Byte)) (t : Tlb) :
    Kept false o (s.apPerform ap c va data t) := by
  unfold State.apPerform
  grind [Kept.apPieces, Kept.apFault, Kept.laneDone, Kept.fieldsMmu]

theorem Kept.apDrop (h : Kept m o s) (ap : Nat) : Kept m o (s.apDrop ap) := h.inc ..

theorem Kept.apJudge (h : Kept m o s) (off : Nat) (rid : Nat) (data : List (Option Byte)) : Kept m o (s.apJudge off rid data).2 := by
  unfold State.apJudge
  grind [Kept.apDrop, Kept.sramWrite2, Kept.apLanded, Kept.bar2Viol]

theorem Kept.barRead (h : Kept m o s) (req : Req) (off : Nat) (n : Nat) : Kept m o (s.barRead req off n).2 := by
  unfold State.barRead
  grind [Kept.readAccess, Kept.foldlSnd]

theorem Kept.laneStart (h : Kept false o s) (ap : Nat) (c : Nat) (va : Nat) (data : List (Option Byte)) : Kept false o (s.laneStart ap c va data) :=
    by
  unfold State.laneStart
  grind [Kept.apDrop, Kept.xltFault, Kept.apFault, Kept.apPerform, Kept.countWalk, Kept.fieldsMmu]

theorem Kept.lanePump (h : Kept false o s) (k : Nat) : Kept false o (State.lanePump k s) := by
  induction k generalizing s with
  | zero => exact h
  | succ k ih =>
    unfold State.lanePump
    grind [Kept.laneStart, Kept.apJudge, Kept.barRead, Kept.complete, Kept.mwinWrite, Kept.mwinRead, Kept.regWrite, Kept.fieldsMmu]

theorem Kept.serveLane (h : Kept false o s) : Kept false o (s.serveLane) := by
  unfold State.serveLane
  grind [Kept.lanePump]

theorem Kept.joinLane (h : Kept false o s) (op : LaneOp) : Kept false o (s.joinLane op) := (h.fieldsMmu ..).serveLane

theorem Kept.joinMemory (h : Kept false o s) (op : LaneOp) : Kept false o (s.joinMemory op) := by
  unfold State.joinMemory
  grind [Kept.inc, Kept.joinLane]

theorem Kept.heldWrite (h : Kept false o s) (req : Req) (off : Nat) (val : BitVec 32) (full : Bool) : Kept false o (s.heldWrite req off val full) :=
    by
  unfold State.heldWrite
  grind [Kept.regWrite, Kept.fieldsMmu]

theorem Kept.cmdWrite (h : Kept false o s) (req : Req) (off : Nat) (val : BitVec 32) (full : Bool) : Kept false o (s.cmdWrite req off val full) := by
  unfold State.cmdWrite
  grind [Kept.perf, Kept.regWrite, Kept.joinLane, Kept.heldWrite]

theorem execRegisterWrite_kept (h : Kept false o s) (req : Req) (off : Nat) (val : W32) (full : Bool) :
    OutKept o (execRegisterWrite req off val full s) :=
  .next (h.cmdWrite ..)

theorem Kept.releaseHeld (h : Kept false o s) : Kept false o s.releaseHeld := by
  unfold State.releaseHeld
  refine Kept.serveLane (Kept.fieldsMmu (Kept.foldlFst _ (fun p a h => ?_) (h.fieldsMmu ..)) ..)
  obtain ⟨t, kept, blocked, went⟩ := p
  dsimp only at h ⊢
  split
  · exact h
  split
  · exact .either (h.inc _) h
  · exact h.regWrite ..

theorem execBcastServe_kept (h : Kept false o s) : OutKept o (execBcastServe s) := by
  unfold execBcastServe
  grind [OutKept.rooted, OutKept.never, Kept.bcastServe, Kept.releaseHeld, Kept.fieldsMmu, OutKept.next]

theorem Kept.apArrive (h : Kept false o s) (off : Nat) (rid : Nat) (data : List (Option Byte)) : Kept false o (s.apArrive off rid data) := by
  unfold State.apArrive
  grind [Kept.joinMemory, Kept.apJudge]

theorem execApWrite_kept (h : Kept false o s) (off : Nat) (rid : Nat) (data : List (Option Byte)) : OutKept o (execApWrite off rid data s) := by
  unfold execApWrite
  grind [OutKept.never, Kept.perf, Kept.apArrive, OutKept.next]

theorem execBar2Read_kept (h : Kept false o s) (off : Nat) (n : Nat) : OutKept o (execBar2Read off n s) := by
  unfold execBar2Read
  grind [OutKept.never, Kept.bar2Viol, Kept.complete, OutKept.next]

theorem execMwinRead_kept (h : Kept false o s) (w : Nat) (n : Nat) : OutKept o (execMwinRead w n s) := by
  unfold execMwinRead
  grind [OutKept.never, Kept.joinLane, OutKept.next]

theorem execMwinWrite_kept (h : Kept false o s) (w : Nat) (data : List (Option Byte)) : OutKept o (execMwinWrite w data s) := by
  unfold execMwinWrite
  grind [OutKept.never, Kept.perf, Kept.joinMemory, OutKept.next]

theorem Kept.walkLine (h : Kept false o s) (c : Nat) (w : Walk) : Kept false o (s.walkLine c w) := by
  unfold State.walkLine
  grind [Kept.walkFor, Kept.dropLine, Kept.lineFault, Kept.lineGo]

theorem Kept.lineSettle (h : Kept false o s) (c : Nat) (l : LineReq) : Kept false o (s.lineSettle c l) := by
  unfold State.lineSettle
  grind [Kept.askRemotes, Kept.dispSettle]

theorem Kept.walkQuery (h : Kept false o s) (u : Nat) (w : Walk) : Kept false o (s.walkQuery u w) := by
  unfold State.walkQuery
  grind [Kept.walkFor, Kept.rayXlated]

theorem Kept.walkLane (h : Kept false o s) (w : Walk) : Kept false o (s.walkLane w) := by
  unfold State.walkLane
  grind [Kept.walkFor, Kept.apFault, Kept.apPerform]

theorem execWalkComplete_kept (h : Kept false o s) (k : Nat) : OutKept o (execWalkComplete k s) := by
  unfold execWalkComplete
  grind [OutKept.rooted, OutKept.never, Kept.walkLine, Kept.walkLane, Kept.serveLane, Kept.walkQuery, Kept.fieldsMmu, OutKept.next]

theorem execLineRequestComplete_kept (h : Kept false o s) (core id : Nat) (ev1 ev2 ue ce : List Nat) :
    OutKept o (execLineRequestComplete core id ev1 ev2 ue ce s) := by
  unfold execLineRequestComplete
  refine .rooted ?_ ..
  split
  · exact .never _
  split
  · exact .never _
  next l _ _ x _ =>
  have hp := ((h.spoil ue ce).evictLines core ev1 ev2).linePerform core l x
  generalize hb : (_ || s.lineWaits core l) = b
  split
  · exact .never _
  split
  · next hv =>
    split
    · exact .never _
    · exact .next ((((hp.snd hv).dropLine ..).lineFault ..).lineSettle ..)
  · next hv =>
    dsimp only
    split
    · exact .next (((((hp.snd hv).dropLine ..).deliver ..).opStep ..).lineSettle ..)
    · exact .next (((hp.snd hv).dropLine ..).lineSettle ..)

theorem Kept.fabSettle (h : Kept false o s) : Kept false o (s.fabSettle) := by
  unfold State.fabSettle
  grind [Kept.serveLane, Kept.fabJobsRun, Kept.copiesRun, Kept.quiesceSettle]

theorem execPortUp_kept (h : Kept false o s) (port : Nat) : OutKept o (execPortUp port s) := .when' (h.setRegN ..) _ _

theorem execPortDown_kept (h : Kept false o s) (port : Nat) : OutKept o (execPortDown port s) := .when' (h.portLost ..).fabSettle _ _

theorem Kept.fabReply (h : Kept m o s) (port : Nat) (src : Nat) (id : Nat) (k : FabKind) (a : Except Nat (List Byte)) :
    Kept m o (s.fabReply port src id k a) := by
  unfold State.fabReply
  grind [Kept.fabSend]

theorem execFabReadReq_kept (h : Kept false o s) (port : Nat) (src : Nat) (id : Nat) (addr : Nat) (n : Nat) :
    OutKept o (execFabReadReq port src id addr n s) := by
  unfold execFabReadReq
  grind [OutKept.rooted, OutKept.never, Kept.fabArrive, Kept.serveRead, Kept.fabReply, OutKept.next]

theorem execFabWrite_kept (h : Kept false o s) (port : Nat) (src : Nat) (id : Nat) (addr : Nat) (data : List (Option Byte)) :
    OutKept o (execFabWrite port src id addr data s) := by
  unfold execFabWrite
  grind [OutKept.rooted, OutKept.never, Kept.fabArrive, Kept.serveWrite, Kept.fabReply, OutKept.next]

theorem execFabAtomic_kept (h : Kept false o s) (port : Nat) (src : Nat) (id : Nat) (addr : Nat) (op : Nat) (wide : Bool) (ftz : Bool) (a :
    List (Nat × Nat)) (b : List Nat) : OutKept o (execFabAtomic port src id addr op wide ftz a b s) := by
  unfold execFabAtomic
  grind [OutKept.rooted, OutKept.never, Kept.fabArrive, Kept.serveAtom, Kept.fabReply, OutKept.next]

theorem Kept.fabAnswer (h : Kept m o s) (r : FabReq) (data : List Byte) : Kept m o (s.fabAnswer r data) := by
  unfold State.fabAnswer
  grind [Kept.dropReq, Kept.laneDone, Kept.putLine, Kept.fields]

theorem Kept.fabResponse (h : Kept false o s) (event : String) (port : Nat) (id : Nat) (k : FabKind) (of : FabKind) (data : List Byte) :
    OutKept o (s.fabResponse event port id k of data) := by
  unfold State.fabResponse
  grind [OutKept.never, Kept.fabArrive, Kept.inc, Kept.fabAnswer, Kept.fabSettle, OutKept.next]

theorem execFabReadRsp_kept (h : Kept false o s) (port : Nat) (id : Nat) (data : List Byte) : OutKept o (execFabReadRsp port id data s) := by
  unfold execFabReadRsp
  grind [OutKept.rooted, Kept.fabResponse]

theorem execFabWriteAck_kept (h : Kept false o s) (port : Nat) (id : Nat) : OutKept o (execFabWriteAck port id s) := by
  unfold execFabWriteAck
  grind [OutKept.rooted, Kept.fabResponse]

theorem execFabAtomicRsp_kept (h : Kept false o s) (port : Nat) (id : Nat) (data : List Byte) : OutKept o (execFabAtomicRsp port id data s) := by
  unfold execFabAtomicRsp
  grind [OutKept.rooted, Kept.fabResponse]

theorem execFabRefuse_kept (h : Kept false o s) (port : Nat) (id : Nat) (detail : Nat) : OutKept o (execFabRefuse port id detail s) := by
  unfold execFabRefuse
  grind [OutKept.rooted, OutKept.never, Kept.fabArrive, Kept.inc, Kept.fabFault, Kept.fabSettle, OutKept.next]

theorem execFabAbort_kept (h : Kept false o s) (port : Nat) (group : Nat) (cause : Nat) (origin : Nat) (seq : Nat) :
    OutKept o (execFabAbort port group cause origin seq s) := by
  unfold execFabAbort
  grind [OutKept.rooted, OutKept.never, Kept.fabArrive, Kept.inc, Kept.groupAbort, Kept.fabSettle, OutKept.next]

theorem execFabResponseTimeout_kept (h : Kept false o s) (id : Nat) : OutKept o (execFabResponseTimeout id s) := by
  unfold execFabResponseTimeout
  grind [OutKept.rooted, OutKept.never, Kept.inc, Kept.fabFault, Kept.fabSettle, OutKept.next]

theorem execFlitRetry_kept (h : Kept false o s) (link : Nat) (again : Bool) : OutKept o (execFlitRetry link again s) :=
    .when' ((h.inc ..).fields ..) _ _

theorem execLinkLost_kept (h : Kept false o s) (link : Nat) : OutKept o (execLinkLost link s) := by
  unfold execLinkLost
  grind [OutKept.never, Kept.setBits, Kept.fabLost, Kept.serveLane, OutKept.next]

theorem execDStateChange_kept (h : Kept false o s) (hi : Bool) (lo : Bool) : OutKept o (execDStateChange hi lo s) := by
  unfold execDStateChange
  grind [OutKept.when', Kept.drain, Kept.fields]

theorem execL1Exit_kept (h : Kept false o s) : OutKept o (execL1Exit s) := .when' (h.setField ..).drain _ _

theorem execLinkUp_kept (h : Kept false o s) (speed : Nat) (width : Nat) (advH : Nat) (advD : Nat) : OutKept o (execLinkUp speed width advH advD s) :=
    by
  unfold execLinkUp
  grind [OutKept.never, Kept.modPwr, Kept.setRegN, Kept.setLink, Kept.drain, Kept.fields, OutKept.next]

theorem execHostCreditReturn_kept (h : Kept false o s) (h1 : Nat) (d : Nat) : OutKept o (execHostCreditReturn h1 d s) :=
    .when' (h.fields ..).drain _ _

theorem Kept.cfgPut (h : Kept m o s) (f : CfgField) (v : Nat) : Kept m o (s.cfgPut f v) := by
  unfold State.cfgPut
  grind [Kept.msixConfig, Kept.fields]

theorem Kept.barWrite (h : Kept false o s) (off : Nat) (data : List (Option Byte)) : Kept false o (s.barWrite off data) := by
  unfold State.barWrite
  grind [Kept.cmdWrite, Kept.foldl]

theorem Kept.serveEvt (h : Kept false o s) (e : HostEvt) : Kept false o (s.serveEvt e) := by
  unfold State.serveEvt
  grind [Kept.joinLane, Kept.barRead, Kept.barWrite, Kept.complete, Kept.cfgPut, Kept.setField, Kept.drain, Kept.fieldsMmu]

theorem Kept.serveOutside (h : Kept false o s) : Kept false o (s.serveOutside) := by
  unfold State.serveOutside
  grind [Kept.serveEvt, Kept.fieldsMmu, Kept.foldl]

theorem Kept.fpDone (h : Kept m o s) (r : PodRef) (p : Pod) (op : Nat) (i : Ins) (wide : Bool) (out : List (Nat × FR)) :
    Kept m o (s.fpDone r p op i wide out) := by
  unfold State.fpDone
  grind [Kept.vput, Kept.raise, Kept.foldl]

theorem f32Op_kept (h : Kept false o s) (ev : String) (op : Nat) (r : PodRef) (i : Ins) (f : Nat → Bool → Nat → Nat → Nat → FR) :
    OutKept o (f32Op ev op r i s f) := by
  unfold f32Op
  refine issue_kept (fun t p e ht => ?_) h ..
  grind [BodyKept, Kept.cycles, Kept.fpDone]

theorem f64Op_kept (h : Kept false o s) (ev : String) (op : Nat) (r : PodRef) (i : Ins) (f : Nat → Bool → Nat → Nat → Nat → FR) :
    OutKept o (f64Op ev op r i s f) := by
  unfold f64Op
  refine issue_kept (fun t p e ht => ?_) h ..
  grind [BodyKept, Kept.fpDone]

theorem cmpOp_kept (h : Kept false o s) (ev : String) (op : Nat) (r : PodRef) (i : Ins) (f : Fmt) (a b : State → Pod → Nat → Nat → Nat) :
    OutKept o (cmpOp ev op r i s f a b) := by
  unfold cmpOp
  refine issue_kept (fun t p e ht => ?_) h ..
  exact .done (((ht.cycles ..).modPod ..).raise ..) _

theorem execVfadd_kept (h : Kept false o s) (r : PodRef) (i : Ins) : OutKept o (execVfadd r i s) := by
  unfold execVfadd
  grind [f32Op_kept]

theorem execVfmul_kept (h : Kept false o s) (r : PodRef) (i : Ins) : OutKept o (execVfmul r i s) := by
  unfold execVfmul
  grind [f32Op_kept]

theorem execVffma_kept (h : Kept false o s) (r : PodRef) (i : Ins) : OutKept o (execVffma r i s) := by
  unfold execVffma
  grind [f32Op_kept]

theorem execVfmin_kept (h : Kept false o s) (r : PodRef) (i : Ins) : OutKept o (execVfmin r i s) := by
  unfold execVfmin
  grind [f32Op_kept]

theorem execVfmax_kept (h : Kept false o s) (r : PodRef) (i : Ins) : OutKept o (execVfmax r i s) := by
  unfold execVfmax
  grind [f32Op_kept]

theorem execVfdiv_kept (h : Kept false o s) (r : PodRef) (i : Ins) : OutKept o (execVfdiv r i s) := by
  unfold execVfdiv
  grind [f32Op_kept]

theorem execVfsqrt_kept (h : Kept false o s) (r : PodRef) (i : Ins) : OutKept o (execVfsqrt r i s) := by
  unfold execVfsqrt
  grind [f32Op_kept]

theorem execVfrcp_kept (h : Kept false o s) (r : PodRef) (i : Ins) : OutKept o (execVfrcp r i s) := by
  unfold execVfrcp
  grind [f32Op_kept]

theorem execVfrsq_kept (h : Kept false o s) (r : PodRef) (i : Ins) : OutKept o (execVfrsq r i s) := by
  unfold execVfrsq
  grind [f32Op_kept]

theorem execVfcmp_kept (h : Kept false o s) (r : PodRef) (i : Ins) : OutKept o (execVfcmp r i s) := by
  unfold execVfcmp
  grind [cmpOp_kept]

theorem execVfexp2_kept (h : Kept false o s) (r : PodRef) (i : Ins) : OutKept o (execVfexp2 r i s) := by
  unfold execVfexp2
  grind [f32Op_kept]

theorem execVflog2_kept (h : Kept false o s) (r : PodRef) (i : Ins) : OutKept o (execVflog2 r i s) := by
  unfold execVflog2
  grind [f32Op_kept]

theorem halfOp_kept (h : Kept false o s) (ev : String) (op : Nat) (f : Fmt) (r : PodRef) (i : Ins) : OutKept o (halfOp ev op f r i s) := by
  unfold halfOp
  refine issue_kept (fun t p e ht => ?_) h ..
  grind [BodyKept, Kept.cycles, Kept.fpDone]

theorem execVhfma_kept (h : Kept false o s) (r : PodRef) (i : Ins) : OutKept o (execVhfma r i s) := by
  unfold execVhfma
  grind [halfOp_kept]

theorem execVbfma_kept (h : Kept false o s) (r : PodRef) (i : Ins) : OutKept o (execVbfma r i s) := by
  unfold execVbfma
  grind [halfOp_kept]

theorem execVdadd_kept (h : Kept false o s) (r : PodRef) (i : Ins) : OutKept o (execVdadd r i s) := by
  unfold execVdadd
  grind [f64Op_kept]

theorem execVdmul_kept (h : Kept false o s) (r : PodRef) (i : Ins) : OutKept o (execVdmul r i s) := by
  unfold execVdmul
  grind [f64Op_kept]

theorem execVdfma_kept (h : Kept false o s) (r : PodRef) (i : Ins) : OutKept o (execVdfma r i s) := by
  unfold execVdfma
  grind [f64Op_kept]

theorem execVddiv_kept (h : Kept false o s) (r : PodRef) (i : Ins) : OutKept o (execVddiv r i s) := by
  unfold execVddiv
  grind [f64Op_kept]

theorem execVdsqrt_kept (h : Kept false o s) (r : PodRef) (i : Ins) : OutKept o (execVdsqrt r i s) := by
  unfold execVdsqrt
  grind [f64Op_kept]

theorem execVdcmp_kept (h : Kept false o s) (r : PodRef) (i : Ins) : OutKept o (execVdcmp r i s) := by
  unfold execVdcmp
  grind [cmpOp_kept]

theorem Kept.monSay (h : Kept m o s) (bs : List Byte) : Kept m o (s.monSay bs) := h.modMon ..

theorem Kept.monReply (h : Kept m o s) (lines : List (List Byte)) (err : Option Nat) : Kept m o (s.monReply lines err) := by
  unfold State.monReply
  grind [Kept.inc, Kept.monSay, Kept.modMon]

theorem Kept.monErr (h : Kept m o s) (code : Nat) : Kept m o (s.monErr code) := h.monReply ..

theorem Kept.monLine (h : Kept m o s) : Kept m o (s.monLine) := by
  unfold State.monLine
  grind [Kept.modMon, Kept.inc, Kept.monErr]

theorem execUartChar_kept (h : Kept false o s) (ch : Byte) (framing : Bool) : OutKept o (execUartChar ch framing s) := by
  unfold execUartChar
  grind [Kept.brownOut, Kept.inc, Kept.modMon, Kept.monSay, Kept.monLine, OutKept.next]

theorem Kept.chalEnd (h : Kept m o s) : Kept m o (s.chalEnd) := (h.modMon ..).clrBits ..

theorem execUartBreak_kept (h : Kept false o s) : OutKept o (execUartBreak s) := by
  unfold execUartBreak
  grind [Kept.brownOut, Kept.inc, Kept.chalEnd, Kept.modMon, Kept.setField, Kept.setBits, Kept.monErr, OutKept.next]

theorem execBaudRevert_kept (h : Kept false o s) : OutKept o (execBaudRevert s) := .when' ((h.modMon ..).setField ..) _ _

theorem execChallengeExpiry_kept (h : Kept false o s) : OutKept o (execChallengeExpiry s) := .when' h.chalEnd _ _

theorem execPromptEnd_kept (h : Kept false o s) : OutKept o (execPromptEnd s) := by
  unfold execPromptEnd
  grind [OutKept.never, Kept.modMon, Kept.setField, OutKept.next]

theorem execAoregSwitchDone_kept (h : Kept false o s) : OutKept o (execAoregSwitchDone s) := by
  unfold execAoregSwitchDone
  grind [OutKept.never, Kept.setField, Kept.clrBits, Kept.brownOut, Kept.hmReturn, Kept.ppKick, OutKept.next]

theorem Kept.monServe {f : MonCmd → Option State} (hf : ∀ c t, f c = some t → Kept false o t) (h : Kept false o s) (ev : String) :
    OutKept o (s.monServe ev f) := by
  unfold State.monServe
  split
  · exact .never ev
  split
  · next c _ =>
    refine .orNever (fun t ht => ?_) ev
    split at ht
    · obtain ⟨u, hu, rfl⟩ := Option.map_eq_some_iff.mp ht
      exact h.brownOut
    · exact hf _ _ ht
  · exact .never ev

theorem execMonId_kept (h : Kept false o s) : OutKept o (execMonId s) := by
  unfold execMonId
  grind [Kept.monServe, Kept.monReply]

theorem execMonStat_kept (h : Kept false o s) : OutKept o (execMonStat s) := by
  unfold execMonStat
  grind [Kept.monServe, Kept.monReply]

theorem Kept.monRead (h : Kept m o s) (k : List Nat) : Kept m o (s.monRead k).2 := by
  induction k generalizing s with
  | nil => exact h
  | cons a t ih =>
    unfold State.monRead
    grind [Kept.readAccess]

theorem execMonRd_kept (h : Kept false o s) : OutKept o (execMonRd s) := by
  unfold execMonRd
  grind [Kept.monServe, Kept.monErr, Kept.monRead, Kept.monReply]

theorem Kept.monWrote (h : Kept m o s) : Kept m o (s.monWrote) := by
  unfold State.monWrote
  grind [Kept.monReply]

theorem execMonWr_kept (h : Kept false o s) : OutKept o (execMonWr s) := by
  unfold execMonWr
  grind [Kept.monServe, Kept.monErr, Kept.heldWrite, Kept.monWrote]

theorem Kept.monWords (h : Kept m o s) (k : List Nat) : Kept m o (s.monWords k).2 := by
  induction k generalizing s with
  | nil => exact h
  | cons a t ih =>
    unfold State.monWords
    grind [Kept.readLoc]

theorem execMonMrd_kept (h : Kept false o s) : OutKept o (execMonMrd s) := by
  unfold execMonMrd
  grind [Kept.monServe, Kept.monErr, Kept.monWords, Kept.monReply]

theorem execMonMwr_kept (h : Kept false o s) : OutKept o (execMonMwr s) := by
  unfold execMonMwr
  grind [Kept.monServe, Kept.monErr, Kept.writeLoc, Kept.monReply]

theorem execMonMeas_kept (h : Kept false o s) : OutKept o (execMonMeas s) := by
  unfold execMonMeas
  grind [Kept.monServe, Kept.monReply]

theorem execMonLog_kept (h : Kept false o s) : OutKept o (execMonLog s) := by
  unfold execMonLog
  grind [Kept.monServe, Kept.monReply]

theorem execMonPlog_kept (h : Kept false o s) : OutKept o (execMonPlog s) := by
  unfold execMonPlog
  grind [Kept.monServe, Kept.monReply]

theorem execMonCnt_kept (h : Kept false o s) : OutKept o (execMonCnt s) := by
  unfold execMonCnt
  grind [Kept.monServe, Kept.monReply]

theorem execMonChal_kept (h : Kept false o s) : OutKept o (execMonChal s) := by
  unfold execMonChal
  grind [Kept.monServe, Kept.monErr, Kept.drawBytes, Kept.modMon, Kept.setField, Kept.monReply]

theorem execMonUnlock_kept (h : Kept false o s) : OutKept o (execMonUnlock s) := by
  refine Kept.monServe (fun c t ht => ?_) h _
  split at ht
  · obtain rfl := Option.some.inj ht
    refine .either (h.monErr _) ?_
    split
    · exact h.monErr _
    · exact .either ((((h.chalEnd.slotExtend ..).clrBits ..).inc _).monReply ..) ((h.chalEnd.inc _).monErr _)
  · simp only [reduceCtorEq] at ht

theorem execMonLock_kept (h : Kept false o s) : OutKept o (execMonLock s) := by
  unfold execMonLock
  grind [Kept.monServe, Kept.monLock, Kept.monReply]

theorem execMonBaud_kept (h : Kept false o s) : OutKept o (execMonBaud s) := by
  unfold execMonBaud
  grind [Kept.monServe, Kept.monReply, Kept.modMon]

theorem execMonEcho_kept (h : Kept false o s) : OutKept o (execMonEcho s) := by
  unfold execMonEcho
  grind [Kept.monServe, Kept.setField, Kept.monReply]

theorem execApEnable_kept (h : Kept false o s) (req : Req) (val : W32) : OutKept o (execApEnable req val s) := .next (h.cmdWrite ..)

theorem execApCtrlUpdate_kept (h : Kept false o s) (req : Req) (val : W32) : OutKept o (execApCtrlUpdate req val s) := .next (h.cmdWrite ..)

theorem execApDisable_kept (h : Kept false o s) (req : Req) (val : W32) : OutKept o (execApDisable req val s) := .next (h.cmdWrite ..)

theorem execApConsumedWrite_kept (h : Kept false o s) (req : Req) (val : W32) : OutKept o (execApConsumedWrite req val s) := .next (h.cmdWrite ..)

theorem execApWmWrite_kept (h : Kept false o s) (req : Req) (val : W32) : OutKept o (execApWmWrite req val s) := .next (h.cmdWrite ..)

theorem execInvGo_kept (h : Kept false o s) (req : Req) : OutKept o (execInvGo req s) := .next (h.cmdWrite ..)

theorem execBcastRequest_kept (h : Kept false o s) (req : Req) (val : W32) : OutKept o (execBcastRequest req val s) := .next (h.cmdWrite ..)

theorem execCtxLostClear_kept (h : Kept false o s) (req : Req) (ix : BitVec 3) (val : W32) : OutKept o (execCtxLostClear req ix val s) :=
    .next (h.cmdWrite ..)

theorem execRingPush_kept (h : Kept false o s) (req : Req) (val : W32) : OutKept o (execRingPush req val s) := .next (h.cmdWrite ..)

theorem execQueueDoorbell_kept (h : Kept false o s) (req : Req) (q : BitVec 8) (tail : W32) : OutKept o (execQueueDoorbell req q tail s) :=
    .next (h.cmdWrite ..)

theorem execQueueEnable_kept (h : Kept false o s) (req : Req) : OutKept o (execQueueEnable req s) := .next (h.cmdWrite ..)

theorem execQueueDisable_kept (h : Kept false o s) (req : Req) : OutKept o (execQueueDisable req s) := .next (h.cmdWrite ..)

theorem execQueueReset_kept (h : Kept false o s) (req : Req) (en : Bool) : OutKept o (execQueueReset req en s) := .next (h.cmdWrite ..)

theorem execGraphDoorbell_kept (h : Kept false o s) (req : Req) (ctx : BitVec 8) (val : W32) : OutKept o (execGraphDoorbell req ctx val s) :=
    .next (h.cmdWrite ..)

theorem execPartitionEnable_kept (h : Kept false o s) (req : Req) (val : W32) : OutKept o (execPartitionEnable req val s) := .next (h.cmdWrite ..)

theorem execPartitionDisable_kept (h : Kept false o s) (req : Req) (val : W32) : OutKept o (execPartitionDisable req val s) := .next (h.cmdWrite ..)

theorem execPartitionQuiesce_kept (h : Kept false o s) (req : Req) (val : W32) : OutKept o (execPartitionQuiesce req val s) := .next (h.cmdWrite ..)

theorem execPartitionResume_kept (h : Kept false o s) (req : Req) (val : W32) : OutKept o (execPartitionResume req val s) := .next (h.cmdWrite ..)

theorem execPartitionResize_kept (h : Kept false o s) (req : Req) (ce : Bool) (val : W32) : OutKept o (execPartitionResize req ce val s) :=
    .next (h.cmdWrite ..)

theorem execPartitionFecSelect_kept (h : Kept false o s) (req : Req) (val : W32) : OutKept o (execPartitionFecSelect req val s) :=
    .next (h.cmdWrite ..)

theorem execRingEnable_kept (h : Kept false o s) (req : Req) (val : W32) : OutKept o (execRingEnable req val s) := .next (h.cmdWrite ..)

theorem execRingDisable_kept (h : Kept false o s) (req : Req) (val : W32) : OutKept o (execRingDisable req val s) := .next (h.cmdWrite ..)

theorem execAdmitCtx_kept (h : Kept false o s) (req : Req) (ctx : BitVec 8) : OutKept o (execAdmitCtx req ctx s) := .next (h.cmdWrite ..)

theorem execEvict_kept (h : Kept false o s) (req : Req) (ctx : BitVec 8) : OutKept o (execEvict req ctx s) := .next (h.cmdWrite ..)

theorem execSchedCommit_kept (h : Kept false o s) (req : Req) (val : W32) : OutKept o (execSchedCommit req val s) := .next (h.cmdWrite ..)

theorem execSchedRun_kept (h : Kept false o s) (req : Req) (switch : Bool) : OutKept o (execSchedRun req switch s) := .next (h.cmdWrite ..)

theorem execSchedStop_kept (h : Kept false o s) (req : Req) (switch : Bool) : OutKept o (execSchedStop req switch s) := .next (h.cmdWrite ..)

theorem execSchedSwitch_kept (h : Kept false o s) (req : Req) (run : Bool) : OutKept o (execSchedSwitch req run s) := .next (h.cmdWrite ..)

theorem execFavWrite_kept (h : Kept false o s) (req : Req) (val : W32) : OutKept o (execFavWrite req val s) := .next (h.cmdWrite ..)

theorem execSelftestReq_kept (h : Kept false o s) (req : Req) (val : W32) : OutKept o (execSelftestReq req val s) := .next (h.cmdWrite ..)

theorem execCoreSelftest_kept (h : Kept false o s) (req : Req) (core : BitVec 5) : OutKept o (execCoreSelftest req core s) := .next (h.cmdWrite ..)

theorem execFenceCore_kept (h : Kept false o s) (req : Req) (core : BitVec 5) : OutKept o (execFenceCore req core s) := .next (h.cmdWrite ..)

theorem execUnfenceCore_kept (h : Kept false o s) (req : Req) (core : BitVec 5) : OutKept o (execUnfenceCore req core s) := .next (h.cmdWrite ..)

theorem execGdWake_kept (h : Kept false o s) (req : Req) (wake : Bool) : OutKept o (execGdWake req wake s) := .next (h.cmdWrite ..)

theorem execClearMaxe_kept (h : Kept false o s) (req : Req) : OutKept o (execClearMaxe req s) := .next (h.cmdWrite ..)

theorem execCrcEnable_kept (h : Kept false o s) (req : Req) (val : W32) : OutKept o (execCrcEnable req val s) := .next (h.cmdWrite ..)

theorem execCrcDisable_kept (h : Kept false o s) (req : Req) (val : W32) : OutKept o (execCrcDisable req val s) := .next (h.cmdWrite ..)

theorem execNodeIdWrite_kept (h : Kept false o s) (req : Req) (val : W32) : OutKept o (execNodeIdWrite req val s) := .next (h.cmdWrite ..)

theorem execRouteCommit_kept (h : Kept false o s) (req : Req) (val : W32) : OutKept o (execRouteCommit req val s) := .next (h.cmdWrite ..)

theorem execNodeLeave_kept (h : Kept false o s) (req : Req) (val : W32) : OutKept o (execNodeLeave req val s) := .next (h.cmdWrite ..)

theorem execWindowCommit_kept (h : Kept false o s) (req : Req) (val : W32) : OutKept o (execWindowCommit req val s) := .next (h.cmdWrite ..)

theorem execGroupCommit_kept (h : Kept false o s) (req : Req) (val : W32) : OutKept o (execGroupCommit req val s) := .next (h.cmdWrite ..)

theorem execPortEnable_kept (h : Kept false o s) (req : Req) : OutKept o (execPortEnable req s) := .next (h.cmdWrite ..)

theorem execPpRequest_kept (h : Kept false o s) (req : Req) (val : W32) : OutKept o (execPpRequest req val s) := .next (h.cmdWrite ..)

theorem execDomainToOn_kept (h : Kept false o s) (req : Req) (domain : BitVec 5) : OutKept o (execDomainToOn req domain s) := .next (h.cmdWrite ..)

theorem execDomainToRet_kept (h : Kept false o s) (req : Req) (domain : BitVec 5) : OutKept o (execDomainToRet req domain s) := .next (h.cmdWrite ..)

theorem execDomainToOff_kept (h : Kept false o s) (req : Req) (domain : BitVec 5) : OutKept o (execDomainToOff req domain s) := .next (h.cmdWrite ..)

theorem execAoregLp_kept (h : Kept false o s) (req : Req) (arm : Bool) : OutKept o (execAoregLp req arm s) := .next (h.cmdWrite ..)

theorem execAoregNormal_kept (h : Kept false o s) (req : Req) (arm : Bool) : OutKept o (execAoregNormal req arm s) := .next (h.cmdWrite ..)

theorem execAoregLpArm_kept (h : Kept false o s) (req : Req) (lp : Bool) (arm : Bool) : OutKept o (execAoregLpArm req lp arm s) :=
    .next (h.cmdWrite ..)

theorem execRstCtrlWarm_kept (h : Kept false o s) (req : Req) : OutKept o (execRstCtrlWarm req s) := .next (h.cmdWrite ..)

theorem execRstCtrlCold_kept (h : Kept false o s) (req : Req) (bad : List Nat) : OutKept o (execRstCtrlCold req bad s) :=
    .next ((h.modPwr ..).cmdWrite ..)

theorem execPartitionReset_kept (h : Kept false o s) (req : Req) (val : W32) : OutKept o (execPartitionReset req val s) := .next (h.cmdWrite ..)

theorem execEngineReset_kept (h : Kept false o s) (req : Req) (target : BitVec 8) : OutKept o (execEngineReset req target s) := .next (h.cmdWrite ..)

theorem execFecLoad_kept (h : Kept false o s) (req : Req) (target : BitVec 8) : OutKept o (execFecLoad req target s) := .next (h.cmdWrite ..)

theorem execWatchdogKick_kept (h : Kept false o s) (req : Req) : OutKept o (execWatchdogKick req s) := .next (h.cmdWrite ..)

theorem execFlashRelease_kept (h : Kept false o s) (req : Req) (val : W32) : OutKept o (execFlashRelease req val s) := .next (h.cmdWrite ..)

theorem execPsdCmd_kept (h : Kept false o s) (req : Req) (val : W32) : OutKept o (execPsdCmd req val s) := .next (h.cmdWrite ..)

theorem execMonHostLock_kept (h : Kept false o s) (req : Req) : OutKept o (execMonHostLock req s) := .next (h.cmdWrite ..)

theorem execPerfRun_kept (h : Kept false o s) (req : Req) (run : Bool) : OutKept o (execPerfRun req run s) := .next (h.cmdWrite ..)

theorem execPerfClear_kept (h : Kept false o s) (req : Req) (run : Bool) : OutKept o (execPerfClear req run s) := .next (h.cmdWrite ..)

theorem execFecRestart_kept (h : Kept false o s) (n : Nat) (req : Option Req) : OutKept o (execFecRestart n req s) := by
  unfold execFecRestart
  grind [OutKept.when', Kept.cmdWrite, OutKept.orNever, Kept.haltRestart]

theorem exec_kept (h : Kept false o s) (i : Instr) : OutKept o (exec i s) := by
  cases i with
  | registerWrite req off val full => exact execRegisterWrite_kept h req off val full
  | flitRetry link again => exact execFlitRetry_kept h link again
  | linkLost link => exact execLinkLost_kept h link
  | lineRequestComplete core id ev1 ev2 ue ce => exact execLineRequestComplete_kept h core id ev1 ev2 ue ce
  | functionLevelReset => exact execFunctionLevelReset_kept h
  | dStateChange hi lo => exact execDStateChange_kept h hi lo
  | l1Exit => exact execL1Exit_kept h
  | linkUp speed width advH advD => exact execLinkUp_kept h speed width advH advD
  | linkDown => exact execLinkDown_kept h
  | hotReset => exact execHotReset_kept h
  | apEnable req val => exact execApEnable_kept h req val
  | apCtrlUpdate req val => exact execApCtrlUpdate_kept h req val
  | apDisable req val => exact execApDisable_kept h req val
  | apWrite off rid data => exact execApWrite_kept h off rid data
  | bar2Read off n => exact execBar2Read_kept h off n
  | apConsumedWrite req val => exact execApConsumedWrite_kept h req val
  | apWmWrite req val => exact execApWmWrite_kept h req val
  | mwinRead w n => exact execMwinRead_kept h w n
  | mwinWrite w data => exact execMwinWrite_kept h w data
  | walkComplete k => exact execWalkComplete_kept h k
  | invGo req => exact execInvGo_kept h req
  | holderInvAck h1 => exact execHolderInvAck_kept h h1
  | bcastRequest req val => exact execBcastRequest_kept h req val
  | bcastServe => exact execBcastServe_kept h
  | bcastDone => exact execBcastDone_kept h
  | ctxLostClear req ix val => exact execCtxLostClear_kept h req ix val
  | ringPush req val => exact execRingPush_kept h req val
  | abortStopped seq => exact execAbortStopped_kept h seq
  | packetFetch q => exact execPacketFetch_kept h q
  | nopPacket q => exact execNopPacket_kept h q
  | dispatch q => exact execDispatch_kept h q
  | renderPass q => exact execRenderPass_kept h q
  | copyPacket q => exact execCopyPacket_kept h q
  | semSignal q => exact execSemSignal_kept h q
  | semWait q => exact execSemWait_kept h q
  | fencePoll q => exact execFencePoll_kept h q
  | packetComplete q => exact execPacketComplete_kept h q
  | queueDoorbell req q tail => exact execQueueDoorbell_kept h req q tail
  | queueEnable req => exact execQueueEnable_kept h req
  | queueDisable req => exact execQueueDisable_kept h req
  | queueReset req en => exact execQueueReset_kept h req en
  | graphDoorbell req ctx val => exact execGraphDoorbell_kept h req ctx val
  | launchSlot => exact execLaunchSlot_kept h
  | strandPost => exact execStrandPost_kept h
  | packetTimeout id => exact execPacketTimeout_kept h id
  | drainWindowEnd timeout n => exact execDrainWindowEnd_kept h timeout n
  | bwWindowEnd mask => exact execBwWindowEnd_kept h mask
  | partitionEnable req val => exact execPartitionEnable_kept h req val
  | partitionDisable req val => exact execPartitionDisable_kept h req val
  | partitionQuiesce req val => exact execPartitionQuiesce_kept h req val
  | partitionResume req val => exact execPartitionResume_kept h req val
  | partitionResize req ce val => exact execPartitionResize_kept h req ce val
  | partitionFecSelect req val => exact execPartitionFecSelect_kept h req val
  | ringEnable req val => exact execRingEnable_kept h req val
  | ringDisable req val => exact execRingDisable_kept h req val
  | admitCtx req ctx => exact execAdmitCtx_kept h req ctx
  | evict req ctx => exact execEvict_kept h req ctx
  | schedCommit req val => exact execSchedCommit_kept h req val
  | schedRun req switch => exact execSchedRun_kept h req switch
  | schedStop req switch => exact execSchedStop_kept h req switch
  | schedSwitch req run => exact execSchedSwitch_kept h req run
  | schedEntryStart => exact execSchedEntryStart_kept h
  | favWrite req val => exact execFavWrite_kept h req val
  | selftestReq req val => exact execSelftestReq_kept h req val
  | ceSelftestEnd n pass => exact execCeSelftestEnd_kept h n pass
  | coreSelftest req core => exact execCoreSelftest_kept h req core
  | coreSelftestEnd pass => exact execCoreSelftestEnd_kept h pass
  | fenceCore req core => exact execFenceCore_kept h req core
  | unfenceCore req core => exact execUnfenceCore_kept h req core
  | guardClkLoss => exact execGuardClkLoss_kept h
  | gload => exact execGload_kept h
  | gstore => exact execGstore_kept h
  | armPacket => exact execArmPacket_kept h
  | disarmPacket => exact execDisarmPacket_kept h
  | guardSelftest => exact execGuardSelftest_kept h
  | armComplete => exact execArmComplete_kept h
  | gdWake req wake => exact execGdWake_kept h req wake
  | verdict r x => exact execVerdict_kept h r x
  | boundExceeded => exact execBoundExceeded_kept h
  | staleExpiry => exact execStaleExpiry_kept h
  | restartEnd => exact execRestartEnd_kept h
  | guardSelftestEnd pass => exact execGuardSelftestEnd_kept h pass
  | workgroupLaunch pkt core slots => exact execWorkgroupLaunch_kept h pkt core slots
  | podRetire core slot => exact execPodRetire_kept h core slot
  | trapEntry core slot => exact execTrapEntry_kept h core slot
  | nop r x => exact execNop_kept h r x
  | exit r x => exact execExit_kept h r x
  | trap r x => exact execTrap_kept h r x
  | tret r x => exact execTret_kept h r x
  | bar r x => exact execBar_kept h r x
  | fence r x => exact execFence_kept h r x
  | jmp r x => exact execJmp_kept h r x
  | jz r x => exact execJz_kept h r x
  | jnz r x => exact execJnz_kept h r x
  | call r x => exact execCall_kept h r x
  | jmpr r x => exact execJmpr_kept h r x
  | sadd r x => exact execSadd_kept h r x
  | ssub r x => exact execSsub_kept h r x
  | smul r x => exact execSmul_kept h r x
  | sand r x => exact execSand_kept h r x
  | sor r x => exact execSor_kept h r x
  | sxor r x => exact execSxor_kept h r x
  | sandn r x => exact execSandn_kept h r x
  | sshl r x => exact execSshl_kept h r x
  | sshr r x => exact execSshr_kept h r x
  | smin r x => exact execSmin_kept h r x
  | smax r x => exact execSmax_kept h r x
  | smov r x => exact execSmov_kept h r x
  | spopc r x => exact execSpopc_kept h r x
  | sffs r x => exact execSffs_kept h r x
  | scmp r x => exact execScmp_kept h r x
  | sadd64 r x => exact execSadd64_kept h r x
  | viadd r x => exact execViadd_kept h r x
  | visub r x => exact execVisub_kept h r x
  | vimul r x => exact execVimul_kept h r x
  | vimulhi r x => exact execVimulhi_kept h r x
  | vimad r x => exact execVimad_kept h r x
  | vand r x => exact execVand_kept h r x
  | vor r x => exact execVor_kept h r x
  | vxor r x => exact execVxor_kept h r x
  | vshl r x => exact execVshl_kept h r x
  | vshr r x => exact execVshr_kept h r x
  | vimin r x => exact execVimin_kept h r x
  | vimax r x => exact execVimax_kept h r x
  | vmov r x => exact execVmov_kept h r x
  | vsel r x => exact execVsel_kept h r x
  | vicmp r x => exact execVicmp_kept h r x
  | vshfl r x => exact execVshfl_kept h r x
  | vfadd r x => exact execVfadd_kept h r x
  | vfmul r x => exact execVfmul_kept h r x
  | vffma r x => exact execVffma_kept h r x
  | vfmin r x => exact execVfmin_kept h r x
  | vfmax r x => exact execVfmax_kept h r x
  | vfdiv r x => exact execVfdiv_kept h r x
  | vfsqrt r x => exact execVfsqrt_kept h r x
  | vfrcp r x => exact execVfrcp_kept h r x
  | vfrsq r x => exact execVfrsq_kept h r x
  | vfcmp r x => exact execVfcmp_kept h r x
  | vfexp2 r x => exact execVfexp2_kept h r x
  | vflog2 r x => exact execVflog2_kept h r x
  | vhfma r x => exact execVhfma_kept h r x
  | vbfma r x => exact execVbfma_kept h r x
  | vdadd r x => exact execVdadd_kept h r x
  | vdmul r x => exact execVdmul_kept h r x
  | vdfma r x => exact execVdfma_kept h r x
  | vddiv r x => exact execVddiv_kept h r x
  | vdsqrt r x => exact execVdsqrt_kept h r x
  | vdcmp r x => exact execVdcmp_kept h r x
  | vcvt r x => exact execVcvt_kept h r x
  | vbfe r x => exact execVbfe_kept h r x
  | vbfi r x => exact execVbfi_kept h r x
  | vpopc r x => exact execVpopc_kept h r x
  | ld r x => exact execLd_kept h r x
  | st r x => exact execSt_kept h r x
  | sld r x => exact execSld_kept h r x
  | sst r x => exact execSst_kept h r x
  | ldt r x => exact execLdt_kept h r x
  | stt r x => exact execStt_kept h r x
  | atomt r x => exact execAtomt_kept h r x
  | atom r x => exact execAtom_kept h r x
  | lkwait r x => exact execLkwait_kept h r x
  | unlk r x => exact execUnlk_kept h r x
  | tmma r x => exact execTmma_kept h r x
  | tcvt r x => exact execTcvt_kept h r x
  | tensorStart core => exact execTensorStart_kept h core
  | tensorComplete core => exact execTensorComplete_kept h core
  | pixlock r x => exact execPixlock_kept h r x
  | pixunlk r x => exact execPixunlk_kept h r x
  | rayq r x => exact execRayq_kept h r x
  | batchBegin pkt => exact execBatchBegin_kept h pkt
  | batchCommit pkt => exact execBatchCommit_kept h pkt
  | primitiveBin => exact execPrimitiveBin_kept h
  | flushResume => exact execFlushResume_kept h
  | tileDispatch cluster => exact execTileDispatch_kept h cluster
  | pixelPodLaunch core set slot => exact execPixelPodLaunch_kept h core set slot
  | tileWriteOut core set => exact execTileWriteOut_kept h core set
  | passPageReturn => exact execPassPageReturn_kept h
  | nodeReadComplete unit query => exact execNodeReadComplete_kept h unit query
  | nodeLimit unit query => exact execNodeLimit_kept h unit query
  | copyDescriptor pkt => exact execCopyDescriptor_kept h pkt
  | fillDescriptor pkt => exact execFillDescriptor_kept h pkt
  | descriptorComplete pkt k => exact execDescriptorComplete_kept h pkt k
  | clearMaxe req => exact execClearMaxe_kept h req
  | crcEnable req val => exact execCrcEnable_kept h req val
  | crcDisable req val => exact execCrcDisable_kept h req val
  | crcFrameCompare unit => exact execCrcFrameCompare_kept h unit
  | nodeIdWrite req val => exact execNodeIdWrite_kept h req val
  | routeCommit req val => exact execRouteCommit_kept h req val
  | nodeLeave req val => exact execNodeLeave_kept h req val
  | windowCommit req val => exact execWindowCommit_kept h req val
  | groupCommit req val => exact execGroupCommit_kept h req val
  | portEnable req => exact execPortEnable_kept h req
  | portUp port => exact execPortUp_kept h port
  | portDown port => exact execPortDown_kept h port
  | fabReadReq port src id addr n => exact execFabReadReq_kept h port src id addr n
  | fabWrite port src id addr data => exact execFabWrite_kept h port src id addr data
  | fabAtomic port src id addr op wide ftz a b => exact execFabAtomic_kept h port src id addr op wide ftz a b
  | fabReadRsp port id data => exact execFabReadRsp_kept h port id data
  | fabWriteAck port id => exact execFabWriteAck_kept h port id
  | fabAtomicRsp port id data => exact execFabAtomicRsp_kept h port id data
  | fabRefuse port id detail => exact execFabRefuse_kept h port id detail
  | fabAbort port group cause origin seq => exact execFabAbort_kept h port group cause origin seq
  | fabResponseTimeout id => exact execFabResponseTimeout_kept h id
  | rootUnlock => exact execRootUnlock_kept h
  | rootRelock => exact execRootRelock_kept h
  | ppRequest req val => exact execPpRequest_kept h req val
  | pmbusWriteComplete => exact execPmbusWriteComplete_kept h
  | pmbusFail mode => exact execPmbusFail_kept h mode
  | vsettleExpiry => exact execVsettleExpiry_kept h
  | tierSourceLost => exact execTierSourceLost_kept h
  | domainToOn req domain => exact execDomainToOn_kept h req domain
  | domainToRet req domain => exact execDomainToRet_kept h req domain
  | domainToOff req domain => exact execDomainToOff_kept h req domain
  | domainTransitionDone linkUp => exact execDomainTransitionDone_kept h linkUp
  | aoregLp req arm => exact execAoregLp_kept h req arm
  | aoregNormal req arm => exact execAoregNormal_kept h req arm
  | aoregLpArm req lp arm => exact execAoregLpArm_kept h req lp arm
  | aoregSwitchDone => exact execAoregSwitchDone_kept h
  | aoregBrownout => exact execAoregBrownout_kept h
  | wakeTimerExpiry => exact execWakeTimerExpiry_kept h
  | thermalSample raws => exact execThermalSample_kept h raws
  | thermalLevelUp sensor thr => exact execThermalLevelUp_kept h sensor thr
  | thermalLevelDown sensor thr => exact execThermalLevelDown_kept h sensor thr
  | critShutdownDone => exact execCritShutdownDone_kept h
  | aoPowerOn perst bad => exact execAoPowerOn_kept h perst bad
  | perstAssert => exact execPerstAssert_kept h
  | perstRelease bad => exact execPerstRelease_kept h bad
  | rstCtrlWarm req => exact execRstCtrlWarm_kept h req
  | rstCtrlCold req bad => exact execRstCtrlCold_kept h req bad
  | resetNPress => exact execResetNPress_kept h
  | resetNGlitch => exact execResetNGlitch_kept h
  | resetNRelease bad => exact execResetNRelease_kept h bad
  | resetEscalate => exact execResetEscalate_kept h
  | resetStuck => exact execResetStuck_kept h
  | bootImageLoaded n => exact execBootImageLoaded_kept h n
  | partitionReset req val => exact execPartitionReset_kept h req val
  | engineReset req target => exact execEngineReset_kept h req target
  | fecLoad req target => exact execFecLoad_kept h req target
  | fecRestart n req => exact execFecRestart_kept h n req
  | fecException n pc status sp handler => exact execFecException_kept h n pc status sp handler
  | fecWatchdogExpiry n => exact execFecWatchdogExpiry_kept h n
  | watchdogKick req => exact execWatchdogKick_kept h req
  | flashRelease req val => exact execFlashRelease_kept h req val
  | getVersion msg => exact execGetVersion_kept h msg
  | getCapabilities msg => exact execGetCapabilities_kept h msg
  | negotiateAlgorithms msg => exact execNegotiateAlgorithms_kept h msg
  | getDigests msg => exact execGetDigests_kept h msg
  | getCertificate msg => exact execGetCertificate_kept h msg
  | challenge msg => exact execChallenge_kept h msg
  | getMeasurements msg => exact execGetMeasurements_kept h msg
  | psdPor straps => exact execPsdPor_kept h straps
  | conversionCycle cells ntc => exact execConversionCycle_kept h cells ntc
  | ovLevelChange cell => exact execOvLevelChange_kept h cell
  | uvLevelChange cell => exact execUvLevelChange_kept h cell
  | ntcLevelChange m ut => exact execNtcLevelChange_kept h m ut
  | settlingEnd => exact execSettlingEnd_kept h
  | tierDecision => exact execTierDecision_kept h
  | pbalMinute cells => exact execPbalMinute_kept h cells
  | refchkStart => exact execRefchkStart_kept h
  | refchkEnd errs => exact execRefchkEnd_kept h errs
  | statusFrame err => exact execStatusFrame_kept h err
  | psdWrite err => exact execPsdWrite_kept h err
  | clearFault err => exact execClearFault_kept h err
  | refchkNow err => exact execRefchkNow_kept h err
  | clearPor err => exact execClearPor_kept h err
  | keepalive err => exact execKeepalive_kept h err
  | brownout err => exact execBrownout_kept h err
  | hioSilent => exact execHioSilent_kept h
  | downLaneIdle => exact execDownLaneIdle_kept h
  | psdCmd req val => exact execPsdCmd_kept h req val
  | commandSend => exact execCommandSend_kept h
  | psdAck err => exact execPsdAck_kept h err
  | psdAckTimeout => exact execPsdAckTimeout_kept h
  | hostCreditReturn h1 d => exact execHostCreditReturn_kept h h1 d
  | uartChar ch framing => exact execUartChar_kept h ch framing
  | uartBreak => exact execUartBreak_kept h
  | baudRevert => exact execBaudRevert_kept h
  | challengeExpiry => exact execChallengeExpiry_kept h
  | monId => exact execMonId_kept h
  | monStat => exact execMonStat_kept h
  | monRd => exact execMonRd_kept h
  | monWr => exact execMonWr_kept h
  | monMrd => exact execMonMrd_kept h
  | monMwr => exact execMonMwr_kept h
  | monMeas => exact execMonMeas_kept h
  | monLog => exact execMonLog_kept h
  | monPlog => exact execMonPlog_kept h
  | monCnt => exact execMonCnt_kept h
  | monChal => exact execMonChal_kept h
  | monUnlock => exact execMonUnlock_kept h
  | monLock => exact execMonLock_kept h
  | monBaud => exact execMonBaud_kept h
  | monEcho => exact execMonEcho_kept h
  | monHostLock req => exact execMonHostLock_kept h req
  | perfRun req run => exact execPerfRun_kept h req run
  | perfClear req run => exact execPerfClear_kept h req run
  | refclkLoss => exact execRefclkLoss_kept h
  | refclkReturn => exact execRefclkReturn_kept h
  | aoSupplyLoss => exact execAoSupplyLoss_kept h
  | psdVpackLoss => exact execPsdVpackLoss_kept h
  | promptEnd => exact execPromptEnd_kept h
  | doeDiscovery index => exact execDoeDiscovery_kept h index

theorem Kept.perfCores (h : Kept m o s) : Kept m o (s.perfCores) := by
  unfold State.perfCores
  grind [Kept.perf, Kept.foldl]

theorem Kept.guardTime (h : Kept m o s) : Kept m o (s.guardTime) := by
  unfold State.guardTime
  grind [Kept.bumpPair, Kept.settlePin, Kept.fields]

theorem Kept.holdTime (h : Kept m o s) : Kept m o (s.holdTime) := by
  unfold State.holdTime
  grind [Kept.modRst, Kept.setRegN]

theorem Kept.stallTime (h : Kept m o s) : Kept m o (s.stallTime) := by
  unfold State.stallTime
  grind [Kept.inc]

theorem Kept.noise (h : Kept m o s) (may : Bool) (k : Nat) (cap : Nat) : Kept m o (s.noise may k cap) := by
  unfold State.noise
  grind [Kept.draw, Kept.bump]

theorem Kept.noiseTime (h : Kept m o s) : Kept m o (s.noiseTime) := by
  unfold State.noiseTime
  grind [Kept.noise, Kept.foldl]

theorem Kept.errorsRise (h : Kept m o s) (n : Nat) : Kept m o (s.errorsRise n) := (h.spoil ..).fields ..

theorem Kept.goOn (h : Kept false o s) : Kept false o (s.goOn) := by
  unfold State.goOn
  grind [Kept.askRemotes, Kept.fabSettle, Kept.fencesSettle, Kept.foldl]

theorem Kept.fecTime (h : Kept m o s) : Kept m o (s.fecTime) := h.modRst ..

theorem Kept.tick (h : Kept false o s) : Kept false o s.tick := by
  have hs := (((h.serveOutside.errorsRise s.ticks).guardTime).holdTime).fecTime
  unfold State.tick
  refine .either h (Kept.fieldsMmu ?_ ..)
  exact .either (((((hs.perf 1 16 16).perfCores).stallTime).noiseTime).goOn) hs

end
end Sys2Proof.Machine
end

section
/-! A step keeps what every command and every cycle of AO_CLK keeps (O2, O3). -/

namespace Sys2Proof.Machine

theorem step_idle {s : State} (h : s.pending = []) : step s = .next s.tick := by
  unfold step
  rw [h]

theorem step_command {s : State} {c : Instr} {rest : List Instr} (h : s.pending = c :: rest) : step s = exec c { s with pending := rest } := by
  unfold step
  rw [h]

theorem State.tick_ticks (s : State) : s.tick.ticks = if s.aoRuns then s.ticks + 1 else s.ticks := by
  unfold State.tick
  cases s.aoRuns <;> rfl

end Sys2Proof.Machine

open Sys2Proof Sys2Proof.Machine

/-- Settles O2 (the model's choice: log entry 1): the cycle that a step without a command is completes, and keeps the waiting commands and the fuses. -/
theorem idleStep : Obligations.IdleStep := by
  intro s hs
  have hkept := (Kept.refl (m := false) s).tick
  exact ⟨s.tick, step_idle hs, s.tick_ticks, hkept.pending.trans hs, hkept.fuses⟩

/-- Settles O3: `Kept` holds of whatever a cycle or a command comes to, by one lemma for each function of the model that answers with a state. -/
theorem stepKeepsInvariant : Obligations.StepKeepsInvariant := by
  intro s t hwf hstep
  cases hpending : s.pending with
  | nil =>
    have hkept := (Kept.refl (m := false) s).tick
    obtain rfl := Host.Outcome.next.inj ((step_idle hpending).symm.trans hstep)
    exact ⟨hkept.wf hwf, hkept.fuses, hkept.pending.trans hpending⟩
  | cons c rest =>
    have hkept := (exec_kept (Kept.refl { s with pending := rest }) c).kept ((step_command hpending).symm.trans hstep)
    exact ⟨hkept.wf hwf, hkept.fuses, hkept.pending⟩
end

section
/-! Range invalidation and broadcast (O13). -/

namespace Sys2Proof.Machine

/-! ### The commands -/

theorem State.putReg_invCtrl (u : State) (req : Req) (row : RegRow) (n : Nat) {val : W32} (h : bitOf val 0 = true) : u.putReg req row R.MMU_INV_CTRL n val = u.invGo req := by
  rw [State.putReg, if_neg (by decide)]
  change u.putMmu req row R.MMU_INV_CTRL n val = _
  rw [State.putMmu, if_pos rfl, if_pos h]

theorem State.putReg_bcast (u : State) (req : Req) (row : RegRow) (n : Nat) (val : W32) : u.putReg req row R.MMU_BCAST n val = u.bcast req val := by
  rw [State.putReg, if_neg (by decide)]
  change u.putMmu req row R.MMU_BCAST n val = _
  rw [State.putMmu, if_neg (by decide), if_neg (by decide), if_pos rfl]

theorem invGo_exec {s : State} {req : Req} (h : s.reaches req R.MMU_INV_CTRL 0 1 = true) : exec (.invGo req) s = .next ((s.arriving req).invGo req) := by
  rw [exec_putReg h rfl rfl rfl, State.putReg_invCtrl _ _ _ _ (by decide)]

theorem bcastRequest_exec {s : State} {req : Req} {val : W32} (h : s.reaches req R.MMU_BCAST 0 val = true) :
    exec (.bcastRequest req val) s = .next ((s.arriving req).bcast req val) := by
  rw [exec_putReg h rfl rfl rfl, State.putReg_bcast]

theorem State.invSettle_eq (s : State) : s.invSettle = if s.bit R.MMU_INV_STATUS 0 = true ∧ s.reg R.MMU_INV_ACK_LO = 0xFFFFFFFF ∧ s.reg R.MMU_INV_ACK_HI = 0xFFFFFFFF then
      ((({ s with mmu := { s.mmu with inv := none } }.clrBits R.MMU_INV_STATUS 1).setBits R.MMU_INV_STATUS 2).inc R.MMU_INV_DONE_COUNT).event 7 []
    else s := by
  unfold State.invSettle State.invBusy
  exact ite_of_iff (by simp only [Bool.and_eq_true, decide_eq_true_eq, and_assoc]) rfl rfl

theorem State.all_invHeld {s : State} {b : Nat} (h : ∀ k, k < 58 → s.invHeld b k = false) : ((List.range 58).all fun k => !s.invHeld b k) = true :=
  List.all_eq_true.mpr fun k hk => by rw [h k (List.mem_range.mp hk)]; rfl

/-! ### What an invalidation removes -/

/-- Writing back what removed entries backed leaves the translation unit alone. -/
theorem State.cleanRemoved_mmu (s : State) (gone : Nat → List Tlb) : (s.cleanRemoved gone).mmu = s.mmu := ((Kept.refl (m := true) s).cleanRemoved gone).mmu rfl

theorem State.invalidate_mmu (s : State) (b : Nat) (meet : Tlb → Bool) (pmeet : Pwc → Bool) (hit : Nat → Nat → Bool) (cs : Nat → Bool) :
    ∃ walks, (s.invalidate b meet pmeet hit cs).mmu = { s.mmu with
      tlbs := s.mmu.tlbs.zipIdx.map (fun x => if decide (x.2 < 58) && !s.exempt x.2 then x.1.filter (fun t => !meet t) else x.1)
      pwc := s.mmu.pwc.filter (fun p => !pmeet p)
      walks := walks } := by
  unfold State.invalidate State.markInv
  dsimp only
  rw [State.cleanRemoved_mmu]
  exact ⟨_, rfl⟩

theorem getD_zipIdx_map {α : Type} (l : List (List α)) (p : Nat → Bool) (f : List α → List α) (hf : f [] = []) (i : Nat) :
    (l.zipIdx.map (fun x => if p x.2 then f x.1 else x.1)).getD i [] = if p i then f (l.getD i []) else l.getD i [] := by
  simp only [List.getD_eq_getElem?_getD, List.getElem?_map, List.getElem?_zipIdx]
  cases l[i]? with
  | none => simp only [Option.map_none, Option.getD_none, hf, ite_self]
  | some x => simp only [Option.map_some, Option.getD_some, Nat.zero_add]

end Sys2Proof.Machine

open Sys2Proof Sys2Proof.Machine

/-- Settles O13: that the entries go at GO, and that holders acknowledge in any order, is the model's choice (log entry 37). -/
theorem invalidation : Obligations.Invalidation := by
  refine ⟨fun s => ⟨fun req h => ?_, fun h hroot hbusy hh hack hheld => ?_, fun hbusy hlo hhi => ?_, fun hack => ?_, fun req val h => ?_, fun b rest hroot hb hserv => ?_,
    fun b hroot hserv hheld => ?_⟩, fun s b meet pmeet hit cs => ?_⟩
  · intro u n c va len bad
    have hbad : (decide (va % 4096 ≠ 0) || decide (len = 0) || decide (len % 4096 ≠ 0) || decide (2 ^ 48 < va + len)) = true ↔ bad := by
      simp only [bad, Bool.or_eq_true, decide_eq_true_eq, or_assoc]
    rw [invGo_exec h, State.invGo]
    refine ⟨fun hbusy => ?_, fun hbusy hb => ?_, fun hbusy hb => ?_⟩
    · exact congrArg _ (if_pos hbusy)
    · exact congrArg _ ((if_neg (Bool.eq_false_iff.mp hbusy)).trans (if_pos (hbad.mpr hb)))
    · exact congrArg _ ((if_neg (Bool.eq_false_iff.mp hbusy)).trans (if_neg (mt hbad.mp hb)))
  · refine (State.rooted_of _ _ hroot).trans (when'_of ?_)
    simp only [State.invBusy, hbusy, hh, hack, hheld, Bool.not_false, decide_true, Bool.and_true]
  · exact s.invSettle_eq.trans (if_pos ⟨hbusy, hlo, hhi⟩)
  · refine s.invSettle_eq.trans (if_neg fun ⟨_, hlo, hhi⟩ => ?_)
    exact hack.elim (· hlo) (· hhi)
  · intro u name
    have hname : (if bitOf val 8 then 256 else fld val 7 0) = name := by
      rw [bitOf_eq_getLsbD, fld_low_byte] <;> rfl
    rw [bcastRequest_exec h, State.bcast, hname]
    exact ⟨fun hroom => congrArg _ (if_neg (Nat.not_le.mpr hroom)), fun hfull => congrArg _ (if_pos hfull)⟩
  · intro v
    refine (State.rooted_of _ _ hroot).trans ?_
    rw [hb, hserv]
    rfl
  · refine (State.rooted_of _ _ hroot).trans (when'_of ?_)
    rw [hserv, State.all_invHeld hheld]
    rfl
  · obtain ⟨walks, ht⟩ := s.invalidate_mmu b meet pmeet hit cs
    intro t
    have ht : t.mmu = _ := ht
    refine ⟨by rw [ht], by rw [ht], by rw [ht], fun h => ?_⟩
    rw [ht]
    refine (getD_zipIdx_map s.mmu.tlbs (fun i => decide (i < 58) && !s.exempt i) (List.filter fun e => !meet e) rfl h).trans (ite_of_iff ?_ rfl rfl)
    simp only [Bool.and_eq_true, decide_eq_true_eq, Bool.not_eq_true']
end
